-- ==== Sys2Proof/Word.lean ====
section
/-! DEFINITION. The word types of the register bus and their plainest arithmetic. -/

namespace Sys2Proof

/-- R13: a register or a memory-window word. -/
abbrev Word := BitVec 32

/-- One byte. -/
abbrev Byte := BitVec 8

end Sys2Proof
end

