-- ==== Sys2Proof/Syntax.lean ====
section
/-! DEFINITION. The commands: one constructor of `Instr` for each row of spec/opcode_table.json, and the types of their
operands. -/

namespace Sys2Proof

/-- R25: the six raster sources; the constructor order is the source code 0 to 5. -/
inductive Source where
  | free | syncIn | digital | ptpSchedule | optical | mosaic
  deriving DecidableEq, Repr

/-- R875: the severities of events; the constructor order is the SEV code. -/
inductive Severity where
  | info | warn | fault | critical
  deriving DecidableEq, Repr

/-- R558: what the key's JESD216 parameter table reports. -/
structure KeyParams where
  densityMbit : Nat := 0
  addr4 : Bool := false
  quadRead : Bool := false
  erase64k : Bool := false
  page256 : Bool := false
  deriving DecidableEq, Repr

/-- R600, R714: a staged item of a change set: a register item, or a record item (type and payload). -/
inductive ChgItem where
  | reg (addr mask value : BitVec 32)
  | record (type : Nat) (payload : List (BitVec 8))
  deriving DecidableEq, Repr

/-- R578, R716: where an IMAGE_WRITE goes. -/
inductive WriteTarget where
  | key | firmware
  deriving DecidableEq, Repr

/-- R228: the 12-bit samples of one sub-bank in a row packet, lowest column first; a gain that the read has not is empty. -/
structure SubSamples where
  sb : Nat
  h : List (BitVec 12)
  l : List (BitVec 12)
  deriving DecidableEq, Repr

/-- R228: a row packet: its bank, the row of the read that it carries (R192), the lane on which it fails its CRC if it
does, the samples of its sub-banks and of its black columns on either side, and the slices whose pipe will hold the row
without committing it (R394). -/
structure RowPacket where
  bank : Fin 2
  row : Fin 8
  link : Fin 96
  crcOk : Bool
  subs : List SubSamples
  leftH : List (BitVec 12)
  leftL : List (BitVec 12)
  rightH : List (BitVec 12)
  rightL : List (BitVec 12)
  stuck : BitVec 16
  deriving DecidableEq, Repr

/-- R711: the operation that a request carries, with its fields. `malformed` is a message that fails R712. -/
inductive LcpOp where
  | read (addr count : Nat)
  | write (addr : Nat) (value : Word)
  | rmw (addr : Nat) (mask value : Word)
  | bulkRead (fixed : Bool) (addr count : Nat)
  | bulkWrite (fixed : Bool) (addr : Nat) (values : List Word)
  | stop (splitOk : Bool) (f : Nat) (fns : List Nat)
  | stage (items : List ChgItem)
  | restart (discard : Bool) (f : Nat)
  | imageOpen (target : WriteTarget) (total : Nat)
  | imageData (target : WriteTarget) (offset : Nat) (data : List Byte)
  | imageClose (target : WriteTarget) (sigOk : Bool)
  | imageAbort (target : WriteTarget)
  | fuseProgram (subop word : Nat) (value : Word) (serial : BitVec 64)
  | subscribe (rawSub rawSet : Bool) (sets : List Nat)
  | tenantWindow (remove : Bool) (twin set x0 x1 y0 y1 : Nat)
  | retransmit (stream count first : Nat)
  | headCmd (cmd : Nat)
  | nop
  | close
  | unknown (op : Nat)
  | malformed (op : Nat)
  deriving DecidableEq, Repr

/-- R496: what triggers the injected sequence; triggers in the same tick merge into one. -/
inductive InjTrigger where
  | powerFail | energy | raster | engine (e : Fin 4) | timer
  deriving DecidableEq, Repr

/-- R624 to R626: a frame received on a port, by what the head's checks see of it: a bad FCS, an IP packet above 9,000 bytes,
an IP fragment, a UDP datagram beyond its IP packet, a request to resolve an address of the head, the resolution of an
address, or anything else. -/
inductive EthFrame where
  | badFcs | tooLong | fragment | overrun
  | solicit (ipv6 : Bool) (addr : Nat)
  | resolved (ipv6 : Bool) (addr : Nat)
  | other
  deriving DecidableEq, Repr

/-- R657, R658: a PTP message from a clock with an identity: an Announce with its dataset in the standard's order of
comparison, a Sync with its origin time if it is one-step and its time of arrival in TB / 16, a Follow_Up, a Delay_Resp.
Times of the master are in 1/4 ns. -/
inductive PtpMsg where
  | announce (dataset : List Nat)
  | sync (origin : Option Int) (arrival : Nat)
  | followUp (origin : Int)
  | delayResp (receipt : Int)
  deriving DecidableEq, Repr

/-- R736, R739: the head of an Ulunta cell as a port receives it: port (0 east, 1 west), version, origin, hops, sequence,
DELAY_ACC, whether its CRC matches, its arrival and its residence in 2⁻¹⁰ TB. -/
structure CellHead where
  port : Fin 2
  major : Nat
  minor : Nat
  origin : Nat
  hops : Nat
  seq : Nat
  delayAcc : Nat
  crcOk : Bool
  arrival : Nat
  residence : Nat
  deriving DecidableEq, Repr

/-- R15, R17: the initiators of the register bus. -/
inductive Initiator where
  | lcp (session : Nat) | core | jtag | tenant (id : Nat)
  deriving DecidableEq, Repr

/-- R797: the initiators of fuse programming. -/
inductive FuseInit where
  | jtag | core
  deriving DecidableEq, Repr

/-- The commands, one for each row of spec/opcode_table.json. -/
inductive Instr where
  /-- R7: Mains is applied and the bulk store charges; the always-on domain starts, senses the fuses and the head enters BOOT. -/
  | mainsApplied
  /-- R76: The system PLL locks; on the first lock after mains, TB and TOD start from 0. -/
  | systemPllLock (slow : Nat)
  /-- R555: Firmware is verified and ready; the cooler, link training, calibration load and cartridge read start, and key discovery decides CONFIGURING or UNCONFIGURED. -/
  | firmwareReady (okA okB : Bool)
  /-- R559: The key presence line has been asserted for 100 ms; the parameter table and directory are read, and the image read starts when the head is UNCONFIGURED. -/
  | keyInserted (params : KeyParams) (mem : List (Nat × Byte))
  /-- R564: The key presence line opens; an image read in progress ends with reason 16, and otherwise the removal is only logged. -/
  | keyRemoved
  /-- R571: The whole image has been read into the frame store and is checked in the order of its reasons. -/
  | imageReadComplete (sigOk readErr : Bool)
  /-- R46: A monitored raster source delivers a line event, which is checked against its window for qualification, loss, lock and phase error. -/
  | sourceLineEvent (src : Source) (t : Nat) (err : Int) (pos neg line : Nat)
  /-- R46: The acceptance window of a predicted line event or crossing ends without an event, and the source may be declared lost. -/
  | lineEventMissing (src : Source)
  /-- R37: A monitored source delivers a vertical event, which is accepted or ignored by the window rules. -/
  | sourceVerticalEvent (src : Source) (parity : Bool) (diff : Int)
  /-- R52: At the end of the active frame after a revert is marked, the control word freezes and the loop coasts until the new source's vertical event. -/
  | revertFreeze
  /-- R37: The line count passes the last permitted line without an accepted vertical event, and the frame ends with a missed vertical event counted. -/
  | flywheelFrameEnd (src : Source)
  /-- R51: The loop has coasted for COAST_MAX with no listed source qualified, and FREE is adopted at the next coasted boundary. -/
  | coastMaxExpired
  /-- R56: The band search trials end, and the loop starts pull-in or reports BAND_FAIL. -/
  | bandSearchDone (band : Option (BitVec 7))
  /-- R58: The lock count reaches 256 line events within LOCK_THR, and the loop becomes LOCKED and aligns at the next vertical event. -/
  | lockDeclared
  /-- R72: The raster PLL passes a line boundary, driving the output pulses, trigger pulse pins and line-based windows. -/
  | rasterLineBoundary
  /-- R35: The raster PLL produces a frame boundary, F increases by 1, and every frame-driven action of the head is taken. -/
  | rasterFrameBoundary (stalled : Bool)
  /-- R79: The external 10 MHz is lost, and the system PLL coasts or fails over to the crystal. -/
  | sysRefLost
  /-- R80: The system PLL leaves lock with its reference present, which logs event 0x010D and makes a level-2 request. -/
  | sysLockLost (err : Int)
  /-- R61: A write sets RRU_PLL_CTRL.EN from 0 to 1, starting qualification from OFF. -/
  | pllEnable (who : Initiator) (value : Word)
  /-- R61: A write clears EN, so the raster PLL stops in OFF and logs event 0x0107. -/
  | pllDisable (who : Initiator) (value : Word)
  /-- R61: A write to a PLL configuration register with EN = 1 restarts acquisition. -/
  | pllConfigWrite (who : Initiator) (reg : Fin 3) (value : Word)
  /-- R64: A write to RRU_PLL_RESTART restarts acquisition once. -/
  | pllRestartGo (who : Initiator) (value : Word)
  /-- R102: A write to TMB_TOD_SET_NS commits the staged seconds with the nanoseconds at the next tick, or is ignored when out of range. -/
  | todSetNsWrite (who : Initiator) (value : Word)
  /-- R105: A write to TMB_TOD_ADJ steps TOD at the next tick, unless a commit wins. -/
  | todAdjWrite (who : Initiator) (value : Word)
  /-- R107: SERVO_EN is set, and the servo enters ACQUIRING to await time messages. -/
  | todServoEnable (who : Initiator) (value : Word)
  /-- R107: SERVO_EN is cleared, and the servo returns to FREE. -/
  | todServoDisable (who : Initiator) (value : Word)
  /-- R657: A PTP Announce, Sync, Follow_Up or Delay_Resp arrives, and it is timestamped and fed to master selection and the servo. -/
  | ptpMessageReceived (port : Fin 5) (clock : Nat) (msg : PtpMsg)
  /-- R657: The Delay_Req period expires, and a Delay_Req is sent. -/
  | ptpDelayReqTimer
  /-- R107: No time message arrives for TOD_TIMEOUT, and the servo enters HOLDOVER. -/
  | todTimeout
  /-- R111: A timer unit's count source, or a linked unit event, occurs; the prescaler and CNT advance, with wrap and OVF. -/
  | timerSourceEvent (u : Fin 8) (linked : Bool)
  /-- R117: A compare channel reaches its target in TB, counter or raster mode, sets MATCH, and acts per mode. -/
  | compareMatch (k : Fin 32)
  /-- R119: A channel's EN is written from 0 to 1, which sets LATE when its target has passed. -/
  | compareEnable (who : Initiator) (k : Fin 32) (value : Word)
  /-- R128: JTAG halts the management core, freezing units with FREEZE_ON_HALT. -/
  | debugHalt
  /-- R158: While RP_VALID = 0, a tick with TB a multiple of 250,000 stands in for a frame boundary for domain switch openings. -/
  | periodicMsTick
  /-- R160: A ramping tile's rail and bias settle, its row drivers are released, and it enters FLUSH. -/
  | tileRailSettled (t : Fin 240)
  /-- R160: Two global resets of a tile complete, and the tile becomes READY. -/
  | tileFlushDone (t : Fin 240)
  /-- R158: A tile rail overcurrent opens the switch, and the tile enters FAULT. -/
  | tileOvercurrent (t : Fin 240) (current : BitVec 16)
  /-- R158: FORCE_OFF is set; open exposures are discarded, and the switch opens at the next boundary. -/
  | tileForceOff (who : Initiator) (t : Fin 240) (value : Word)
  /-- R159: FAULT_CLR returns a FAULT tile to OFF. -/
  | tileFaultClr (who : Initiator) (t : Fin 240) (value : Word)
  /-- R166: A 10 ms regulation step runs the cooler and moves the temperature state. -/
  | coolerSample (hot sensor power : BitVec 16) (plateOk : Bool)
  /-- R168: The cooler has driven at its cap for 1 s, which sets COOL_SAT. -/
  | coolerSaturated
  /-- R166: FAULT_CLR of the cooler leaves FAULT when the hot side is below 60 °C. -/
  | coolerFaultClr (who : Initiator) (value : Word)
  /-- R165: A changed setpoint returns the temperature state to SETTLING. -/
  | setpointWrite (who : Initiator) (value : Word)
  /-- R198: A ramping sub-bank rail settles, and its ramp and comparator trim start. -/
  | subbankRailSettled (d : Fin 40)
  /-- R198: A sub-bank trim completes, and the sub-bank becomes READY. -/
  | subbankTrimDone (d : Fin 40)
  /-- R198: A sub-bank overcurrent opens the switch, and the sub-bank enters FAULT. -/
  | subbankOvercurrent (d : Fin 40) (current : BitVec 16)
  /-- R198: A sub-bank's FORCE_OFF is set, and its switch opens at the next boundary. -/
  | subbankForceOff (who : Initiator) (d : Fin 40) (value : Word)
  /-- R198: FAULT_CLR returns a FAULT sub-bank to OFF. -/
  | subbankFaultClr (who : Initiator) (d : Fin 40) (value : Word)
  /-- R217: A row packet arrives on the sensor link and passes the link check, clamp, saturation, corrections, formatting, fusion and statistics. -/
  | rowPacketReceived (p : RowPacket)
  /-- R231: A lane exceeds 16 CRC errors in 1 s, and it is retrained or marked FAILED. -/
  | laneRetrain (l : Fin 96)
  /-- R231: A lane retrain completes, and the effective row time is updated. -/
  | laneRetrainDone (l : Fin 96) (ok : Bool)
  /-- R204: A write to a geometry descriptor is validated and refused while the descriptor is in use. -/
  | geoDescriptorWrite (who : Initiator) (n : Fin 16) (reg : Fin 50) (value : Word)
  /-- R259: TB reaches T_n of an absolute program, and its instance is issued. -/
  | absInstanceDue (m : Fin 4)
  /-- R283: The raster or TB reaches a reset target, and the reset is placed, slipped, skipped or abandoned, with its read booked. -/
  | resetTargetReached (m : Fin 4) (exp key rg : Nat)
  /-- R245: A booked row-group reset begins at its tick. -/
  | rowGroupResetStart (lane : Fin 5) (exp key rg : Nat)
  /-- R245: A booked row-group read begins on its bank or banks. -/
  | rowGroupReadStart (lane : Fin 5) (exp key rg : Nat)
  /-- R191: A row-group read ends, freeing the bank, completing fusion members and ending a lane drain. -/
  | rowGroupReadComplete (lane : Fin 5) (exp key rg : Nat) (stuck : BitVec 16)
  /-- R329: A frame has ended and all its exposures and fusion sets are read or abandoned, so it closes for the lane. -/
  | laneFrameClose (m : Fin 4)
  /-- R381: The hand-off of a closed buffer ends, and the buffer belongs to the next interval. -/
  | handoffComplete (set : Fin 256)
  /-- R394: A slice pipe holds a row for 64 µs, so the slice is reset and GAP is flagged. -/
  | sliceStuck (slice : Fin 16) (pipe : Fin 2)
  /-- R253: A bus write to a row map, program, window entry, tenant context or instruction word is checked for in-use and range. -/
  | memoryWindowWrite (who : Initiator) (addr : Nat) (value : Word)
  /-- R410: CAL_CTRL.REQ makes a calibration due with reason REQUEST. -/
  | calRequest
  /-- R415: CAL_CTRL.FORCE makes a calibration due and opens a slot at the next boundary. -/
  | calForce
  /-- R428: CAL_CTRL.CANCEL aborts a run and opens the shutter. -/
  | calCancel
  /-- R410: The 1 s sensor temperature mean is formed and may make a calibration due for TEMP. -/
  | calTempMean
  /-- R410: The active set becomes older than MAX_AGE, making a calibration due. -/
  | calAgeExpired
  /-- R413: A due calibration passes STALE_MAX, so results carry CAL_STALE. -/
  | calStaleEnter
  /-- R419: The shutter reports closed plus 2 ms, and the DARK frames start. -/
  | calDarkBegin
  /-- R424: The shutter reports open plus 2 ms, so the run completes, the new set becomes active at the next boundary and the store starts. -/
  | calRunComplete
  /-- R434: An eMMC write command ends, and the next command of a calibration, key or long-log store is issued. -/
  | emmcCommandComplete (ok : Bool)
  /-- R437: The stored calibration set finishes loading with its CRC, and it becomes active at the next boundary. -/
  | calLoadComplete (okA okB : Bool)
  /-- R447: A new filter position is requested, with the move starting at the next frame boundary. -/
  | filterPosWrite (who : Initiator) (value : Word)
  /-- R457: The slider reports its target position, and settling begins. -/
  | sliderInPosition
  /-- R451: The slider has settled for 2 ms, and the gate reopens at the next boundary. -/
  | sliderSettled
  /-- R457: The slider fails to report within its time, and the cartridge enters FAULT. -/
  | filterFault
  /-- R449: CTG_CTRL.SHUT closes or opens the shutter. -/
  | shutWrite (who : Initiator) (value : Word)
  /-- R449: The shutter reports its commanded state. -/
  | shutterReported
  /-- R457: The shutter fails to report within its time, and the cartridge enters FAULT. -/
  | shutterFault
  /-- R455: The presence contact opens, so the gate closes, the bus is released and the state becomes ABSENT. -/
  | ctgRemoved
  /-- R456: The presence contact has held for 500 ms, and the header, limits and certificate are read. -/
  | ctgInserted
  /-- R457: The identity reads complete and are checked, and the challenge is sent or the cartridge is rejected. -/
  | ctgReadComplete (mem : List (Nat × Byte))
  /-- R464: The secure element's signature arrives and is verified, so homing starts or the cartridge is rejected. -/
  | ctgAuthReply (certOk sigOk : Bool)
  /-- R457: No authentication reply arrives within 100 ms, and the cartridge is rejected. -/
  | ctgAuthTimeout
  /-- R457: The cartridge is not in position within 500 ms of homing, and it enters FAULT. -/
  | ctgHomingTimeout
  /-- R457: RETRY returns a REJECTED or FAULT cartridge to READING. -/
  | ctgRetry (who : Initiator) (value : Word)
  /-- R472: The 60 s checkpoint period, or the 1 s retry, expires, and the counters are sent under the energy rule. -/
  | ctgCheckpointDue
  /-- R474: The secure element accepts or refuses a checkpoint. -/
  | ctgCheckpointReply (accepted : Bool) (stored : List Nat)
  /-- R463: A read of CTG_MEM_DATA returns four copy bytes and advances the address by 4. -/
  | ctgMemDataRead (who : Initiator)
  /-- R486: A tracker step ends, and its samples enter accumulators, trackers and crossings as the sequencer advances. -/
  | trackerStepComplete (p0 p1 p2 p3 : Option (BitVec 16)) (taken : Nat)
  /-- R497: An injected-sequence trigger arrives and aborts, pends, drops or starts a run. -/
  | injectedTrigger (t : InjTrigger)
  /-- R487: The 100 ms rotation hands an active slice's position to the spare. -/
  | sliceRotation
  /-- R487: A slice's 2 ms calibration ends; it becomes READY or FAULTY, and the external reference is checked. -/
  | sliceCalComplete (n : Fin 5) (offset gain : Int) (refMv : Nat)
  /-- R491: REF_SEL changes the tracker reference and starts settling. -/
  | refSelWrite (who : Initiator) (value : Word)
  /-- R493: 2 ms after a reference change, SETTLING clears. -/
  | refSettlingEnd
  /-- R499: The regular sequence has not passed for 10 ms, so STARVED is set and the first response holds injected triggers. -/
  | regStarved
  /-- R501: A TIME-mode accumulator window ends, giving a result and rail and temperature means. -/
  | accTimeWindowClose (a : Fin 256)
  /-- R643: 1 ms after the first record, a partial TRACK packet is enqueued. -/
  | trackFlushTimeout (sid : Nat)
  /-- R533: A thread executes NOP in its slot. -/
  | instrNop (e : Fin 4) (t : Fin 16)
  /-- R537: A thread evaluates a JMP condition, counting down a loop counter, and jumps or halts if PC leaves its range. -/
  | instrJmp (e : Fin 4) (t : Fin 16)
  /-- R538: A thread evaluates a WAIT on a pin, flag, IRQ or raster. -/
  | instrWait (e : Fin 4) (t : Fin 16)
  /-- R538: A waiting thread's condition holds in its slot, and it proceeds, clearing an awaited IRQ. -/
  | waitProceed (e : Fin 4) (t : Fin 16)
  /-- R535: A thread shifts N bits of a source into SH. -/
  | instrIn (e : Fin 4) (t : Fin 16)
  /-- R535: A thread shifts N bits out of SH into pins, directions or A. -/
  | instrOut (e : Fin 4) (t : Fin 16)
  /-- R536: A thread pushes SH to the RX FIFO, blocking or discarding when full. -/
  | instrPush (e : Fin 4) (t : Fin 16)
  /-- R536: A thread blocked on a full RX FIFO pushes once a word is free. -/
  | pushResume (e : Fin 4) (t : Fin 16)
  /-- R536: A thread pulls a TX FIFO word into SH, blocking when empty unless non-blocking. -/
  | instrPull (e : Fin 4) (t : Fin 16)
  /-- R536: A thread blocked on an empty TX FIFO takes the word that arrives. -/
  | pullResume (e : Fin 4) (t : Fin 16)
  /-- R534: A thread moves a function of a source to a destination. -/
  | instrMov (e : Fin 4) (t : Fin 16)
  /-- R534: A thread sets pins, directions, C0 or C1 to immediate data. -/
  | instrSet (e : Fin 4) (t : Fin 16)
  /-- R531: A thread sets a shared flag. -/
  | flagSet (e : Fin 4) (t : Fin 16)
  /-- R531: A thread clears a shared flag. -/
  | flagClear (e : Fin 4) (t : Fin 16)
  /-- R531: A thread toggles a shared flag. -/
  | flagToggle (e : Fin 4) (t : Fin 16)
  /-- R532: A thread sets local IRQ n. -/
  | irqSet (e : Fin 4) (t : Fin 16)
  /-- R548: A thread sets local IRQ n and sends EVENT 0x0A10, rate-limited. -/
  | irqSetEvent (e : Fin 4) (t : Fin 16)
  /-- R496: A thread requests the tracker injected sequence. -/
  | irqTrackerRequest (e : Fin 4) (t : Fin 16)
  /-- R533: A thread clears local IRQ n. -/
  | irqClear (e : Fin 4) (t : Fin 16)
  /-- R543: A write to TGE_ENG_INJ requests an injection or is refused. -/
  | engInjWrite (who : Initiator) (e : Fin 4) (value : Word)
  /-- R541: The injected instruction executes once in the thread's next slot. -/
  | injectionExecute (e : Fin 4)
  /-- R545: The stall condition holds for 1,024 cycles, so a stall is declared and STALL_POL applied. -/
  | stall (e : Fin 4)
  /-- R547: A host word is written into a thread's TX FIFO, or ignored when full. -/
  | tgeThrTxfWrite (who : Initiator) (e : Fin 4) (t : Fin 16) (value : Word)
  /-- R547: A read pops one word from a thread's RX FIFO. -/
  | tgeThrRxfRead (who : Initiator) (e : Fin 4) (t : Fin 16)
  /-- R531: The steward sets shared flags, discarded if a thread writes the flag in the same cycle. -/
  | tgeFlagSetWrite (who : Initiator) (w : Fin 4) (value : Word)
  /-- R531: The steward clears shared flags. -/
  | tgeFlagClrWrite (who : Initiator) (w : Fin 4) (value : Word)
  /-- R526: A level change on a TRG line or DIFF pair passes the filter and synchroniser to the threads and timers. -/
  | trgInputChange (pin : Fin 20) (level : Bool)
  /-- R549: In SLEEP, a rising edge of at least 100 ns on a TRG line with WAKE = 1 wakes the head. -/
  | trgWakeEdge (n : Fin 16)
  /-- R578: An IMAGE_WRITE opens; the target slot's entries are tombstoned and its sectors erased. -/
  | imageWriteOpen (n : Fin 4) (target : WriteTarget) (total : Nat)
  /-- R580: A data message is programmed and read back, or rejected as PROG_NOT_BLANK. -/
  | imageWriteData (n : Fin 4) (target : WriteTarget) (offset : Nat) (data : List Byte)
  /-- R578: The slot is read back and checked, and a live entry is committed, or for firmware the marker is committed and a planned restart follows. -/
  | imageWriteClose (n : Fin 4) (target : WriteTarget) (sigOk : Bool)
  /-- R716: The IMAGE_WRITE ends without a commit. -/
  | imageWriteAbort (n : Fin 4) (target : WriteTarget)
  /-- R583: A NOR or key sector erase or page program ends with read-back, and the sequence continues. -/
  | flashOperationComplete (c : Fin 2) (devOk : Bool) (held : Option (List Byte))
  /-- R820: A waiting store operation repeats its energy check every 10 ms. -/
  | energyCheckRetry
  /-- R819: An energy check obtains no V_bulk sample within 1 ms and fails. -/
  | energyCheckTimeout
  /-- R598: A STOP opens a change set for named functions at frame F, or is refused. -/
  | changeStop (n : Fin 4) (splitOk : Bool) (f : Nat) (fns : List Nat)
  /-- R601: A STAGE message's items are checked whole and staged, or a split step is taken. -/
  | changeStage (n : Fin 4) (items : List ChgItem)
  /-- R604: A RESTART runs the combined checks and schedules the copy and restart at F′, or is refused. -/
  | changeRestart (n : Fin 4) (discard : Bool) (f : Nat)
  /-- R605: The copy of staged items ends, and the functions start at the next permitted boundary. -/
  | changeCopyComplete
  /-- R616: The session sends nothing for LEASE, so the change set is discarded and its functions restart. -/
  | changeLeaseExpired
  /-- R649: A port is free to send, and the scheduler picks a constant-rate, retransmitted or round-robin packet under the buckets. -/
  | linkTransmit (port : Fin 5)
  /-- R646: A constant-rate stream's period expires, and one sealed packet is built. -/
  | crSlotDue (sid : Nat)
  /-- R653: A data port link comes up, and sending resumes in SEQ order. -/
  | portUp (port : Fin 5)
  /-- R653: A data port link goes down, and streams keep enqueueing. -/
  | portDown (port : Fin 5)
  /-- R624: A received frame is checked and dispatched to ARP, NDP, PTP or LCP, or dropped. -/
  | ethFrameReceived (port : Fin 5) (frame : EthFrame)
  /-- R625: Next-hop resolution of a stream is retried every 1 s. -/
  | resolveRetry (sid : Nat)
  /-- R926: A QSFP-DD module is inserted or removed, and it is accepted or treated as absent. -/
  | qsfpModuleChange (present mediaOk powerOk : Bool)
  /-- R655: Retained packets of a SEQ range are resent unchanged, and the rest are counted. -/
  | retransmit (tenant : Option (Fin 4096)) (n : Fin 4) (sid count first : Nat)
  /-- R669: A write of GO checks context t's shadow, which is applied at the first boundary at least 1 ms later or refused. -/
  | tenCommit (who : Initiator) (value : Word)
  /-- R674: A key and salt are installed in a slot, effective at the next boundary, and the store is written. -/
  | tenKeyInstall (who : Initiator)
  /-- R674: A key slot is erased, and the store is written. -/
  | tenKeyErase (who : Initiator)
  /-- R680: A tenant request is authenticated, replay-checked and rate-limited into its queue, or dropped. -/
  | tenantReq (t : Nat) (auth : Bool) (req : BitVec 64) (op : LcpOp)
  /-- R682: The management core takes the next tenant request in round robin and executes it. -/
  | tenantRequestDequeue
  /-- R685: A tenant replaces its subscribed sets and raw flag at the next interval or frame boundary. -/
  | subscribe (t : Fin 4096) (rawSub rawSet : Bool) (sets : List Nat)
  /-- R387: A tenant defines or moves a window, clipped to its region and checked against the plan. -/
  | tenantWindowSet (t : Fin 4096) (twin set x0 x1 y0 y1 : Nat)
  /-- R389: A tenant removes a window at the next interval boundary. -/
  | tenantWindowRemove (t : Fin 4096) (twin : Nat)
  /-- R705: An INIT is verified and a steward session opens with ACCEPT, or it is refused or dropped. -/
  | init (port : Fin 5) (ipv6 framed : Bool) (key : List Byte) (sigOk : Bool) (hostNonce : BitVec 128) (mtu flags minSev : Nat) (serial : BitVec 64)
  /-- R708: A steward request is authenticated, answered from cache or executed in REQ order. -/
  | stewardReq (n : Fin 4) (port : Fin 5) (framed tagOk : Bool) (req : BitVec 64) (op : LcpOp)
  /-- R719: A READ returns up to four words, following access types. -/
  | read (n : Fin 4) (addr count : Nat)
  /-- R720: A WRITE writes one register, with the status from the block. -/
  | write (n : Fin 4) (addr : Nat) (value : Word)
  /-- R721: An RMW reads and writes one register in consecutive cycles under a mask. -/
  | rmw (n : Fin 4) (addr : Nat) (mask value : Word)
  /-- R719: A BULK read returns up to 1,024 words, optionally from one fixed address. -/
  | bulkRead (n : Fin 4) (fixed : Bool) (addr count : Nat)
  /-- R722: A BULK write writes words in order and stops at the first failure. -/
  | bulkWrite (n : Fin 4) (fixed : Bool) (addr : Nat) (values : List Word)
  /-- R717: The steward sleep command closes intervals and fusion sets, sends final packets and powers down into SLEEP. -/
  | headCmdSleep (n : Fin 4)
  /-- R830: The final packets, checkpoint and journal end, and every switched domain turns off. -/
  | sleepEntryComplete
  /-- R862: RELEASE leaves HOLD and re-applies the retained image or starts key discovery. -/
  | headCmdRelease (n : Fin 4)
  /-- R711: A steward NOP renews the session. -/
  | nop (n : Fin 4)
  /-- R709: CLOSE ends a steward session and erases its keys and cache. -/
  | close (n : Fin 4)
  /-- R709: A session with no accepted request for TIMEOUT ends. -/
  | sessionTimeout (n : Fin 4)
  /-- R724: 10 ms after its first entry, a session's EVENT message is sent. -/
  | eventFlush (n : Fin 4)
  /-- R728: A WAKE datagram with the serial number wakes the head from SLEEP. -/
  | wake (serial : BitVec 64)
  /-- R132: In SLEEP, a TB channel with WAKE = 1 reaches its target at a slow tick and wakes the head. -/
  | compareWake (k : Fin 32) (slow : Nat)
  /-- R866: The watchdog counts SLEEP_PERIOD in SLEEP and wakes the head. -/
  | sleepWatchdogWake
  /-- R737: Every 1 ms a HELLO cell is sent on each mosaic port. -/
  | helloTimer
  /-- R740: Every 1 ms a DELAY_REQ is sent on each port. -/
  | delayReqTimer
  /-- R753: The root or interim root sends a TIME cell, 16 per second. -/
  | timeCellTimer
  /-- R743: A HELLO cell updates the view and is forwarded. -/
  | hello (c : CellHead) (serial : BitVec 64) (flags state rootId rootHops bseq : Nat)
  /-- R740: A DELAY_REQ is stamped and answered with DELAY_RESP. -/
  | delayReq (port : Fin 2) (crcOk : Bool) (t1 t2 t3 : Nat)
  /-- R740: A DELAY_RESP gives one hop-delay exchange and updates the port's mean. -/
  | delayResp (port : Fin 2) (crcOk : Bool) (t1 t2 t3 t4 : Nat)
  /-- R750: A RASTER cell from the root gives a MOSAIC line or vertical event and is forwarded. -/
  | rasterCell (c : CellHead) (f l flags lastTl src : Nat) (err ofs : Int)
  /-- R753: A TIME cell feeds the root's TOD offset to the servo and is forwarded. -/
  | time (c : CellHead) (sec ns todState : Nat)
  /-- R758: A BARRIER cell is latched for ARM, STOP or START at its frame and forwarded. -/
  | barrier (c : CellHead) (bseq cmd flags f part nPart : Nat) (fns : List Nat)
  /-- R766: A STATE cell gives the root's digest and BSEQ, driving DISCORDANT and replay requests. -/
  | state (c : CellHead) (f bseq minor heads : Nat) (digest : List Byte)
  /-- R763: A member's REPORT reaches the root, which counts READY, logs refusals or replays a barrier. -/
  | report (c : CellHead) (bseq result reason state flags : Nat) (ofs : Int)
  /-- R743: A mosaic port link goes up or down, updating the view and the primary port. -/
  | mosaicPortLinkChange (port : Fin 2) (up : Bool)
  /-- R743: No HELLO from a head for 10 ms removes it from the view. -/
  | viewHeadTimeout
  /-- R744: The view has not changed for 5 ms, and the root or interim root is elected and the mosaic state moves. -/
  | viewSettled
  /-- R761: MOS_BREQ with CMD ARM issues an ARM barrier on the root. -/
  | barrierReqArm (who : Initiator) (value : Word)
  /-- R761: MOS_BREQ with CMD STOP issues a STOP barrier on the root. -/
  | barrierReqStop (who : Initiator) (value : Word)
  /-- R761: MOS_BREQ with CMD START issues a START barrier on the root. -/
  | barrierReqStart (who : Initiator) (value : Word)
  /-- R760: ARM_TIMEOUT passes without EXPECTED READY reports, and the root issues START anyway. -/
  | armTimeout
  /-- R798: A PROGRAM command programs the 1 bits of VALUE into a permitted fuse word. -/
  | fuseProgramWord (via : Option (Fin 4)) (word : Nat) (value : Word)
  /-- R798: A fuse word's programming and read-back end, with retries or failure. -/
  | fuseWordComplete (readA readB : Word)
  /-- R793: ADVANCE finalises units and programs the next life-cycle bit. -/
  | fuseAdvance (via : Option (Fin 4)) (word : Nat) (value : Word)
  /-- R799: JTAG_UNLOCK enables JTAG until the next power-on in DEPLOYED. -/
  | fuseJtagUnlock (via : Option (Fin 4)) (word : Nat) (value : Word)
  /-- R812: A switched domain reaches READY 100 µs after its switch closes. -/
  | domainReady (d : Fin 316)
  /-- R812: A domain overcurrent opens its switch into FAULT. -/
  | domainOvercurrent (d : Fin 316)
  /-- R812: A write clears FAULT of domains 280 to 314. -/
  | pwrDomFclrWrite (who : Initiator) (w : Fin 10) (value : Word)
  /-- R823: A missing half-cycle or low bulk raises the power-fail warning, which starts the sequencer before all other events. -/
  | pfWarning (cause : Fin 2) (bulk : BitVec 16)
  /-- R825: LINK_HOLD after the warning, the data and mosaic ports are disabled. -/
  | linkHoldExpired
  /-- R825: Steps 4 and 5 of the sequence end, and the head parks with the main converters off. -/
  | parked
  /-- R828: EMERG_MAX passes before the steps end, so the rest is abandoned and the head parks. -/
  | emergOverrun
  /-- R825: The bulk falls to 250 V, the always-on domain turns off and the head is OFF. -/
  | alwaysOnPowerLoss
  /-- R829: Mains returns while parked with V_bulk at 370 V for 100 ms, and the head boots keeping retained memory. -/
  | parkRestart (ms : Nat)
  /-- R840: A write to SUP_WDG_SVC restarts the count, or is an EARLY or KEY expiry, or is ignored from LCP. -/
  | wdgService (who : Initiator) (value : Word)
  /-- R841: SUP_WDG_CTRL.EN starts the watchdog. -/
  | wdgEnable (who : Initiator) (value : Word)
  /-- R838: The watchdog count reaches its period without a service, making a ladder event. -/
  | wdgExpiry
  /-- R892: The restarted firmware runs again and logs held events, sends held EVENTs and processes queued requests. -/
  | coreRestartComplete
  /-- R892: After a level-2 restart, recovery re-applies the retained image and acquires the raster before lanes, sets and streams. -/
  | dieRestartComplete (slow : Nat) (calOk tenOk imgOk : Bool)
  /-- R856: A deferred die reset reaches 2.5 s and resets with the operation running. -/
  | deferTimeout
  /-- R846: A clock-monitor window ends, and its count is checked, tripping to the slow-clock fallback. -/
  | clockMonitorWindow (count : Nat)
  /-- R858: No packet leaves a ready port for 1 ms, so the link scheduler is declared stuck and reset. -/
  | linkSchedulerStuck (port : Fin 5)
  /-- R878: A write of a SEQ to FLT_ACK acknowledges one CRITICAL entry. -/
  | fltAckWrite (who : Initiator) (value : Word)
  /-- R878: ACK_ALL acknowledges every CRITICAL entry. -/
  | fltAckAll (who : Initiator)
  /-- R880: Pending entries are appended to the long log in 512-byte blocks within 1 s. -/
  | longLogAppend
  /-- R882: A level-0 handling window closes 1 s after its last error. -/
  | handlingWindowClose
  /-- R888: A resource lease expires, and supervision revokes it, resetting the resource. -/
  | leaseExpired (r : Fin 8)
  /-- R960: A narrow, unaligned or undefined bus access changes nothing, reads 0 and is counted. -/
  | busInvalidAccess (write : Bool)
  /-- R15: A CNT_CLR bit of a block clears that block's counters. -/
  | counterClearWrite (b : Fin 19)
  /-- R971: A block's LOCK bit is set, locking its RWL fields until the next die reset. -/
  | lockBitSet (b : Fin 18)
  /-- R19: A read of an RC field returns its value and clears it. -/
  | registerReadClear (who : Initiator) (addr : Nat)
  /-- R94: A read of a low register of a wide value fills the shadows of its high halves. -/
  | latchedLowRead (who : Initiator) (addr : Nat)
  /-- R15: A write to a register without a row of its own acts by its fields' access types and range rules. -/
  | registerWrite (who : Initiator) (addr : Nat) (value : Word)
  /-- R79: The external 10 MHz reference returns to the 10 MHz input, and the system PLL coasting with FAILOVER_EN = 0 takes it up again. -/
  | ext10mhzReturn
  /-- R57: One second after a band failure with no other source qualified, the raster PLL retries acquisition on the same source from QUAL. -/
  | bandFailRetry
  /-- R977: While in QUAL, every source ranked above FREE has stayed unqualified for COAST_MAX, so FREE counts as qualified and is chosen with COAST. -/
  | qualCoastMaxExpired
  /-- R128: The JTAG debugger releases the halted management core, so FREEZE_ON_HALT units count again and their TB channels resume matching past whole periods. -/
  | debugHaltEnd
  /-- R806: The mains input leaves 85 V to 265 V or 47 Hz to 63 Hz, and event 0x0F08 is logged once per minute. -/
  | mainsOutOfRange (v f : BitVec 16)
  /-- R100: The TOD nanoseconds pass 999,999,999, wrap to 0 and the seconds increase by 1, unless a commit in the same tick wins. -/
  | todSecondRollover
  /-- R819: An energy-check request dropped at a busy tracker slice is repeated after 1 µs. -/
  | energyRequestRepeat
  deriving DecidableEq, Repr

end Sys2Proof
end

