-- ==== Sys2Proof/Machine/Digest.lean ====
section
/-! DEFINITION. The check word of R432 and the SHA-256 digest that the spec names. -/

namespace Sys2Proof.Machine

/-- R432: one bit of the reflected CRC-32. -/
def crcBit (c : BitVec 32) : BitVec 32 := if c.getLsbD 0 then (c >>> 1) ^^^ 0xEDB88320 else c >>> 1

/-- R432: one byte of the reflected CRC-32. -/
def crcByte (c : BitVec 32) (b : Byte) : BitVec 32 :=
  (List.range 8).foldl (fun c _ => crcBit c) (c ^^^ b.zeroExtend 32)

/-- R432: the CRC-32 of IEEE 802.3. -/
def crc32 (l : List Byte) : BitVec 32 := l.foldl crcByte 0xFFFFFFFF ^^^ 0xFFFFFFFF

/-- The round constants of SHA-256. -/
def shaK : List Nat :=
  [0x428A2F98, 0x71374491, 0xB5C0FBCF, 0xE9B5DBA5, 0x3956C25B, 0x59F111F1, 0x923F82A4, 0xAB1C5ED5,
   0xD807AA98, 0x12835B01, 0x243185BE, 0x550C7DC3, 0x72BE5D74, 0x80DEB1FE, 0x9BDC06A7, 0xC19BF174] ++
  [0xE49B69C1, 0xEFBE4786, 0x0FC19DC6, 0x240CA1CC, 0x2DE92C6F, 0x4A7484AA, 0x5CB0A9DC, 0x76F988DA,
   0x983E5152, 0xA831C66D, 0xB00327C8, 0xBF597FC7, 0xC6E00BF3, 0xD5A79147, 0x06CA6351, 0x14292967] ++
  [0x27B70A85, 0x2E1B2138, 0x4D2C6DFC, 0x53380D13, 0x650A7354, 0x766A0ABB, 0x81C2C92E, 0x92722C85,
   0xA2BFE8A1, 0xA81A664B, 0xC24B8B70, 0xC76C51A3, 0xD192E819, 0xD6990624, 0xF40E3585, 0x106AA070] ++
  [0x19A4C116, 0x1E376C08, 0x2748774C, 0x34B0BCB5, 0x391C0CB3, 0x4ED8AA4A, 0x5B9CCA4F, 0x682E6FF3,
   0x748F82EE, 0x78A5636F, 0x84C87814, 0x8CC70208, 0x90BEFFFA, 0xA4506CEB, 0xBEF9A3F7, 0xC67178F2]

/-- The initial hash value of SHA-256. -/
def shaH : List (BitVec 32) :=
  [0x6A09E667, 0xBB67AE85, 0x3C6EF372, 0xA54FF53A, 0x510E527F, 0x9B05688C, 0x1F83D9AB, 0x5BE0CD19]

/-- Word i of a list of words. -/
def shaW (w : List (BitVec 32)) (i : Nat) : BitVec 32 := w.getD i 0

/-- The message schedule, newest word first. -/
def shaExtend (w : List (BitVec 32)) : List (BitVec 32) :=
  let a := shaW w 14
  let b := shaW w 1
  let s0 := a.rotateRight 7 ^^^ a.rotateRight 18 ^^^ (a >>> 3)
  let s1 := b.rotateRight 17 ^^^ b.rotateRight 19 ^^^ (b >>> 10)
  (shaW w 15 + s0 + shaW w 6 + s1) :: w

/-- The 64 words of the schedule of a block, oldest first. -/
def shaSchedule (block : List (BitVec 32)) : List (BitVec 32) :=
  ((List.range 48).foldl (fun w _ => shaExtend w) block.reverse).reverse

/-- One round on the eight working words. -/
def shaRound (v : List (BitVec 32)) (kw : Nat × BitVec 32) : List (BitVec 32) :=
  let a := shaW v 0
  let b := shaW v 1
  let c := shaW v 2
  let e := shaW v 4
  let s1 := e.rotateRight 6 ^^^ e.rotateRight 11 ^^^ e.rotateRight 25
  let ch := (e &&& shaW v 5) ^^^ (~~~e &&& shaW v 6)
  let t1 := shaW v 7 + s1 + ch + BitVec.ofNat 32 kw.1 + kw.2
  let s0 := a.rotateRight 2 ^^^ a.rotateRight 13 ^^^ a.rotateRight 22
  let maj := (a &&& b) ^^^ (a &&& c) ^^^ (b &&& c)
  [t1 + s0 + maj, a, b, c, shaW v 3 + t1, e, shaW v 5, shaW v 6]

/-- One block of 16 words. -/
def shaBlock (h : List (BitVec 32)) (block : List (BitVec 32)) : List (BitVec 32) :=
  ((shaK.zip (shaSchedule block)).foldl shaRound h).zipWith (· + ·) h

/-- Bytes as big-endian words. -/
def wordsOf : List Byte → List (BitVec 32)
  | a :: b :: c :: d :: t => (a ++ b ++ c ++ d) :: wordsOf t
  | _ => []

/-- A message with its padding. -/
def shaPad (l : List Byte) : List Byte :=
  l ++ [0x80] ++ List.replicate ((119 - l.length % 64) % 64) 0 ++
    (List.range 8).map fun i => BitVec.ofNat 8 (8 * l.length / 256 ^ (7 - i))

/-- The blocks of a list of words. -/
def shaBlocks : Nat → List (BitVec 32) → List (List (BitVec 32))
  | 0, _ => []
  | n + 1, w => if w.isEmpty then [] else w.take 16 :: shaBlocks n (w.drop 16)

/-- The SHA-256 digest of a message. -/
def sha256 (l : List Byte) : List Byte :=
  let w := wordsOf (shaPad l)
  ((shaBlocks w.length w).foldl shaBlock shaH).flatMap fun x =>
    [x.extractLsb' 24 8, x.extractLsb' 16 8, x.extractLsb' 8 8, x.extractLsb' 0 8]

end Sys2Proof.Machine
end

