-- ==== Sys2Proof/Machine/RegMap.lean ====
section
/-! DEFINITION. The register map: every register of R964 with its address, arrays (R965), fields, access types (R15) and
reset values, as the field maps of the chapters state them. A field marked `sensed` reads a value that the state holds
elsewhere. -/

namespace Sys2Proof.Machine

/-- R15: the access types. -/
inductive Access where
  | rw | ro | wo | w1c | w1s | rc | rwl | rws
  deriving DecidableEq, Repr

/-- One field: bits [hi:lo], access type, reset value, and whether its value is read from the state. -/
structure FieldDesc where
  hi : Nat
  lo : Nat
  acc : Access
  reset : Nat
  sensed : Bool
  deriving DecidableEq, Repr

/-- One register, or an array of registers of one layout: address of the first, two array counts and strides. -/
structure Family where
  base : Nat
  n1 : Nat
  s1 : Nat
  n2 : Nat
  s2 : Nat
  fields : List FieldDesc
  deriving DecidableEq, Repr

/-- The registers of block GLB: GLB_ID, GLB_CTRL, GLB_STATE, GLB_VARIANT, GLB_SERIAL_LO, GLB_SERIAL_HI, GLB_DATE, GLB_FW_VER, GLB_ROM_VER, GLB_START, GLB_STATE_TB_LO, GLB_STATE_TB_HI, GLB_POWERON, GLB_EVT_SUM, GLB_LOCKS, GLB_BUS_ERR, GLB_DIE_ID, GLB_REG_COUNT, GLB_STATE_CNT, GLB_STATE_SEC, GLB_SCRATCH, GLB_DEVKEY, GLB_DEVCERT, GLB_BLOCK_VER. -/
def famGLB : List Family := [
  ⟨0x00000000, 1, 0x0, 1, 0x0, [⟨31, 16, .ro, 0x9600, false⟩, ⟨15, 8, .ro, 1, false⟩, ⟨7, 0, .ro, 1, false⟩]⟩,
  ⟨0x00000004, 1, 0x0, 1, 0x0, [⟨0, 0, .wo, 0, false⟩]⟩,
  ⟨0x00000008, 1, 0x0, 1, 0x0, [⟨27, 24, .ro, 0, true⟩, ⟨4, 4, .ro, 0, true⟩, ⟨3, 0, .ro, 0, true⟩]⟩,
  ⟨0x0000000C, 1, 0x0, 1, 0x0, [⟨31, 29, .ro, 0, true⟩, ⟨28, 27, .ro, 0, true⟩, ⟨26, 26, .ro, 0, true⟩, ⟨25, 25, .ro, 0, true⟩, ⟨24, 24, .ro, 0, true⟩, ⟨14, 13, .ro, 0, true⟩, ⟨12, 0, .ro, 0, true⟩]⟩,
  ⟨0x00000010, 1, 0x0, 1, 0x0, [⟨31, 0, .ro, 0, true⟩]⟩,
  ⟨0x00000014, 1, 0x0, 1, 0x0, [⟨31, 0, .ro, 0, true⟩]⟩,
  ⟨0x00000018, 1, 0x0, 1, 0x0, [⟨31, 16, .ro, 0, true⟩]⟩,
  ⟨0x0000001C, 1, 0x0, 1, 0x0, [⟨31, 0, .ro, 0, true⟩]⟩,
  ⟨0x00000020, 1, 0x0, 1, 0x0, [⟨31, 0, .ro, 0, true⟩]⟩,
  ⟨0x00000024, 1, 0x0, 1, 0x0, [⟨7, 4, .ro, 0, true⟩, ⟨3, 0, .ro, 0, true⟩]⟩,
  ⟨0x00000028, 1, 0x0, 1, 0x0, [⟨31, 0, .ro, 0, true⟩]⟩,
  ⟨0x0000002C, 1, 0x0, 1, 0x0, [⟨31, 0, .ro, 0, true⟩]⟩,
  ⟨0x00000030, 1, 0x0, 1, 0x0, [⟨31, 0, .ro, 0, true⟩]⟩,
  ⟨0x00000034, 1, 0x0, 1, 0x0, [⟨18, 1, .ro, 0, true⟩]⟩,
  ⟨0x00000038, 1, 0x0, 1, 0x0, [⟨16, 1, .ro, 0, true⟩]⟩,
  ⟨0x0000003C, 1, 0x0, 1, 0x0, [⟨31, 16, .rc, 0, false⟩, ⟨15, 0, .rc, 0, false⟩]⟩,
  ⟨0x00000040, 4, 0x4, 1, 0x0, [⟨31, 0, .ro, 0, true⟩]⟩,
  ⟨0x00000050, 1, 0x0, 1, 0x0, [⟨31, 16, .ro, 0x3C0, false⟩, ⟨15, 0, .ro, 0x178C, false⟩]⟩,
  ⟨0x00000060, 8, 0x4, 1, 0x0, [⟨31, 0, .ro, 0, true⟩]⟩,
  ⟨0x00000080, 8, 0x4, 1, 0x0, [⟨31, 0, .ro, 0, true⟩]⟩,
  ⟨0x000000A0, 8, 0x4, 1, 0x0, [⟨31, 0, .rw, 0, false⟩]⟩,
  ⟨0x00000100, 16, 0x4, 1, 0x0, [⟨31, 0, .ro, 0, true⟩]⟩,
  ⟨0x00000140, 16, 0x4, 1, 0x0, [⟨31, 0, .ro, 0, true⟩]⟩,
  ⟨0x00000180, 19, 0x4, 1, 0x0, [⟨15, 8, .ro, 1, false⟩, ⟨7, 0, .ro, 0, false⟩]⟩]

/-- The registers of block RRU: RRU_CTRL, RRU_STATUS, RRU_EVT, RRU_SRC_PRIO, RRU_FAILOVER, RRU_TL, RRU_TL_VRR, RRU_GEOM, RRU_LPER_LO, RRU_LPER_HI, RRU_EPOCH_SEC_LO, RRU_EPOCH_SEC_HI, RRU_EPOCH_NS, RRU_OPT, RRU_RP_F_LO, RRU_RP_F_HI, RRU_RP_LP, RRU_MEAS_LPER_LO, RRU_MEAS_LPER_HI, RRU_MEAS_TL, RRU_MEAS_TLX, RRU_PHASE_ERR, RRU_CNT, RRU_PLL_CTRL, RRU_PLL_NDIV, RRU_PLL_LOCK, RRU_PLL_CW, RRU_PLL_RESTART, RRU_OUT_CFG, RRU_SYS_CTRL, RRU_SYS_STATUS. -/
def famRRU : List Family := [
  ⟨0x00010000, 1, 0x0, 1, 0x0, [⟨1, 1, .wo, 0, false⟩, ⟨0, 0, .w1s, 0, false⟩]⟩,
  ⟨0x00010004, 1, 0x0, 1, 0x0, [⟨23, 18, .ro, 0, true⟩, ⟨17, 17, .ro, 0, true⟩, ⟨16, 16, .ro, 0, true⟩, ⟨15, 15, .ro, 0, true⟩, ⟨10, 8, .ro, 0, true⟩, ⟨2, 0, .ro, 0, true⟩]⟩,
  ⟨0x00010008, 1, 0x0, 1, 0x0, [⟨17, 1, .w1c, 0, false⟩]⟩,
  ⟨0x0001000C, 1, 0x0, 1, 0x0, [⟨20, 18, .rws, 0, false⟩, ⟨17, 15, .rws, 0, false⟩, ⟨14, 12, .rws, 0, false⟩, ⟨11, 9, .rws, 0, false⟩, ⟨8, 6, .rws, 0, false⟩, ⟨5, 3, .rws, 0, false⟩, ⟨2, 0, .rws, 0, false⟩]⟩,
  ⟨0x00010010, 1, 0x0, 1, 0x0, [⟨31, 16, .rws, 0, false⟩, ⟨12, 0, .rws, 0, false⟩]⟩,
  ⟨0x00010014, 1, 0x0, 1, 0x0, [⟨31, 16, .rws, 0, false⟩, ⟨15, 0, .rws, 0x465, false⟩]⟩,
  ⟨0x00010018, 1, 0x0, 1, 0x0, [⟨31, 16, .rws, 0, false⟩, ⟨15, 0, .rws, 0, false⟩]⟩,
  ⟨0x0001001C, 1, 0x0, 1, 0x0, [⟨7, 7, .rws, 0, false⟩, ⟨6, 6, .rws, 0, false⟩, ⟨5, 5, .rws, 0, false⟩, ⟨4, 4, .rws, 0, false⟩, ⟨3, 3, .rw, 0, false⟩, ⟨2, 2, .rws, 0, false⟩, ⟨1, 1, .rws, 0, false⟩, ⟨0, 0, .rws, 0, false⟩]⟩,
  ⟨0x00010020, 1, 0x0, 1, 0x0, [⟨31, 0, .rws, 0x73DB425F, false⟩]⟩,
  ⟨0x00010024, 1, 0x0, 1, 0x0, [⟨31, 16, .rws, 0x64, false⟩, ⟨15, 0, .rws, 0, false⟩]⟩,
  ⟨0x00010028, 1, 0x0, 1, 0x0, [⟨31, 0, .rws, 0, false⟩]⟩,
  ⟨0x0001002C, 1, 0x0, 1, 0x0, [⟨15, 0, .rws, 0, false⟩]⟩,
  ⟨0x00010030, 1, 0x0, 1, 0x0, [⟨29, 0, .rws, 0, false⟩]⟩,
  ⟨0x00010034, 1, 0x0, 1, 0x0, [⟨4, 0, .rws, 7, false⟩]⟩,
  ⟨0x00010040, 1, 0x0, 1, 0x0, [⟨31, 0, .ro, 0, true⟩]⟩,
  ⟨0x00010044, 1, 0x0, 1, 0x0, [⟨7, 0, .ro, 0, true⟩]⟩,
  ⟨0x00010048, 1, 0x0, 1, 0x0, [⟨31, 16, .ro, 0, true⟩, ⟨15, 0, .ro, 0, true⟩]⟩,
  ⟨0x00010050, 1, 0x0, 1, 0x0, [⟨31, 0, .ro, 0, true⟩]⟩,
  ⟨0x00010054, 1, 0x0, 1, 0x0, [⟨15, 0, .ro, 0, true⟩]⟩,
  ⟨0x00010058, 1, 0x0, 1, 0x0, [⟨15, 0, .ro, 0, true⟩]⟩,
  ⟨0x0001005C, 1, 0x0, 1, 0x0, [⟨31, 16, .ro, 0, true⟩, ⟨15, 0, .ro, 0, true⟩]⟩,
  ⟨0x00010060, 1, 0x0, 1, 0x0, [⟨15, 0, .ro, 0, true⟩]⟩,
  ⟨0x00010064, 1, 0x0, 1, 0x0, [⟨31, 16, .rc, 0, false⟩, ⟨15, 0, .rc, 0, false⟩]⟩,
  ⟨0x00010100, 1, 0x0, 1, 0x0, [⟨15, 12, .rw, 6, false⟩, ⟨10, 4, .rw, 0, false⟩, ⟨3, 3, .rw, 1, false⟩, ⟨0, 0, .rw, 0, false⟩]⟩,
  ⟨0x00010104, 1, 0x0, 1, 0x0, [⟨23, 0, .rw, 0, false⟩]⟩,
  ⟨0x00010108, 1, 0x0, 1, 0x0, [⟨31, 16, .rw, 0x1000, false⟩, ⟨15, 0, .rw, 0x40, false⟩]⟩,
  ⟨0x0001010C, 1, 0x0, 1, 0x0, [⟨30, 24, .ro, 0, true⟩, ⟨23, 0, .ro, 0, true⟩]⟩,
  ⟨0x00010110, 1, 0x0, 1, 0x0, [⟨0, 0, .wo, 0, false⟩]⟩,
  ⟨0x00010200, 8, 0x4, 1, 0x0, [⟨31, 31, .rw, 0, false⟩, ⟨27, 16, .rws, 0, false⟩, ⟨9, 0, .rws, 0, false⟩]⟩,
  ⟨0x00010300, 1, 0x0, 1, 0x0, [⟨2, 2, .rwl, 1, false⟩, ⟨1, 1, .rwl, 0, false⟩]⟩,
  ⟨0x00010304, 1, 0x0, 1, 0x0, [⟨4, 4, .ro, 0, true⟩, ⟨3, 3, .ro, 0, true⟩, ⟨2, 0, .ro, 0, true⟩]⟩]

/-- The registers of block TMB: TMB_TB_LO, TMB_TB_HI, TMB_EVT, TMB_FB_TB_LO, TMB_FB_TB_HI, TMB_FB_F_LO, TMB_FB_F_HI, TMB_RPTB_LO, TMB_RPTB_HI, TMB_MAKEUP, TMB_TOD_NS, TMB_TOD_SEC_LO, TMB_TOD_SEC_HI, TMB_TOD_SET_SEC_LO, TMB_TOD_SET_SEC_HI, TMB_TOD_SET_NS, TMB_TOD_ADJ, TMB_TOD_FREQ, TMB_TOD_CTRL, TMB_TOD_STATUS, TMB_TOD_OFFSET, TMB_U_CTRL, TMB_U_CNT, TMB_U_TOP, TMB_U_FLAGS, TMB_U_EVT_EN, TMB_U_EVT_DROP, TMB_CH_CTRL, TMB_CMP_LO, TMB_CMP_HI, TMB_PERIOD. -/
def famTMB : List Family := [
  ⟨0x00020000, 1, 0x0, 1, 0x0, [⟨31, 0, .ro, 0, true⟩]⟩,
  ⟨0x00020004, 1, 0x0, 1, 0x0, [⟨31, 0, .ro, 0, true⟩]⟩,
  ⟨0x00020008, 1, 0x0, 1, 0x0, [⟨16, 1, .w1c, 0, false⟩]⟩,
  ⟨0x00020010, 1, 0x0, 1, 0x0, [⟨31, 0, .ro, 0, true⟩]⟩,
  ⟨0x00020014, 1, 0x0, 1, 0x0, [⟨31, 0, .ro, 0, true⟩]⟩,
  ⟨0x00020018, 1, 0x0, 1, 0x0, [⟨31, 0, .ro, 0, true⟩]⟩,
  ⟨0x0002001C, 1, 0x0, 1, 0x0, [⟨7, 0, .ro, 0, true⟩]⟩,
  ⟨0x00020020, 1, 0x0, 1, 0x0, [⟨31, 0, .ro, 0, true⟩]⟩,
  ⟨0x00020024, 1, 0x0, 1, 0x0, [⟨31, 0, .ro, 0, true⟩]⟩,
  ⟨0x00020028, 1, 0x0, 1, 0x0, [⟨31, 0, .ro, 0, true⟩]⟩,
  ⟨0x00020040, 1, 0x0, 1, 0x0, [⟨29, 0, .ro, 0, true⟩]⟩,
  ⟨0x00020044, 1, 0x0, 1, 0x0, [⟨31, 0, .ro, 0, true⟩]⟩,
  ⟨0x00020048, 1, 0x0, 1, 0x0, [⟨15, 0, .ro, 0, true⟩]⟩,
  ⟨0x00020050, 1, 0x0, 1, 0x0, [⟨31, 0, .rw, 0, false⟩]⟩,
  ⟨0x00020054, 1, 0x0, 1, 0x0, [⟨15, 0, .rw, 0, false⟩]⟩,
  ⟨0x00020058, 1, 0x0, 1, 0x0, [⟨29, 0, .wo, 0, false⟩]⟩,
  ⟨0x0002005C, 1, 0x0, 1, 0x0, [⟨31, 0, .wo, 0, false⟩]⟩,
  ⟨0x00020060, 1, 0x0, 1, 0x0, [⟨31, 0, .rw, 0, false⟩]⟩,
  ⟨0x00020064, 1, 0x0, 1, 0x0, [⟨31, 31, .rw, 0, false⟩, ⟨27, 20, .rw, 0xB, false⟩, ⟨19, 0, .rw, 0x64, false⟩]⟩,
  ⟨0x00020068, 1, 0x0, 1, 0x0, [⟨1, 0, .ro, 0, true⟩]⟩,
  ⟨0x0002006C, 1, 0x0, 1, 0x0, [⟨31, 0, .ro, 0, true⟩]⟩,
  ⟨0x00021000, 8, 0x100, 1, 0x0, [⟨31, 31, .rw, 0, false⟩, ⟨30, 28, .rw, 0, false⟩, ⟨27, 26, .rw, 0, false⟩, ⟨25, 23, .rw, 0, false⟩, ⟨22, 20, .rw, 0, false⟩, ⟨19, 16, .rw, 0, false⟩, ⟨15, 0, .rw, 0, false⟩]⟩,
  ⟨0x00021004, 8, 0x100, 1, 0x0, [⟨31, 0, .rw, 0, false⟩]⟩,
  ⟨0x00021008, 8, 0x100, 1, 0x0, [⟨31, 0, .rw, 0xFFFFFFFF, false⟩]⟩,
  ⟨0x0002100C, 8, 0x100, 1, 0x0, [⟨12, 12, .w1c, 0, false⟩, ⟨11, 8, .w1c, 0, false⟩, ⟨7, 4, .w1c, 0, false⟩, ⟨3, 0, .w1c, 0, false⟩]⟩,
  ⟨0x00021010, 8, 0x100, 1, 0x0, [⟨12, 12, .rw, 0, false⟩, ⟨11, 8, .rw, 0, false⟩, ⟨7, 4, .rw, 0, false⟩, ⟨3, 0, .rw, 0, false⟩]⟩,
  ⟨0x00021014, 8, 0x100, 1, 0x0, [⟨15, 0, .rc, 0, false⟩]⟩,
  ⟨0x00021040, 8, 0x100, 4, 0x10, [⟨31, 31, .rw, 0, false⟩, ⟨30, 30, .rw, 0, false⟩, ⟨29, 29, .rw, 0, false⟩, ⟨1, 0, .rw, 0, false⟩]⟩,
  ⟨0x00021044, 8, 0x100, 4, 0x10, [⟨31, 0, .rw, 0, false⟩]⟩,
  ⟨0x00021048, 8, 0x100, 4, 0x10, [⟨31, 0, .rw, 0, false⟩]⟩,
  ⟨0x0002104C, 8, 0x100, 4, 0x10, [⟨31, 0, .rw, 0, false⟩]⟩]

/-- The registers of block SNS: SNS_CTRL, SNS_STATUS, SNS_EVT, SNS_COOL_CTRL, SNS_TEMP, SNS_COOL_PWR, SNS_BIAS_PIX, SNS_BIAS_TX, SNS_ROWDRV, SNS_TILE_READY, SNS_TILE_CTRL, SNS_TILE_STATUS. -/
def famSNS : List Family := [
  ⟨0x00030000, 1, 0x0, 1, 0x0, [⟨2, 1, .rwl, 0, false⟩, ⟨0, 0, .w1s, 0, false⟩]⟩,
  ⟨0x00030004, 1, 0x0, 1, 0x0, [⟨23, 16, .ro, 0, true⟩, ⟨15, 8, .ro, 0, true⟩, ⟨2, 2, .ro, 0, true⟩, ⟨1, 0, .ro, 0, true⟩]⟩,
  ⟨0x00030008, 1, 0x0, 1, 0x0, [⟨8, 1, .w1c, 0, false⟩]⟩,
  ⟨0x00030010, 1, 0x0, 1, 0x0, [⟨31, 31, .rw, 1, false⟩, ⟨30, 30, .wo, 0, false⟩, ⟨15, 0, .rw, 0, false⟩]⟩,
  ⟨0x00030014, 1, 0x0, 1, 0x0, [⟨31, 16, .ro, 0, true⟩, ⟨15, 0, .ro, 0, true⟩]⟩,
  ⟨0x00030018, 1, 0x0, 1, 0x0, [⟨15, 0, .ro, 0, true⟩]⟩,
  ⟨0x00030040, 1, 0x0, 1, 0x0, [⟨27, 16, .rwl, 0, false⟩, ⟨11, 0, .rwl, 0, false⟩]⟩,
  ⟨0x00030044, 1, 0x0, 1, 0x0, [⟨15, 0, .rwl, 0, false⟩]⟩,
  ⟨0x00030048, 1, 0x0, 1, 0x0, [⟨15, 8, .rwl, 0, false⟩, ⟨7, 0, .rwl, 0, false⟩]⟩,
  ⟨0x00030080, 8, 0x4, 1, 0x0, [⟨31, 0, .ro, 0, true⟩]⟩,
  ⟨0x00031000, 240, 0x4, 1, 0x0, [⟨1, 1, .wo, 0, false⟩, ⟨0, 0, .rw, 0, false⟩]⟩,
  ⟨0x00031400, 240, 0x4, 1, 0x0, [⟨31, 16, .ro, 0, true⟩, ⟨3, 3, .ro, 0, true⟩, ⟨2, 0, .ro, 0, true⟩]⟩]

/-- The registers of block CRO: CRO_CTRL, CRO_STATUS, CRO_EVT, CRO_LEVELS, CRO_CLAMP, CRO_CNT, CRO_CLAMP_VAL, CRO_SB_CTRL, CRO_SB_STATUS, CRO_LANE_STATUS, CRO_GEO_CTRL, CRO_GEO_COLS, CRO_GEO_STATUS, CRO_GEO_RGB. -/
def famCRO : List Family := [
  ⟨0x00040000, 1, 0x0, 1, 0x0, [⟨1, 1, .wo, 0, false⟩, ⟨0, 0, .w1s, 0, false⟩]⟩,
  ⟨0x00040004, 1, 0x0, 1, 0x0, [⟨29, 24, .ro, 0, true⟩, ⟨21, 16, .ro, 0, true⟩, ⟨15, 8, .ro, 0, true⟩, ⟨7, 0, .ro, 0, true⟩]⟩,
  ⟨0x00040008, 1, 0x0, 1, 0x0, [⟨11, 1, .w1c, 0, false⟩]⟩,
  ⟨0x00040010, 1, 0x0, 1, 0x0, [⟨27, 16, .rwl, 0xFC0, false⟩, ⟨6, 0, .rwl, 0x40, false⟩]⟩,
  ⟨0x00040014, 1, 0x0, 1, 0x0, [⟨23, 16, .rw, 0x20, false⟩, ⟨3, 0, .rw, 6, false⟩]⟩,
  ⟨0x00040018, 1, 0x0, 1, 0x0, [⟨31, 16, .rc, 0, false⟩, ⟨15, 0, .rc, 0, false⟩]⟩,
  ⟨0x00040100, 8, 0x4, 1, 0x0, [⟨15, 0, .ro, 0, true⟩]⟩,
  ⟨0x00040200, 40, 0x4, 1, 0x0, [⟨1, 1, .wo, 0, false⟩, ⟨0, 0, .rw, 0, false⟩]⟩,
  ⟨0x00040300, 40, 0x4, 1, 0x0, [⟨31, 16, .ro, 0, true⟩, ⟨3, 3, .ro, 0, true⟩, ⟨2, 0, .ro, 0, true⟩]⟩,
  ⟨0x00040400, 96, 0x4, 1, 0x0, [⟨31, 16, .rc, 0, false⟩, ⟨15, 8, .ro, 0, true⟩, ⟨1, 0, .ro, 0, true⟩]⟩,
  ⟨0x00041000, 16, 0x40, 1, 0x0, [⟨31, 31, .rw, 0, false⟩, ⟨28, 27, .rw, 0, false⟩, ⟨26, 25, .rw, 0, false⟩, ⟨19, 0, .rw, 0, false⟩]⟩,
  ⟨0x00041004, 16, 0x40, 1, 0x0, [⟨26, 16, .rw, 0, false⟩, ⟨10, 0, .rw, 0, false⟩]⟩,
  ⟨0x00041008, 16, 0x40, 1, 0x0, [⟨31, 31, .ro, 0, true⟩, ⟨10, 0, .ro, 0, true⟩]⟩,
  ⟨0x00042000, 16, 0x100, 48, 0x4, [⟨31, 0, .rw, 0, false⟩]⟩]

/-- The registers of block EXS: EXS_CTRL, EXS_STATUS, EXS_EVT, EXS_SLIP_MAX, EXS_HEARTBEAT, EXS_LOAD, EXS_MAP_USE, EXS_PROG_USE, EXS_LANE_CTRL, EXS_LANE_STATUS, EXS_LANE_F_LO, EXS_LANE_F_HI, EXS_LANE_CNT, EXS_LANE_MAXSLIP, EXS_LANE_SKIP, EXS_LANE_RGB, EXS_FU_DUAL, EXS_FU_STATUS, EXS_FU_EVT, EXS_FU_CNT, EXS_FU_LANE. -/
def famEXS : List Family := [
  ⟨0x00050000, 1, 0x0, 1, 0x0, [⟨0, 0, .wo, 0, false⟩]⟩,
  ⟨0x00050004, 1, 0x0, 1, 0x0, [⟨14, 12, .ro, 0, true⟩, ⟨10, 8, .ro, 0, true⟩, ⟨6, 4, .ro, 0, true⟩, ⟨2, 0, .ro, 0, true⟩]⟩,
  ⟨0x00050008, 1, 0x0, 1, 0x0, [⟨12, 1, .w1c, 0, false⟩]⟩,
  ⟨0x0005000C, 1, 0x0, 1, 0x0, [⟨31, 0, .rw, 0x400000, false⟩]⟩,
  ⟨0x00050010, 1, 0x0, 1, 0x0, [⟨31, 0, .ro, 0, true⟩]⟩,
  ⟨0x00050020, 2, 0x4, 1, 0x0, [⟨16, 0, .ro, 0, true⟩]⟩,
  ⟨0x00050030, 1, 0x0, 1, 0x0, [⟨3, 0, .ro, 0, true⟩]⟩,
  ⟨0x00050040, 2, 0x4, 1, 0x0, [⟨31, 0, .ro, 0, true⟩]⟩,
  ⟨0x00050100, 4, 0x20, 1, 0x0, [⟨31, 31, .rw, 0, false⟩, ⟨5, 0, .rw, 0, false⟩]⟩,
  ⟨0x00050104, 4, 0x20, 1, 0x0, [⟨2, 0, .ro, 0, true⟩]⟩,
  ⟨0x00050108, 4, 0x20, 1, 0x0, [⟨31, 0, .ro, 0, true⟩]⟩,
  ⟨0x0005010C, 4, 0x20, 1, 0x0, [⟨7, 0, .ro, 0, true⟩]⟩,
  ⟨0x00050110, 4, 0x20, 1, 0x0, [⟨31, 16, .rc, 0, false⟩, ⟨15, 0, .rc, 0, false⟩]⟩,
  ⟨0x00050114, 4, 0x20, 1, 0x0, [⟨31, 0, .rc, 0, false⟩]⟩,
  ⟨0x00050118, 4, 0x20, 1, 0x0, [⟨15, 0, .rc, 0, false⟩]⟩,
  ⟨0x00051000, 4, 0x100, 48, 0x4, [⟨31, 0, .rw, 0, false⟩]⟩,
  ⟨0x00050800, 1, 0x0, 1, 0x0, [⟨27, 16, .rw, 0xE10, false⟩, ⟨11, 0, .rw, 0xBB8, false⟩]⟩,
  ⟨0x00050804, 1, 0x0, 1, 0x0, [⟨27, 16, .rc, 0, false⟩, ⟨11, 0, .ro, 0, true⟩]⟩,
  ⟨0x00050808, 1, 0x0, 1, 0x0, [⟨4, 1, .w1c, 0, false⟩]⟩,
  ⟨0x0005080C, 1, 0x0, 1, 0x0, [⟨31, 16, .rc, 0, false⟩, ⟨15, 0, .rc, 0, false⟩]⟩,
  ⟨0x00050820, 4, 0x4, 1, 0x0, [⟨28, 16, .ro, 0, true⟩, ⟨9, 8, .ro, 0, true⟩, ⟨0, 0, .rw, 0, false⟩]⟩]

/-- The registers of block PAT: PAT_CTRL, PAT_STATUS, PAT_EVT, PAT_CNT, PAT_TW, PAT_DOSE_RATE, PAT_DOSE_INC, PAT_SLICE_STATUS, PAT_SET_CTRL, PAT_SET_STATUS, PAT_SET_IVL_LO, PAT_SET_IVL_HI. -/
def famPAT : List Family := [
  ⟨0x00060000, 1, 0x0, 1, 0x0, [⟨0, 0, .wo, 0, false⟩]⟩,
  ⟨0x00060004, 1, 0x0, 1, 0x0, [⟨31, 23, .ro, 0, true⟩, ⟨16, 0, .ro, 0, true⟩]⟩,
  ⟨0x00060008, 1, 0x0, 1, 0x0, [⟨11, 1, .w1c, 0, false⟩]⟩,
  ⟨0x0006000C, 1, 0x0, 1, 0x0, [⟨31, 16, .rc, 0, false⟩, ⟨15, 0, .rc, 0, false⟩]⟩,
  ⟨0x00060010, 1, 0x0, 1, 0x0, [⟨14, 0, .ro, 0, true⟩]⟩,
  ⟨0x00060020, 1, 0x0, 1, 0x0, [⟨31, 0, .ro, 0, true⟩]⟩,
  ⟨0x00060024, 1, 0x0, 1, 0x0, [⟨31, 0, .ro, 0, true⟩]⟩,
  ⟨0x00060100, 16, 0x4, 1, 0x0, [⟨31, 16, .ro, 0, true⟩, ⟨15, 8, .rc, 0, false⟩, ⟨1, 0, .ro, 0, true⟩]⟩,
  ⟨0x00061000, 256, 0x10, 1, 0x0, [⟨31, 31, .rw, 0, false⟩, ⟨15, 0, .rw, 0, false⟩]⟩,
  ⟨0x00061004, 256, 0x10, 1, 0x0, [⟨31, 29, .ro, 0, true⟩, ⟨28, 28, .ro, 0, true⟩, ⟨27, 26, .ro, 0, true⟩, ⟨16, 0, .ro, 0, true⟩]⟩,
  ⟨0x00061008, 256, 0x10, 1, 0x0, [⟨31, 0, .ro, 0, true⟩]⟩,
  ⟨0x0006100C, 256, 0x10, 1, 0x0, [⟨7, 0, .ro, 0, true⟩]⟩]

/-- The registers of block CAL: CAL_CTRL, CAL_STATUS, CAL_EVT, CAL_GEN, CAL_TEMP, CAL_AGE, CAL_CNT, CAL_EST, CAL_SLOT, CAL_PERIOD, CAL_PHASE, CAL_TRIG, CAL_STALE_MAX, CAL_DARK, CAL_LEN_OFS, CAL_LIGHT, CAL_FLK. -/
def famCAL : List Family := [
  ⟨0x00070000, 1, 0x0, 1, 0x0, [⟨5, 5, .wo, 0, false⟩, ⟨4, 4, .wo, 0, false⟩, ⟨3, 3, .wo, 0, false⟩, ⟨2, 2, .wo, 0, false⟩, ⟨1, 1, .rw, 0, false⟩, ⟨0, 0, .rw, 1, false⟩]⟩,
  ⟨0x00070004, 1, 0x0, 1, 0x0, [⟨31, 28, .ro, 0, true⟩, ⟨27, 26, .ro, 0, true⟩, ⟨25, 25, .ro, 0, true⟩, ⟨24, 24, .ro, 0, true⟩, ⟨23, 23, .ro, 0, true⟩, ⟨22, 22, .ro, 0, true⟩, ⟨21, 21, .ro, 0, true⟩, ⟨20, 20, .ro, 0, true⟩, ⟨19, 16, .ro, 0, true⟩]⟩,
  ⟨0x00070008, 1, 0x0, 1, 0x0, [⟨12, 1, .w1c, 0, false⟩]⟩,
  ⟨0x0007000C, 1, 0x0, 1, 0x0, [⟨31, 0, .ro, 0, true⟩]⟩,
  ⟨0x00070010, 1, 0x0, 1, 0x0, [⟨31, 16, .ro, 0, true⟩, ⟨15, 0, .ro, 0, true⟩]⟩,
  ⟨0x00070014, 1, 0x0, 1, 0x0, [⟨31, 0, .ro, 0, true⟩]⟩,
  ⟨0x00070018, 1, 0x0, 1, 0x0, [⟨31, 16, .rc, 0, false⟩, ⟨15, 0, .rc, 0, false⟩]⟩,
  ⟨0x0007001C, 1, 0x0, 1, 0x0, [⟨31, 0, .ro, 0, true⟩]⟩,
  ⟨0x00070020, 1, 0x0, 1, 0x0, [⟨31, 30, .rw, 0, false⟩, ⟨29, 23, .rw, 0, false⟩, ⟨15, 0, .rw, 0, false⟩]⟩,
  ⟨0x00070024, 1, 0x0, 1, 0x0, [⟨31, 0, .rw, 0, false⟩]⟩,
  ⟨0x00070028, 1, 0x0, 1, 0x0, [⟨31, 0, .rw, 0, false⟩]⟩,
  ⟨0x0007002C, 1, 0x0, 1, 0x0, [⟨31, 16, .rw, 0x5A0, false⟩, ⟨15, 0, .rw, 0x19, false⟩]⟩,
  ⟨0x00070030, 1, 0x0, 1, 0x0, [⟨15, 0, .rw, 0x258, false⟩]⟩,
  ⟨0x00070034, 1, 0x0, 1, 0x0, [⟨31, 31, .rw, 0, false⟩, ⟨25, 16, .rw, 0x64, false⟩, ⟨11, 6, .rw, 0xF, false⟩]⟩,
  ⟨0x00070038, 1, 0x0, 1, 0x0, [⟨11, 0, .rw, 0x40, false⟩]⟩,
  ⟨0x0007003C, 1, 0x0, 1, 0x0, [⟨31, 24, .rw, 0, false⟩, ⟨23, 16, .rw, 0, false⟩, ⟨15, 12, .rw, 3, false⟩, ⟨7, 0, .rw, 4, false⟩]⟩,
  ⟨0x00070040, 1, 0x0, 1, 0x0, [⟨31, 16, .rw, 0x10, false⟩, ⟨15, 0, .rw, 0xFFFF, false⟩]⟩]

/-- The registers of block CTG: CTG_CTRL, CTG_STATUS, CTG_EVT, CTG_FILTER, CTG_TYPE, CTG_SERIAL_LO, CTG_SERIAL_HI, CTG_CKPT_AGE, CTG_LIFE_LO, CTG_LIFE_HI, CTG_LIMIT_LO, CTG_LIMIT_HI, CTG_MEM_ADDR, CTG_MEM_DATA, CTG_CNT. -/
def famCTG : List Family := [
  ⟨0x00080000, 1, 0x0, 1, 0x0, [⟨3, 3, .wo, 0, false⟩, ⟨2, 2, .rw, 0, false⟩, ⟨1, 1, .rw, 0, false⟩]⟩,
  ⟨0x00080004, 1, 0x0, 1, 0x0, [⟨31, 29, .ro, 0, true⟩, ⟨28, 28, .ro, 0, true⟩, ⟨27, 27, .ro, 0, true⟩, ⟨26, 26, .ro, 0, true⟩, ⟨25, 23, .ro, 0, true⟩, ⟨22, 22, .ro, 0, true⟩, ⟨21, 21, .ro, 0, true⟩, ⟨20, 20, .ro, 0, true⟩, ⟨19, 19, .ro, 0, true⟩, ⟨18, 18, .ro, 0, true⟩, ⟨15, 0, .ro, 0, true⟩]⟩,
  ⟨0x00080008, 1, 0x0, 1, 0x0, [⟨12, 1, .w1c, 0, false⟩]⟩,
  ⟨0x0008000C, 1, 0x0, 1, 0x0, [⟨2, 0, .rw, 0, false⟩]⟩,
  ⟨0x00080010, 1, 0x0, 1, 0x0, [⟨31, 16, .ro, 0, true⟩, ⟨15, 0, .ro, 0, true⟩]⟩,
  ⟨0x00080014, 1, 0x0, 1, 0x0, [⟨31, 0, .ro, 0, true⟩]⟩,
  ⟨0x00080018, 1, 0x0, 1, 0x0, [⟨31, 0, .ro, 0, true⟩]⟩,
  ⟨0x0008001C, 1, 0x0, 1, 0x0, [⟨31, 0, .ro, 0, true⟩]⟩,
  ⟨0x00080100, 7, 0x8, 1, 0x0, [⟨31, 0, .ro, 0, true⟩]⟩,
  ⟨0x00080104, 7, 0x8, 1, 0x0, [⟨31, 0, .ro, 0, true⟩]⟩,
  ⟨0x00080200, 7, 0x8, 1, 0x0, [⟨31, 0, .ro, 0, true⟩]⟩,
  ⟨0x00080204, 7, 0x8, 1, 0x0, [⟨31, 0, .ro, 0, true⟩]⟩,
  ⟨0x00080300, 1, 0x0, 1, 0x0, [⟨15, 0, .rw, 0, false⟩]⟩,
  ⟨0x00080304, 1, 0x0, 1, 0x0, [⟨31, 0, .ro, 0, true⟩]⟩,
  ⟨0x00080308, 1, 0x0, 1, 0x0, [⟨31, 16, .rc, 0, false⟩, ⟨15, 0, .rc, 0, false⟩]⟩]

/-- The registers of block TRC: TRC_CTRL, TRC_STATUS, TRC_EVT, TRC_REG_CTRL, TRC_INJ_CTRL, TRC_INJ_RP, TRC_CNT, TRC_CNT2, TRC_OPT_LPER_LO, TRC_OPT_LPER_HI, TRC_OPT_STAT, TRC_SLICE_STATUS, TRC_SEG_LINE, TRC_STEP_REG, TRC_STEP_INJ, TRC_ACC_CFG, TRC_ACC_LEN, TRC_ACC_SUM_LO, TRC_ACC_SUM_HI, TRC_ACC_CNT_LO, TRC_ACC_CNT_HI, TRC_TRK_CFG, TRC_TRK_THR, TRC_TRK_VAL, TRC_TRK_STAT. -/
def famTRC : List Family := [
  ⟨0x00090000, 1, 0x0, 1, 0x0, [⟨3, 2, .rw, 0, false⟩, ⟨1, 1, .wo, 0, false⟩, ⟨0, 0, .rw, 0, false⟩]⟩,
  ⟨0x00090004, 1, 0x0, 1, 0x0, [⟨31, 29, .ro, 0, true⟩, ⟨28, 26, .ro, 0, true⟩, ⟨25, 23, .ro, 0, true⟩, ⟨22, 20, .ro, 0, true⟩, ⟨19, 17, .ro, 0, true⟩, ⟨16, 15, .ro, 0, true⟩, ⟨14, 14, .ro, 0, true⟩, ⟨13, 13, .ro, 0, true⟩, ⟨12, 12, .ro, 0, true⟩, ⟨11, 11, .ro, 0, true⟩, ⟨10, 10, .ro, 0, true⟩]⟩,
  ⟨0x00090008, 1, 0x0, 1, 0x0, [⟨12, 1, .w1c, 0, false⟩]⟩,
  ⟨0x0009000C, 1, 0x0, 1, 0x0, [⟨4, 0, .rw, 2, false⟩]⟩,
  ⟨0x00090010, 1, 0x0, 1, 0x0, [⟨28, 24, .rw, 0, false⟩, ⟨23, 20, .rw, 0, false⟩, ⟨19, 19, .rw, 0, false⟩, ⟨18, 18, .rw, 0, false⟩, ⟨17, 17, .rw, 0, false⟩, ⟨2, 0, .rw, 0, false⟩]⟩,
  ⟨0x00090014, 1, 0x0, 1, 0x0, [⟨31, 16, .rw, 0, false⟩, ⟨15, 0, .rw, 0, false⟩]⟩,
  ⟨0x00090018, 1, 0x0, 1, 0x0, [⟨31, 16, .rc, 0, false⟩, ⟨15, 0, .rc, 0, false⟩]⟩,
  ⟨0x0009001C, 1, 0x0, 1, 0x0, [⟨31, 16, .rc, 0, false⟩, ⟨15, 0, .rc, 0, false⟩]⟩,
  ⟨0x00090020, 1, 0x0, 1, 0x0, [⟨31, 0, .ro, 0, true⟩]⟩,
  ⟨0x00090024, 1, 0x0, 1, 0x0, [⟨15, 0, .ro, 0, true⟩]⟩,
  ⟨0x00090028, 1, 0x0, 1, 0x0, [⟨5, 0, .ro, 0, true⟩]⟩,
  ⟨0x00090040, 5, 0x4, 1, 0x0, [⟨31, 16, .rc, 0, false⟩, ⟨15, 8, .ro, 0, true⟩, ⟨4, 2, .ro, 0, true⟩, ⟨1, 0, .ro, 0, true⟩]⟩,
  ⟨0x00090100, 32, 0x4, 1, 0x0, [⟨31, 0, .rw, 0xFFFFFFFF, false⟩]⟩,
  ⟨0x00090200, 32, 0x4, 1, 0x0, [⟨29, 24, .rw, 0x3F, false⟩, ⟨21, 16, .rw, 0x3F, false⟩, ⟨13, 8, .rw, 0x3F, false⟩, ⟨5, 0, .rw, 0x3F, false⟩]⟩,
  ⟨0x00090280, 8, 0x4, 1, 0x0, [⟨29, 24, .rw, 0x3F, false⟩, ⟨21, 16, .rw, 0x3F, false⟩, ⟨13, 8, .rw, 0x3F, false⟩, ⟨5, 0, .rw, 0x3F, false⟩]⟩,
  ⟨0x00091000, 256, 0x10, 1, 0x0, [⟨31, 31, .rw, 0, false⟩, ⟨30, 29, .rw, 0, false⟩, ⟨28, 27, .rw, 0, false⟩, ⟨26, 26, .rw, 0, false⟩, ⟨5, 0, .rw, 0, false⟩]⟩,
  ⟨0x00091004, 256, 0x10, 1, 0x0, [⟨31, 0, .rw, 0, false⟩]⟩,
  ⟨0x00092000, 256, 0x10, 1, 0x0, [⟨31, 0, .ro, 0, true⟩]⟩,
  ⟨0x00092004, 256, 0x10, 1, 0x0, [⟨23, 0, .ro, 0, true⟩]⟩,
  ⟨0x00092008, 256, 0x10, 1, 0x0, [⟨31, 0, .ro, 0, true⟩]⟩,
  ⟨0x0009200C, 256, 0x10, 1, 0x0, [⟨31, 16, .ro, 0, true⟩, ⟨7, 0, .ro, 0, true⟩]⟩,
  ⟨0x00093000, 64, 0x10, 1, 0x0, [⟨31, 31, .rw, 0, false⟩, ⟨30, 29, .rw, 0, false⟩, ⟨28, 28, .rw, 0, false⟩, ⟨27, 26, .rw, 0, false⟩, ⟨25, 25, .rw, 0, false⟩, ⟨5, 0, .rw, 0, false⟩]⟩,
  ⟨0x00093004, 64, 0x10, 1, 0x0, [⟨31, 16, .rw, 0xFFFF, false⟩, ⟨15, 0, .rw, 0, false⟩]⟩,
  ⟨0x00093008, 64, 0x10, 1, 0x0, [⟨31, 16, .rc, 0, true⟩, ⟨15, 0, .rc, 0, true⟩]⟩,
  ⟨0x0009300C, 64, 0x10, 1, 0x0, [⟨31, 31, .ro, 0, true⟩, ⟨15, 0, .rc, 0, false⟩]⟩]

/-- The registers of block TGE: TGE_CTRL, TGE_STATUS, TGE_EVT, TGE_LINE_CFG, TGE_LINE_STATE, TGE_DIFF_CFG, TGE_DIFF_STATE, TGE_FLAGS, TGE_FLAG_SET, TGE_FLAG_CLR, TGE_FLAG_EXT, TGE_ENG_CTRL, TGE_ENG_STATUS, TGE_ENG_CNT, TGE_ENG_INJ, TGE_ENG_XING, TGE_ENG_INJ_STATUS, TGE_ENG_IRQ, TGE_GRP_CODE, TGE_ENG_DROP, TGE_THR_CTRL, TGE_THR_PINS, TGE_THR_CINIT, TGE_THR_AINIT, TGE_THR_BINIT, TGE_THR_STATUS, TGE_THR_TXF, TGE_THR_RXF, TGE_THR_A, TGE_THR_B. -/
def famTGE : List Family := [
  ⟨0x000A0000, 1, 0x0, 1, 0x0, [⟨0, 0, .wo, 0, false⟩]⟩,
  ⟨0x000A0004, 1, 0x0, 1, 0x0, [⟨3, 0, .ro, 0, true⟩]⟩,
  ⟨0x000A0008, 1, 0x0, 1, 0x0, [⟨16, 1, .w1c, 0, false⟩]⟩,
  ⟨0x000A0100, 16, 0x4, 1, 0x0, [⟨15, 12, .rw, 0, false⟩, ⟨8, 8, .rw, 0, false⟩, ⟨7, 7, .rw, 0, false⟩, ⟨6, 6, .rw, 0, false⟩, ⟨5, 4, .rw, 0, false⟩, ⟨2, 0, .rw, 0, false⟩]⟩,
  ⟨0x000A0140, 1, 0x0, 1, 0x0, [⟨31, 16, .ro, 0, true⟩, ⟨15, 0, .ro, 0, true⟩]⟩,
  ⟨0x000A0150, 4, 0x4, 1, 0x0, [⟨15, 12, .rw, 0, false⟩, ⟨8, 8, .rw, 0, false⟩, ⟨7, 7, .rw, 0, false⟩, ⟨6, 6, .rw, 0, false⟩, ⟨5, 4, .rw, 0, false⟩, ⟨2, 0, .rw, 0, false⟩]⟩,
  ⟨0x000A0160, 1, 0x0, 1, 0x0, [⟨7, 4, .ro, 0, true⟩, ⟨3, 0, .ro, 0, true⟩]⟩,
  ⟨0x000A0200, 4, 0x4, 1, 0x0, [⟨31, 0, .ro, 0, true⟩]⟩,
  ⟨0x000A0210, 4, 0x4, 1, 0x0, [⟨31, 0, .w1s, 0, true⟩]⟩,
  ⟨0x000A0220, 4, 0x4, 1, 0x0, [⟨31, 0, .wo, 0, false⟩]⟩,
  ⟨0x000A0230, 4, 0x4, 1, 0x0, [⟨31, 0, .rw, 0, false⟩]⟩,
  ⟨0x000A1000, 4, 0x1000, 1, 0x0, [⟨28, 24, .rw, 0, false⟩, ⟨20, 16, .rw, 0, false⟩, ⟨10, 4, .rw, 0, false⟩, ⟨2, 1, .rw, 0, false⟩, ⟨0, 0, .rw, 0, false⟩]⟩,
  ⟨0x000A1004, 4, 0x1000, 1, 0x0, [⟨31, 16, .ro, 0, true⟩, ⟨8, 8, .ro, 0, true⟩, ⟨7, 0, .ro, 0, true⟩]⟩,
  ⟨0x000A1008, 4, 0x1000, 1, 0x0, [⟨31, 16, .rc, 0, false⟩, ⟨15, 0, .rc, 0, false⟩]⟩,
  ⟨0x000A100C, 4, 0x1000, 1, 0x0, [⟨19, 16, .wo, 0, false⟩, ⟨15, 0, .wo, 0, false⟩]⟩,
  ⟨0x000A1010, 4, 0x1000, 1, 0x0, [⟨31, 31, .rw, 0, false⟩, ⟨29, 24, .rw, 0, false⟩, ⟨23, 23, .rw, 0, false⟩, ⟨21, 16, .rw, 0, false⟩, ⟨15, 15, .rw, 0, false⟩, ⟨13, 8, .rw, 0, false⟩, ⟨7, 7, .rw, 0, false⟩, ⟨5, 0, .rw, 0, false⟩]⟩,
  ⟨0x000A1014, 4, 0x1000, 1, 0x0, [⟨2, 2, .ro, 0, true⟩, ⟨1, 0, .ro, 0, true⟩]⟩,
  ⟨0x000A1018, 4, 0x1000, 1, 0x0, [⟨7, 0, .ro, 0, true⟩]⟩,
  ⟨0x000A1020, 4, 0x1000, 4, 0x4, [⟨24, 16, .rw, 0, false⟩, ⟨8, 0, .rw, 0, false⟩]⟩,
  ⟨0x000A1030, 4, 0x1000, 1, 0x0, [⟨15, 0, .rc, 0, false⟩]⟩,
  ⟨0x000A1100, 4, 0x1000, 16, 0x40, [⟨31, 31, .rw, 0, false⟩, ⟨29, 28, .rw, 0, false⟩, ⟨8, 0, .rw, 0, false⟩]⟩,
  ⟨0x000A1104, 4, 0x1000, 16, 0x40, [⟨20, 16, .rw, 0, false⟩, ⟨10, 8, .rw, 0, false⟩, ⟨4, 0, .rw, 0, false⟩]⟩,
  ⟨0x000A1108, 4, 0x1000, 16, 0x40, [⟨31, 16, .rw, 0, false⟩, ⟨15, 0, .rw, 0, false⟩]⟩,
  ⟨0x000A110C, 4, 0x1000, 16, 0x40, [⟨31, 0, .rw, 0, false⟩]⟩,
  ⟨0x000A1110, 4, 0x1000, 16, 0x40, [⟨31, 0, .rw, 0, false⟩]⟩,
  ⟨0x000A1114, 4, 0x1000, 16, 0x40, [⟨31, 29, .ro, 0, true⟩, ⟨26, 24, .ro, 0, true⟩, ⟨22, 20, .ro, 0, true⟩, ⟨18, 18, .rc, 0, false⟩, ⟨17, 12, .ro, 0, true⟩, ⟨8, 0, .ro, 0, true⟩]⟩,
  ⟨0x000A1118, 4, 0x1000, 16, 0x40, [⟨31, 0, .wo, 0, false⟩]⟩,
  ⟨0x000A111C, 4, 0x1000, 16, 0x40, [⟨31, 0, .rc, 0, true⟩]⟩,
  ⟨0x000A1120, 4, 0x1000, 16, 0x40, [⟨31, 0, .ro, 0, true⟩]⟩,
  ⟨0x000A1124, 4, 0x1000, 16, 0x40, [⟨31, 0, .ro, 0, true⟩]⟩]

/-- The registers of block LNK: LNK_CTRL, LNK_STATUS, LNK_EVT, LNK_EPOCH, LNK_PORT_CFG, LNK_PTP, LNK_MAC_LO, LNK_MAC_HI, LNK_LOAD, LNK_MEM, LNK_MGMT_IP4, LNK_MGMT_GW4, LNK_MGMT_PFX, LNK_P_IP4, LNK_P_GW4, LNK_P_PFX, LNK_P_IP6, LNK_P_GW6, LNK_P_STAT, LNK_P_TXB_LO, LNK_P_TXB_HI, LNK_STR_CTRL, LNK_STR_UDP, LNK_STR_IP, LNK_STR_QUOTA, LNK_STR_QLIM, LNK_STR_CR_SIZE, LNK_STR_CR_PERIOD, LNK_STR_DST, LNK_STR_WSM, LNK_STR_STATUS, LNK_STR_SEQ_LO, LNK_STR_SEQ_HI, LNK_STR_DROPS, LNK_STR_QFILL. -/
def famLNK : List Family := [
  ⟨0x000B0000, 1, 0x0, 1, 0x0, [⟨1, 1, .wo, 0, false⟩, ⟨0, 0, .w1s, 0, false⟩]⟩,
  ⟨0x000B0004, 1, 0x0, 1, 0x0, [⟨31, 28, .ro, 0, true⟩, ⟨27, 27, .ro, 0, true⟩, ⟨26, 26, .ro, 0, true⟩, ⟨25, 25, .ro, 0, true⟩]⟩,
  ⟨0x000B0008, 1, 0x0, 1, 0x0, [⟨16, 1, .w1c, 0, false⟩]⟩,
  ⟨0x000B000C, 1, 0x0, 1, 0x0, [⟨23, 0, .ro, 0, true⟩]⟩,
  ⟨0x000B0010, 1, 0x0, 1, 0x0, [⟨0, 0, .rwl, 0, false⟩]⟩,
  ⟨0x000B0014, 1, 0x0, 1, 0x0, [⟨23, 16, .rwl, 0, false⟩, ⟨15, 8, .rwl, 0, false⟩, ⟨7, 7, .rwl, 0, false⟩, ⟨6, 6, .rwl, 0, false⟩, ⟨5, 5, .rwl, 0, false⟩, ⟨4, 2, .rwl, 0, false⟩]⟩,
  ⟨0x000B0020, 1, 0x0, 1, 0x0, [⟨31, 0, .ro, 0, true⟩]⟩,
  ⟨0x000B0024, 1, 0x0, 1, 0x0, [⟨15, 0, .ro, 0, true⟩]⟩,
  ⟨0x000B0040, 5, 0x4, 1, 0x0, [⟨18, 0, .ro, 0, true⟩]⟩,
  ⟨0x000B0060, 1, 0x0, 1, 0x0, [⟨31, 16, .ro, 0, true⟩, ⟨15, 0, .ro, 0, true⟩]⟩,
  ⟨0x000B0070, 1, 0x0, 1, 0x0, [⟨31, 0, .rwl, 0, false⟩]⟩,
  ⟨0x000B0074, 1, 0x0, 1, 0x0, [⟨31, 0, .rwl, 0, false⟩]⟩,
  ⟨0x000B0078, 1, 0x0, 1, 0x0, [⟨7, 0, .rwl, 0, false⟩]⟩,
  ⟨0x000B0100, 4, 0x40, 1, 0x0, [⟨31, 0, .rwl, 0, false⟩]⟩,
  ⟨0x000B0104, 4, 0x40, 1, 0x0, [⟨31, 0, .rwl, 0, false⟩]⟩,
  ⟨0x000B0108, 4, 0x40, 1, 0x0, [⟨15, 8, .rwl, 0, false⟩, ⟨7, 0, .rwl, 0, false⟩]⟩,
  ⟨0x000B0110, 4, 0x40, 4, 0x4, [⟨31, 0, .rwl, 0, false⟩]⟩,
  ⟨0x000B0120, 4, 0x40, 4, 0x4, [⟨31, 0, .rwl, 0, false⟩]⟩,
  ⟨0x000B0130, 4, 0x40, 1, 0x0, [⟨31, 16, .rc, 0, false⟩, ⟨15, 0, .rc, 0, false⟩]⟩,
  ⟨0x000B0134, 4, 0x40, 1, 0x0, [⟨31, 0, .ro, 0, true⟩]⟩,
  ⟨0x000B0138, 4, 0x40, 1, 0x0, [⟨31, 0, .ro, 0, true⟩]⟩,
  ⟨0x000B1000, 32, 0x80, 1, 0x0, [⟨31, 31, .rw, 0, false⟩, ⟨30, 27, .rw, 0, false⟩, ⟨26, 26, .rw, 0, false⟩, ⟨25, 25, .rw, 0, false⟩, ⟨24, 24, .rw, 0, false⟩, ⟨23, 23, .rw, 0, false⟩, ⟨22, 20, .rw, 0, false⟩, ⟨15, 0, .rw, 0, false⟩]⟩,
  ⟨0x000B1004, 32, 0x80, 1, 0x0, [⟨31, 16, .rw, 0, false⟩, ⟨15, 0, .rw, 0, false⟩]⟩,
  ⟨0x000B1008, 32, 0x80, 1, 0x0, [⟨29, 24, .rw, 0, false⟩, ⟨13, 0, .rw, 0x2328, false⟩]⟩,
  ⟨0x000B100C, 32, 0x80, 1, 0x0, [⟨18, 0, .rw, 0, false⟩]⟩,
  ⟨0x000B1010, 32, 0x80, 1, 0x0, [⟨21, 0, .rw, 0x400, false⟩]⟩,
  ⟨0x000B1014, 32, 0x80, 1, 0x0, [⟨13, 0, .rw, 0, false⟩]⟩,
  ⟨0x000B1018, 32, 0x80, 1, 0x0, [⟨31, 0, .rw, 0, false⟩]⟩,
  ⟨0x000B1020, 32, 0x80, 4, 0x4, [⟨31, 0, .rw, 0, false⟩]⟩,
  ⟨0x000B1040, 32, 0x80, 8, 0x4, [⟨31, 0, .rw, 0, false⟩]⟩,
  ⟨0x000B1060, 32, 0x80, 1, 0x0, [⟨31, 29, .ro, 0, true⟩, ⟨28, 28, .ro, 0, true⟩, ⟨27, 27, .ro, 0, true⟩]⟩,
  ⟨0x000B1064, 32, 0x80, 1, 0x0, [⟨31, 0, .ro, 0, true⟩]⟩,
  ⟨0x000B1068, 32, 0x80, 1, 0x0, [⟨31, 0, .ro, 0, true⟩]⟩,
  ⟨0x000B106C, 32, 0x80, 1, 0x0, [⟨31, 16, .rc, 0, false⟩, ⟨15, 0, .rc, 0, false⟩]⟩,
  ⟨0x000B1070, 32, 0x80, 1, 0x0, [⟨31, 0, .ro, 0, true⟩]⟩]

/-- The registers of block TEN: TEN_CTRL, TEN_STATUS, TEN_EVT, TEN_COMMIT, TEN_COMMIT_STATUS, TEN_KEY_SLOT, TEN_KEY_SALT, TEN_KEY_CMD, TEN_KEY_STATUS, TEN_KEY_DATA, TEN_CNT. -/
def famTEN : List Family := [
  ⟨0x000C0000, 1, 0x0, 1, 0x0, [⟨0, 0, .wo, 0, false⟩]⟩,
  ⟨0x000C0004, 1, 0x0, 1, 0x0, [⟨31, 30, .ro, 0, true⟩, ⟨29, 29, .ro, 0, true⟩, ⟨28, 28, .ro, 0, true⟩, ⟨27, 13, .ro, 0, true⟩, ⟨12, 0, .ro, 0, true⟩]⟩,
  ⟨0x000C0008, 1, 0x0, 1, 0x0, [⟨17, 1, .w1c, 0, false⟩]⟩,
  ⟨0x000C000C, 1, 0x0, 1, 0x0, [⟨31, 31, .wo, 0, false⟩, ⟨11, 0, .wo, 0, false⟩]⟩,
  ⟨0x000C0010, 1, 0x0, 1, 0x0, [⟨31, 30, .ro, 0, true⟩, ⟨19, 12, .ro, 0, true⟩, ⟨11, 0, .ro, 0, true⟩]⟩,
  ⟨0x000C0020, 1, 0x0, 1, 0x0, [⟨12, 0, .rw, 0, false⟩]⟩,
  ⟨0x000C0024, 1, 0x0, 1, 0x0, [⟨31, 0, .wo, 0, false⟩]⟩,
  ⟨0x000C0028, 1, 0x0, 1, 0x0, [⟨1, 0, .wo, 0, false⟩]⟩,
  ⟨0x000C002C, 1, 0x0, 1, 0x0, [⟨31, 31, .ro, 0, true⟩]⟩,
  ⟨0x000C0040, 8, 0x4, 1, 0x0, [⟨31, 0, .wo, 0, false⟩]⟩,
  ⟨0x000C0060, 1, 0x0, 1, 0x0, [⟨31, 16, .rc, 0, false⟩, ⟨15, 0, .rc, 0, false⟩]⟩]

/-- The registers of block MOS: MOS_CTRL, MOS_STATUS, MOS_EVT, MOS_CFG, MOS_TIMING, MOS_VIEW, MOS_OFFSET, MOS_BSEQ, MOS_DIGEST, MOS_ROOT_DIGEST, MOS_CNT, MOS_CNT2, MOS_BREQ, MOS_BREQ_F_LO, MOS_BREQ_F_HI, MOS_BREQ_FN, MOS_PORT_STATUS, MOS_PORT_DELAY, MOS_PORT_ASYM, MOS_PORT_CNT. -/
def famMOS : List Family := [
  ⟨0x000D0000, 1, 0x0, 1, 0x0, [⟨1, 1, .wo, 0, false⟩, ⟨0, 0, .w1s, 0, false⟩]⟩,
  ⟨0x000D0004, 1, 0x0, 1, 0x0, [⟨31, 29, .ro, 0, true⟩, ⟨28, 28, .ro, 0, true⟩, ⟨27, 27, .ro, 0, true⟩, ⟨26, 26, .ro, 0, true⟩, ⟨25, 25, .ro, 0, true⟩, ⟨24, 24, .ro, 0, true⟩, ⟨23, 20, .ro, 0, true⟩, ⟨17, 9, .ro, 0, true⟩, ⟨8, 0, .ro, 0, true⟩]⟩,
  ⟨0x000D0008, 1, 0x0, 1, 0x0, [⟨19, 1, .w1c, 0, false⟩]⟩,
  ⟨0x000D000C, 1, 0x0, 1, 0x0, [⟨31, 31, .rwl, 0, false⟩, ⟨30, 30, .rwl, 0, false⟩, ⟨8, 0, .rwl, 0, false⟩]⟩,
  ⟨0x000D0010, 1, 0x0, 1, 0x0, [⟨31, 16, .rwl, 0x78, false⟩, ⟨15, 8, .rwl, 4, false⟩, ⟨7, 0, .rwl, 0x64, false⟩]⟩,
  ⟨0x000D0014, 1, 0x0, 1, 0x0, [⟨25, 16, .ro, 0, true⟩, ⟨8, 0, .ro, 0, true⟩]⟩,
  ⟨0x000D0018, 1, 0x0, 1, 0x0, [⟨31, 0, .ro, 0, true⟩]⟩,
  ⟨0x000D001C, 1, 0x0, 1, 0x0, [⟨31, 16, .ro, 0, true⟩, ⟨15, 0, .ro, 0, true⟩]⟩,
  ⟨0x000D0020, 8, 0x4, 1, 0x0, [⟨31, 0, .ro, 0, true⟩]⟩,
  ⟨0x000D0040, 8, 0x4, 1, 0x0, [⟨31, 0, .ro, 0, true⟩]⟩,
  ⟨0x000D0060, 1, 0x0, 1, 0x0, [⟨31, 16, .rc, 0, false⟩, ⟨15, 0, .rc, 0, false⟩]⟩,
  ⟨0x000D0064, 1, 0x0, 1, 0x0, [⟨31, 16, .rc, 0, false⟩, ⟨15, 0, .rc, 0, false⟩]⟩,
  ⟨0x000D0070, 1, 0x0, 1, 0x0, [⟨31, 30, .wo, 0, false⟩, ⟨29, 29, .wo, 0, false⟩, ⟨28, 28, .wo, 0, false⟩, ⟨6, 0, .wo, 0, false⟩]⟩,
  ⟨0x000D0074, 1, 0x0, 1, 0x0, [⟨31, 0, .rw, 0, false⟩]⟩,
  ⟨0x000D0078, 1, 0x0, 1, 0x0, [⟨7, 0, .rw, 0, false⟩]⟩,
  ⟨0x000D0080, 32, 0x4, 1, 0x0, [⟨31, 16, .rw, 0, false⟩, ⟨15, 0, .rw, 0, false⟩]⟩,
  ⟨0x000D0100, 2, 0x20, 1, 0x0, [⟨31, 30, .ro, 0, true⟩, ⟨29, 29, .ro, 0, true⟩, ⟨24, 16, .ro, 0, true⟩]⟩,
  ⟨0x000D0104, 2, 0x20, 1, 0x0, [⟨31, 0, .ro, 0, true⟩]⟩,
  ⟨0x000D0108, 2, 0x20, 1, 0x0, [⟨31, 0, .rwl, 0, false⟩]⟩,
  ⟨0x000D010C, 2, 0x20, 1, 0x0, [⟨31, 16, .rc, 0, false⟩, ⟨15, 0, .rc, 0, false⟩]⟩]

/-- The registers of block FUS: FUS_CTRL, FUS_STATUS, FUS_EVT, FUS_WIRES, FUS_PROG_WORD, FUS_PROG_VALUE, FUS_PROG_CMD, FUS_PROG_STATUS, FUS_CNT, FUS_DATA. -/
def famFUS : List Family := [
  ⟨0x000E0000, 1, 0x0, 1, 0x0, [⟨0, 0, .wo, 0, false⟩]⟩,
  ⟨0x000E0004, 1, 0x0, 1, 0x0, [⟨31, 29, .ro, 0, true⟩, ⟨28, 28, .ro, 0, true⟩, ⟨27, 27, .ro, 0, true⟩, ⟨26, 26, .ro, 0, true⟩, ⟨21, 16, .ro, 0, true⟩, ⟨13, 8, .ro, 0, true⟩]⟩,
  ⟨0x000E0008, 1, 0x0, 1, 0x0, [⟨9, 1, .w1c, 0, false⟩]⟩,
  ⟨0x000E000C, 1, 0x0, 1, 0x0, [⟨11, 10, .ro, 0, true⟩, ⟨9, 9, .ro, 0, true⟩, ⟨8, 7, .ro, 0, true⟩, ⟨6, 6, .ro, 0, true⟩, ⟨5, 5, .ro, 0, true⟩, ⟨4, 4, .ro, 0, true⟩, ⟨3, 0, .ro, 0, true⟩]⟩,
  ⟨0x000E0010, 1, 0x0, 1, 0x0, [⟨6, 0, .rw, 0, false⟩]⟩,
  ⟨0x000E0014, 1, 0x0, 1, 0x0, [⟨31, 0, .rw, 0, false⟩]⟩,
  ⟨0x000E0018, 1, 0x0, 1, 0x0, [⟨1, 0, .wo, 0, false⟩]⟩,
  ⟨0x000E001C, 1, 0x0, 1, 0x0, [⟨31, 28, .ro, 0, true⟩, ⟨27, 24, .ro, 0, true⟩]⟩,
  ⟨0x000E0020, 1, 0x0, 1, 0x0, [⟨31, 16, .rc, 0, false⟩, ⟨15, 0, .rc, 0, false⟩]⟩,
  ⟨0x000E0100, 128, 0x4, 1, 0x0, [⟨31, 0, .ro, 0, true⟩]⟩]

/-- The registers of block PWR: PWR_CTRL, PWR_STATUS, PWR_EVT, PWR_BULK, PWR_MAINS, PWR_INPUT, PWR_CBULK, PWR_EREQ, PWR_ERES, PWR_POLICY, PWR_CNT, PWR_DOM_ON, PWR_DOM_FAULT, PWR_DOM_FCLR, PWR_RAIL. -/
def famPWR : List Family := [
  ⟨0x000F0000, 1, 0x0, 1, 0x0, [⟨1, 1, .wo, 0, false⟩, ⟨0, 0, .w1s, 0, false⟩]⟩,
  ⟨0x000F0004, 1, 0x0, 1, 0x0, [⟨31, 30, .ro, 0, true⟩, ⟨29, 29, .ro, 0, true⟩, ⟨28, 28, .ro, 0, true⟩, ⟨27, 24, .ro, 0, true⟩, ⟨19, 0, .ro, 0, true⟩]⟩,
  ⟨0x000F0008, 1, 0x0, 1, 0x0, [⟨14, 1, .w1c, 0, false⟩]⟩,
  ⟨0x000F000C, 1, 0x0, 1, 0x0, [⟨15, 0, .ro, 0, true⟩]⟩,
  ⟨0x000F0010, 1, 0x0, 1, 0x0, [⟨31, 16, .ro, 0, true⟩, ⟨15, 0, .ro, 0, true⟩]⟩,
  ⟨0x000F0014, 1, 0x0, 1, 0x0, [⟨15, 0, .ro, 0, true⟩]⟩,
  ⟨0x000F0018, 1, 0x0, 1, 0x0, [⟨15, 0, .ro, 0, true⟩]⟩,
  ⟨0x000F0020, 5, 0x4, 1, 0x0, [⟨31, 0, .ro, 0, true⟩]⟩,
  ⟨0x000F0034, 1, 0x0, 1, 0x0, [⟨31, 0, .ro, 0, true⟩]⟩,
  ⟨0x000F0040, 1, 0x0, 1, 0x0, [⟨15, 8, .rwl, 0x14, false⟩, ⟨7, 0, .rwl, 0x2D, false⟩]⟩,
  ⟨0x000F0044, 1, 0x0, 1, 0x0, [⟨31, 16, .rc, 0, false⟩, ⟨15, 0, .rc, 0, false⟩]⟩,
  ⟨0x000F0100, 10, 0x4, 1, 0x0, [⟨31, 0, .ro, 0, true⟩]⟩,
  ⟨0x000F0140, 10, 0x4, 1, 0x0, [⟨31, 0, .ro, 0, true⟩]⟩,
  ⟨0x000F0180, 10, 0x4, 1, 0x0, [⟨31, 0, .wo, 0, false⟩]⟩,
  ⟨0x000F0200, 5, 0x4, 1, 0x0, [⟨19, 0, .ro, 0, true⟩]⟩]

/-- The registers of block SUP: SUP_CTRL, SUP_STATUS, SUP_EVT, SUP_WDG_CTRL, SUP_WDG_SVC, SUP_WDG_ELAPSED, SUP_WDG_MON, SUP_LADDER, SUP_MON_CFG, SUP_SLEEP_PER, SUP_L1_COUNT, SUP_L2_COUNT, SUP_L3_COUNT, SUP_WDG_TOTAL, SUP_CAUSE_SEL, SUP_CAUSE, SUP_MON_CNT. -/
def famSUP : List Family := [
  ⟨0x00100000, 1, 0x0, 1, 0x0, [⟨1, 1, .wo, 0, false⟩, ⟨0, 0, .w1s, 0, false⟩]⟩,
  ⟨0x00100004, 1, 0x0, 1, 0x0, [⟨31, 31, .ro, 0, true⟩, ⟨30, 30, .ro, 0, true⟩, ⟨29, 28, .ro, 0, true⟩, ⟨27, 25, .ro, 0, true⟩, ⟨24, 24, .ro, 0, true⟩, ⟨23, 23, .ro, 0, true⟩, ⟨22, 22, .ro, 0, true⟩, ⟨21, 21, .ro, 0, true⟩, ⟨20, 18, .ro, 0, true⟩, ⟨17, 16, .ro, 0, true⟩, ⟨4, 0, .ro, 0, true⟩]⟩,
  ⟨0x00100008, 1, 0x0, 1, 0x0, [⟨15, 1, .w1c, 0, false⟩]⟩,
  ⟨0x00100010, 1, 0x0, 1, 0x0, [⟨31, 31, .w1s, 0, true⟩, ⟨13, 0, .rwl, 0x3E8, false⟩]⟩,
  ⟨0x00100014, 1, 0x0, 1, 0x0, [⟨31, 0, .wo, 0, false⟩]⟩,
  ⟨0x00100018, 1, 0x0, 1, 0x0, [⟨31, 0, .ro, 0, true⟩]⟩,
  ⟨0x0010001C, 1, 0x0, 1, 0x0, [⟨15, 0, .ro, 0, true⟩]⟩,
  ⟨0x00100020, 1, 0x0, 1, 0x0, [⟨28, 16, .rwl, 0x64, false⟩, ⟨10, 0, .rwl, 0x3C, false⟩]⟩,
  ⟨0x00100024, 1, 0x0, 1, 0x0, [⟨3, 0, .rwl, 3, false⟩]⟩,
  ⟨0x00100028, 1, 0x0, 1, 0x0, [⟨15, 0, .rwl, 0xE10, false⟩]⟩,
  ⟨0x00100030, 1, 0x0, 1, 0x0, [⟨31, 0, .ro, 0, true⟩]⟩,
  ⟨0x00100034, 1, 0x0, 1, 0x0, [⟨31, 0, .ro, 0, true⟩]⟩,
  ⟨0x00100038, 1, 0x0, 1, 0x0, [⟨31, 0, .ro, 0, true⟩]⟩,
  ⟨0x0010003C, 1, 0x0, 1, 0x0, [⟨31, 0, .ro, 0, true⟩]⟩,
  ⟨0x00100048, 1, 0x0, 1, 0x0, [⟨3, 0, .rw, 0, false⟩]⟩,
  ⟨0x00100060, 6, 0x4, 1, 0x0, [⟨31, 0, .ro, 0, true⟩]⟩,
  ⟨0x00100080, 5, 0x4, 1, 0x0, [⟨31, 16, .rc, 0, false⟩, ⟨3, 0, .ro, 0, true⟩]⟩]

/-- The registers of block FLT: FLT_CTRL, FLT_STATUS, FLT_EVT, FLT_SEQ, FLT_ACK, FLT_SEL, FLT_ENTRY, FLT_CNT, FLT_CNT2, FLT_LEASE, FLT_AV_SCHED_LO, FLT_AV_SCHED_HI, FLT_AV_SILENT, FLT_AV_GAP, FLT_AV_EXCL. -/
def famFLT : List Family := [
  ⟨0x00110000, 1, 0x0, 1, 0x0, [⟨2, 2, .wo, 0, false⟩, ⟨1, 1, .wo, 0, false⟩]⟩,
  ⟨0x00110004, 1, 0x0, 1, 0x0, [⟨24, 16, .ro, 0, true⟩, ⟨12, 10, .ro, 0, true⟩, ⟨9, 9, .ro, 0, true⟩, ⟨8, 0, .ro, 0, true⟩]⟩,
  ⟨0x00110008, 1, 0x0, 1, 0x0, [⟨7, 1, .w1c, 0, false⟩]⟩,
  ⟨0x0011000C, 1, 0x0, 1, 0x0, [⟨31, 0, .ro, 0, true⟩]⟩,
  ⟨0x00110010, 1, 0x0, 1, 0x0, [⟨31, 0, .wo, 0, false⟩]⟩,
  ⟨0x00110014, 1, 0x0, 1, 0x0, [⟨7, 0, .rw, 0, false⟩]⟩,
  ⟨0x00110020, 8, 0x4, 1, 0x0, [⟨31, 0, .ro, 0, true⟩]⟩,
  ⟨0x00110040, 1, 0x0, 1, 0x0, [⟨31, 16, .rc, 0, false⟩, ⟨15, 0, .rc, 0, false⟩]⟩,
  ⟨0x00110044, 1, 0x0, 1, 0x0, [⟨31, 16, .rc, 0, false⟩, ⟨15, 0, .rc, 0, false⟩]⟩,
  ⟨0x00110080, 8, 0x4, 1, 0x0, [⟨31, 30, .ro, 0, true⟩, ⟨27, 20, .ro, 0, true⟩, ⟨19, 0, .ro, 0, true⟩]⟩,
  ⟨0x001100C0, 1, 0x0, 1, 0x0, [⟨31, 0, .ro, 0, true⟩]⟩,
  ⟨0x001100C4, 1, 0x0, 1, 0x0, [⟨31, 0, .ro, 0, true⟩]⟩,
  ⟨0x001100C8, 1, 0x0, 1, 0x0, [⟨31, 0, .ro, 0, true⟩]⟩,
  ⟨0x001100CC, 1, 0x0, 1, 0x0, [⟨31, 0, .ro, 0, true⟩]⟩,
  ⟨0x001100D0, 1, 0x0, 1, 0x0, [⟨31, 0, .ro, 0, true⟩]⟩]

/-- The registers of block CFG: CFG_CTRL, CFG_STATUS, CFG_EVT, CFG_IMG_SEQ, CFG_IMG_LEN, CFG_FAIL_REC, CFG_FAIL_OFS, CFG_IMG_DIGEST, CFG_FW_VER, CFG_FLASH_STATUS, CFG_FLASH_ADDR, CFG_FLASH_CNT, CFG_BOOT_MS, CFG_KEY_DENSITY, CFG_CHG_STATUS, CFG_CHG_EVT, CFG_CHG_USED, CFG_CHG_STOP_F_LO, CFG_CHG_STOP_F_HI, CFG_CHG_RST_F_LO, CFG_CHG_RST_F_HI, CFG_CHG_CNT, CFG_CHG_LEASE, CFG_LCP_STATUS, CFG_LCP_EVT, CFG_LCP_CNT, CFG_LCP_TIMEOUT. -/
def famCFG : List Family := [
  ⟨0x00120000, 1, 0x0, 1, 0x0, [⟨0, 0, .wo, 0, false⟩]⟩,
  ⟨0x00120004, 1, 0x0, 1, 0x0, [⟨31, 31, .ro, 0, true⟩, ⟨30, 30, .ro, 0, true⟩, ⟨29, 28, .ro, 0, true⟩, ⟨27, 27, .ro, 0, true⟩, ⟨26, 26, .ro, 0, true⟩, ⟨25, 25, .ro, 0, true⟩, ⟨24, 24, .ro, 0, true⟩, ⟨15, 8, .ro, 0, true⟩]⟩,
  ⟨0x00120008, 1, 0x0, 1, 0x0, [⟨16, 1, .w1c, 0, false⟩]⟩,
  ⟨0x0012000C, 1, 0x0, 1, 0x0, [⟨31, 0, .ro, 0, true⟩]⟩,
  ⟨0x00120010, 1, 0x0, 1, 0x0, [⟨31, 0, .ro, 0, true⟩]⟩,
  ⟨0x00120014, 1, 0x0, 1, 0x0, [⟨31, 16, .ro, 0, true⟩, ⟨15, 0, .ro, 0, true⟩]⟩,
  ⟨0x00120018, 1, 0x0, 1, 0x0, [⟨31, 0, .ro, 0, true⟩]⟩,
  ⟨0x00120020, 8, 0x4, 1, 0x0, [⟨31, 0, .ro, 0, true⟩]⟩,
  ⟨0x00120040, 2, 0x4, 1, 0x0, [⟨31, 0, .ro, 0, true⟩]⟩,
  ⟨0x00120080, 2, 0x4, 1, 0x0, [⟨31, 28, .ro, 0, true⟩, ⟨27, 24, .ro, 0, true⟩]⟩,
  ⟨0x00120088, 2, 0x4, 1, 0x0, [⟨31, 0, .ro, 0, true⟩]⟩,
  ⟨0x00120090, 2, 0x4, 1, 0x0, [⟨31, 16, .rc, 0, false⟩, ⟨15, 0, .rc, 0, false⟩]⟩,
  ⟨0x001200A0, 1, 0x0, 1, 0x0, [⟨31, 16, .ro, 0, true⟩, ⟨15, 0, .ro, 0, true⟩]⟩,
  ⟨0x001200A4, 1, 0x0, 1, 0x0, [⟨31, 0, .ro, 0, true⟩]⟩,
  ⟨0x00120100, 1, 0x0, 1, 0x0, [⟨31, 29, .ro, 0, true⟩, ⟨28, 28, .ro, 0, true⟩, ⟨27, 27, .ro, 0, true⟩, ⟨26, 26, .ro, 0, true⟩, ⟨23, 16, .ro, 0, true⟩, ⟨6, 0, .ro, 0, true⟩]⟩,
  ⟨0x00120104, 1, 0x0, 1, 0x0, [⟨8, 1, .w1c, 0, false⟩]⟩,
  ⟨0x00120108, 1, 0x0, 1, 0x0, [⟨22, 0, .ro, 0, true⟩]⟩,
  ⟨0x00120110, 1, 0x0, 1, 0x0, [⟨31, 0, .ro, 0, true⟩]⟩,
  ⟨0x00120114, 1, 0x0, 1, 0x0, [⟨7, 0, .ro, 0, true⟩]⟩,
  ⟨0x00120118, 1, 0x0, 1, 0x0, [⟨31, 0, .ro, 0, true⟩]⟩,
  ⟨0x0012011C, 1, 0x0, 1, 0x0, [⟨7, 0, .ro, 0, true⟩]⟩,
  ⟨0x00120120, 1, 0x0, 1, 0x0, [⟨31, 16, .rc, 0, false⟩, ⟨15, 0, .rc, 0, false⟩]⟩,
  ⟨0x00120124, 1, 0x0, 1, 0x0, [⟨12, 0, .rw, 0x64, false⟩]⟩,
  ⟨0x00120200, 1, 0x0, 1, 0x0, [⟨31, 28, .ro, 0, true⟩, ⟨27, 24, .ro, 0, true⟩]⟩,
  ⟨0x00120204, 1, 0x0, 1, 0x0, [⟨6, 1, .w1c, 0, false⟩]⟩,
  ⟨0x00120208, 1, 0x0, 1, 0x0, [⟨31, 16, .rc, 0, false⟩, ⟨15, 0, .rc, 0, false⟩]⟩,
  ⟨0x0012020C, 1, 0x0, 1, 0x0, [⟨11, 0, .rw, 0x3C, false⟩]⟩]

/-- The registers of a block, by its number (R964). -/
def blockFamilies : Nat → List Family
  | 0 => famGLB
  | 1 => famRRU
  | 2 => famTMB
  | 3 => famSNS
  | 4 => famCRO
  | 5 => famEXS
  | 6 => famPAT
  | 7 => famCAL
  | 8 => famCTG
  | 9 => famTRC
  | 10 => famTGE
  | 11 => famLNK
  | 12 => famTEN
  | 13 => famMOS
  | 14 => famFUS
  | 15 => famPWR
  | 16 => famSUP
  | 17 => famFLT
  | 18 => famCFG
  | _ => []

/-- The array indices at which a family holds an address. -/
def Family.index (f : Family) (a : Nat) : Option (Nat × Nat) :=
  if a < f.base then none
  else
    let off := a - f.base
    let i := if f.s1 = 0 then 0 else off / f.s1
    let r := if f.s1 = 0 then off else off % f.s1
    let j := if f.s2 = 0 then 0 else r / f.s2
    if i < f.n1 ∧ j < f.n2 ∧ f.s1 * i + f.s2 * j = off then some (i, j) else none

/-- The first family of a list that holds an address. -/
def findIn (a : Nat) : List Family → Option Family
  | [] => none
  | f :: fs => if (f.index a).isSome then some f else findIn a fs

/-- R959: the register at an address, none where no chapter assigns one. -/
def findFamily (a : Nat) : Option Family := findIn a (blockFamilies (a / 0x10000))

/-- Bits [hi:lo] as a mask. -/
def FieldDesc.mask (d : FieldDesc) : Word := BitVec.ofNat 32 ((2 ^ (d.hi - d.lo + 1) - 1) * 2 ^ d.lo)

/-- The fields of the register at an address. -/
def fieldsAt (a : Nat) : List FieldDesc :=
  match findFamily a with
  | some f => f.fields
  | none => []

/-- The bits of the fields of a list that satisfy a test. -/
def maskOf (p : FieldDesc → Bool) (ds : List FieldDesc) : Word :=
  ds.foldl (fun m d => if p d then m ||| d.mask else m) 0

/-- The reset value of the register at an address (the sensed fields read 0 in it). -/
def resetWord (a : Nat) : Word :=
  (fieldsAt a).foldl (fun w d => w ||| BitVec.ofNat 32 (d.reset * 2 ^ d.lo)) 0

/-- The number of registers of a family. -/
def Family.count (f : Family) : Nat := f.n1 * f.n2

end Sys2Proof.Machine
end

