-- ==== Sys2Proof/Machine/Fields.lean ====
section
/-! DEFINITION. The names of the register fields and of the registers that the meanings use (R13), with the array index
where the register is one of an array. -/

namespace Sys2Proof.Machine

/-- A field of a register: address, lowest bit, width. -/
structure Fld where
  addr : Nat
  lo : Nat
  w : Nat
  deriving DecidableEq, Repr

namespace R

/-- R960. -/
def GLB_BUS_ERR_READS : Fld := ⟨0x0000003C, 16, 16⟩
/-- R960. -/
def GLB_BUS_ERR_WRITES : Fld := ⟨0x0000003C, 0, 16⟩
/-- R968. -/
def GLB_SCRATCH (i : Nat) : Fld := ⟨0x000000A0 + 0x4 * i, 0, 32⟩
/-- R54. -/
def RRU_SRC_PRIO_COUNT_M1 : Fld := ⟨0x0001000C, 18, 3⟩
/-- R54. -/
def RRU_SRC_PRIO_PRIO5 : Fld := ⟨0x0001000C, 15, 3⟩
/-- R54. -/
def RRU_SRC_PRIO_PRIO4 : Fld := ⟨0x0001000C, 12, 3⟩
/-- R54. -/
def RRU_SRC_PRIO_PRIO3 : Fld := ⟨0x0001000C, 9, 3⟩
/-- R54. -/
def RRU_SRC_PRIO_PRIO2 : Fld := ⟨0x0001000C, 6, 3⟩
/-- R54. -/
def RRU_SRC_PRIO_PRIO1 : Fld := ⟨0x0001000C, 3, 3⟩
/-- R54. -/
def RRU_SRC_PRIO_PRIO0 : Fld := ⟨0x0001000C, 0, 3⟩
/-- R52. -/
def RRU_FAILOVER_REVERT_HOLD : Fld := ⟨0x00010010, 16, 16⟩
/-- R52. -/
def RRU_FAILOVER_COAST_MAX : Fld := ⟨0x00010010, 0, 13⟩
/-- R36. -/
def RRU_TL_TL_ALT : Fld := ⟨0x00010014, 16, 16⟩
/-- R36. -/
def RRU_TL_TL : Fld := ⟨0x00010014, 0, 16⟩
/-- R38. -/
def RRU_TL_VRR_TL_MAX : Fld := ⟨0x00010018, 16, 16⟩
/-- R38. -/
def RRU_TL_VRR_TL_MIN : Fld := ⟨0x00010018, 0, 16⟩
/-- R26. -/
def RRU_GEOM_USE_DE : Fld := ⟨0x0001001C, 7, 1⟩
/-- R26. -/
def RRU_GEOM_DE_POL : Fld := ⟨0x0001001C, 6, 1⟩
/-- R26. -/
def RRU_GEOM_VS_POL : Fld := ⟨0x0001001C, 5, 1⟩
/-- R26. -/
def RRU_GEOM_HS_POL : Fld := ⟨0x0001001C, 4, 1⟩
/-- R26. -/
def RRU_GEOM_TERM : Fld := ⟨0x0001001C, 3, 1⟩
/-- R26. -/
def RRU_GEOM_SYNC_BILEVEL : Fld := ⟨0x0001001C, 2, 1⟩
/-- R26. -/
def RRU_GEOM_VRR_EN : Fld := ⟨0x0001001C, 1, 1⟩
/-- R26. -/
def RRU_GEOM_INTERLACE : Fld := ⟨0x0001001C, 0, 1⟩
/-- R87. -/
def RRU_LPER_LO_LINE_PERIOD_LO : Fld := ⟨0x00010020, 0, 32⟩
/-- R87. -/
def RRU_LPER_HI_LINE_TOL : Fld := ⟨0x00010024, 16, 16⟩
/-- R87. -/
def RRU_LPER_HI_LINE_PERIOD_HI : Fld := ⟨0x00010024, 0, 16⟩
/-- R31. -/
def RRU_EPOCH_SEC_LO : Fld := ⟨0x00010028, 0, 32⟩
/-- R31. -/
def RRU_EPOCH_SEC_HI : Fld := ⟨0x0001002C, 0, 16⟩
/-- R31. -/
def RRU_EPOCH_NS : Fld := ⟨0x00010030, 0, 30⟩
/-- R32. -/
def RRU_OPT_OPT_MINSEG_M1 : Fld := ⟨0x00010034, 0, 5⟩
/-- R94. -/
def RRU_MEAS_LPER_LO : Fld := ⟨0x00010050, 0, 32⟩
/-- R94. -/
def RRU_MEAS_LPER_HI : Fld := ⟨0x00010054, 0, 16⟩
/-- R47. -/
def RRU_CNT_FAILOVERS : Fld := ⟨0x00010064, 16, 16⟩
/-- R47. -/
def RRU_CNT_MISSED : Fld := ⟨0x00010064, 0, 16⟩
/-- R61. -/
def RRU_PLL_CTRL_BW : Fld := ⟨0x00010100, 12, 4⟩
/-- R61. -/
def RRU_PLL_CTRL_BAND_MAN : Fld := ⟨0x00010100, 4, 7⟩
/-- R61. -/
def RRU_PLL_CTRL_BAND_AUTO : Fld := ⟨0x00010100, 3, 1⟩
/-- R61. -/
def RRU_PLL_CTRL_EN : Fld := ⟨0x00010100, 0, 1⟩
/-- R55. -/
def RRU_PLL_NDIV_N : Fld := ⟨0x00010104, 0, 24⟩
/-- R58. -/
def RRU_PLL_LOCK_EVENT_WIN : Fld := ⟨0x00010108, 16, 16⟩
/-- R58. -/
def RRU_PLL_LOCK_LOCK_THR : Fld := ⟨0x00010108, 0, 16⟩
/-- R73. -/
def RRU_OUT_CFG_EN (i : Nat) : Fld := ⟨0x00010200 + 0x4 * i, 31, 1⟩
/-- R73. -/
def RRU_OUT_CFG_DIV_M1 (i : Nat) : Fld := ⟨0x00010200 + 0x4 * i, 16, 12⟩
/-- R73. -/
def RRU_OUT_CFG_DELAY (i : Nat) : Fld := ⟨0x00010200 + 0x4 * i, 0, 10⟩
/-- R77. -/
def RRU_SYS_CTRL_FAILOVER_EN : Fld := ⟨0x00010300, 2, 1⟩
/-- R77. -/
def RRU_SYS_CTRL_SRC : Fld := ⟨0x00010300, 1, 1⟩
/-- R94. -/
def TMB_TB_LO : Fld := ⟨0x00020000, 0, 32⟩
/-- R94. -/
def TMB_TB_HI : Fld := ⟨0x00020004, 0, 32⟩
/-- R98. -/
def TMB_FB_TB_LO : Fld := ⟨0x00020010, 0, 32⟩
/-- R98. -/
def TMB_FB_TB_HI : Fld := ⟨0x00020014, 0, 32⟩
/-- R98. -/
def TMB_FB_F_LO : Fld := ⟨0x00020018, 0, 32⟩
/-- R98. -/
def TMB_FB_F_HI : Fld := ⟨0x0002001C, 0, 8⟩
/-- R99. -/
def TMB_RPTB_LO : Fld := ⟨0x00020020, 0, 32⟩
/-- R99. -/
def TMB_RPTB_HI : Fld := ⟨0x00020024, 0, 32⟩
/-- R129. -/
def TMB_MAKEUP : Fld := ⟨0x00020028, 0, 32⟩
/-- R101. -/
def TMB_TOD_SEC_LO : Fld := ⟨0x00020044, 0, 32⟩
/-- R101. -/
def TMB_TOD_SEC_HI : Fld := ⟨0x00020048, 0, 16⟩
/-- R102. -/
def TMB_TOD_SET_SEC_LO : Fld := ⟨0x00020050, 0, 32⟩
/-- R102. -/
def TMB_TOD_SET_SEC_HI : Fld := ⟨0x00020054, 0, 16⟩
/-- R105. -/
def TMB_TOD_ADJ : Fld := ⟨0x0002005C, 0, 32⟩
/-- R100. -/
def TMB_TOD_FREQ : Fld := ⟨0x00020060, 0, 32⟩
/-- R106. -/
def TMB_TOD_CTRL_SERVO_EN : Fld := ⟨0x00020064, 31, 1⟩
/-- R106. -/
def TMB_TOD_CTRL_TIMEOUT_M1 : Fld := ⟨0x00020064, 20, 8⟩
/-- R106. -/
def TMB_TOD_CTRL_LOCK_THR : Fld := ⟨0x00020064, 0, 20⟩
/-- R107. -/
def TMB_TOD_OFFSET : Fld := ⟨0x0002006C, 0, 32⟩
/-- R114. -/
def TMB_U_CTRL_FREEZE_ON_HALT (i : Nat) : Fld := ⟨0x00021000 + 0x100 * i, 31, 1⟩
/-- R114. -/
def TMB_U_CTRL_LINK_SRC (i : Nat) : Fld := ⟨0x00021000 + 0x100 * i, 28, 3⟩
/-- R114. -/
def TMB_U_CTRL_LINK_ACT (i : Nat) : Fld := ⟨0x00021000 + 0x100 * i, 26, 2⟩
/-- R114. -/
def TMB_U_CTRL_UEV_SEL (i : Nat) : Fld := ⟨0x00021000 + 0x100 * i, 23, 3⟩
/-- R114. -/
def TMB_U_CTRL_CNT_SRC (i : Nat) : Fld := ⟨0x00021000 + 0x100 * i, 20, 3⟩
/-- R114. -/
def TMB_U_CTRL_PSC_M1 (i : Nat) : Fld := ⟨0x00021000 + 0x100 * i, 0, 16⟩
/-- R111. -/
def TMB_U_CNT (i : Nat) : Fld := ⟨0x00021004 + 0x100 * i, 0, 32⟩
/-- R112. -/
def TMB_U_TOP (i : Nat) : Fld := ⟨0x00021008 + 0x100 * i, 0, 32⟩
/-- R126. -/
def TMB_U_FLAGS_OVF (i : Nat) : Fld := ⟨0x0002100C + 0x100 * i, 12, 1⟩
/-- R126. -/
def TMB_U_FLAGS_MISSED (i : Nat) : Fld := ⟨0x0002100C + 0x100 * i, 8, 4⟩
/-- R126. -/
def TMB_U_FLAGS_LATE (i : Nat) : Fld := ⟨0x0002100C + 0x100 * i, 4, 4⟩
/-- R126. -/
def TMB_U_FLAGS_MATCH (i : Nat) : Fld := ⟨0x0002100C + 0x100 * i, 0, 4⟩
/-- R126. -/
def TMB_U_EVT_EN_OVF (i : Nat) : Fld := ⟨0x00021010 + 0x100 * i, 12, 1⟩
/-- R126. -/
def TMB_U_EVT_EN_MATCH (i : Nat) : Fld := ⟨0x00021010 + 0x100 * i, 0, 4⟩
/-- R127. -/
def TMB_U_EVT_DROP_DROP (i : Nat) : Fld := ⟨0x00021014 + 0x100 * i, 0, 16⟩
/-- R117. -/
def TMB_CH_CTRL_EN (i j : Nat) : Fld := ⟨0x00021040 + 0x100 * i + 0x10 * j, 31, 1⟩
/-- R117. -/
def TMB_CH_CTRL_WAKE (i j : Nat) : Fld := ⟨0x00021040 + 0x100 * i + 0x10 * j, 30, 1⟩
/-- R117. -/
def TMB_CH_CTRL_RP_ANYF (i j : Nat) : Fld := ⟨0x00021040 + 0x100 * i + 0x10 * j, 29, 1⟩
/-- R117. -/
def TMB_CH_CTRL_MODE (i j : Nat) : Fld := ⟨0x00021040 + 0x100 * i + 0x10 * j, 0, 2⟩
/-- R117. -/
def TMB_CMP_LO (i j : Nat) : Fld := ⟨0x00021044 + 0x100 * i + 0x10 * j, 0, 32⟩
/-- R117. -/
def TMB_CMP_HI (i j : Nat) : Fld := ⟨0x00021048 + 0x100 * i + 0x10 * j, 0, 32⟩
/-- R118. -/
def TMB_PERIOD_PERIOD_M1 (i j : Nat) : Fld := ⟨0x0002104C + 0x100 * i + 0x10 * j, 0, 32⟩
/-- R870. -/
def SUP_CTRL_CNT_CLR : Fld := ⟨0x00100000, 1, 1⟩
/-- R841. -/
def SUP_WDG_CTRL_EN : Fld := ⟨0x00100010, 31, 1⟩
/-- R841. -/
def SUP_WDG_CTRL_PERIOD : Fld := ⟨0x00100010, 0, 14⟩
/-- R839. -/
def SUP_WDG_SVC : Fld := ⟨0x00100014, 0, 32⟩
/-- R838. -/
def SUP_WDG_ELAPSED : Fld := ⟨0x00100018, 0, 32⟩
/-- R846. -/
def SUP_WDG_MON : Fld := ⟨0x0010001C, 0, 16⟩
/-- R849. -/
def SUP_LADDER_REARM : Fld := ⟨0x00100020, 16, 13⟩
/-- R849. -/
def SUP_LADDER_HOUR : Fld := ⟨0x00100020, 0, 11⟩
/-- R859. -/
def SUP_MON_CFG_STUCK_MAX : Fld := ⟨0x00100024, 0, 4⟩
/-- R866. -/
def SUP_SLEEP_PER : Fld := ⟨0x00100028, 0, 16⟩
/-- R864. -/
def SUP_L1_COUNT : Fld := ⟨0x00100030, 0, 32⟩
/-- R864. -/
def SUP_L2_COUNT : Fld := ⟨0x00100034, 0, 32⟩
/-- R864. -/
def SUP_L3_COUNT : Fld := ⟨0x00100038, 0, 32⟩
/-- R864. -/
def SUP_WDG_TOTAL : Fld := ⟨0x0010003C, 0, 32⟩
/-- R864. -/
def SUP_CAUSE_SEL : Fld := ⟨0x00100048, 0, 4⟩
/-- R864. -/
def SUP_CAUSE (i : Nat) : Fld := ⟨0x00100060 + 0x4 * i, 0, 32⟩
/-- R859. -/
def SUP_MON_CNT_TOTAL (i : Nat) : Fld := ⟨0x00100080 + 0x4 * i, 16, 16⟩
/-- R859. -/
def SUP_MON_CNT_WIN (i : Nat) : Fld := ⟨0x00100080 + 0x4 * i, 0, 4⟩
/-- R878. -/
def FLT_CTRL_ACK_ALL : Fld := ⟨0x00110000, 2, 1⟩
/-- R878. -/
def FLT_CTRL_CNT_CLR : Fld := ⟨0x00110000, 1, 1⟩
/-- R876. -/
def FLT_SEQ : Fld := ⟨0x0011000C, 0, 32⟩
/-- R878. -/
def FLT_ACK : Fld := ⟨0x00110010, 0, 32⟩
/-- R879. -/
def FLT_SEL_INDEX : Fld := ⟨0x00110014, 0, 8⟩
/-- R879. -/
def FLT_ENTRY (i : Nat) : Fld := ⟨0x00110020 + 0x4 * i, 0, 32⟩
/-- R877. -/
def FLT_CNT_LOST : Fld := ⟨0x00110040, 16, 16⟩
/-- R877. -/
def FLT_CNT_NESTED : Fld := ⟨0x00110040, 0, 16⟩
/-- R888. -/
def FLT_CNT2_SUPPRESSED : Fld := ⟨0x00110044, 16, 16⟩
/-- R888. -/
def FLT_CNT2_REVOKED : Fld := ⟨0x00110044, 0, 16⟩
/-- R898. -/
def FLT_AV_SCHED_LO : Fld := ⟨0x001100C0, 0, 32⟩
/-- R898. -/
def FLT_AV_SCHED_HI : Fld := ⟨0x001100C4, 0, 32⟩
/-- R898. -/
def FLT_AV_SILENT : Fld := ⟨0x001100C8, 0, 32⟩
/-- R898. -/
def FLT_AV_GAP : Fld := ⟨0x001100CC, 0, 32⟩
/-- R898. -/
def FLT_AV_EXCL : Fld := ⟨0x001100D0, 0, 32⟩
/-- R157. -/
def SNS_CTRL_CLAMP_SIDE : Fld := ⟨0x00030000, 1, 2⟩
/-- R165. -/
def SNS_COOL_CTRL_EN : Fld := ⟨0x00030010, 31, 1⟩
/-- R165. -/
def SNS_COOL_CTRL_SETPOINT : Fld := ⟨0x00030010, 0, 16⟩
/-- R171. -/
def SNS_BIAS_PIX_VRST : Fld := ⟨0x00030040, 16, 12⟩
/-- R171. -/
def SNS_BIAS_PIX_VPIX : Fld := ⟨0x00030040, 0, 12⟩
/-- R171. -/
def SNS_BIAS_TX_VTX_LO : Fld := ⟨0x00030044, 0, 16⟩
/-- R171. -/
def SNS_ROWDRV_TX_PW : Fld := ⟨0x00030048, 8, 8⟩
/-- R171. -/
def SNS_ROWDRV_RST_PW : Fld := ⟨0x00030048, 0, 8⟩
/-- R158. -/
def SNS_TILE_CTRL_FORCE_OFF (i : Nat) : Fld := ⟨0x00031000 + 0x4 * i, 0, 1⟩
/-- R218. -/
def CRO_LEVELS_SAT_THR : Fld := ⟨0x00040010, 16, 12⟩
/-- R218. -/
def CRO_LEVELS_PEDESTAL : Fld := ⟨0x00040010, 0, 7⟩
/-- R219. -/
def CRO_CLAMP_JUMP : Fld := ⟨0x00040014, 16, 8⟩
/-- R219. -/
def CRO_CLAMP_TC : Fld := ⟨0x00040014, 0, 4⟩
/-- R230. -/
def CRO_CNT_ROWS_LOST : Fld := ⟨0x00040018, 16, 16⟩
/-- R230. -/
def CRO_CNT_CLAMP_REJ : Fld := ⟨0x00040018, 0, 16⟩
/-- R198. -/
def CRO_SB_CTRL_FORCE_OFF (i : Nat) : Fld := ⟨0x00040200 + 0x4 * i, 0, 1⟩
/-- R231. -/
def CRO_LANE_STATUS_CRC_ERR (i : Nat) : Fld := ⟨0x00040400 + 0x4 * i, 16, 16⟩
/-- R203. -/
def CRO_GEO_CTRL_VALID (i : Nat) : Fld := ⟨0x00041000 + 0x40 * i, 31, 1⟩
/-- R203. -/
def CRO_GEO_CTRL_BIN (i : Nat) : Fld := ⟨0x00041000 + 0x40 * i, 27, 2⟩
/-- R203. -/
def CRO_GEO_CTRL_FMT (i : Nat) : Fld := ⟨0x00041000 + 0x40 * i, 25, 2⟩
/-- R203. -/
def CRO_GEO_CTRL_SB_EN (i : Nat) : Fld := ⟨0x00041000 + 0x40 * i, 0, 20⟩
/-- R203. -/
def CRO_GEO_COLS_COL_END16 (i : Nat) : Fld := ⟨0x00041004 + 0x40 * i, 16, 11⟩
/-- R203. -/
def CRO_GEO_COLS_COL_START16 (i : Nat) : Fld := ⟨0x00041004 + 0x40 * i, 0, 11⟩
/-- R203. -/
def CRO_GEO_RGB (i j : Nat) : Fld := ⟨0x00042000 + 0x100 * i + 0x4 * j, 0, 32⟩
/-- R287. -/
def EXS_SLIP_MAX : Fld := ⟨0x0005000C, 0, 32⟩
/-- R293. -/
def EXS_HEARTBEAT : Fld := ⟨0x00050010, 0, 32⟩
/-- R253. -/
def EXS_MAP_USE : Fld := ⟨0x00050030, 0, 4⟩
/-- R270. -/
def EXS_LANE_CTRL_EN (i : Nat) : Fld := ⟨0x00050100 + 0x20 * i, 31, 1⟩
/-- R270. -/
def EXS_LANE_CTRL_PROG (i : Nat) : Fld := ⟨0x00050100 + 0x20 * i, 0, 6⟩
/-- R272. -/
def EXS_LANE_F_LO (i : Nat) : Fld := ⟨0x00050108 + 0x20 * i, 0, 32⟩
/-- R286. -/
def EXS_LANE_CNT_SLIPS (i : Nat) : Fld := ⟨0x00050110 + 0x20 * i, 16, 16⟩
/-- R286. -/
def EXS_LANE_CNT_ABANDONED (i : Nat) : Fld := ⟨0x00050110 + 0x20 * i, 0, 16⟩
/-- R286. -/
def EXS_LANE_MAXSLIP (i : Nat) : Fld := ⟨0x00050114 + 0x20 * i, 0, 32⟩
/-- R262. -/
def EXS_LANE_SKIP (i : Nat) : Fld := ⟨0x00050118 + 0x20 * i, 0, 16⟩
/-- R265. -/
def EXS_LANE_RGB (i j : Nat) : Fld := ⟨0x00051000 + 0x100 * i + 0x4 * j, 0, 32⟩
/-- R314. -/
def EXS_FU_DUAL_T_HI : Fld := ⟨0x00050800, 16, 12⟩
/-- R314. -/
def EXS_FU_DUAL_T_LO : Fld := ⟨0x00050800, 0, 12⟩
/-- R343. -/
def EXS_FU_STATUS_PEND_MAX : Fld := ⟨0x00050804, 16, 12⟩
/-- R323. -/
def EXS_FU_CNT_EARLY_CLOSE : Fld := ⟨0x0005080C, 16, 16⟩
/-- R323. -/
def EXS_FU_CNT_PARTIAL : Fld := ⟨0x0005080C, 0, 16⟩
/-- R318. -/
def EXS_FU_LANE_MODE (i : Nat) : Fld := ⟨0x00050820 + 0x4 * i, 0, 1⟩
/-- R366. -/
def PAT_CNT_EARLY_CLOSE : Fld := ⟨0x0006000C, 16, 16⟩
/-- R366. -/
def PAT_CNT_OVF : Fld := ⟨0x0006000C, 0, 16⟩
/-- R391. -/
def PAT_DOSE_RATE : Fld := ⟨0x00060020, 0, 32⟩
/-- R392. -/
def PAT_DOSE_INC : Fld := ⟨0x00060024, 0, 32⟩
/-- R394. -/
def PAT_SLICE_STATUS_MAX_SEG (i : Nat) : Fld := ⟨0x00060100 + 0x4 * i, 8, 8⟩
/-- R402. -/
def PAT_SET_CTRL_EN (i : Nat) : Fld := ⟨0x00061000 + 0x10 * i, 31, 1⟩
/-- R402. -/
def PAT_SET_CTRL_K_M1 (i : Nat) : Fld := ⟨0x00061000 + 0x10 * i, 0, 16⟩
/-- R369. -/
def PAT_SET_IVL_LO (i : Nat) : Fld := ⟨0x00061008 + 0x10 * i, 0, 32⟩
/-- R410. -/
def CAL_CTRL_DRIFT_EN : Fld := ⟨0x00070000, 1, 1⟩
/-- R410. -/
def CAL_CTRL_AUTO_EN : Fld := ⟨0x00070000, 0, 1⟩
/-- R433. -/
def CAL_GEN : Fld := ⟨0x0007000C, 0, 32⟩
/-- R410. -/
def CAL_AGE : Fld := ⟨0x00070014, 0, 32⟩
/-- R426. -/
def CAL_CNT_NOT_DARK : Fld := ⟨0x00070018, 16, 16⟩
/-- R426. -/
def CAL_CNT_ABORTS : Fld := ⟨0x00070018, 0, 16⟩
/-- R416. -/
def CAL_EST : Fld := ⟨0x0007001C, 0, 32⟩
/-- R414. -/
def CAL_SLOT_MODE : Fld := ⟨0x00070020, 30, 2⟩
/-- R414. -/
def CAL_SLOT_FLAG_IDX : Fld := ⟨0x00070020, 23, 7⟩
/-- R414. -/
def CAL_SLOT_SLOT_LEN_M1 : Fld := ⟨0x00070020, 0, 16⟩
/-- R414. -/
def CAL_PERIOD_PERIOD_M1 : Fld := ⟨0x00070024, 0, 32⟩
/-- R414. -/
def CAL_PHASE_PHASE : Fld := ⟨0x00070028, 0, 32⟩
/-- R410. -/
def CAL_TRIG_MAX_AGE : Fld := ⟨0x0007002C, 16, 16⟩
/-- R410. -/
def CAL_TRIG_TEMP_DELTA : Fld := ⟨0x0007002C, 0, 16⟩
/-- R413. -/
def CAL_STALE_MAX : Fld := ⟨0x00070030, 0, 16⟩
/-- R419. -/
def CAL_DARK_DRATE_EN : Fld := ⟨0x00070034, 31, 1⟩
/-- R419. -/
def CAL_DARK_LEN_RATE : Fld := ⟨0x00070034, 16, 10⟩
/-- R419. -/
def CAL_DARK_N_DARK_M1 : Fld := ⟨0x00070034, 6, 6⟩
/-- R419. -/
def CAL_LEN_OFS : Fld := ⟨0x00070038, 0, 12⟩
/-- R425. -/
def CAL_LIGHT_FLK_ACC1 : Fld := ⟨0x0007003C, 24, 8⟩
/-- R425. -/
def CAL_LIGHT_FLK_ACC0 : Fld := ⟨0x0007003C, 16, 8⟩
/-- R425. -/
def CAL_LIGHT_ABORT_LIMIT : Fld := ⟨0x0007003C, 12, 4⟩
/-- R425. -/
def CAL_LIGHT_LIGHT_DN : Fld := ⟨0x0007003C, 0, 8⟩
/-- R425. -/
def CAL_FLK_DRIFT_DN : Fld := ⟨0x00070040, 16, 16⟩
/-- R425. -/
def CAL_FLK_FLK_LIMIT : Fld := ⟨0x00070040, 0, 16⟩
/-- R457. -/
def CTG_CTRL_SHUT : Fld := ⟨0x00080000, 2, 1⟩
/-- R457. -/
def CTG_CTRL_POLICY : Fld := ⟨0x00080000, 1, 1⟩
/-- R447. -/
def CTG_FILTER_POS : Fld := ⟨0x0008000C, 0, 3⟩
/-- R460. -/
def CTG_SERIAL_LO : Fld := ⟨0x00080014, 0, 32⟩
/-- R460. -/
def CTG_SERIAL_HI : Fld := ⟨0x00080018, 0, 32⟩
/-- R472. -/
def CTG_CKPT_AGE : Fld := ⟨0x0008001C, 0, 32⟩
/-- R463. -/
def CTG_MEM_ADDR_A : Fld := ⟨0x00080300, 0, 16⟩
/-- R463. -/
def CTG_MEM_DATA : Fld := ⟨0x00080304, 0, 32⟩
/-- R466. -/
def CTG_CNT_CKPT_FAIL : Fld := ⟨0x00080308, 16, 16⟩
/-- R466. -/
def CTG_CNT_AUTH_FAIL : Fld := ⟨0x00080308, 0, 16⟩
/-- R491. -/
def TRC_CTRL_REF_SEL : Fld := ⟨0x00090000, 2, 2⟩
/-- R491. -/
def TRC_CTRL_CNT_CLR : Fld := ⟨0x00090000, 1, 1⟩
/-- R491. -/
def TRC_CTRL_REG_EN : Fld := ⟨0x00090000, 0, 1⟩
/-- R495. -/
def TRC_REG_CTRL_REG_COUNT_M1 : Fld := ⟨0x0009000C, 0, 5⟩
/-- R496. -/
def TRC_INJ_CTRL_TIMER_CH : Fld := ⟨0x00090010, 24, 5⟩
/-- R496. -/
def TRC_INJ_CTRL_TGE_MASK : Fld := ⟨0x00090010, 20, 4⟩
/-- R496. -/
def TRC_INJ_CTRL_RASTER_EN : Fld := ⟨0x00090010, 19, 1⟩
/-- R496. -/
def TRC_INJ_CTRL_TGE_EN : Fld := ⟨0x00090010, 18, 1⟩
/-- R496. -/
def TRC_INJ_CTRL_TIMER_EN : Fld := ⟨0x00090010, 17, 1⟩
/-- R496. -/
def TRC_INJ_CTRL_INJ_COUNT_M1 : Fld := ⟨0x00090010, 0, 3⟩
/-- R496. -/
def TRC_INJ_RP_L : Fld := ⟨0x00090014, 16, 16⟩
/-- R496. -/
def TRC_INJ_RP_PHI : Fld := ⟨0x00090014, 0, 16⟩
/-- R497. -/
def TRC_CNT_INJ_RUNS : Fld := ⟨0x00090018, 16, 16⟩
/-- R497. -/
def TRC_CNT_ABORTS : Fld := ⟨0x00090018, 0, 16⟩
/-- R506. -/
def TRC_CNT2_XING_DROP : Fld := ⟨0x0009001C, 16, 16⟩
/-- R506. -/
def TRC_CNT2_PENDED : Fld := ⟨0x0009001C, 0, 16⟩
/-- R509. -/
def TRC_OPT_LPER_LO : Fld := ⟨0x00090020, 0, 32⟩
/-- R498. -/
def TRC_SLICE_STATUS_DROPS (i : Nat) : Fld := ⟨0x00090040 + 0x4 * i, 16, 16⟩
/-- R507. -/
def TRC_SEG_LINE (i : Nat) : Fld := ⟨0x00090100 + 0x4 * i, 0, 32⟩
/-- R495. -/
def TRC_STEP_REG_IN_P3 (i : Nat) : Fld := ⟨0x00090200 + 0x4 * i, 24, 6⟩
/-- R495. -/
def TRC_STEP_REG_IN_P2 (i : Nat) : Fld := ⟨0x00090200 + 0x4 * i, 16, 6⟩
/-- R495. -/
def TRC_STEP_REG_IN_P1 (i : Nat) : Fld := ⟨0x00090200 + 0x4 * i, 8, 6⟩
/-- R495. -/
def TRC_STEP_REG_IN_P0 (i : Nat) : Fld := ⟨0x00090200 + 0x4 * i, 0, 6⟩
/-- R496. -/
def TRC_STEP_INJ_IN_P3 (i : Nat) : Fld := ⟨0x00090280 + 0x4 * i, 24, 6⟩
/-- R496. -/
def TRC_STEP_INJ_IN_P2 (i : Nat) : Fld := ⟨0x00090280 + 0x4 * i, 16, 6⟩
/-- R496. -/
def TRC_STEP_INJ_IN_P1 (i : Nat) : Fld := ⟨0x00090280 + 0x4 * i, 8, 6⟩
/-- R496. -/
def TRC_STEP_INJ_IN_P0 (i : Nat) : Fld := ⟨0x00090280 + 0x4 * i, 0, 6⟩
/-- R501. -/
def TRC_ACC_CFG_EN (i : Nat) : Fld := ⟨0x00091000 + 0x10 * i, 31, 1⟩
/-- R501. -/
def TRC_ACC_CFG_MODE (i : Nat) : Fld := ⟨0x00091000 + 0x10 * i, 29, 2⟩
/-- R501. -/
def TRC_ACC_CFG_SRC (i : Nat) : Fld := ⟨0x00091000 + 0x10 * i, 27, 2⟩
/-- R501. -/
def TRC_ACC_CFG_STREAM (i : Nat) : Fld := ⟨0x00091000 + 0x10 * i, 26, 1⟩
/-- R501. -/
def TRC_ACC_CFG_INPUT (i : Nat) : Fld := ⟨0x00091000 + 0x10 * i, 0, 6⟩
/-- R501. -/
def TRC_ACC_LEN (i : Nat) : Fld := ⟨0x00091004 + 0x10 * i, 0, 32⟩
/-- R503. -/
def TRC_ACC_SUM_HI (i : Nat) : Fld := ⟨0x00092004 + 0x10 * i, 0, 24⟩
/-- R504. -/
def TRC_TRK_CFG_EN (i : Nat) : Fld := ⟨0x00093000 + 0x10 * i, 31, 1⟩
/-- R504. -/
def TRC_TRK_CFG_EDGE (i : Nat) : Fld := ⟨0x00093000 + 0x10 * i, 29, 2⟩
/-- R504. -/
def TRC_TRK_CFG_OPT (i : Nat) : Fld := ⟨0x00093000 + 0x10 * i, 28, 1⟩
/-- R504. -/
def TRC_TRK_CFG_SRC (i : Nat) : Fld := ⟨0x00093000 + 0x10 * i, 26, 2⟩
/-- R504. -/
def TRC_TRK_CFG_XSTREAM (i : Nat) : Fld := ⟨0x00093000 + 0x10 * i, 25, 1⟩
/-- R504. -/
def TRC_TRK_CFG_INPUT (i : Nat) : Fld := ⟨0x00093000 + 0x10 * i, 0, 6⟩
/-- R504. -/
def TRC_TRK_THR_THR_HI (i : Nat) : Fld := ⟨0x00093004 + 0x10 * i, 16, 16⟩
/-- R504. -/
def TRC_TRK_THR_THR_LO (i : Nat) : Fld := ⟨0x00093004 + 0x10 * i, 0, 16⟩
/-- R504. -/
def TRC_TRK_STAT_CROSSINGS (i : Nat) : Fld := ⟨0x0009300C + 0x10 * i, 0, 16⟩
/-- R530. -/
def TGE_FLAG_SET (i : Nat) : Fld := ⟨0x000A0210 + 0x4 * i, 0, 32⟩
/-- R530. -/
def TGE_FLAG_CLR (i : Nat) : Fld := ⟨0x000A0220 + 0x4 * i, 0, 32⟩
/-- R544. -/
def TGE_FLAG_EXT (i : Nat) : Fld := ⟨0x000A0230 + 0x4 * i, 0, 32⟩
/-- R537. -/
def TGE_ENG_CTRL_TMR_B_CH (i : Nat) : Fld := ⟨0x000A1000 + 0x1000 * i, 24, 5⟩
/-- R537. -/
def TGE_ENG_CTRL_TMR_A_CH (i : Nat) : Fld := ⟨0x000A1000 + 0x1000 * i, 16, 5⟩
/-- R537. -/
def TGE_ENG_CTRL_FORCE_FLAG (i : Nat) : Fld := ⟨0x000A1000 + 0x1000 * i, 4, 7⟩
/-- R537. -/
def TGE_ENG_CTRL_STALL_POL (i : Nat) : Fld := ⟨0x000A1000 + 0x1000 * i, 1, 2⟩
/-- R537. -/
def TGE_ENG_CTRL_MODE (i : Nat) : Fld := ⟨0x000A1000 + 0x1000 * i, 0, 1⟩
/-- R545. -/
def TGE_ENG_CNT_STALLS (i : Nat) : Fld := ⟨0x000A1008 + 0x1000 * i, 16, 16⟩
/-- R545. -/
def TGE_ENG_CNT_PIN_DENY (i : Nat) : Fld := ⟨0x000A1008 + 0x1000 * i, 0, 16⟩
/-- R524. -/
def TGE_ENG_XING_EN3 (i : Nat) : Fld := ⟨0x000A1010 + 0x1000 * i, 31, 1⟩
/-- R524. -/
def TGE_ENG_XING_TRK3 (i : Nat) : Fld := ⟨0x000A1010 + 0x1000 * i, 24, 6⟩
/-- R524. -/
def TGE_ENG_XING_EN2 (i : Nat) : Fld := ⟨0x000A1010 + 0x1000 * i, 23, 1⟩
/-- R524. -/
def TGE_ENG_XING_TRK2 (i : Nat) : Fld := ⟨0x000A1010 + 0x1000 * i, 16, 6⟩
/-- R524. -/
def TGE_ENG_XING_EN1 (i : Nat) : Fld := ⟨0x000A1010 + 0x1000 * i, 15, 1⟩
/-- R524. -/
def TGE_ENG_XING_TRK1 (i : Nat) : Fld := ⟨0x000A1010 + 0x1000 * i, 8, 6⟩
/-- R524. -/
def TGE_ENG_XING_EN0 (i : Nat) : Fld := ⟨0x000A1010 + 0x1000 * i, 7, 1⟩
/-- R524. -/
def TGE_ENG_XING_TRK0 (i : Nat) : Fld := ⟨0x000A1010 + 0x1000 * i, 0, 6⟩
/-- R520. -/
def TGE_GRP_CODE_CODE_HI (i j : Nat) : Fld := ⟨0x000A1020 + 0x1000 * i + 0x4 * j, 16, 9⟩
/-- R520. -/
def TGE_GRP_CODE_CODE_LO (i j : Nat) : Fld := ⟨0x000A1020 + 0x1000 * i + 0x4 * j, 0, 9⟩
/-- R548. -/
def TGE_ENG_DROP (i : Nat) : Fld := ⟨0x000A1030 + 0x1000 * i, 0, 16⟩
/-- R520. -/
def TGE_THR_CTRL_EN (i j : Nat) : Fld := ⟨0x000A1100 + 0x1000 * i + 0x40 * j, 31, 1⟩
/-- R520. -/
def TGE_THR_CTRL_GROUP (i j : Nat) : Fld := ⟨0x000A1100 + 0x1000 * i + 0x40 * j, 28, 2⟩
/-- R520. -/
def TGE_THR_CTRL_ORIGIN (i j : Nat) : Fld := ⟨0x000A1100 + 0x1000 * i + 0x40 * j, 0, 9⟩
/-- R534. -/
def TGE_THR_PINS_JPIN (i j : Nat) : Fld := ⟨0x000A1104 + 0x1000 * i + 0x40 * j, 16, 5⟩
/-- R534. -/
def TGE_THR_PINS_PG_WIDTH_M1 (i j : Nat) : Fld := ⟨0x000A1104 + 0x1000 * i + 0x40 * j, 8, 3⟩
/-- R534. -/
def TGE_THR_PINS_PG_BASE (i j : Nat) : Fld := ⟨0x000A1104 + 0x1000 * i + 0x40 * j, 0, 5⟩
/-- R522. -/
def TGE_THR_CINIT_C1_INIT (i j : Nat) : Fld := ⟨0x000A1108 + 0x1000 * i + 0x40 * j, 16, 16⟩
/-- R522. -/
def TGE_THR_CINIT_C0_INIT (i j : Nat) : Fld := ⟨0x000A1108 + 0x1000 * i + 0x40 * j, 0, 16⟩
/-- R522. -/
def TGE_THR_AINIT (i j : Nat) : Fld := ⟨0x000A110C + 0x1000 * i + 0x40 * j, 0, 32⟩
/-- R522. -/
def TGE_THR_BINIT (i j : Nat) : Fld := ⟨0x000A1110 + 0x1000 * i + 0x40 * j, 0, 32⟩
/-- R518. -/
def TGE_THR_STATUS_OVR (i j : Nat) : Fld := ⟨0x000A1114 + 0x1000 * i + 0x40 * j, 18, 1⟩
/-- R547. -/
def TGE_THR_TXF (i j : Nat) : Fld := ⟨0x000A1118 + 0x1000 * i + 0x40 * j, 0, 32⟩
/-- R547. -/
def TGE_THR_RXF (i j : Nat) : Fld := ⟨0x000A111C + 0x1000 * i + 0x40 * j, 0, 32⟩
/-- R565. -/
def CFG_IMG_SEQ : Fld := ⟨0x0012000C, 0, 32⟩
/-- R565. -/
def CFG_IMG_LEN : Fld := ⟨0x00120010, 0, 32⟩
/-- R571. -/
def CFG_FAIL_OFS : Fld := ⟨0x00120018, 0, 32⟩
/-- R575. -/
def CFG_IMG_DIGEST (i : Nat) : Fld := ⟨0x00120020 + 0x4 * i, 0, 32⟩
/-- R587. -/
def CFG_FW_VER (i : Nat) : Fld := ⟨0x00120040 + 0x4 * i, 0, 32⟩
/-- R583. -/
def CFG_FLASH_ADDR (i : Nat) : Fld := ⟨0x00120088 + 0x4 * i, 0, 32⟩
/-- R583. -/
def CFG_FLASH_CNT_NOT_BLANK (i : Nat) : Fld := ⟨0x00120090 + 0x4 * i, 16, 16⟩
/-- R583. -/
def CFG_FLASH_CNT_ERRORS (i : Nat) : Fld := ⟨0x00120090 + 0x4 * i, 0, 16⟩
/-- R558. -/
def CFG_KEY_DENSITY : Fld := ⟨0x001200A4, 0, 32⟩
/-- R597. -/
def CFG_CHG_STATUS_STATE : Fld := ⟨0x00120100, 29, 3⟩
/-- R602. -/
def CFG_CHG_USED : Fld := ⟨0x00120108, 0, 23⟩
/-- R598. -/
def CFG_CHG_STOP_F_LO : Fld := ⟨0x00120110, 0, 32⟩
/-- R598. -/
def CFG_CHG_STOP_F_HI : Fld := ⟨0x00120114, 0, 8⟩
/-- R604. -/
def CFG_CHG_RST_F_LO : Fld := ⟨0x00120118, 0, 32⟩
/-- R604. -/
def CFG_CHG_RST_F_HI : Fld := ⟨0x0012011C, 0, 8⟩
/-- R603. -/
def CFG_CHG_CNT_NONATOMIC : Fld := ⟨0x00120120, 16, 16⟩
/-- R603. -/
def CFG_CHG_CNT_REVOKED : Fld := ⟨0x00120120, 0, 16⟩
/-- R616. -/
def CFG_CHG_LEASE : Fld := ⟨0x00120124, 0, 13⟩
/-- R623. -/
def LNK_PORT_CFG_MODE : Fld := ⟨0x000B0010, 0, 1⟩
/-- R657. -/
def LNK_PTP_DELAY_REQ_LOG : Fld := ⟨0x000B0014, 16, 8⟩
/-- R657. -/
def LNK_PTP_DOMAIN : Fld := ⟨0x000B0014, 8, 8⟩
/-- R657. -/
def LNK_PTP_EN : Fld := ⟨0x000B0014, 7, 1⟩
/-- R657. -/
def LNK_PTP_PROFILE : Fld := ⟨0x000B0014, 6, 1⟩
/-- R657. -/
def LNK_PTP_TRANSPORT : Fld := ⟨0x000B0014, 5, 1⟩
/-- R657. -/
def LNK_PTP_PORT : Fld := ⟨0x000B0014, 2, 3⟩
/-- R661. -/
def LNK_MAC_LO : Fld := ⟨0x000B0020, 0, 32⟩
/-- R700. -/
def LNK_MGMT_IP4 : Fld := ⟨0x000B0070, 0, 32⟩
/-- R700. -/
def LNK_MGMT_GW4 : Fld := ⟨0x000B0074, 0, 32⟩
/-- R700. -/
def LNK_MGMT_PFX_PREFIX4 : Fld := ⟨0x000B0078, 0, 8⟩
/-- R625. -/
def LNK_P_IP4 (i : Nat) : Fld := ⟨0x000B0100 + 0x40 * i, 0, 32⟩
/-- R625. -/
def LNK_P_GW4 (i : Nat) : Fld := ⟨0x000B0104 + 0x40 * i, 0, 32⟩
/-- R625. -/
def LNK_P_PFX_PREFIX6 (i : Nat) : Fld := ⟨0x000B0108 + 0x40 * i, 8, 8⟩
/-- R625. -/
def LNK_P_PFX_PREFIX4 (i : Nat) : Fld := ⟨0x000B0108 + 0x40 * i, 0, 8⟩
/-- R625. -/
def LNK_P_IP6 (i j : Nat) : Fld := ⟨0x000B0110 + 0x40 * i + 0x4 * j, 0, 32⟩
/-- R625. -/
def LNK_P_GW6 (i j : Nat) : Fld := ⟨0x000B0120 + 0x40 * i + 0x4 * j, 0, 32⟩
/-- R624. -/
def LNK_P_STAT_RX_DROP (i : Nat) : Fld := ⟨0x000B0130 + 0x40 * i, 16, 16⟩
/-- R661. -/
def LNK_P_TXB_LO (i : Nat) : Fld := ⟨0x000B0134 + 0x40 * i, 0, 32⟩
/-- R630. -/
def LNK_STR_CTRL_EN (i : Nat) : Fld := ⟨0x000B1000 + 0x80 * i, 31, 1⟩
/-- R630. -/
def LNK_STR_CTRL_TYPES (i : Nat) : Fld := ⟨0x000B1000 + 0x80 * i, 27, 4⟩
/-- R630. -/
def LNK_STR_CTRL_IPV6 (i : Nat) : Fld := ⟨0x000B1000 + 0x80 * i, 26, 1⟩
/-- R630. -/
def LNK_STR_CTRL_ENC (i : Nat) : Fld := ⟨0x000B1000 + 0x80 * i, 25, 1⟩
/-- R630. -/
def LNK_STR_CTRL_CR (i : Nat) : Fld := ⟨0x000B1000 + 0x80 * i, 24, 1⟩
/-- R630. -/
def LNK_STR_CTRL_RETAIN (i : Nat) : Fld := ⟨0x000B1000 + 0x80 * i, 23, 1⟩
/-- R630. -/
def LNK_STR_CTRL_PORT (i : Nat) : Fld := ⟨0x000B1000 + 0x80 * i, 20, 3⟩
/-- R630. -/
def LNK_STR_CTRL_GEO_MASK (i : Nat) : Fld := ⟨0x000B1000 + 0x80 * i, 0, 16⟩
/-- R661. -/
def LNK_STR_UDP_DST_PORT (i : Nat) : Fld := ⟨0x000B1004 + 0x80 * i, 16, 16⟩
/-- R661. -/
def LNK_STR_UDP_SRC_PORT (i : Nat) : Fld := ⟨0x000B1004 + 0x80 * i, 0, 16⟩
/-- R660. -/
def LNK_STR_IP_DSCP (i : Nat) : Fld := ⟨0x000B1008 + 0x80 * i, 24, 6⟩
/-- R660. -/
def LNK_STR_IP_MTU (i : Nat) : Fld := ⟨0x000B1008 + 0x80 * i, 0, 14⟩
/-- R648. -/
def LNK_STR_QUOTA_QUOTA (i : Nat) : Fld := ⟨0x000B100C + 0x80 * i, 0, 19⟩
/-- R651. -/
def LNK_STR_QLIM_QLIM (i : Nat) : Fld := ⟨0x000B1010 + 0x80 * i, 0, 22⟩
/-- R646. -/
def LNK_STR_CR_SIZE (i : Nat) : Fld := ⟨0x000B1014 + 0x80 * i, 0, 14⟩
/-- R646. -/
def LNK_STR_CR_PERIOD (i : Nat) : Fld := ⟨0x000B1018 + 0x80 * i, 0, 32⟩
/-- R661. -/
def LNK_STR_DST (i j : Nat) : Fld := ⟨0x000B1020 + 0x80 * i + 0x4 * j, 0, 32⟩
/-- R630. -/
def LNK_STR_WSM (i j : Nat) : Fld := ⟨0x000B1040 + 0x80 * i + 0x4 * j, 0, 32⟩
/-- R637. -/
def LNK_STR_SEQ_LO (i : Nat) : Fld := ⟨0x000B1064 + 0x80 * i, 0, 32⟩
/-- R651. -/
def LNK_STR_DROPS_RESULTS (i : Nat) : Fld := ⟨0x000B106C + 0x80 * i, 16, 16⟩
/-- R651. -/
def LNK_STR_DROPS_RETX_REFUSED (i : Nat) : Fld := ⟨0x000B106C + 0x80 * i, 0, 16⟩
/-- R674. -/
def TEN_KEY_SLOT : Fld := ⟨0x000C0020, 0, 13⟩
/-- R681. -/
def TEN_CNT_UNKNOWN : Fld := ⟨0x000C0060, 16, 16⟩
/-- R681. -/
def TEN_CNT_STORE_FAIL : Fld := ⟨0x000C0060, 0, 16⟩
/-- R708. -/
def CFG_LCP_CNT_DROPPED : Fld := ⟨0x00120208, 16, 16⟩
/-- R708. -/
def CFG_LCP_CNT_AUTH_FAIL : Fld := ⟨0x00120208, 0, 16⟩
/-- R709. -/
def CFG_LCP_TIMEOUT_TIMEOUT : Fld := ⟨0x0012020C, 0, 12⟩
/-- R774. -/
def MOS_CTRL_CNT_CLR : Fld := ⟨0x000D0000, 1, 1⟩
/-- R733. -/
def MOS_CFG_ROOT_CLAIM : Fld := ⟨0x000D000C, 31, 1⟩
/-- R733. -/
def MOS_CFG_HALT : Fld := ⟨0x000D000C, 30, 1⟩
/-- R733. -/
def MOS_CFG_MOSAIC_ID : Fld := ⟨0x000D000C, 0, 9⟩
/-- R774. -/
def MOS_TIMING_ROOT_HOLD : Fld := ⟨0x000D0010, 16, 16⟩
/-- R774. -/
def MOS_TIMING_START_LEAD : Fld := ⟨0x000D0010, 8, 8⟩
/-- R774. -/
def MOS_TIMING_ARM_TIMEOUT : Fld := ⟨0x000D0010, 0, 8⟩
/-- R764. -/
def MOS_CNT_REROUTES : Fld := ⟨0x000D0060, 16, 16⟩
/-- R764. -/
def MOS_CNT_MISSED : Fld := ⟨0x000D0060, 0, 16⟩
/-- R755. -/
def MOS_CNT2_RECONCILED : Fld := ⟨0x000D0064, 16, 16⟩
/-- R755. -/
def MOS_CNT2_RESYNCS : Fld := ⟨0x000D0064, 0, 16⟩
/-- R761. -/
def MOS_BREQ_CMD : Fld := ⟨0x000D0070, 30, 2⟩
/-- R761. -/
def MOS_BREQ_SPLIT_OK : Fld := ⟨0x000D0070, 29, 1⟩
/-- R761. -/
def MOS_BREQ_DISCARD : Fld := ⟨0x000D0070, 28, 1⟩
/-- R761. -/
def MOS_BREQ_NFN : Fld := ⟨0x000D0070, 0, 7⟩
/-- R761. -/
def MOS_BREQ_F_LO : Fld := ⟨0x000D0074, 0, 32⟩
/-- R761. -/
def MOS_BREQ_F_HI : Fld := ⟨0x000D0078, 0, 8⟩
/-- R742. -/
def MOS_PORT_ASYM (i : Nat) : Fld := ⟨0x000D0108 + 0x20 * i, 0, 32⟩
/-- R738. -/
def MOS_PORT_CNT_CRC_ERR (i : Nat) : Fld := ⟨0x000D010C + 0x20 * i, 16, 16⟩
/-- R738. -/
def MOS_PORT_CNT_LINK_DOWN (i : Nat) : Fld := ⟨0x000D010C + 0x20 * i, 0, 16⟩
/-- R797. -/
def FUS_PROG_WORD_WORD : Fld := ⟨0x000E0010, 0, 7⟩
/-- R797. -/
def FUS_PROG_VALUE_VALUE : Fld := ⟨0x000E0014, 0, 32⟩
/-- R786. -/
def FUS_CNT_WEAK : Fld := ⟨0x000E0020, 16, 16⟩
/-- R786. -/
def FUS_CNT_PROG_FAIL : Fld := ⟨0x000E0020, 0, 16⟩
/-- R836. -/
def PWR_POLICY_LINK_HOLD : Fld := ⟨0x000F0040, 8, 8⟩
/-- R836. -/
def PWR_POLICY_COOL_CAP : Fld := ⟨0x000F0040, 0, 8⟩
/-- R820. -/
def PWR_CNT_WAITS : Fld := ⟨0x000F0044, 16, 16⟩
/-- R820. -/
def PWR_CNT_SKIPPED : Fld := ⟨0x000F0044, 0, 16⟩
/-- R812. -/
def PWR_DOM_FCLR (i : Nat) : Fld := ⟨0x000F0180 + 0x4 * i, 0, 32⟩

end R

namespace A

/-- R963. -/
def GLB_ID : Nat := 0x00000000
/-- R960. -/
def GLB_CTRL : Nat := 0x00000004
/-- R6. -/
def GLB_STATE : Nat := 0x00000008
/-- R784. -/
def GLB_VARIANT : Nat := 0x0000000C
/-- R974. -/
def GLB_SERIAL_LO : Nat := 0x00000010
/-- R974. -/
def GLB_SERIAL_HI : Nat := 0x00000014
/-- R974. -/
def GLB_DATE : Nat := 0x00000018
/-- R964. -/
def GLB_FW_VER : Nat := 0x0000001C
/-- R964. -/
def GLB_ROM_VER : Nat := 0x00000020
/-- R974. -/
def GLB_START : Nat := 0x00000024
/-- R964. -/
def GLB_STATE_TB_LO : Nat := 0x00000028
/-- R964. -/
def GLB_STATE_TB_HI : Nat := 0x0000002C
/-- R968. -/
def GLB_POWERON : Nat := 0x00000030
/-- R964. -/
def GLB_EVT_SUM : Nat := 0x00000034
/-- R970. -/
def GLB_LOCKS : Nat := 0x00000038
/-- R960. -/
def GLB_BUS_ERR : Nat := 0x0000003C
/-- R964. -/
def GLB_DIE_ID (i : Nat) : Nat := 0x00000040 + 0x4 * i
/-- R968. -/
def GLB_STATE_CNT (i : Nat) : Nat := 0x00000060 + 0x4 * i
/-- R968. -/
def GLB_STATE_SEC (i : Nat) : Nat := 0x00000080 + 0x4 * i
/-- R968. -/
def GLB_SCRATCH (i : Nat) : Nat := 0x000000A0 + 0x4 * i
/-- R966. -/
def GLB_DEVKEY (i : Nat) : Nat := 0x00000100 + 0x4 * i
/-- R966. -/
def GLB_DEVCERT (i : Nat) : Nat := 0x00000140 + 0x4 * i
/-- R967. -/
def GLB_BLOCK_VER (i : Nat) : Nat := 0x00000180 + 0x4 * i
/-- R77. -/
def RRU_CTRL : Nat := 0x00010000
/-- R69. -/
def RRU_STATUS : Nat := 0x00010004
/-- R54. -/
def RRU_SRC_PRIO : Nat := 0x0001000C
/-- R52. -/
def RRU_FAILOVER : Nat := 0x00010010
/-- R36. -/
def RRU_TL : Nat := 0x00010014
/-- R38. -/
def RRU_TL_VRR : Nat := 0x00010018
/-- R26. -/
def RRU_GEOM : Nat := 0x0001001C
/-- R87. -/
def RRU_LPER_LO : Nat := 0x00010020
/-- R87. -/
def RRU_LPER_HI : Nat := 0x00010024
/-- R31. -/
def RRU_EPOCH_SEC_LO : Nat := 0x00010028
/-- R31. -/
def RRU_EPOCH_SEC_HI : Nat := 0x0001002C
/-- R31. -/
def RRU_EPOCH_NS : Nat := 0x00010030
/-- R32. -/
def RRU_OPT : Nat := 0x00010034
/-- R94. -/
def RRU_RP_F_LO : Nat := 0x00010040
/-- R94. -/
def RRU_RP_F_HI : Nat := 0x00010044
/-- R94. -/
def RRU_RP_LP : Nat := 0x00010048
/-- R94. -/
def RRU_MEAS_LPER_LO : Nat := 0x00010050
/-- R94. -/
def RRU_MEAS_LPER_HI : Nat := 0x00010054
/-- R38. -/
def RRU_MEAS_TL : Nat := 0x00010058
/-- R38. -/
def RRU_MEAS_TLX : Nat := 0x0001005C
/-- R58. -/
def RRU_PHASE_ERR : Nat := 0x00010060
/-- R61. -/
def RRU_PLL_CTRL : Nat := 0x00010100
/-- R55. -/
def RRU_PLL_NDIV : Nat := 0x00010104
/-- R58. -/
def RRU_PLL_LOCK : Nat := 0x00010108
/-- R61. -/
def RRU_PLL_CW : Nat := 0x0001010C
/-- R64. -/
def RRU_PLL_RESTART : Nat := 0x00010110
/-- R73. -/
def RRU_OUT_CFG (i : Nat) : Nat := 0x00010200 + 0x4 * i
/-- R77. -/
def RRU_SYS_CTRL : Nat := 0x00010300
/-- R76. -/
def RRU_SYS_STATUS : Nat := 0x00010304
/-- R94. -/
def TMB_TB_LO : Nat := 0x00020000
/-- R94. -/
def TMB_TB_HI : Nat := 0x00020004
/-- R98. -/
def TMB_FB_TB_LO : Nat := 0x00020010
/-- R98. -/
def TMB_FB_TB_HI : Nat := 0x00020014
/-- R98. -/
def TMB_FB_F_LO : Nat := 0x00020018
/-- R98. -/
def TMB_FB_F_HI : Nat := 0x0002001C
/-- R99. -/
def TMB_RPTB_LO : Nat := 0x00020020
/-- R99. -/
def TMB_RPTB_HI : Nat := 0x00020024
/-- R129. -/
def TMB_MAKEUP : Nat := 0x00020028
/-- R101. -/
def TMB_TOD_NS : Nat := 0x00020040
/-- R101. -/
def TMB_TOD_SEC_LO : Nat := 0x00020044
/-- R101. -/
def TMB_TOD_SEC_HI : Nat := 0x00020048
/-- R102. -/
def TMB_TOD_SET_SEC_LO : Nat := 0x00020050
/-- R102. -/
def TMB_TOD_SET_SEC_HI : Nat := 0x00020054
/-- R102. -/
def TMB_TOD_SET_NS : Nat := 0x00020058
/-- R105. -/
def TMB_TOD_ADJ : Nat := 0x0002005C
/-- R100. -/
def TMB_TOD_FREQ : Nat := 0x00020060
/-- R106. -/
def TMB_TOD_CTRL : Nat := 0x00020064
/-- R107. -/
def TMB_TOD_STATUS : Nat := 0x00020068
/-- R107. -/
def TMB_TOD_OFFSET : Nat := 0x0002006C
/-- R114. -/
def TMB_U_CTRL (i : Nat) : Nat := 0x00021000 + 0x100 * i
/-- R111. -/
def TMB_U_CNT (i : Nat) : Nat := 0x00021004 + 0x100 * i
/-- R112. -/
def TMB_U_TOP (i : Nat) : Nat := 0x00021008 + 0x100 * i
/-- R126. -/
def TMB_U_FLAGS (i : Nat) : Nat := 0x0002100C + 0x100 * i
/-- R117. -/
def TMB_CH_CTRL (i j : Nat) : Nat := 0x00021040 + 0x100 * i + 0x10 * j
/-- R117. -/
def TMB_CMP_LO (i j : Nat) : Nat := 0x00021044 + 0x100 * i + 0x10 * j
/-- R117. -/
def TMB_CMP_HI (i j : Nat) : Nat := 0x00021048 + 0x100 * i + 0x10 * j
/-- R870. -/
def SUP_CTRL : Nat := 0x00100000
/-- R841. -/
def SUP_STATUS : Nat := 0x00100004
/-- R841. -/
def SUP_WDG_CTRL : Nat := 0x00100010
/-- R839. -/
def SUP_WDG_SVC : Nat := 0x00100014
/-- R838. -/
def SUP_WDG_ELAPSED : Nat := 0x00100018
/-- R846. -/
def SUP_WDG_MON : Nat := 0x0010001C
/-- R849. -/
def SUP_LADDER : Nat := 0x00100020
/-- R859. -/
def SUP_MON_CFG : Nat := 0x00100024
/-- R866. -/
def SUP_SLEEP_PER : Nat := 0x00100028
/-- R864. -/
def SUP_L1_COUNT : Nat := 0x00100030
/-- R864. -/
def SUP_L2_COUNT : Nat := 0x00100034
/-- R864. -/
def SUP_L3_COUNT : Nat := 0x00100038
/-- R864. -/
def SUP_WDG_TOTAL : Nat := 0x0010003C
/-- R864. -/
def SUP_CAUSE_SEL : Nat := 0x00100048
/-- R864. -/
def SUP_CAUSE (i : Nat) : Nat := 0x00100060 + 0x4 * i
/-- R859. -/
def SUP_MON_CNT (i : Nat) : Nat := 0x00100080 + 0x4 * i
/-- R878. -/
def FLT_CTRL : Nat := 0x00110000
/-- R876. -/
def FLT_STATUS : Nat := 0x00110004
/-- R876. -/
def FLT_SEQ : Nat := 0x0011000C
/-- R878. -/
def FLT_ACK : Nat := 0x00110010
/-- R879. -/
def FLT_ENTRY (i : Nat) : Nat := 0x00110020 + 0x4 * i
/-- R877. -/
def FLT_CNT : Nat := 0x00110040
/-- R888. -/
def FLT_CNT2 : Nat := 0x00110044
/-- R887. -/
def FLT_LEASE (i : Nat) : Nat := 0x00110080 + 0x4 * i
/-- R898. -/
def FLT_AV_SCHED_LO : Nat := 0x001100C0
/-- R898. -/
def FLT_AV_SCHED_HI : Nat := 0x001100C4
/-- R898. -/
def FLT_AV_SILENT : Nat := 0x001100C8
/-- R898. -/
def FLT_AV_GAP : Nat := 0x001100CC
/-- R898. -/
def FLT_AV_EXCL : Nat := 0x001100D0
/-- R157. -/
def SNS_CTRL : Nat := 0x00030000
/-- R166. -/
def SNS_STATUS : Nat := 0x00030004
/-- R165. -/
def SNS_COOL_CTRL : Nat := 0x00030010
/-- R166. -/
def SNS_TEMP : Nat := 0x00030014
/-- R168. -/
def SNS_COOL_PWR : Nat := 0x00030018
/-- R171. -/
def SNS_BIAS_PIX : Nat := 0x00030040
/-- R171. -/
def SNS_BIAS_TX : Nat := 0x00030044
/-- R171. -/
def SNS_ROWDRV : Nat := 0x00030048
/-- R158. -/
def SNS_TILE_CTRL (i : Nat) : Nat := 0x00031000 + 0x4 * i
/-- R230. -/
def CRO_CTRL : Nat := 0x00040000
/-- R232. -/
def CRO_STATUS : Nat := 0x00040004
/-- R218. -/
def CRO_LEVELS : Nat := 0x00040010
/-- R219. -/
def CRO_CLAMP : Nat := 0x00040014
/-- R230. -/
def CRO_CNT : Nat := 0x00040018
/-- R198. -/
def CRO_SB_CTRL (i : Nat) : Nat := 0x00040200 + 0x4 * i
/-- R203. -/
def CRO_GEO_CTRL (i : Nat) : Nat := 0x00041000 + 0x40 * i
/-- R203. -/
def CRO_GEO_COLS (i : Nat) : Nat := 0x00041004 + 0x40 * i
/-- R203. -/
def CRO_GEO_RGB (i j : Nat) : Nat := 0x00042000 + 0x100 * i + 0x4 * j
/-- R286. -/
def EXS_CTRL : Nat := 0x00050000
/-- R271. -/
def EXS_STATUS : Nat := 0x00050004
/-- R287. -/
def EXS_SLIP_MAX : Nat := 0x0005000C
/-- R293. -/
def EXS_HEARTBEAT : Nat := 0x00050010
/-- R253. -/
def EXS_MAP_USE : Nat := 0x00050030
/-- R270. -/
def EXS_LANE_CTRL (i : Nat) : Nat := 0x00050100 + 0x20 * i
/-- R272. -/
def EXS_LANE_F_LO (i : Nat) : Nat := 0x00050108 + 0x20 * i
/-- R286. -/
def EXS_LANE_CNT (i : Nat) : Nat := 0x00050110 + 0x20 * i
/-- R286. -/
def EXS_LANE_MAXSLIP (i : Nat) : Nat := 0x00050114 + 0x20 * i
/-- R262. -/
def EXS_LANE_SKIP (i : Nat) : Nat := 0x00050118 + 0x20 * i
/-- R265. -/
def EXS_LANE_RGB (i j : Nat) : Nat := 0x00051000 + 0x100 * i + 0x4 * j
/-- R314. -/
def EXS_FU_DUAL : Nat := 0x00050800
/-- R343. -/
def EXS_FU_STATUS : Nat := 0x00050804
/-- R318. -/
def EXS_FU_LANE (i : Nat) : Nat := 0x00050820 + 0x4 * i
/-- R366. -/
def PAT_CTRL : Nat := 0x00060000
/-- R374. -/
def PAT_STATUS : Nat := 0x00060004
/-- R366. -/
def PAT_CNT : Nat := 0x0006000C
/-- R386. -/
def PAT_TW : Nat := 0x00060010
/-- R391. -/
def PAT_DOSE_RATE : Nat := 0x00060020
/-- R392. -/
def PAT_DOSE_INC : Nat := 0x00060024
/-- R402. -/
def PAT_SET_CTRL (i : Nat) : Nat := 0x00061000 + 0x10 * i
/-- R369. -/
def PAT_SET_IVL_LO (i : Nat) : Nat := 0x00061008 + 0x10 * i
/-- R410. -/
def CAL_CTRL : Nat := 0x00070000
/-- R410. -/
def CAL_STATUS : Nat := 0x00070004
/-- R433. -/
def CAL_GEN : Nat := 0x0007000C
/-- R424. -/
def CAL_TEMP : Nat := 0x00070010
/-- R410. -/
def CAL_AGE : Nat := 0x00070014
/-- R426. -/
def CAL_CNT : Nat := 0x00070018
/-- R416. -/
def CAL_EST : Nat := 0x0007001C
/-- R414. -/
def CAL_PERIOD : Nat := 0x00070024
/-- R414. -/
def CAL_PHASE : Nat := 0x00070028
/-- R410. -/
def CAL_TRIG : Nat := 0x0007002C
/-- R413. -/
def CAL_STALE_MAX : Nat := 0x00070030
/-- R419. -/
def CAL_DARK : Nat := 0x00070034
/-- R419. -/
def CAL_LEN_OFS : Nat := 0x00070038
/-- R425. -/
def CAL_LIGHT : Nat := 0x0007003C
/-- R425. -/
def CAL_FLK : Nat := 0x00070040
/-- R457. -/
def CTG_CTRL : Nat := 0x00080000
/-- R457. -/
def CTG_STATUS : Nat := 0x00080004
/-- R447. -/
def CTG_FILTER : Nat := 0x0008000C
/-- R460. -/
def CTG_TYPE : Nat := 0x00080010
/-- R460. -/
def CTG_SERIAL_LO : Nat := 0x00080014
/-- R460. -/
def CTG_SERIAL_HI : Nat := 0x00080018
/-- R472. -/
def CTG_CKPT_AGE : Nat := 0x0008001C
/-- R463. -/
def CTG_MEM_DATA : Nat := 0x00080304
/-- R491. -/
def TRC_CTRL : Nat := 0x00090000
/-- R497. -/
def TRC_CNT : Nat := 0x00090018
/-- R506. -/
def TRC_CNT2 : Nat := 0x0009001C
/-- R509. -/
def TRC_OPT_LPER_LO : Nat := 0x00090020
/-- R507. -/
def TRC_SEG_LINE (i : Nat) : Nat := 0x00090100 + 0x4 * i
/-- R495. -/
def TRC_STEP_REG (i : Nat) : Nat := 0x00090200 + 0x4 * i
/-- R496. -/
def TRC_STEP_INJ (i : Nat) : Nat := 0x00090280 + 0x4 * i
/-- R501. -/
def TRC_ACC_CFG (i : Nat) : Nat := 0x00091000 + 0x10 * i
/-- R501. -/
def TRC_ACC_LEN (i : Nat) : Nat := 0x00091004 + 0x10 * i
/-- R503. -/
def TRC_ACC_SUM_HI (i : Nat) : Nat := 0x00092004 + 0x10 * i
/-- R504. -/
def TRC_TRK_CFG (i : Nat) : Nat := 0x00093000 + 0x10 * i
/-- R504. -/
def TRC_TRK_THR (i : Nat) : Nat := 0x00093004 + 0x10 * i
/-- R548. -/
def TGE_CTRL : Nat := 0x000A0000
/-- R527. -/
def TGE_LINE_CFG (i : Nat) : Nat := 0x000A0100 + 0x4 * i
/-- R527. -/
def TGE_DIFF_CFG (i : Nat) : Nat := 0x000A0150 + 0x4 * i
/-- R530. -/
def TGE_FLAG_SET (i : Nat) : Nat := 0x000A0210 + 0x4 * i
/-- R530. -/
def TGE_FLAG_CLR (i : Nat) : Nat := 0x000A0220 + 0x4 * i
/-- R544. -/
def TGE_FLAG_EXT (i : Nat) : Nat := 0x000A0230 + 0x4 * i
/-- R545. -/
def TGE_ENG_CNT (i : Nat) : Nat := 0x000A1008 + 0x1000 * i
/-- R541. -/
def TGE_ENG_INJ (i : Nat) : Nat := 0x000A100C + 0x1000 * i
/-- R524. -/
def TGE_ENG_XING (i : Nat) : Nat := 0x000A1010 + 0x1000 * i
/-- R520. -/
def TGE_GRP_CODE (i j : Nat) : Nat := 0x000A1020 + 0x1000 * i + 0x4 * j
/-- R548. -/
def TGE_ENG_DROP (i : Nat) : Nat := 0x000A1030 + 0x1000 * i
/-- R520. -/
def TGE_THR_CTRL (i j : Nat) : Nat := 0x000A1100 + 0x1000 * i + 0x40 * j
/-- R534. -/
def TGE_THR_PINS (i j : Nat) : Nat := 0x000A1104 + 0x1000 * i + 0x40 * j
/-- R522. -/
def TGE_THR_CINIT (i j : Nat) : Nat := 0x000A1108 + 0x1000 * i + 0x40 * j
/-- R522. -/
def TGE_THR_AINIT (i j : Nat) : Nat := 0x000A110C + 0x1000 * i + 0x40 * j
/-- R522. -/
def TGE_THR_BINIT (i j : Nat) : Nat := 0x000A1110 + 0x1000 * i + 0x40 * j
/-- R518. -/
def TGE_THR_STATUS (i j : Nat) : Nat := 0x000A1114 + 0x1000 * i + 0x40 * j
/-- R547. -/
def TGE_THR_TXF (i j : Nat) : Nat := 0x000A1118 + 0x1000 * i + 0x40 * j
/-- R547. -/
def TGE_THR_RXF (i j : Nat) : Nat := 0x000A111C + 0x1000 * i + 0x40 * j
/-- R593. -/
def CFG_CTRL : Nat := 0x00120000
/-- R562. -/
def CFG_STATUS : Nat := 0x00120004
/-- R565. -/
def CFG_IMG_SEQ : Nat := 0x0012000C
/-- R565. -/
def CFG_IMG_LEN : Nat := 0x00120010
/-- R571. -/
def CFG_FAIL_REC : Nat := 0x00120014
/-- R571. -/
def CFG_FAIL_OFS : Nat := 0x00120018
/-- R575. -/
def CFG_IMG_DIGEST (i : Nat) : Nat := 0x00120020 + 0x4 * i
/-- R587. -/
def CFG_FW_VER (i : Nat) : Nat := 0x00120040 + 0x4 * i
/-- R583. -/
def CFG_FLASH_STATUS (i : Nat) : Nat := 0x00120080 + 0x4 * i
/-- R583. -/
def CFG_FLASH_ADDR (i : Nat) : Nat := 0x00120088 + 0x4 * i
/-- R583. -/
def CFG_FLASH_CNT (i : Nat) : Nat := 0x00120090 + 0x4 * i
/-- R555. -/
def CFG_BOOT_MS : Nat := 0x001200A0
/-- R558. -/
def CFG_KEY_DENSITY : Nat := 0x001200A4
/-- R602. -/
def CFG_CHG_USED : Nat := 0x00120108
/-- R598. -/
def CFG_CHG_STOP_F_LO : Nat := 0x00120110
/-- R598. -/
def CFG_CHG_STOP_F_HI : Nat := 0x00120114
/-- R604. -/
def CFG_CHG_RST_F_LO : Nat := 0x00120118
/-- R604. -/
def CFG_CHG_RST_F_HI : Nat := 0x0012011C
/-- R616. -/
def CFG_CHG_LEASE : Nat := 0x00120124
/-- R662. -/
def LNK_CTRL : Nat := 0x000B0000
/-- R657. -/
def LNK_PTP : Nat := 0x000B0014
/-- R661. -/
def LNK_MAC_LO : Nat := 0x000B0020
/-- R700. -/
def LNK_MGMT_IP4 : Nat := 0x000B0070
/-- R700. -/
def LNK_MGMT_GW4 : Nat := 0x000B0074
/-- R625. -/
def LNK_P_IP4 (i : Nat) : Nat := 0x000B0100 + 0x40 * i
/-- R625. -/
def LNK_P_GW4 (i : Nat) : Nat := 0x000B0104 + 0x40 * i
/-- R625. -/
def LNK_P_IP6 (i j : Nat) : Nat := 0x000B0110 + 0x40 * i + 0x4 * j
/-- R625. -/
def LNK_P_GW6 (i j : Nat) : Nat := 0x000B0120 + 0x40 * i + 0x4 * j
/-- R624. -/
def LNK_P_STAT (i : Nat) : Nat := 0x000B0130 + 0x40 * i
/-- R661. -/
def LNK_P_TXB_LO (i : Nat) : Nat := 0x000B0134 + 0x40 * i
/-- R646. -/
def LNK_STR_CR_SIZE (i : Nat) : Nat := 0x000B1014 + 0x80 * i
/-- R646. -/
def LNK_STR_CR_PERIOD (i : Nat) : Nat := 0x000B1018 + 0x80 * i
/-- R661. -/
def LNK_STR_DST (i j : Nat) : Nat := 0x000B1020 + 0x80 * i + 0x4 * j
/-- R630. -/
def LNK_STR_WSM (i j : Nat) : Nat := 0x000B1040 + 0x80 * i + 0x4 * j
/-- R637. -/
def LNK_STR_SEQ_LO (i : Nat) : Nat := 0x000B1064 + 0x80 * i
/-- R651. -/
def LNK_STR_DROPS (i : Nat) : Nat := 0x000B106C + 0x80 * i
/-- R667. -/
def TEN_CTRL : Nat := 0x000C0000
/-- R669. -/
def TEN_COMMIT : Nat := 0x000C000C
/-- R674. -/
def TEN_KEY_SLOT : Nat := 0x000C0020
/-- R674. -/
def TEN_KEY_CMD : Nat := 0x000C0028
/-- R681. -/
def TEN_CNT : Nat := 0x000C0060
/-- R704. -/
def CFG_LCP_STATUS : Nat := 0x00120200
/-- R709. -/
def CFG_LCP_TIMEOUT : Nat := 0x0012020C
/-- R774. -/
def MOS_CTRL : Nat := 0x000D0000
/-- R764. -/
def MOS_CNT : Nat := 0x000D0060
/-- R755. -/
def MOS_CNT2 : Nat := 0x000D0064
/-- R761. -/
def MOS_BREQ : Nat := 0x000D0070
/-- R761. -/
def MOS_BREQ_F_LO : Nat := 0x000D0074
/-- R761. -/
def MOS_BREQ_F_HI : Nat := 0x000D0078
/-- R761. -/
def MOS_BREQ_FN (i : Nat) : Nat := 0x000D0080 + 0x4 * i
/-- R742. -/
def MOS_PORT_ASYM (i : Nat) : Nat := 0x000D0108 + 0x20 * i
/-- R738. -/
def MOS_PORT_CNT (i : Nat) : Nat := 0x000D010C + 0x20 * i
/-- R805. -/
def FUS_CTRL : Nat := 0x000E0000
/-- R797. -/
def FUS_PROG_VALUE : Nat := 0x000E0014
/-- R786. -/
def FUS_CNT : Nat := 0x000E0020
/-- R837. -/
def PWR_CTRL : Nat := 0x000F0000
/-- R836. -/
def PWR_POLICY : Nat := 0x000F0040
/-- R820. -/
def PWR_CNT : Nat := 0x000F0044
/-- R812. -/
def PWR_DOM_FCLR (i : Nat) : Nat := 0x000F0180 + 0x4 * i

end A

end Sys2Proof.Machine
end

