-- ==== Sys2Proof/Config.lean ====
section
/-! DEFINITION. What an implementation fixes for one unit, and the free values: constants without a body, so that no
proof can see what they are (log entries 4 and 5). -/

namespace Sys2Proof.Config

/-- R700, `LNK_MAC_LO`: the unit's base MAC address. -/
opaque baseMac : BitVec 48

/-- `GLB_ROM_VER` (25_register_map.md): version of the boot ROM. -/
opaque romVersion : BitVec 32

/-- R707, `GLB_DEVKEY`: the device identity public key, X and Y. -/
opaque deviceKey : BitVec 512

/-- R966, `GLB_DEVCERT`: the certificate of the device key, r and s. -/
opaque deviceCert : BitVec 512

/-- R816: C_BULK in µF, held in the trims of fuse region 2; the spec does not place it there. -/
opaque bulkCapacity : List Word → Nat

/-- R171, R780: the sensor bias trims that the words of fuse region 2 hold (VRST, VPIX, VTX_LO, TX_PW, RST_PW); the spec
does not place them there. -/
opaque biasTrims : List Word → List Nat

/-- A value that the spec leaves open, applied to a counter of the state. -/
opaque freeValue : Nat → BitVec 256

end Sys2Proof.Config
end

