-- ==== Sys2Proof/Machine/State.lean ====
section
/-! DEFINITION. The state of the head, block by block: plain data. Register fields whose value is configuration, an EVT bit or
a counter lie in the register store (`State.regs`, RegMap.lean); everything else the head holds is a field below. A default is
the value at reset. -/

namespace Sys2Proof.Machine

/-- R6: the head states; the constructor order is the code of `GLB_STATE.STATE`. -/
inductive HeadState where
  | off | boot | unconfigured | configuring | acquiring | running | hold | sleep
  deriving DecidableEq, Repr

/-- `GLB_START.CAUSE` (R974): the cause of the last start; the constructor order is its code. -/
inductive StartCause where
  | mains | park | wake | level2 | release
  deriving DecidableEq, Repr

/-- R6, R15 to R21, R960 to R974: head state, identity and the access machinery of the register bus. -/
structure Head where
  st : HeadState := .off
  prev : HeadState := .off
  /-- R850: the management core restarts (`GLB_STATE.CORE_RESTART`). -/
  coreRestart : Bool := false
  cause : StartCause := .mains
  wakeSrc : Nat := 0
  /-- `GLB_STATE_TB`: TB at the last change of the head state. -/
  stateTb : BitVec 64 := 0
  /-- R968: entries of each head state and seconds spent in it. -/
  cnt : List Nat := List.replicate 8 0
  sec : List Nat := List.replicate 8 0
  /-- R832: the head wakes: its converters run, and it still reports SLEEP; R132: the channel whose match woke it. -/
  waking : Bool := false
  wakeCh : Option Nat := none
  /-- R555: firmware is ready. -/
  fwReady : Bool := false
  /-- R588: the boot ROM has found no valid firmware slot, and services the watchdog. -/
  romServes : Bool := false
  /-- R573: an image has been applied since the last start. -/
  applied : Bool := false
  /-- R20: the head applies an image: steps 1 to 8 of R573 have not ended. -/
  applying : Bool := false
  /-- R573: blocks whose LOCK is set, by block number. -/
  locks : List Nat := []
  deriving DecidableEq, Repr

/-- R17 to R19: a stored register that the head changed in the tick in progress. -/
structure Fresh where
  /-- R17: the word before the tick, which a read in the tick returns; a register write in the tick acts on it too. -/
  base : BitVec 32
  /-- R18, R19: the bits that the head set in the tick, and the counts that it added. -/
  news : BitVec 32
  deriving DecidableEq, Repr

/-- R97, R15: the latched upper words of an initiator's wide reads, as (register address, value). -/
structure Shadow where
  who : Initiator
  vals : List (Nat × BitVec 32)
  deriving DecidableEq, Repr

/-- R69: the raster PLL's states; the constructor order is the code of `RRU_STATUS.PLL_STATE`. -/
inductive PllState where
  | off | qual | search | pull | locked | coast
  deriving DecidableEq, Repr

/-- R43 to R48, R52: what the head keeps for one raster source that it monitors (R44). -/
structure SourceMon where
  /-- R43, R44: the source is qualified (`RRU_STATUS.SRC_QUAL`). -/
  qualified : Bool := false
  /-- R43: consecutive line events within LINE_TOL, up to 64. -/
  goodLines : Nat := 0
  /-- R43: accepted vertical events since the 64 good line events, up to 2. -/
  goodVerts : Nat := 0
  /-- R45: the source's own line count since its last accepted vertical event. -/
  lineCount : Nat := 0
  /-- R45: a vertical event of the source has been accepted since monitoring started. -/
  vertSeen : Bool := false
  /-- R46: time of the last accepted event in 2⁻¹⁶ ns, none before the first. -/
  lastEvent : Option Nat := none
  /-- R46: predicted periods passed since `lastEvent` without an event. -/
  skipped : Nat := 0
  /-- R47: consecutive missing line events. -/
  missLines : Nat := 0
  /-- R47: consecutive missing vertical events. -/
  missVerts : Nat := 0
  /-- R27: consecutive judged SYNC_IN lines outside the amplitude window. -/
  badAmpl : Nat := 0
  /-- R41: parity of the source's last field. -/
  parity : Bool := false
  /-- R41: a field parity has been reported. -/
  paritySeen : Bool := false
  /-- R52: consecutive frames for which the source has stayed qualified. -/
  holdFrames : Nat := 0
  /-- R48: crossings accepted in the source's frame in progress (OPTICAL). -/
  crossings : Nat := 0
  /-- R48: DUT line of the last accepted crossing (OPTICAL). -/
  lastLine : Nat := 0
  /-- R48: lines of the frames that have ended since the last accepted crossing (OPTICAL). -/
  ended : Nat := 0
  /-- R45, R509: time of the last vertical event in 2⁻¹⁶ ns, from which the lines of OPTICAL are counted. -/
  lastVert : Option Nat := none
  deriving DecidableEq, Repr

/-- Chapter 1: the raster reference, the raster PLL and the system PLL. -/
structure Rru where
  /-- R69: state of the raster PLL. -/
  pll : PllState := .off
  /-- R69, R54: the active source. -/
  active : Source := .free
  /-- R44: the monitor of each source, by source code. -/
  mon : List SourceMon := List.replicate 6 {}
  /-- R69: raster position valid (`RRU_STATUS.RP_VALID`). -/
  rpValid : Bool := false
  /-- R10, R35: the frame number F, 40 bits. -/
  f : Nat := 0
  /-- R69: a frame has been numbered since the frame count was last at power-on, so that the next first frame is F + 1. -/
  fUsed : Bool := false
  /-- R10: the line L within the frame. -/
  l : Nat := 0
  /-- R10: the start of the line in progress in 2⁻¹⁶ ns, from which the phase φ follows. -/
  lineAt : Nat := 0
  /-- R243: line boundaries that the raster has passed, by which the scheduler counts lines across frames. -/
  lineNo : Nat := 0
  /-- R40: parity of the current field (`RRU_STATUS.FIELD`). -/
  field : Bool := false
  /-- R37: the frame in progress has ended by an accepted vertical event or a flywheel end, and the frame boundary is due. -/
  boundaryDue : Bool := false
  /-- R69: the frame is to be aligned at the next accepted vertical event after lock. -/
  alignDue : Bool := false
  /-- R53: FREE is active after COAST_MAX (R51, R977). -/
  freeByCoast : Bool := false
  /-- R53: the loop pulls in after a coast and lock is not declared again yet. -/
  pullAfterCoast : Bool := false
  /-- R53: the frame in progress began while results acquire COAST. -/
  frameCoast : Bool := false
  /-- R67: the PULL in progress was entered from COAST or LOCKED, so a control word is held. -/
  holdsWord : Bool := false
  /-- R50: the source chosen while coasting, none before the choice. -/
  chosen : Option Source := none
  /-- R52: a revert to the source is marked. -/
  revertTo : Option Source := none
  /-- R50: TB of that choice. -/
  chosenTb : Nat := 0
  /-- R50, R105: the source that was active when the coast began. -/
  coastFrom : Source := .free
  /-- R51: the boundary at which FREE is adopted is due. -/
  freeDue : Bool := false
  /-- R51: TB at which the coast began. -/
  coastTb : Nat := 0
  /-- R977: TB from which every source above FREE has stayed unqualified in QUAL. -/
  qualTb : Nat := 0
  /-- R57: TB of the last band failure. -/
  failTb : Nat := 0
  /-- R56: line events of the band search in progress. -/
  searchLines : Nat := 0
  /-- R68: the losses, failovers and reverts of this tick whose events a write to a PLL configuration register may still abandon, as
  codes with their details. -/
  moves : List (Nat × List Nat) := []
  /-- R57: sources that failed their band search since QUAL was entered, by code. -/
  bandFailed : List Nat := []
  /-- R977: FREE counts as qualified in QUAL after COAST_MAX. -/
  freeCounts : Bool := false
  /-- R62: lanes' results carry GAP until the first frame that starts after lock. -/
  acqGap : Bool := false
  /-- R896: the acquisition restart in progress follows a write of the steward. -/
  acqPlanned : Bool := false
  /-- R291: an acquisition restart has come, and the instances that are not placed are to be abandoned. -/
  acqAbandon : Bool := false
  /-- R58: consecutive line events within LOCK_THR. -/
  lockCount : Nat := 0
  /-- R59: consecutive line events at or above 4 × LOCK_THR. -/
  bigErr : Nat := 0
  /-- R61: band in use (`RRU_PLL_CW.BAND_CUR`). -/
  bandCur : BitVec 7 := 0
  /-- R61: control word (`RRU_PLL_CW.CW`). -/
  cw : BitVec 24 := 0
  /-- R61: last phase error (`RRU_PHASE_ERR`). -/
  phaseErr : BitVec 16 := 0
  /-- R38: length of the last completed frame (`RRU_MEAS_TL.LAST`). -/
  lastTl : Nat := 0
  /-- R38: longest frame since CNT_CLR (`RRU_MEAS_TLX.MAX`). -/
  maxTl : Nat := 0
  /-- R38: shortest frame since CNT_CLR (`RRU_MEAS_TLX.MIN`), reset 0xFFFF. -/
  minTl : Nat := 0xFFFF
  /-- `RRU_MEAS_LPER`: measured line period in 2⁻¹⁶ ns. -/
  measLper : Nat := 0
  /-- R73: output enables in force since the last line boundary, one bit per output. -/
  outEn : BitVec 8 := 0
  /-- R72: levels of the output pulses OUT0 to OUT7. -/
  outPulse : BitVec 8 := 0
  /-- R73: output pulses that DELAY holds back, as TB and output. -/
  delayed : List (Nat × Nat) := []
  /-- R33: consecutive frames whose OPTICAL cross-check differs by more than EVENT_WIN. -/
  xcheck : Nat := 0
  /-- R76: state of the system PLL. -/
  sysPll : PllState := .off
  /-- R76, R49: control word of the system PLL, frozen while it coasts. -/
  sysCw : BitVec 24 := 0
  /-- R79: the system PLL's reference is the external 10 MHz. -/
  sysRefExt : Bool := false
  /-- `RRU_SYS_STATUS.EXT_PRESENT`: the external 10 MHz is present. -/
  extPresent : Bool := false
  /-- R79: the system PLL failed over to the crystal, where it stays until the die is reset. -/
  sysFailedOver : Bool := false
  deriving DecidableEq, Repr

/-- R107: the TOD servo's states; the constructor order is the code of `TMB_TOD_STATUS.STATE`. -/
inductive TodState where
  | free | acquiring | locked | holdover
  deriving DecidableEq, Repr

/-- R110 to R116: what one timer unit holds beside its registers. -/
structure TimerUnit where
  /-- R111: source events counted by the prescaler since the last increment. -/
  psc : Nat := 0
  /-- R111: the prescaler setting the count in progress was started with. -/
  pscOf : Nat := 0
  /-- R114, R116: the unit's ACTIVE level of the last tick. -/
  active : Bool := false
  /-- R114, R116: TB of each pulse of the linked unit's UEV on which the unit has not acted yet, oldest first. -/
  links : List Nat := []
  /-- R119, R120, R121: per channel, the frame in which it does not match in RASTER mode any more. -/
  spent : List (Option Nat) := [none, none, none, none]
  /-- R113, R114: TB of the last write of CNT, or clear by a link: increments of that tick are lost. -/
  cntAt : Option Nat := none
  /-- R112, R117: the values that CNT has reached by increments in this tick, with whether it wrapped. -/
  reached : List (Nat × Bool) := []
  /-- R118: per channel, TB of the last write of its compare value. -/
  cmpAt : List (Option Nat) := [none, none, none, none]
  /-- R118: the channels that matched in this tick and whose period is to be added. -/
  addDue : List Nat := []
  /-- R127: EVENT messages sent in the current second. -/
  evtSent : Nat := 0
  /-- R127: TB at which that second started. -/
  evtFrom : Nat := 0
  deriving DecidableEq, Repr

/-- Chapter 2: timebase, time of day and timers. -/
structure Tmb where
  /-- R91, R92: the timebase, 64 bits. -/
  tb : BitVec 64 := 0
  /-- R92, R93: the timebase runs. -/
  run : Bool := false
  /-- R98: TB captured at the last frame boundary. -/
  fbTb : BitVec 64 := 0
  /-- R98: F captured at the last frame boundary. -/
  fbF : BitVec 40 := 0
  /-- R99: TB captured by the last read of `RRU_RP_F_LO`. -/
  rpTb : BitVec 64 := 0
  /-- R129: slow ticks of the last make-up. -/
  makeup : Nat := 0
  /-- R100: TOD seconds, 48 bits. -/
  todSec : BitVec 48 := 0
  /-- R100: TOD nanoseconds, 0 to 999,999,999. -/
  todNs : Nat := 0
  /-- R100: fraction of a nanosecond left by `TMB_TOD_FREQ`, in 2⁻¹⁶ × 10⁻⁶ ns. -/
  todFrac : Int := 0
  /-- R102: a commit waiting for the next tick: seconds and nanoseconds. -/
  commit : Option (BitVec 48 × Nat) := none
  /-- R105: an adjustment waiting for the next tick, in ns. -/
  adj : Option Int := none
  /-- R107: state of the TOD servo. -/
  todState : TodState := .free
  /-- R107: last measured offset in ns, saturating to 32 bits signed. -/
  todOffset : BitVec 32 := 0
  /-- R107: consecutive offsets within TOD_LOCK_THR (ACQUIRING). -/
  todGood : Nat := 0
  /-- R107: consecutive offsets at or above 4 × TOD_LOCK_THR (LOCKED). -/
  todBad : Nat := 0
  /-- R110: the eight timer units. -/
  units : List TimerUnit := List.replicate 8 {}
  /-- R128: the management core is halted by JTAG debug. -/
  halted : Bool := false
  deriving DecidableEq, Repr

/-- R158: a tile's states; the constructor order is the code of `SNS_TILE_STATUS.STATE`. -/
inductive TileState where
  | off | ramp | flush | ready | fault
  deriving DecidableEq, Repr

/-- R158: one tile. -/
structure Tile where
  st : TileState := .off
  /-- `SNS_TILE_STATUS.CURRENT`: rail current in 0.01 mA. -/
  current : BitVec 16 := 0
  /-- R160: TB at which the switch closed. -/
  closedTb : Nat := 0
  /-- R156: Sensor Calibration is reading the tile. -/
  calNeed : Bool := false
  deriving DecidableEq, Repr

/-- R166: the temperature states; the constructor order is the code of `SNS_STATUS.TEMP_STATE`. -/
inductive TempState where
  | off | settling | stable | fault
  deriving DecidableEq, Repr

/-- Chapter 3: tiles and cooler. -/
structure Sns where
  /-- R158: the tiles whose record differs from the reset record, by tile index 0 to 239. -/
  tiles : List (Nat × Tile) := []
  /-- R166: the temperature state. -/
  temp : TempState := .off
  /-- R166: consecutive samples within the band. -/
  inBand : Nat := 0
  /-- R168: COOL_SAT. -/
  coolSat : Bool := false
  /-- R166: last hot-side and sensor temperatures in 0.01 °C, and R168 cooler input power in 0.01 W. -/
  hotSide : BitVec 16 := 0
  sensor : BitVec 16 := 0
  coolPwr : BitVec 16 := 0
  /-- R176: a sample has been taken since the reset of the registers. -/
  sampled : Bool := false
  /-- R170: the cooler is driven. -/
  coolOn : Bool := false
  /-- R176: the supply's cooler driver holds the setpoint during a level-2 restart, and the next sample decides. -/
  heldOver : Bool := false
  deriving DecidableEq, Repr

/-- R311, R360: a sample, a code or a fused value: no sample, saturated, or a value. -/
inductive Px where
  | none | sat | val (v : Int)
  deriving DecidableEq, Repr

/-- R228: the HCG and the LCG sample of one pixel. -/
structure PxPair where
  h : Px
  l : Px
  deriving DecidableEq, Repr

/-- R209: the first binned row of a 4 × 4 row, and the flags that it carries. -/
structure RowBuf where
  pixels : List PxPair
  flags : Nat
  deriving DecidableEq, Repr

/-- R198: a sub-bank's states; the constructor order is the code of `CRO_SB_STATUS.STATE`. -/
inductive SubBankState where
  | off | ramp | trim | ready | fault
  deriving DecidableEq, Repr

/-- R198: one sub-bank domain. -/
structure SubBank where
  st : SubBankState := .off
  /-- `CRO_SB_STATUS.CURRENT`: rail current in 0.01 mA. -/
  current : BitVec 16 := 0
  /-- R197: Sensor Calibration is converting on the sub-bank. -/
  calNeed : Bool := false
  deriving DecidableEq, Repr

/-- R231: a sensor-link lane's states; the constructor order is the code of `CRO_LANE_STATUS.STATE`. -/
inductive LaneSt where
  | down | training | up | failed
  deriving DecidableEq, Repr

/-- R231: one lane of the internal sensor link. -/
structure LinkLane where
  st : LaneSt := .down
  /-- R231: TBs of the CRC errors within the last second. -/
  errs : List Nat := []
  /-- R231: TBs of the retrains within the last 10 s. -/
  retrains : List Nat := []
  /-- R231: TBs of the retrains within the last 10 s that failed. -/
  fails : List Nat := []
  deriving DecidableEq, Repr

/-- R220 to R222: one of the eight clamp values. -/
structure Clamp where
  /-- R220: the value in 1/65,536 DN (`CRO_CLAMP_VAL` shows 1/16 DN), reset 64 DN. -/
  value : Nat := 64 * 65536
  /-- R201: the value has been seeded. -/
  seeded : Bool := false
  /-- R221: TB of the last row. -/
  lastTb : Option Nat := none
  /-- R221: TB at which the last seeding row's read started, and 16 row times then. -/
  seedTb : Option (Nat × Nat) := none
  /-- R222: consecutive rejected rows. -/
  rejected : Nat := 0
  deriving DecidableEq, Repr

/-- R191, R195: a read in progress on a bank. -/
structure BankRead where
  /-- The lane 0 to 3, the exposure index and the anchor frame of its instance; lane 4 is a calibration or black-row read. -/
  lane : Nat
  exp : Nat
  frame : Nat
  rg : Nat
  /-- Start tick and length of the read slot, and the usable lanes that it was computed for (R267). -/
  start : Nat
  slot : Nat
  u : Nat
  /-- R233: the bank has had no usable lane since the read was booked, so that its missing rows are lost. -/
  dead : Bool
  /-- R230: the rows whose packets have arrived. -/
  got : List Nat
  /-- R314: T_LO and T_HI in force since the start of the read. -/
  tLo : Nat
  tHi : Nat
  deriving DecidableEq, Repr

/-- Chapter 4: converters, sensor link and geometry. -/
structure Cro where
  /-- R198: sub-banks whose record differs from the reset record, by domain d 0 to 39. -/
  sbs : List (Nat × SubBank) := []
  /-- R231: link lanes whose record differs from the reset record, by lane 0 to 95. -/
  lanes : List (Nat × LinkLane) := []
  /-- R220: the eight clamp values. -/
  clamps : List Clamp := List.replicate 8 {}
  /-- R191: the read in progress on the top and on the bottom bank. -/
  reading : List (Option BankRead) := [none, none]
  /-- R191: TB at which each bank becomes free. -/
  freeAt : List Nat := [0, 0]
  /-- R225: the gain mode taken at the start of the read in progress, by bank. -/
  gain : List Nat := [0, 0]
  /-- R209: the binned row that waits for its neighbour, by bank. -/
  rowBuf : List (Option RowBuf) := [none, none]
  /-- R232: usable lanes of each bank at the last event 0x0406 or 0x040B. -/
  lastU : List Nat := [48, 48]
  deriving DecidableEq, Repr

/-- R271: an exposure lane's states; the constructor order is the code of `EXS_LANE_STATUS.STATE`. -/
inductive ExLaneState where
  | off | armed | running | draining | stopped
  deriving DecidableEq, Repr

/-- R242: the pending resets of one exposure instance. -/
structure Inst where
  lane : Nat
  exp : Nat
  /-- R242, R259: the instance's key: its anchor frame, or for ABS its T_n. -/
  frame : Nat
  /-- R243: line boundaries passed up to the boundary of the anchor frame. -/
  line0 : Nat
  /-- R256: the tick at which the raster reached START, for FRAME. -/
  startTb : Option Nat := none
  /-- R242: row groups (binned row groups) not yet placed. -/
  left : List Nat
  deriving DecidableEq, Repr

/-- R217: a row that a read has brought, its samples final: its row number and its place among the rows of the read, sensor row,
settings (R226), flags, the slices that do not take it (R394), its samples as delivered (R211), as RAW16F (R312) and in 1/16 DN. -/
structure ReadRow where
  row : Nat
  k : Nat
  y : Nat
  tag : Nat
  flags : Nat
  stuck : BitVec 16
  raw : List Nat
  codes : List Px
  vals : List Px
  deriving DecidableEq, Repr

/-- R283: a reset that is placed and its booked read. -/
structure Booking where
  lane : Nat
  exp : Nat
  frame : Nat
  rg : Nat
  /-- R283: ticks of the reset and of the read, the read slot, and the usable lanes that it was computed for (R267). -/
  resetTb : Nat
  readTb : Nat
  slot : Nat
  u : Nat
  /-- R285: slip in φ units. -/
  slip : Nat
  /-- R245: the reset has been performed. -/
  resetDone : Bool
  /-- R191: the read has started. -/
  reading : Bool
  /-- R326: the frame that the exposure is attributed to, once reset. -/
  attr : Nat
  /-- R333: the line period of the placement, in 2⁻¹⁶ ns. -/
  lper : Nat
  /-- R640: the filter position in force at the reset. -/
  pos : Nat
  /-- R158, R164: tiles that the exposure was discarded in, or that were not READY at its reset. -/
  dropped : List Nat
  /-- R23: flags of the head's own conditions that held since the reset. -/
  flags : Nat
  /-- R325: the rows that the read has brought. -/
  rows : List ReadRow
  deriving DecidableEq, Repr

/-- R271: one exposure lane. -/
structure ExLane where
  st : ExLaneState := .off
  /-- R272: the start frame, none while a mosaic START is awaited. -/
  start : Option Nat := none
  /-- R271: the frame F of the STOP in force. -/
  stopF : Nat := 0
  /-- The program and the bitmap in force since the last start. -/
  prog : Nat := 0
  rgb : Nat := 0
  /-- R259: the next absolute instance's T_n. -/
  nextAbs : Option Nat := none
  /-- R318: RATIO and SHIFT of the admitted program. -/
  ratio : Nat := 0
  shift : Nat := 0
  /-- R344: the fusion MODE in force. -/
  mode : Bool := false
  /-- R272, R375: the first of the frames up to the lane's next start that its window sets carry GAP for. -/
  gapFrom : Option Nat := none
  /-- R329: the oldest frame not yet closed for the lane. -/
  openFrame : Nat := 0
  deriving DecidableEq, Repr

/-- R315: a member of a fusion set that has been read: its index, realised length, ticks of its reset and of its last
row's read start, flags, slip, filter position, attributed frame and line period. -/
structure Member where
  exp : Nat
  len : Nat
  reset : Nat
  lastRow : Nat
  flags : Nat
  slip : Nat
  pos : Nat
  attr : Nat
  lper : Nat
  deriving DecidableEq, Repr

/-- R312: one row of a member's dual-fused values in 1/16 DN: its place, its number among the rows of the read, and the
number of the settings that it was processed under. -/
structure FusedRow where
  exp : Nat
  row : Nat
  x0 : Nat
  tag : Nat
  vals : List Px
  deriving DecidableEq, Repr

/-- R324: a fusion set that is open, or closed with members outstanding. -/
structure FusionSet where
  lane : Nat
  frame : Nat
  rg : Nat
  /-- R306: exposure indexes still outstanding. -/
  outstanding : List Nat
  members : List Member
  /-- R321: a member was abandoned. -/
  abandoned : Bool
  /-- R316: LEN of the longest exposure in TB with the line period of the first placement. -/
  tRef : Nat
  data : List FusedRow
  /-- R324: the set has closed, so that its later members enter nothing. -/
  closed : Bool
  /-- R341: flags of the interruptions that the set was open in. -/
  flags : Nat
  deriving DecidableEq, Repr

/-- R274, R272: flags that the results of a lane carry for the frames `first` to `last`; lane 4 stands for the head's own
conditions (R377). -/
structure FrameNote where
  lane : Nat
  first : Nat
  last : Nat
  flags : Nat
  /-- R375: the window sets that the lane feeds, or fed, in these frames. -/
  wsm : Nat
  deriving DecidableEq, Repr

/-- Chapters 5 and 6: exposure scheduling and fusion. -/
structure Exs where
  lanes : List ExLane := List.replicate 4 {}
  insts : List Inst := []
  bookings : List Booking := []
  /-- R293: frame boundaries processed by the scheduler. -/
  heartbeat : BitVec 32 := 0
  /-- R294: consecutive frame boundaries without an advance of the heartbeat. -/
  missedBeats : Nat := 0
  /-- R295: the frame of the last heartbeat. -/
  beatFrame : Nat := 0
  /-- R280: the admitted load of each bank in 2⁻¹⁶. -/
  load : List Nat := [0, 0]
  /-- R275: per row group, end of its previous read's slot. -/
  prevEnd : List (Nat × Nat) := []
  /-- R262: open LONG exposures, as (lane, row group). -/
  longOpen : List (Nat × Nat) := []
  /-- R322: open fusion sets, oldest first. -/
  sets : List FusionSet := []
  /-- R274, R272: flags owed to the results of a lane's frames. -/
  notes : List FrameNote := []
  /-- R416: bank time booked since the start of the last frame: bank, start and end. -/
  booked : List (Nat × (Nat × Nat)) := []
  deriving DecidableEq, Repr

/-- R374: a window set's states; the constructor order is the code of `PAT_SET_STATUS.STATE`. -/
inductive SetState where
  | off | armed | running | stopping | stopped
  deriving DecidableEq, Repr

/-- R364: one accumulator record. -/
structure Rec where
  count : Nat := 0
  sum : Nat := 0
  sumSq : Nat := 0
  min : Nat := 0xFFFFFF
  max : Nat := 0
  sat : Nat := 0
  dframes : Nat := 0
  flags : BitVec 16 := 0
  /-- R364, R226: the frames not closed that raised DFRAMES, with the settings their data was processed under. -/
  seen : List (Nat × Option Nat) := []
  deriving DecidableEq, Repr

/-- R350: a window. -/
structure Window where
  id : Nat
  set : Nat
  tenant : Option Nat
  x0 : Nat
  x1 : Nat
  y0 : Nat
  y1 : Nat
  deriving DecidableEq, Repr

/-- R377: slip, SPLIT and NB of a slot's data; NB is 0 while nothing straddles. -/
structure SlotMeta where
  slip : Nat := 0
  splitMin : Nat := 0
  splitMax : Nat := 0
  nb : Nat := 0
  deriving DecidableEq, Repr

/-- R369, R377: one open accumulation interval of a set. -/
structure Interval where
  /-- First frame and number of frames. -/
  first : Nat
  frames : Nat
  /-- R359: the windows of the set since the interval's first boundary, rising. -/
  wins : List Window
  /-- Records by 16 × window + slot (R364). -/
  recs : List (Nat × Rec)
  /-- By slot. -/
  slots : List (Nat × SlotMeta)
  buf : Bool
  /-- R764: flags owed to the interval itself. -/
  flags : Nat := 0
  deriving DecidableEq, Repr

/-- R364, R642: one record of a result: its window, its owner (none for the steward), and its 48 bytes as field values. -/
structure ResultRec where
  win : Nat
  owner : Option Nat
  fields : List Nat
  deriving DecidableEq, Repr

/-- R377: one statistics result. -/
structure ResultUnit where
  set : Nat
  slot : Nat
  frame : Nat
  framesM1 : Nat
  flags : Nat
  slip : Nat
  splitMin : Nat
  splitMax : Nat
  nbMax : Nat
  recs : List ResultRec
  deriving DecidableEq, Repr

/-- R347: one row as the slices take it: codes by pixel, with the row's place, sets and flags. -/
structure StatRow where
  slot : Nat
  frame : Nat
  /-- R226: the number of the settings that it was processed under; none when its members differ. -/
  tag : Option Nat
  /-- Sensor row of the top-left sensor pixels, pitch of the pixels, first pixel. -/
  y : Nat
  pitch : Nat
  x0 : Nat
  codes : List Px
  flags : Nat
  slip : Nat
  split : Nat
  nb : Nat
  wsm : Nat
  deriving DecidableEq, Repr

/-- R394: a row that a pipe of a slice holds without committing it: 0 exposure pipe, 1 fused pipe. -/
structure HeldRow where
  pipe : Nat
  tb : Nat
  row : StatRow
  deriving DecidableEq, Repr

/-- R380: a closed interval whose hand-off runs: the flags of its results, the slots that have one, and whether its frames had all
closed, so that no row reaches it any more. -/
structure HandOff where
  iv : Interval
  flags : Nat
  slots : List Nat
  early : Bool
  deriving DecidableEq, Repr

/-- R374: one window set. -/
structure WinSet where
  st : SetState := .off
  /-- R370: named start frame. -/
  start : Option Nat := none
  stopF : Nat := 0
  /-- R402: EN and K − 1 in force since the last start. -/
  kM1 : Nat := 0
  /-- R373: open intervals, oldest first, at most 2. -/
  ivls : List Interval := []
  /-- R373: the buffer that the next interval takes when none is open. -/
  lastBuf : Bool := false
  /-- R369: first frame of the next interval to open. -/
  nextFirst : Nat := 0
  /-- R378: first frame of the frames for which an empty GAP result is owed. -/
  gapFrom : Option Nat := none
  /-- R378: where those frames end for good: the frame of a sleep command. -/
  gapTo : Option Nat := none
  /-- R378, R767: flags that that result carries beside GAP. -/
  gapFlags : Nat := 0
  /-- R381: the closed intervals whose hand-off runs, oldest first. -/
  handing : List HandOff := []
  deriving DecidableEq, Repr

/-- R389: a tenant window change that waits for its boundary. -/
structure TwPending where
  /-- The entry is new and has not accumulated yet. -/
  fresh : Bool
  win : Nat
  tenant : Nat
  set : Nat
  /-- None removes the window; otherwise the window it becomes. -/
  rect : Option Window
  accepted : Nat
  /-- R671: the removal follows from a commit and is reported to the tenant. -/
  report : Bool
  deriving DecidableEq, Repr

/-- R394: one slice. -/
structure Slice where
  commits : BitVec 16 := 0
  /-- R394: TB of the last reset. -/
  resetTb : Option Nat := none
  /-- R394: rows held, oldest first. -/
  held : List HeldRow := []
  deriving DecidableEq, Repr

/-- R978, R98: a frame that has not closed for the head: its number, TB and TOD at its start, filter position at its start
(R467), and its length in lines once it has ended. -/
structure FrameMark where
  f : Nat
  tb : Nat
  todSec : Nat
  todNs : Nat
  pos : Nat
  lines : Nat
  /-- R243: line boundaries passed up to the frame's start. -/
  line0 : Nat
  deriving DecidableEq, Repr

/-- Chapter 7: patch statistics. -/
structure Pat where
  sets : List (Nat × WinSet) := []
  /-- R389: windows whose entry changes at a boundary of their host set. -/
  twPending : List TwPending := []
  slices : List Slice := List.replicate 16 {}
  /-- R391: per attributed frame, sums over unsaturated samples: Σ(code − P) and Σ t_e, in quarters. -/
  dose : List (Nat × (Int × Nat)) := []
  /-- R393: the last rate as Σ (code − P) over Σ t_e in TB. -/
  lastNum : Nat := 0
  lastDen : Nat := 1
  /-- `PAT_DOSE_RATE`, `PAT_DOSE_INC`. -/
  doseRate : Nat := 0
  doseInc : Nat := 0
  /-- R978: the frames that have not closed for the head, oldest first, the frame in progress last. -/
  frames : List FrameMark := []
  /-- R378: empty results of sets that have started at this boundary. -/
  owed : List ResultUnit := []
  deriving DecidableEq, Repr

/-- R405: a calibration set; entries that a list does not hold have the factory value of R409. -/
structure CalSet where
  generation : BitVec 32 := 0
  /-- R424: T_CAL in 0.01 °C. -/
  tCal : Int := 0
  /-- R431: TB at completion. -/
  doneTb : Nat := 0
  /-- R431: time of day at completion. -/
  doneSec : Nat := 0
  doneNs : Nat := 0
  setpoint : Int := 0
  nDark : Nat := 0
  drate : Bool := false
  lenOfs : Nat := 0
  /-- R431: measured tiles. -/
  tiles : List Nat := []
  /-- R405: offsets in 1/16 DN, by 20,480 y + x. -/
  ofsH : List (Nat × Int) := []
  ofsL : List (Nat × Int) := []
  /-- R405: dark rate in 1/8 HCG DN/s. -/
  rate : List (Nat × Nat) := []
  /-- R405: column gain, 0x4000 is 1.0, by (2 × bank + gain) × 20,480 + x. -/
  cgain : List (Nat × Nat) := []
  /-- R405: LCG:HCG ratio, 0x5000 is 5.0, by 20,480 × bank + x. -/
  ratio : List (Nat × Nat) := []
  /-- R409: the set holds a valid ratio. -/
  ratioOk : Bool := false
  /-- R405: black-row means in 1/16 DN, by (2 × bank + gain) × 20,576 + c. -/
  black : List (Nat × Nat) := []
  deriving DecidableEq, Repr

/-- R419: the phases of a run; the constructor order is the code of `CAL_STATUS.PHASE`. -/
inductive CalPhase where
  | idle | closing | dark | inject | rate | opening
  deriving DecidableEq, Repr

/-- R410: the reasons for a calibration; the constructor order is the code of event 0x0701. -/
inductive CalReason where
  | temp | age | request | drift | noSet
  deriving DecidableEq, Repr

/-- R431, R435: a store of a set to the eMMC. -/
structure CalStore where
  copy : Nat
  set : CalSet
  /-- R434: bytes written so far. -/
  done : Nat
  /-- R434: event 0x0707 for the energy wait has been logged. -/
  waitLogged : Bool
  /-- R435, R439: the command that runs belongs to an earlier start of the store. -/
  again : Bool := false
  deriving DecidableEq, Repr

/-- R420, R429: one calibration exposure or black-row read in progress. -/
structure CalRead where
  /-- Row group 0 to 1,535, or 1,536 + j for BRj. -/
  rg : Nat
  /-- 0 HCG, 1 LCG, 2 DUAL. -/
  gain : Nat
  /-- R429: a read of the column check. -/
  drift : Bool
  resetTb : Nat
  readTb : Nat
  reading : Bool
  deriving DecidableEq, Repr

/-- Chapter 8: sensor calibration. -/
structure Cal where
  phase : CalPhase := .idle
  /-- R405: the active set and `CAL_STATUS.SRC`. -/
  active : CalSet := {}
  src : Nat := 0
  /-- R437: the active set has been loaded from a stored copy. -/
  loaded : Bool := false
  /-- R226: the number of the active set, over activations. -/
  tag : Nat := 0
  /-- R408: the set that becomes active at the next boundary. -/
  next : Option (CalSet × Nat) := none
  /-- R411: reason and TB at which a calibration became due. -/
  due : Option (CalReason × Nat) := none
  /-- R413: STALE_MAX has passed. -/
  stale : Bool := false
  suspect : Bool := false
  autoHeld : Bool := false
  abortsConsec : Nat := 0
  /-- R415: a FORCE is pending, and its cause has been logged. -/
  force : Bool := false
  forceLogged : Bool := false
  /-- R417: the run in progress was opened by a FLAG slot. -/
  flagRun : Bool := false
  /-- R426, R428: the run in progress has been aborted. -/
  aborted : Bool := false
  /-- R427: REQUEST or FORCE has made the calibration due. -/
  requested : Bool := false
  /-- R410: conditions that hold and have been logged. -/
  arisen : List CalReason := []
  /-- R420, R429: calibration exposures and black-row reads in progress. -/
  reads : List CalRead := []
  /-- R429: column-check reads left, as 2 × j + gain. -/
  driftLeft : List Nat := []
  /-- R424: temperatures summed since CLOSING and their number. -/
  tempSum : Int := 0
  tempN : Nat := 0
  /-- R419: the frame of the phase in progress and the row groups left to read in it. -/
  frame : Nat := 0
  rgLeft : List Nat := []
  /-- R421: sums over the frames of DARK, INJECT and RATE, by phase, gain and pixel: sum and count. -/
  sums : List (Nat × (Nat × Nat)) := []
  /-- R425: per tile the HCG sum and count of the frame in progress. -/
  tileSums : List (Nat × (Nat × Nat)) := []
  /-- R425: the flicker accumulators' sums and counts over the dark interval. -/
  flk : List (Nat × Nat) := [(0, 0), (0, 0)]
  /-- R914: every boundary of the PERIODIC slot so far found the slider moving. -/
  slotWait : Bool := false
    /-- R416: the fraction of bank time of the last frame that lay in unbooked gaps of at least 32 µs: the smaller of the two banks, in
  ticks, and the frame's ticks. -/
  freeNum : Nat := 1
  freeDen : Nat := 1
  /-- R410: the 1 s mean of the sensor temperature in 0.01 °C. -/
  meanTemp : Int := 0
  /-- R410: samples of that second. -/
  secSum : Int := 0
  secN : Nat := 0
  /-- R429: the column check's black-row sums in the slot in progress. -/
  driftSums : List (Nat × (Nat × Nat)) := []
  /-- R431, R436: the two copies in the eMMC and whether each is valid. -/
  copies : List (Option CalSet) := [none, none]
  store : Option CalStore := none
  /-- R419: the policy registers of the run in progress, as they were at its start, by address. -/
  policy : List (Nat × Word) := []
  /-- R437: loading. -/
  loading : Bool := false
  /-- R416: length of the previous frame in TB. -/
  frameLen : Nat := 0
  /-- R419: TB at which the shutter was last commanded by the run. -/
  stepTb : Nat := 0
  deriving DecidableEq, Repr

/-- R457: the cartridge's states; the constructor order is the code of `CTG_STATUS.STATE`. -/
inductive CtgState where
  | absent | reading | auth | homing | ready | rejected | fault
  deriving DecidableEq, Repr

/-- R460: what the head read from the cartridge's identity memory. -/
structure CtgId where
  ctype : BitVec 16 := 0
  format : BitVec 16 := 0
  serial : BitVec 64 := 0
  /-- R465: validity start and end in days since 2000-01-01. -/
  validFrom : Nat := 0
  validTo : Nat := 0
  /-- R460, R461: DOSE_LIMIT for POS 0 to 4, SHUT_LIMIT and MOVE_LIMIT. -/
  limits : List Nat := [0, 0, 0, 0, 0, 0, 0]
  deriving DecidableEq, Repr

/-- R471: counters of a removed cartridge. -/
structure CtgMemo where
  serial : BitVec 64
  counters : List Nat
  deriving DecidableEq, Repr

/-- Chapter 9: the optical cartridge. -/
structure Ctg where
  st : CtgState := .absent
  /-- R454: the presence contact is asserted. -/
  contact : Bool := false
  /-- R463: the copy of the identity memory, as (address, byte); unlisted bytes read 0xFF. -/
  mem : List Host.Cell := []
  id : CtgId := {}
  specBad : Bool := false
  dateUnchecked : Bool := false
  /-- R467: DOSE for POS 0 to 4 in 2⁻³² DU, SHUT and MOVES. -/
  counters : List Nat := [0, 0, 0, 0, 0, 0, 0]
  /-- R474: the record stored in the cartridge: counters and SEQUENCE. -/
  stored : List Nat := [0, 0, 0, 0, 0, 0, 0]
  sequence : BitVec 32 := 0
  /-- R469: thresholds crossed: counters already warned and expired. -/
  warned : List Nat := []
  expired : List Nat := []
  /-- R470: the gate is closed by expiry under STOP, from a frame boundary on. -/
  stopClosed : Bool := false
  /-- R451: the gate, as it stands since its last opening or closing. -/
  gate : Bool := false
  /-- R446: the position in force and the target of a move. -/
  pos : Nat := 0
  target : Nat := 0
  /-- R447: a move has been requested and waits for its boundary. -/
  moveReq : Bool := false
  /-- R451: the slider moves; it settles. -/
  moving : Bool := false
  settling : Bool := false
  /-- R480: TB at which the slider's move began, and at which it came into position. -/
  moveTb : Nat := 0
  inPosTb : Nat := 0
  /-- R480: TB of the shutter's last command and of its last report. -/
  shutTb : Nat := 0
  shutRepTb : Nat := 0
  /-- R457: TB at which the challenge was sent, and at which homing began. -/
  stepTb : Nat := 0
  /-- R449: the shutter reports closed; the state commanded; a calibration run holds it closed. -/
  shutClosed : Bool := true
  shutCmd : Bool := true
  calHolds : Bool := false
  /-- R472: TB of the last accepted checkpoint. -/
  ckptTb : Nat := 0
  /-- R474: the counters that a checkpoint in progress has sent. -/
  ckptSent : List Nat := []
  /-- R473: TB of the last attempt of a checkpoint that is retried, and whether event 0x0807 has been logged for it. -/
  ckptRetry : Option Nat := none
  ckptLogged : Bool := false
  /-- R471: the four most recently removed cartridges, newest first. -/
  memo : List CtgMemo := []
  /-- R471: their mirror in the NOR journal. -/
  memoJournal : List CtgMemo := []
  /-- R464: the challenge sent, a 32-byte random value. -/
  challenge : BitVec 256 := 0
  deriving DecidableEq, Repr

/-- R490: a converter slice's states; the constructor order is the code of `TRC_SLICE_STATUS.STATE`. -/
inductive SliceState where
  | active | calibrating | ready | faulty
  deriving DecidableEq, Repr

/-- R486 to R490: one converter slice. -/
structure TrcSlice where
  st : SliceState := .calibrating
  /-- R487: TB of its last completed calibration, and at which the one in progress began. -/
  calTb : Nat := 0
  startTb : Nat := 0
  deriving DecidableEq, Repr

/-- R501: an accumulator's open window and last result. -/
structure Acc where
  openW : Bool := false
  sum : Int := 0
  count : Nat := 0
  flags : BitVec 16 := 0
  firstTb : Nat := 0
  firstF : Nat := 0
  /-- R503: the last closed window's SUM, COUNT and FLAGS. -/
  rSum : BitVec 56 := 0
  rCount : BitVec 40 := 0
  rFlags : BitVec 16 := 0
  deriving DecidableEq, Repr

/-- R504: a min/max tracker. -/
structure Trk where
  /-- R504: minimum and maximum since the last read, none before a sample. -/
  mm : Option (Int × Int) := none
  /-- R504: the level, none before the first decisive sample reads LOW. -/
  level : Bool := false
  /-- R505: the previous sample and its tick. -/
  prev : Option (Int × Nat) := none
  /-- R493: a reading since the last read spans settling. -/
  settled : Bool := true
  deriving DecidableEq, Repr

/-- R505: a crossing record. -/
structure Xing where
  trk : Nat
  rising : Bool
  /-- R505: time in 1/16 TB. -/
  t : Nat
  f : BitVec 40
  l : BitVec 16
  phi : BitVec 16
  flags : BitVec 16
  deriving DecidableEq, Repr

/-- Chapter 10: tracker converters and optical recovery. -/
structure Trc where
  slices : List TrcSlice := List.replicate 5 {}
  /-- R486: the slice in each of positions P0 to P3, none when lost. -/
  positions : List (Option Nat) := [some 0, some 1, some 2, some 3]
  /-- R487: the spare. -/
  spare : Option Nat := some 4
  /-- R487: a handover waits for the next step boundary: position and slice. -/
  handover : Option (Nat × Nat) := none
  refActive : Nat := 0
  /-- R493: TB at which SETTLING began. -/
  settling : Option Nat := none
  noSpare : Bool := false
  /-- R499: the regular sequence has starved. -/
  starved : Bool := false
  /-- R499: TB of the last full pass. -/
  passTb : Nat := 0
  /-- R487: TB of the last rotation. -/
  rotTb : Nat := 0
  /-- R495: the sequencer runs (R511). -/
  run : Bool := false
  /-- R495, R496: next regular step; injected step in progress. -/
  step : Nat := 0
  injStep : Option Nat := none
  /-- R486: TB at which the step in progress started. -/
  stepTb : Nat := 0
  /-- R496, R497: the trigger of the injected run and the pending trigger, each with the TB of its arrival. -/
  injTrig : Option (InjTrigger × Nat) := none
  pending : Option (InjTrigger × Nat) := none
  /-- R498: triggers dropped since the last event 0x0907. -/
  dropped : Nat := 0
  /-- R819: TB at which an energy-check request was dropped. -/
  energyDrop : Option Nat := none
  /-- R494: the selected reference as last measured, in mV. -/
  refMv : Nat := 4096
  /-- R858 m = 4: injected triggers are held until a regular pass completes. -/
  injHeld : Bool := false
  /-- R501, R504: accumulators and trackers whose record differs from the reset record. -/
  accs : List (Nat × Acc) := []
  trks : List (Nat × Trk) := []
  /-- R506: crossing records waiting for the TRACK stream, oldest first. -/
  xq : List Xing := []
  /-- R508: segments accepted in the frame in progress, as (segment, line in 16.16, t in 1/16 TB), oldest first. -/
  optFrame : List (Nat × Nat × Nat) := []
  /-- R509: the previous frame's crossings. -/
  optPrev : List (Nat × Nat × Nat) := []
  /-- R509: frames with at least two crossings seen. -/
  optFrames : Nat := 0
  /-- R509: T_est in 2⁻¹⁶ ns; SEGS of the last frame. -/
  tEst : Nat := 0
  segs : Nat := 0
  /-- R511: accumulators whose first result after a level-2 restart carries GAP and RESTARTED. -/
  firstGap : List Nat := []
  deriving DecidableEq, Repr

/-- R872: one fault-log entry. -/
structure LogEntry where
  tb : BitVec 64
  f : BitVec 40
  l : BitVec 16
  code : BitVec 16
  sev : Severity
  nested : Bool
  level : Nat
  rpValid : Bool
  acked : Bool
  retained : Bool
  detail : BitVec 64
  seq : BitVec 32
  deriving DecidableEq, Repr

/-- R882: one open handling window. -/
structure Handling where
  /-- R882: handling level 0 to 3. -/
  level : Nat
  /-- R884: code of the error under handling. -/
  code : Nat
  /-- R882: TB of the last error in the window. -/
  lastTb : Nat
  /-- R884: blocks and resources that the handling is resetting, by block number. -/
  resets : List Nat
  deriving DecidableEq, Repr

/-- R887: the state of a resource lease. -/
inductive LeaseState where
  | free | held | revoking
  deriving DecidableEq, Repr

/-- R887: one resource's owner token. -/
structure Lease where
  st : LeaseState := .free
  /-- `FLT_LEASE.OWNER`: block number, 0x80 + session, or 0xFF. -/
  owner : Nat := 0
  /-- TB at which the lease ends unless renewed. -/
  expires : Nat := 0
  /-- R889: TB since which a revocation waits for a running store operation. -/
  waitFrom : Option Nat := none
  /-- R890: the holder that lost the token to a revocation, until a party takes it again. -/
  former : Option Nat := none
  deriving DecidableEq, Repr

/-- Chapter 21: the fault log, handling windows, leases and availability. -/
structure Flt where
  /-- R876: the stored entries, newest first, at most 256. -/
  ring : List LogEntry := []
  /-- R876: SEQ that the next entry takes. -/
  nextSeq : BitVec 32 := 0
  /-- R877: entries lost since the last event 0x1101. -/
  lostSince : Nat := 0
  /-- R880: stored entries that wait for the long log, oldest first. -/
  pendingLong : List LogEntry := []
  /-- R880: entries of the 512-byte block in progress. -/
  blockLen : Nat := 0
  /-- R880: entries appended to the long log, newest first. -/
  longLog : List LogEntry := []
  /-- R880: entries ever appended to the long log. -/
  longCount : Nat := 0
  /-- R874, R870: events raised while they could not be logged, oldest first. -/
  held : List LogEntry := []
  /-- R881: newest mirror of the ring in the NOR and its next SEQ. -/
  mirror : Option (List LogEntry × BitVec 32) := none
  /-- R898: the figures of availability in the mirror: scheduled seconds, silent ms, gap ms, excluded seconds. -/
  mirrorAv : List Nat := [0, 0, 0, 0]
  /-- R881: the mirror's CRC-32 matches. -/
  mirrorOk : Bool := false
  /-- R882: the open handling windows. -/
  windows : List Handling := []
  /-- R887: the eight leases. -/
  leases : List Lease := List.replicate 8 {}
  /-- R871: TB of the last entry under each rate limit, by its key. -/
  lastLogged : List (Nat × Nat) := []
  /-- R898: scheduled seconds, silent ms, gap ms and excluded seconds. -/
  avSched : BitVec 64 := 0
  avSilent : BitVec 32 := 0
  avGap : BitVec 32 := 0
  avExcl : BitVec 32 := 0
  /-- R894, R898: the head has been RUNNING since the last image apply; ms of the second in progress, scheduled and excluded. -/
  avRun : Bool := false
  avSchedMs : Nat := 0
  avExclMs : Nat := 0
  /-- R897: measurement has stopped unannounced, from a power-fail warning to the next RUNNING. -/
  avQuiet : Bool := false
  /-- R895: first frame of the oldest unit discarded, by stream. -/
  discarded : List (Nat × Nat) := []
  deriving DecidableEq, Repr

/-- R518, R522: a thread's states; the constructor order is the code of `TGE_THR_STATUS.STATE`. -/
inductive ThrState where
  | off | run | wait | blocked | halted
  deriving DecidableEq, Repr

/-- R518: one thread of a trigger engine. -/
structure Thread where
  st : ThrState := .off
  pc : BitVec 9 := 0
  a : BitVec 32 := 0
  b : BitVec 32 := 0
  c0 : BitVec 16 := 0
  c1 : BitVec 16 := 0
  sh : BitVec 32 := 0
  shCount : Nat := 0
  /-- R518: TX FIFO (host to thread) and RX FIFO (thread to host), oldest first, at most 4 words. -/
  txf : List (BitVec 32) := []
  rxf : List (BitVec 32) := []
  /-- R516, R519: TB from which the thread executes again. -/
  ready : Nat := 0
  deriving DecidableEq, Repr

/-- R522: a thread group's states; the constructor order is the code of `TGE_ENG_STATUS.GRPg`. -/
inductive GrpState where
  | off | running | stopped
  deriving DecidableEq, Repr

/-- R516 to R546: one trigger engine. -/
structure Engine where
  threads : List Thread := List.replicate 16 {}
  groups : List GrpState := [.off, .off, .off, .off]
  /-- R522: per group, the frame of the STOP and of the RESTART in force. -/
  stopF : List (Option Nat) := [none, none, none, none]
  startF : List (Option Nat) := [none, none, none, none]
  /-- R532: the local IRQs. -/
  irq : BitVec 8 := 0
  /-- R541: the pending injection: thread and instruction. -/
  inj : Option (Nat × BitVec 16) := none
  /-- R542: RESULT: 0 none, 1 DONE, 2 NOT_DONE, 3 REFUSED. -/
  injResult : Nat := 0
  /-- R525: the engine cycle of the event of the last pulse on each of pins 20 to 27. -/
  pulses : List (Option Nat) := List.replicate 8 none
  /-- R544: TB since which the stall condition holds. -/
  stallFrom : Option Nat := none
  /-- R546: a declared stall persists. -/
  stalled : Bool := false
  /-- R548: EVENTs sent in the current second and TB of its start. -/
  evtSent : Nat := 0
  evtFrom : Nat := 0
  deriving DecidableEq, Repr

/-- Chapter 11: trigger engines, lines, pairs and shared flags. -/
structure Tge where
  engines : List Engine := [{}, {}, {}, {}]
  /-- R530: the 128 shared flags at the start of engine cycle `cyc`. -/
  flags : BitVec 128 := 0
  /-- R531: the engine cycle of the writes below, and the flags that threads set, clear and toggle an odd number of times
  and that the steward sets and clears in it. -/
  cyc : Nat := 0
  fSet : BitVec 128 := 0
  fClr : BitVec 128 := 0
  fTog : BitVec 128 := 0
  fTogged : BitVec 128 := 0
  wSet : BitVec 128 := 0
  wClr : BitVec 128 := 0
  /-- R549: EVENTs 0x0A10 that follow a level-1 restart. -/
  heldEvents : List LogEntry := []
  /-- R526: filtered level at each of pins 0 to 19 as the threads see it. -/
  inLevel : BitVec 20 := 0
  /-- R529: direction output, and the value last driven, per pin 0 to 19. -/
  dirOut : BitVec 20 := 0
  drive : BitVec 20 := 0
  /-- R528: the group that wrote each line last: pin, engine, group. -/
  lastBy : List (Nat × (Nat × Nat)) := []
  /-- R549: lines are held at SAFE, or undriven. -/
  safe : Bool := false
  /-- R549: the levels that the pad latches hold on the pins from a level-2 restart to the image; empty when they hold none. -/
  padLatch : List (Option Bool) := []
  undriven : Bool := true
  /-- R524: instruction words by 512 × engine + index; unlisted words are 0x0000. -/
  code : List (Nat × BitVec 16) := []
  deriving DecidableEq, Repr

/-- R582 to R585: the operations of a flash controller; the constructor order is the code of `CFG_FLASH_STATUS.OP`. -/
inductive FlashOp where
  | idle | read | erase | program | clearBits
  deriving DecidableEq, Repr

/-- R578, R582: one step of a flash sequence: address and, for programs, data bytes. -/
structure FlashStep where
  op : FlashOp
  addr : Nat
  data : List (BitVec 8)
  deriving DecidableEq, Repr

/-- R582: one flash controller. -/
structure FlashCtl where
  /-- The operation in progress, none when idle. -/
  cur : Option FlashStep := none
  /-- Steps of the sequence still to run. -/
  todo : List FlashStep := []
  /-- `CFG_FLASH_STATUS.LAST`. -/
  last : Nat := 0
  addr : Nat := 0
  /-- R585: event 0x120A has been logged for the sequence. -/
  waitLogged : Bool := false
  /-- The event that failed a step of the sequence; 0 while none has. -/
  failed : Nat := 0
  deriving DecidableEq, Repr

/-- R578: an IMAGE_WRITE in progress. -/
structure ImageWrite where
  target : WriteTarget
  slot : Nat
  total : Nat
  /-- R578 step 4: the data message that waits or is programmed, by its offset, and whether its pages are in the sequence. -/
  data : Option (Nat × List (BitVec 8)) := none
  started : Bool := false
  /-- R578 step 5: the close message has been received; whether the image's signature verifies. -/
  closing : Option Bool := none
  /-- R578 step 6: the commit is in the sequence: SEQ of the entry. -/
  commit : Option Nat := none
  /-- The session and the REQ to which the answer is owed. -/
  asker : Option (Nat × BitVec 64) := none
  deriving DecidableEq, Repr

/-- R575: why an image is applied. -/
inductive ApplyMode where
  | first | level2 | release
  deriving DecidableEq, Repr

/-- R78, R573: an image whose application waits for the system PLL to lock on the reference that the image names. -/
structure ApplyWait where
  image : List (BitVec 8)
  src : Nat
  slot : Nat
  mode : ApplyMode
  /-- The reference was changed by a patch (step 7 of R573), not by the PLL record (step 1). -/
  late : Bool
  deriving DecidableEq, Repr

/-- Chapter 12: the key, the image and the flash controllers. -/
structure Cfg where
  /-- R559: the presence line has been asserted for 100 ms. -/
  keyPresent : Bool := false
  /-- The key is physically in the slot. -/
  keyInSlot : Bool := false
  keyParams : KeyParams := {}
  /-- R558. -/
  keyUsable : Bool := false
  /-- R560: contents of the key; unlisted bytes read 0xFF (R561). -/
  keyMem : List Host.Cell := []
  /-- R586: contents of the internal NOR; unlisted bytes read 0xFF. -/
  nor : List Host.Cell := []
  /-- R564: an image read is in progress from this slot; R562: the slots that failed. -/
  reading : Option Nat := none
  /-- R575, R694: what the image being read is for: a start, or the damaged copy of a restart or release. -/
  readMode : ApplyMode := .first
  failedSlot : Option Nat := none
  /-- R78: the image whose application waits for the system PLL. -/
  applyWait : Option ApplyWait := none
  /-- `CFG_STATUS.IMG_SRC`. -/
  imgSrc : Nat := 0
  fallback : Bool := false
  fwSlot : Nat := 0
  fwFallback : Bool := false
  failReason : Nat := 0
  failRec : Nat := 0
  failType : Nat := 0
  failOfs : Nat := 0
  /-- R575: the retained copy of the applied image. -/
  retained : Option (List (BitVec 8)) := none
  /-- R575: the slot that the retained copy came from. -/
  imgSlot : Nat := 0
  imgSeq : Nat := 0
  imgLen : Nat := 0
  imgDigest : List (BitVec 8) := []
  fwVer : List (BitVec 32) := [0, 0]
  runVer : BitVec 32 := 0
  flash : List FlashCtl := [{}, {}]
  /-- R578: the IMAGE_WRITE of each target: firmware, key. -/
  writes : List (Option ImageWrite) := [none, none]
  /-- R589: the planned restart follows a committed firmware. -/
  plannedRestart : Bool := false
  /-- `CFG_BOOT_MS`, and TB at firmware ready. -/
  bootMs : Nat := 0
  readyTb : Nat := 0
  imgMs : Nat := 0
  deriving DecidableEq, Repr

/-- R597: the change set's states; the constructor order is the code of `CFG_CHG_STATUS.STATE`. -/
inductive ChgState where
  | idle | stopping | stopped | armed | split
  deriving DecidableEq, Repr

/-- R715: the reply that an accepted RESTART still owes: session, REQ, and the frame it names once that is known. -/
structure ChgReply where
  session : Nat
  req : BitVec 64
  frame : Option Nat
  deriving DecidableEq, Repr

/-- Chapter 13: the open change set. -/
structure Chg where
  st : ChgState := .idle
  session : Nat := 0
  /-- R762: it was opened by a STOP barrier. -/
  mosaic : Bool := false
  splitOk : Bool := false
  /-- R594, R612: the functions in the set, as FN values; those that a split step added come last. -/
  fns : List Nat := []
  stopF : Nat := 0
  /-- R599: the functions have been told to stop. -/
  stopDone : Bool := false
  rstF : Nat := 0
  /-- R600: staged items, oldest first. -/
  items : List ChgItem := []
  used : Nat := 0
  step : Nat := 0
  /-- R603: the items of split steps that wait for a boundary, oldest step first. -/
  pend : List (List ChgItem) := []
  /-- R611: raster items of applied split steps, which wait for F′. -/
  kept : List ChgItem := []
  /-- R612: lanes that a split step stops at the next boundary. -/
  laneStep : List Nat := []
  /-- R162: the descriptors that staged items set or staged programs reference, and their staged words. -/
  geoIdx : List Nat := []
  geoRegs : List (Nat × BitVec 32) := []
  /-- R207: the descriptors that staged programs reference. -/
  refs : List Nat := []
  /-- R611: staged items restart acquisition. -/
  acq : Bool := false
  /-- R605: the copy has ended. -/
  copied : Bool := false
  discard : Bool := false
  /-- R606: the frame at which the functions start, once it is known. -/
  start : Option Nat := none
  reply : Option ChgReply := none
  deriving DecidableEq, Repr

/-- R633: a stream's states; the constructor order is the code of `LNK_STR_STATUS.STATE`. -/
inductive StrState where
  | off | armed | running | draining | stopped
  deriving DecidableEq, Repr

/-- R635: the packet types; SEALED is the outer form of R647. -/
inductive PktType where
  | raw | stat | track | event
  deriving DecidableEq, Repr

/-- R635 to R647: one packet, before it is sealed: the header fields, the descriptor's and the payload's values. -/
structure Packet where
  type : PktType
  /-- R639: sealed under the stream's key (ENC). -/
  enc : Bool
  /-- R647: sent SEALED with padding to this UDP payload size. -/
  sealedSize : Option Nat
  last : Bool
  streamId : BitVec 16
  tenantId : BitVec 16
  f : BitVec 40
  exp : BitVec 8
  payloadLen : Nat
  /-- R635, R638: SEQ, [63:40] epoch, [39:0] count. -/
  seq : BitVec 64
  flags : BitVec 32
  frag : Nat
  /-- R640, R642: the descriptor's fields in the order of their table. -/
  desc : List Nat
  /-- R640, R642, R643, R645: pixels, record words, TRACK record fields or event entry words. -/
  data : List Nat
  /-- R639, R675: generation of the key under which it is sent. -/
  keyGen : Nat
  deriving DecidableEq, Repr

/-- R654: a retained packet and the TB at which it was sent. -/
structure Retained where
  pkt : Packet
  tb : Nat
  deriving DecidableEq, Repr

/-- R643: the open TRACK packet of a stream: records (as field values after KIND and LEN), bytes, and TB of the first record. -/
structure TrackBuf where
  recs : List (List Nat)
  bytes : Nat
  firstTb : Nat
  deriving DecidableEq, Repr

/-- R633 to R656: one stream, of the steward or of a tenant. -/
structure Stream where
  st : StrState := .off
  /-- R633: the start frame while ARMED, the frame F of the STOP while DRAINING, the frame F′ and the stop frame of a pending RESTART. -/
  start : Option Nat := none
  stopF : Nat := 0
  /-- R633: the first frame after the STOP whose results were left out, for event 0x0B08. -/
  gapFrom : Option Nat := none
  /-- R637: packets numbered in the current epoch, 40 bits. -/
  count : Nat := 0
  /-- R651: queued packets, oldest first. -/
  queue : List Packet := []
  /-- R643: the TRACK packet being filled. -/
  track : Option TrackBuf := none
  /-- R648: packets to be resent, ahead of the new ones. -/
  retx : List Packet := []
  /-- R648: UDP payload in the token bucket, in 1/2,000 byte, and the TB of the last refill. -/
  bucket : Nat := 0
  bucketTb : Nat := 0
  /-- R649: the deficit of the round robin. -/
  deficit : Nat := 0
  /-- R646: TB of the next constant-rate packet, and the packet built that has not left. -/
  crNext : Nat := 0
  crDue : List Packet := []
  /-- R654: retention ring, oldest first. -/
  ring : List Retained := []
  /-- R625: the next hop is resolved; event 0x0B07 has been logged. -/
  resolved : Bool := false
  failLogged : Bool := false
  /-- R625: TB of the last attempt to resolve the next hop. -/
  resTb : Nat := 0
  /-- R632: event 0x0B06 has been logged. -/
  keyLogged : Bool := false
  /-- R630, R643: TB from which the start counts its records. -/
  startTb : Nat := 0
  deriving DecidableEq, Repr

/-- R659, R624: one data port, or the management port (index 4). -/
structure Port where
  up : Bool := false
  /-- `LNK_P_TXB`: UDP payload bytes sent. -/
  txBytes : BitVec 64 := 0
  /-- R649: the stream ID that the round robin serves. -/
  rrCur : Nat := 0
  /-- R858: TB since which a packet could leave and none has. -/
  readyTb : Option Nat := none
  deriving DecidableEq, Repr

/-- R657: the PTP slave clock. Times are in 1/4 ns, the resolution of R658. -/
structure Ptp where
  /-- R657: the dataset of the master selected from Announce messages, its identity last but one. -/
  master : Option (List Nat) := none
  /-- R658: of the last Sync, its time at the master and here; of the last Delay_Req, its time here and at the master. -/
  t1 : Option Int := none
  t2 : Option Int := none
  t3 : Option Int := none
  t4 : Option Int := none
  /-- R657: half the sum of the two directions' delays, once measured. -/
  delay : Option Int := none
  /-- R657: TB of the last Delay_Req. -/
  reqTb : Nat := 0
  deriving DecidableEq, Repr

/-- Chapter 14: the data link and the streams. -/
structure Lnk where
  /-- R629: the streams whose record differs from the reset record, by stream ID. -/
  streams : List (Nat × Stream) := []
  /-- R659: data ports 0 to 3 and the management port 4. -/
  ports : List Port := List.replicate 5 {}
  /-- R623: the QSFP-DD module is present; R557: transmitters enabled. -/
  module : Bool := false
  txEn : Bool := false
  /-- R638: the epoch. -/
  epoch : BitVec 24 := 0
  /-- R638: the epoch stands in the NOR journal; until then the streams wait. -/
  epochOk : Bool := false
  /-- R638: a stream's count has reached 2⁴⁰ − 1, and the epoch is to advance. -/
  epochDue : Bool := false
  /-- R638: the journal copy of the epoch. -/
  epochJournal : BitVec 24 := 0
  ptp : Ptp := {}
  /-- R650: quota admitted on each port in Mb/s, and QLIM in KiB and retention rings in bytes admitted in all. -/
  load : List Nat := [0, 0, 0, 0, 0]
  memQ : Nat := 0
  memR : Nat := 0
  /-- R625: answers and requests of address resolution and Delay_Req messages that have left, newest first: port and kind
  (0 answer, 1 request, 2 Delay_Req). -/
  control : List (Nat × Nat) := []
  /-- Packets that have left on the ports, newest first: port and packet. -/
  sent : List (Nat × Packet) := []
  deriving DecidableEq, Repr

/-- R703, R711: one LCP reply as it left: party kind, session or tenant, REQ, status, detail and the reply words. -/
structure Reply where
  tenant : Bool
  party : Nat
  req : BitVec 64
  status : Nat
  detail : Nat
  body : List (BitVec 32)
  deriving DecidableEq, Repr

/-- R704 to R709: one steward session. -/
structure Session where
  opened : Bool := false
  /-- R704: MTU, EVT and MIN_SEV of its INIT, and the port it arrived on. -/
  mtu : Nat := 1280
  evt : Bool := false
  minSev : Severity := .info
  port : Nat := 0
  /-- R704: the session runs over IPv6. -/
  ipv6 : Bool := false
  /-- R706: session key and salt. -/
  key : BitVec 256 := 0
  salt : BitVec 32 := 0
  /-- R708: the last accepted REQ. -/
  lastReq : BitVec 64 := 0
  /-- R726: the REQ in execution. -/
  cur : BitVec 64 := 0
  /-- R708: the last 16 accepted requests and their replies, newest first; none while the reply is owed. -/
  cache : List (BitVec 64 × LcpOp × Option Reply) := []
  /-- R726: the request in execution whose answer waits for an operation, and the requests behind it, oldest first. -/
  busy : Option (BitVec 64) := none
  waitq : List (BitVec 64 × LcpOp) := []
  /-- R709: TB of the last accepted request. -/
  lastTb : Nat := 0
  /-- R724, R725: entries queued for EVENT messages, oldest first, at most 1,024, and entries lost since the last message. -/
  evq : List LogEntry := []
  lost : Nat := 0
  /-- R725: the loss that the last event 0x1235 was raised for. -/
  lostSeen : Nat := 0
  /-- R724: TB of the first queued entry. -/
  evqTb : Nat := 0
  /-- R724: EVENT messages sent. -/
  evCount : Nat := 0
  deriving DecidableEq, Repr

/-- R724: one EVENT message as it left. -/
structure EventMsg where
  session : Nat
  req : Nat
  lost : Nat
  entries : List LogEntry
  deriving DecidableEq, Repr

/-- R706: one ACCEPT as it left: its session, and HEAD_PUB (X, then Y), HEAD_NONCE, DEVICE_SIG (r, then s) and the tag, which are
free values. -/
structure Accept where
  session : Nat
  pubX : BitVec 256
  pubY : BitVec 256
  nonce : BitVec 128
  sigR : BitVec 256
  sigS : BitVec 256
  tag : BitVec 128
  deriving DecidableEq, Repr

/-- Chapter 16: the control protocol. -/
structure Lcp where
  sessions : List Session := List.replicate 4 {}
  /-- Replies that have left, newest first. -/
  replies : List Reply := []
  /-- R705, R706: ACCEPT and REFUSE answers that have left, newest first. -/
  accepts : List (Option Accept) := []
  events : List EventMsg := []
  /-- R708, R730: session and TB of the messages that failed within the last second, newest first. -/
  failed : List (Nat × Nat) := []
  deriving DecidableEq, Repr

/-- R670: a tenant context's states; the constructor order is the code of its STATE field. -/
inductive CtxState where
  | empty | armed | active | suspended
  deriving DecidableEq, Repr

/-- R666: the RWS words of a context, by their offset order: CTRL 0x00, 0x08, 0x0C, DST 0x10 to 0x1C, 0x20, 0x24, 0x28, 0x2C, 0x30, 0x34, 0x38 and GRANT 0x40 to 0x5C. -/
structure CtxWords where
  ctrl : BitVec 32 := 0
  ip : BitVec 32 := 0
  udp : BitVec 32 := 0
  dst : List (BitVec 32) := [0, 0, 0, 0]
  y0x0 : BitVec 32 := 0
  y1x1 : BitVec 32 := 0
  geo : BitVec 32 := 0
  quota : BitVec 32 := 0
  qlim : BitVec 32 := 0
  crSize : BitVec 32 := 0
  crPeriod : BitVec 32 := 0
  grant : List (BitVec 32) := List.replicate 8 0
  deriving DecidableEq, Repr

/-- R679 to R683: one accepted tenant request in its queue. -/
structure TenReq where
  req : BitVec 64
  op : LcpOp
  deriving DecidableEq, Repr

/-- R685: the frames of which a tenant receives the results of a set: from `first` on, and before `fin` if it has ended. -/
structure SubSpan where
  set : Nat
  first : Nat
  fin : Option Nat
  deriving DecidableEq, Repr

/-- R666: one tenant context. -/
structure Ctx where
  st : CtxState := .empty
  /-- R666: settings in force. -/
  words : CtxWords := {}
  /-- R668: the shadow, while a write is pending. -/
  shadow : Option CtxWords := none
  /-- R666, R685: the subscribed sets, and the raw subscription. -/
  sub : List SubSpan := []
  rawSub : Bool := false
  /-- R685: subscription changes that wait: the new SUB and its acceptance TB per set, and the new RAW_SUB with its TB. -/
  subNext : List (Nat × (Bool × Nat)) := []
  rawNext : Option (Bool × Nat) := none
  /-- R680: the last accepted request value. -/
  lastReq : BitVec 64 := 0
  reqOk : Nat := 0
  reqRefused : Nat := 0
  rateDrops : Nat := 0
  authFail : Nat := 0
  resultsDropped : Nat := 0
  retxRefused : Nat := 0
  /-- R386, R671: the windows held, as (TWIN, window), the most recently defined last; R390: windows removed that the tenant's
  stream has not been told of. -/
  wins : List (Nat × Nat) := []
  lostWins : Nat := 0
  /-- R681: the bucket in TB, 2,500,000 for a request, and the TB of the last refill. -/
  bucket : Nat := 50000000
  bucketTb : Nat := 0
  /-- R681: the queue of requests, oldest first. -/
  queue : List TenReq := []
  /-- R681: TB of the last event 0x0C06 and drops since it. -/
  rateTb : Option Nat := none
  rateCount : Nat := 0
  /-- R670: first frame suspended. -/
  suspendedFrom : Nat := 0
  deriving DecidableEq, Repr

/-- R669: the commit's outcome; the constructor order is the code of `TEN_COMMIT_STATUS.STATE`. -/
inductive CommitState where
  | idle | pending | applied | refused
  deriving DecidableEq, Repr

/-- R674: one key slot. -/
structure KeySlot where
  key : BitVec 256
  salt : BitVec 32
  /-- R675, R639: the number of the installation, which tells the packets of one key from those of the next. -/
  gen : Nat
  deriving DecidableEq, Repr

/-- R677: one copy of the key store in the eMMC. -/
structure KeyCopy where
  generation : Nat
  serial : BitVec 64
  slots : List (Nat × KeySlot)
  ok : Bool
  deriving DecidableEq, Repr

/-- R677: a store of the key store in progress. -/
structure KeyStoreOp where
  copy : Nat
  /-- Bytes written so far. -/
  done : Nat
  busy : Bool
  waitLogged : Bool
  deriving DecidableEq, Repr

/-- Chapter 15: tenants, keys and requests. -/
structure Ten where
  /-- R666: contexts whose record differs from the reset record, by tenant ID. -/
  ctx : List (Nat × Ctx) := []
  /-- R669: the pending commit: tenant, the shadow checked, and the TB of the commit. -/
  pending : Option (Nat × (CtxWords × Nat)) := none
  commit : CommitState := .idle
  commitReason : Nat := 0
  commitTenant : Nat := 0
  /-- R673: the slots in force. -/
  keys : List (Nat × KeySlot) := []
  /-- R675: slots that change at the next frame boundary; none erases. -/
  keyNext : List (Nat × Option KeySlot) := []
  keyGen : Nat := 0
  /-- R674: the write-only staging words of `TEN_KEY_DATA` and `TEN_KEY_SALT`. -/
  keyData : List (BitVec 32) := List.replicate 8 0
  keySalt : BitVec 32 := 0
  /-- R677: the two copies in the eMMC. -/
  copies : List (Option KeyCopy) := [none, none]
  generation : Nat := 0
  /-- R678: the copy loaded, `TEN_STATUS.STORE_SRC`. -/
  src : Nat := 0
  store : Option KeyStoreOp := none
  /-- R677: a further store is due after the one in progress. -/
  storeDue : Bool := false
  /-- R682: the tenant whose turn is next. -/
  rr : Nat := 0
  /-- R694: the committed table's copy in the frame store, and whether its CRC-32 matches. -/
  copy : List (Nat × CtxWords) := []
  copyOk : Bool := true
  /-- R681: TB of the last events 0x0C04 and 0x0C0E, and their counts since. -/
  authTb : Option Nat := none
  authCount : Nat := 0
  unknownTb : Option Nat := none
  unknownCount : Nat := 0
  deriving DecidableEq, Repr

/-- R747: the mosaic states; the constructor order is the code of `MOS_STATUS.STATE`. -/
inductive MosState where
  | solo | joining | root | member | interimRoot | partitioned | refused
  deriving DecidableEq, Repr

/-- R737, R743: one head of the view, as its last HELLO cell reported it. -/
structure Hello where
  id : Nat
  serial : BitVec 64
  claim : Bool
  discordant : Bool
  hold : Bool
  refused : Bool
  state : Nat
  rootId : Nat
  rootHops : Nat
  bseq : Nat
  /-- R746: the major and minor version of the cell. -/
  major : Nat
  minor : Nat
  /-- R751: HOPS of the cell. -/
  hops : Nat
  /-- R743: port of arrival, and TB of the last HELLO on the east and on the west port. -/
  east : Option Nat
  west : Option Nat
  deriving DecidableEq, Repr

/-- `MOS_PORT_STATUS.LINK`, by its code order. -/
inductive LinkState where
  | down | measuring | up | delayFault
  deriving DecidableEq, Repr

/-- R739 to R741: one mosaic port. -/
structure MosPort where
  link : LinkState := .down
  /-- R740: twice the d of the last 16 exchanges in 1/16 TB, newest first. -/
  exch : List Int := []
  /-- R740: the hop delay in 2⁻¹⁰ TB (`MOS_PORT_DELAY`). -/
  delay : Int := 0
  /-- R751: root cells are taken from this port. -/
  primary : Bool := false
  neighbour : Nat := 0
  /-- R751: HOPS and TB of the last RASTER cell of the root on this port. -/
  hops : Nat := 0
  cellTb : Option Nat := none
  deriving DecidableEq, Repr

/-- R758, R759: a barrier received in full or in part. -/
structure Barrier where
  bseq : Nat
  cmd : Nat
  splitOk : Bool
  discard : Bool
  f : Nat
  nPart : Nat
  /-- Parts received, as (PART, FNs). -/
  parts : List (Nat × List Nat)
  /-- R758: it has taken effect on this head, and its frame is still to come. -/
  taken : Bool := false
  deriving DecidableEq, Repr

/-- R736: a cell sent by this head: type code, port (2 is both), HOPS, DELAY_ACC and the body's field values. -/
structure Cell where
  type : Nat
  origin : Nat
  port : Nat
  hops : Nat
  seq : Nat
  delayAcc : Nat
  body : List Nat
  deriving DecidableEq, Repr

/-- R749 to R754: what a RASTER cell said; its corrected time in 2⁻¹⁰ TB, the phase error that the loop measures for its line
event, and the offset of the head's own line event from it in 2⁻¹⁰ TB. -/
structure RasterCell where
  f : Nat
  l : Nat
  flags : Nat
  time : Int
  err : Int
  ofs : Int
  deriving DecidableEq, Repr

/-- Chapter 17: the mosaic of heads. -/
structure Mos where
  st : MosState := .solo
  /-- R731: the applied image holds a MOSAIC record that is not ignored (R732). -/
  record : Bool := false
  /-- R775: bytes 16 to 31 of the record: EXPECTED, TOPOLOGY and TAG. -/
  expected : Nat := 0
  topology : Nat := 0
  tag : BitVec 64 := 0
  discordant : Bool := false
  /-- R767: every lane and window set is stopped by HALT; the restart after the catch-up is due. -/
  halted : Bool := false
  /-- R733: own HELLO cells come back on the other port. -/
  ring : Bool := false
  /-- R733: TB of the own HELLO cell that came back last. -/
  ringTb : Nat := 0
  ports : List MosPort := [{}, {}]
  /-- R743: the view without this head. -/
  view : List Hello := []
  /-- R743: TB of the last change of the view. -/
  viewTb : Nat := 0
  /-- R744: current root or interim root and its hops. -/
  rootId : Option Nat := none
  rootHops : Nat := 0
  /-- R746: minor version in use. -/
  minor : Nat := 0
  /-- R745: consecutive frames for which the own highest-ranked source has stayed qualified. -/
  holdFrames : Nat := 0
  /-- R750: the last accepted RASTER cell. -/
  lastRaster : Option RasterCell := none
  /-- R751: the last cell of the port that is not primary; consecutive line events whose two corrected times differ by more
  than 8 ns. -/
  spare : Option RasterCell := none
  mismatch : Nat := 0
  /-- R754: sum and number of offsets in the running 16. -/
  offSum : Int := 0
  offN : Nat := 0
  /-- R754: `MOS_OFFSET`. -/
  offset : Int := 0
  /-- R754: the resynchronisation waits for the next vertical event of MOSAIC. -/
  resync : Bool := false
  /-- R752: the followed cells had FLAGS[1] set in the frame in progress. -/
  coastCells : Bool := false
  /-- R752, R771: the head has left a partition state without having reconciled yet. -/
  unreconciled : Bool := false
  /-- R755: a root whose raster has not been followed is to be reconciled at its next boundary; RP_VALID waits for F_r ≥ F_h + 1. -/
  reconcile : Bool := false
  reconWait : Bool := false
  /-- R758: BSEQ last applied and last received, and the root's counter. -/
  applied : Nat := 0
  received : Nat := 0
  issued : Nat := 0
  /-- R758, R770: barriers received and not yet applied. -/
  latched : List Barrier := []
  /-- R759, R764: the barriers that this head has issued as root; the frame of the last one requested. -/
  history : List Barrier := []
  reqF : Option Nat := none
  /-- R760: heads that have reported READY; TB at which ARM was issued. -/
  ready : List Nat := []
  armTb : Option Nat := none
  /-- R760: the START of the ARM in force has been issued, or taken as a member. -/
  startIssued : Bool := false
  /-- R758: the ARM for which this head has still to report READY. -/
  armDue : Option Nat := none
  /-- R766: the root's digest, 32 bytes; the digests are to be compared at the next STATE cell. -/
  rootDigest : List (BitVec 8) := List.replicate 32 0
  joinCheck : Bool := false
  rootBseq : Nat := 0
  /-- R764: the root whose barriers `received` counts. -/
  bseqRoot : Option Nat := none
  /-- R732: event 0x0D11 has been logged; R746, R775: the mismatch events have been logged for the settled view. -/
  removedLogged : Bool := false
  topoLogged : Bool := false
  /-- R737: SEQ per cell type, next value. -/
  seqs : List Nat := [0, 0, 0, 0, 0, 0, 0, 0, 0]
  /-- R731: the transmitters are enabled. -/
  txOn : Bool := false
  /-- R738, R749: cells sent or forwarded, newest first. -/
  sent : List Cell := []
  deriving DecidableEq, Repr

/-- R791: the life-cycle states; the constructor order is the code of `FUS_STATUS.LC_STATE`. -/
inductive LcState where
  | blank | factory | provisioned | deployed | retired
  deriving DecidableEq, Repr

/-- R781: the tenant classes, by the code of `TEN_STATUS.CLASS`. -/
inductive TenClass where
  | full | single | stewardOnly
  deriving DecidableEq, Repr

/-- R784: the critical wires, held until the always-on domain loses power. -/
structure Wires where
  lc : BitVec 4 := 0
  rmMosaic : Bool := false
  rmRaw : Bool := false
  tenClass : TenClass := .full
  rmJtag : Bool := false
  hwStart : Bool := false
  window : BitVec 2 := 0
  /-- R780: the ladder count N. -/
  ladder : Nat := 7
  deriving DecidableEq, Repr

/-- R793, R798, R800: the command in progress. -/
structure FuseCmd where
  init : FuseInit
  /-- 1 PROGRAM, 2 ADVANCE. -/
  op : Nat
  /-- Words still to program: (word, value), in order. -/
  todo : List (Nat × BitVec 32)
  /-- The word in progress. -/
  cur : Option (Nat × BitVec 32)
  /-- R793: the new state of an ADVANCE, and whether its LC bit, the last one, is being programmed. -/
  step : Option LcState
  last : Bool
  /-- Session and REQ that await the reply, for FUSE_PROGRAM. -/
  reply : Option (Nat × BitVec 64)
  /-- R800: TB at which the energy rule was first asked for the next word, and whether event 0x0E07 has been logged for it. -/
  waitTb : Option Nat
  waitLogged : Bool
  deriving DecidableEq, Repr

/-- Chapter 18: the fuse array. -/
structure Fus where
  /-- R777: physical copies A and B of the 128 words; unlisted words read 0. -/
  a : List (Nat × BitVec 32) := []
  b : List (Nat × BitVec 32) := []
  /-- R784: the sense is complete. -/
  sensed : Bool := false
  wires : Wires := {}
  /-- R789: bit u is set when unit u failed its check. -/
  fail : BitVec 6 := 0
  /-- R784: FINAL as sensed (`FUS_STATUS.FINAL`). -/
  fin : BitVec 6 := 0
  /-- R784: ORDER as sensed (`GLB_VARIANT.ORDER`). -/
  order : Nat := 0
  /-- R789: state in force (R782 with R789). -/
  lc : LcState := .blank
  /-- R799: unlocked until the next power-on. -/
  unlocked : Bool := false
  cmd : Option FuseCmd := none
  result : Nat := 0
  detail : Nat := 0
  deriving DecidableEq, Repr

/-- R864: one of the last 16 ladder events. -/
structure Cause where
  tb : BitVec 64 := 0
  f : BitVec 40 := 0
  l : BitVec 16 := 0
  level : Nat := 0
  code : BitVec 16 := 0
  detail : BitVec 48 := 0
  deriving DecidableEq, Repr

/-- R858: the progress monitors; the constructor order is m = 0 to 4. -/
inductive Monitor where
  | scheduler | slices | linkScheduler | triggerEngines | trackerRegular
  deriving DecidableEq, Repr

/-- R818, R855: the store operations, by their number k. -/
inductive StoreOp where
  | norErase | norProgram | emmcWrite | fuseWord | checkpoint
  deriving DecidableEq, Repr

/-- R848 to R852: a ladder event, by its causing code and its detail. -/
structure LadderEvent where
  code : Nat
  detail : BitVec 48
  /-- R849 row 2, 4: the event is a watchdog expiry. -/
  expiry : Bool
  /-- R884, R885: a nested error's handling level + 1; 0 otherwise. -/
  minLevel : Nat
  deriving DecidableEq, Repr

/-- R864, R865: the supervision record as the NOR journal keeps it. -/
structure SupRecord where
  l1 : Nat
  l2 : Nat
  l3 : Nat
  /-- R864: watchdog expiries, and R968: power-ons. -/
  wdgTotal : Nat
  powerOn : Nat
  causes : List Cause
  deriving DecidableEq, Repr

/-- Chapter 20: supervision. -/
structure Sup where
  /-- R841: the watchdog runs. -/
  wdgRun : Bool := false
  /-- R838: RC-oscillator cycles since the last service. -/
  elapsed : Nat := 0
  /-- R838: the part of a cycle that has passed, in 1/125 cycle. -/
  elapsedPart : Nat := 0
  /-- R842: the boot period is in force. -/
  bootPer : Bool := true
  /-- R843: the PERIOD in force since the last accepted service, in ms. -/
  periodInForce : Nat := 1000
  /-- R847: the slow-clock fallback is in force. -/
  fallback : Bool := false
  /-- R846: count of the last monitor window. -/
  monCount : Nat := 0
  /-- R849 row 2: TB of the last expiry. -/
  lastExpiry : Option Nat := none
  /-- R864: level-1, level-2 and level-3 restarts since the head was built. -/
  l1 : Nat := 0
  l2 : Nat := 0
  l3 : Nat := 0
  /-- R864: watchdog expiries. -/
  wdgTotal : Nat := 0
  /-- R864, R968: power-ons of the always-on domain. -/
  powerOn : Nat := 0
  /-- R864: the retained HOLD mark. -/
  hold : Bool := false
  /-- R864: TB of the level-2 restarts within HOUR, newest first, at most 7. -/
  l2Win : List Nat := []
  /-- R864: the last 16 ladder events, newest first. -/
  causes : List Cause := []
  /-- `SUP_STATUS.LAST_LEVEL`: level of the last ladder event. -/
  lastLevel : Nat := 0
  /-- R858: machines declared stuck and not yet moving again, as (monitor, instance). -/
  stuck : List (Nat × Nat) := []
  /-- R859: TBs of the declarations of each monitor within REARM. -/
  monWin : List (List Nat) := [[], [], [], [], []]
  /-- R855: a level-2 restart is deferred since this TB. -/
  deferred : Option (Nat × LadderEvent) := none
  /-- R855: the operation k that the deferral waits for. -/
  deferOp : Nat := 0
  /-- R848: ladder events of the tick that have not been acted on yet. -/
  requests : List LadderEvent := []
  /-- R852: ladder events held during a level-2 restart. -/
  held : List LadderEvent := []
  /-- R850: the management core is held in reset or restarting. -/
  coreDown : Bool := false
  /-- R850: the processor die is restarting. -/
  dieDown : Bool := false
  /-- R865: newest journal copy of the supervision record. -/
  journal : Option SupRecord := none
  /-- R864: a commit of the record to the journal is due. -/
  commitDue : Bool := false
  deriving DecidableEq, Repr

/-- R812: the states of domains 280 to 314. -/
inductive DomState where
  | off | ramp | ready | fault
  deriving DecidableEq, Repr

/-- R823: the power-fail states, by the code of `PWR_STATUS.PF_STATE`. -/
inductive PfState where
  | normal | emergency | parking
  deriving DecidableEq, Repr

/-- R817: who a store operation belongs to. -/
inductive StoreUser where
  | calibration | checkpoint | keyFlash | norFlash | keyStore | fuse | journal | faultMirror | supRecord | longLog
  deriving DecidableEq, Repr

/-- R817: a store operation that has been started and has not ended. -/
structure RunStore where
  op : StoreOp
  user : StoreUser
  deriving DecidableEq, Repr

/-- R820: a store operation that waits on the energy rule. -/
structure WaitStore where
  op : StoreOp
  user : StoreUser
  /-- TB at which the operation was asked for, and TB of its last check. -/
  since : Nat
  last : Nat
  deriving DecidableEq, Repr

/-- Chapter 19: power and hold-up. -/
structure Pwr where
  /-- R811: domains 280 to 314 whose state is not OFF. -/
  doms : List (Nat × DomState) := []
  pf : PfState := .normal
  mainsOk : Bool := false
  /-- R816: V_bulk in 0.01 V. -/
  bulk : Nat := 0
  /-- `PWR_MAINS`, `PWR_INPUT`. -/
  mainsV : BitVec 16 := 0
  mainsF : BitVec 16 := 0
  input : BitVec 16 := 0
  /-- R816: E_avail of the last check in mJ. -/
  eAvail : Nat := 0
  running : List RunStore := []
  /-- R819: operations whose check has been requested. -/
  checking : List WaitStore := []
  waiting : List WaitStore := []
  /-- R826: journal pages queued behind the running operation. -/
  queued : List StoreUser := []
  /-- R808: rails outside their warn window. -/
  rails : List (BitVec 20) := [0, 0, 0, 0, 0]
  railOut : List Bool := [false, false, false, false, false]
  /-- R815: event 0x0F0B has been logged for this number of usable lanes. -/
  cryptoLogged : Option Nat := none
  /-- R825, R828, R830: TB of the warning or of the sleep command, the cause, and the steps 3, 4 and 5 that have ended. -/
  warnTb : Nat := 0
  warnCause : Nat := 0
  stepsDone : List Nat := []
  /-- R829: parked; the head counts as OFF, with the always-on domain powered. -/
  parked : Bool := false
  /-- R829: ms parked, for event 0x0F0E. -/
  parkMs : Nat := 0
  /-- The always-on domain is powered. -/
  aon : Bool := false
  /-- R830: the sleep sequence runs, and the steps that have ended. -/
  sleeping : Bool := false
  /-- R825: the store of step 5 in progress: 0 the journal, 1 the checkpoint, 2 the mirror, 3 none left. -/
  pfStep : Nat := 0
  deriving DecidableEq, Repr

/-- What stops the machine. The spec stops the head at no command, so there is no fault; a reader may take every
outcome of `exec` as a next state. -/
inductive Fault where
  deriving DecidableEq, Repr

/-- Why a command has no next state. -/
inductive Refusal where
  /-- Raised by an arm of `exec` whose row has no meaning yet; safe, since no claim about a next state can be proved of it. -/
  | notModelled (mnemonic : String)
  deriving DecidableEq, Repr

/-- The head: every piece of state the spec gives it, and the queue of commands that wait. -/
structure State where
  head : Head := {}
  rru : Rru := {}
  tmb : Tmb := {}
  sns : Sns := {}
  cro : Cro := {}
  exs : Exs := {}
  pat : Pat := {}
  cal : Cal := {}
  ctg : Ctg := {}
  trc : Trc := {}
  tge : Tge := {}
  cfg : Cfg := {}
  chg : Chg := {}
  lnk : Lnk := {}
  ten : Ten := {}
  lcp : Lcp := {}
  mos : Mos := {}
  fus : Fus := {}
  pwr : Pwr := {}
  sup : Sup := {}
  flt : Flt := {}
  /-- R15: registers that differ from the reset value of their field map, by address; strictly rising. -/
  regs : List (Nat × Word) := []
  /-- R15, R20: registers with RWS fields that have staged values pending, by address. -/
  staged : List (Nat × Word) := []
  /-- R20: the RWS words written in this tick, which the boundary of this tick does not apply. -/
  justStaged : List (Nat × Word) := []
  /-- R17 to R19: the registers that the head itself changed in this tick, by address. -/
  fresh : List (Nat × Fresh) := []
  /-- R97: latched words of wide reads, per initiator. -/
  shadows : List Shadow := []
  /-- R959: window memory, row maps and exposure programs, canonical; an unlisted byte reads 0. -/
  mem : List Host.Cell := []
  /-- The model's own: the counter that free values are applied to. -/
  freeCount : Nat := 0
  /-- The commands that wait, first in first out. -/
  pending : List Instr := []
  deriving DecidableEq, Repr

/-- The head before mains is applied (R7, OFF): every register at the reset value of its field map, nothing powered, no
command waiting. -/
def State.reset : State := {}

end Sys2Proof.Machine
end

