-- ==== Sys2Proof/Machine/Events.lean ====
section
/-! DEFINITION. The event codes (R899) with their severities, as the event tables of the chapters state them. -/

namespace Sys2Proof.Machine

/-- The codes of severity WARN. -/
def warnCodes : List Nat :=
  [0x0102, 0x0103, 0x0105, 0x0109, 0x010A, 0x010C, 0x010E, 0x010F, 0x0110, 0x0111, 0x0203, 0x0206, 0x0207, 0x0208,
   0x020A, 0x020B, 0x1002, 0x1006, 0x1008, 0x100D, 0x100F, 0x1101, 0x1103, 0x1104, 0x1106, 0x0302, 0x0303, 0x0306,
   0x0308, 0x0402, 0x0406, 0x0407, 0x0408, 0x0409, 0x040A, 0x0501, 0x0502, 0x0505, 0x0506, 0x0507, 0x0508, 0x050B,
   0x050C, 0x0511, 0x0512, 0x0513, 0x0514, 0x0601, 0x0602, 0x0603, 0x0607, 0x0608, 0x060A, 0x060B, 0x0703, 0x0704,
   0x0705, 0x0707, 0x0708, 0x070B, 0x0802, 0x0805, 0x0807, 0x0808, 0x080B, 0x0903, 0x0906, 0x0907, 0x0909, 0x090A,
   0x090B, 0x090C, 0x0A01, 0x0A03, 0x0A05, 0x0A06, 0x0A07, 0x0A08, 0x0A09, 0x0A0A, 0x1202, 0x1208, 0x120A, 0x120E,
   0x120F, 0x1223, 0x1224, 0x1226, 0x1228, 0x0B02, 0x0B03, 0x0B07, 0x0B09, 0x0B0A, 0x0B0B, 0x0C03, 0x0C04, 0x0C05,
   0x0C07, 0x0C0A, 0x0C0C, 0x0C0D, 0x0C11, 0x1232, 0x1234, 0x1235, 0x1236, 0x0D03, 0x0D05, 0x0D06, 0x0D08, 0x0D0C,
   0x0D0D, 0x0D0E, 0x0D0F, 0x0D10, 0x0D11, 0x0D12, 0x0E02, 0x0E06, 0x0E07, 0x0F03, 0x0F04, 0x0F08, 0x0F0B, 0x0F0C,
   0x0F0D]

/-- The codes of severity FAULT. -/
def faultCodes : List Nat :=
  [0x0108, 0x010B, 0x1001, 0x1007, 0x1102, 0x0304, 0x0401, 0x0405, 0x0509, 0x0606, 0x0709, 0x070A, 0x0804, 0x0806,
   0x0809, 0x080A, 0x080C, 0x0901, 0x0902, 0x0908, 0x0A04, 0x1203, 0x1204, 0x1206, 0x1209, 0x120C, 0x1210, 0x0B06,
   0x0B0F, 0x0C0B, 0x0D0A, 0x0D0B, 0x0D13, 0x0E04, 0x0E09, 0x0F01, 0x0F05, 0x0F07]

/-- The codes of severity CRITICAL. -/
def criticalCodes : List Nat :=
  [0x010D, 0x1003, 0x1004, 0x1009, 0x100A, 0x100E, 0x0305, 0x0904, 0x0B0E, 0x0E01, 0x0F06]

/-- The codes of severity INFO. -/
def infoCodes : List Nat :=
  [0x0101, 0x0104, 0x0106, 0x0107, 0x0201, 0x0202, 0x0204, 0x0205, 0x0209, 0x020C, 0x0210, 0x1005, 0x100B, 0x100C,
   0x1105, 0x1107, 0x0301, 0x0307, 0x0403, 0x0404, 0x040B, 0x0503, 0x0504, 0x050A, 0x0604, 0x0605, 0x0609, 0x0701,
   0x0702, 0x0706, 0x070C, 0x0801, 0x0803, 0x0905, 0x0A02, 0x0A0B, 0x0A0C, 0x0A10, 0x1201, 0x1205, 0x1207, 0x120B,
   0x120D, 0x1221, 0x1222, 0x1225, 0x1227, 0x0B01, 0x0B04, 0x0B05, 0x0B08, 0x0B0C, 0x0B0D, 0x0B10, 0x0C01, 0x0C02,
   0x0C06, 0x0C08, 0x0C09, 0x0C0E, 0x0C0F, 0x0C10, 0x1231, 0x1233, 0x0D01, 0x0D02, 0x0D04, 0x0D07, 0x0D09, 0x0E03,
   0x0E05, 0x0E08, 0x0F02, 0x0F09, 0x0F0A, 0x0F0E]

/-- R871: the codes that make no log entry. -/
def eventOnlyCodes : List Nat := [0x0204, 0x0210, 0x0C10]

/-- R875: the severity of a code. -/
def severityOf (code : Nat) : Severity :=
  if warnCodes.contains code then .warn
  else if faultCodes.contains code then .fault
  else if criticalCodes.contains code then .critical
  else .info

/-- The EVT bit of a code: bit n of the EVT register of its block, for code 0x100 × block + n; blocks 0x05 and 0x12 have
further EVT registers (R345, R622, R730). -/
def evtField (code : Nat) : Fld :=
  let b := code / 256
  let n := code % 256
  if b = 0x05 ∧ 0x11 ≤ n then ⟨0x00050808, n - 0x10, 1⟩
  else if b = 0x12 ∧ 0x31 ≤ n then ⟨0x00120204, n - 0x30, 1⟩
  else if b = 0x12 ∧ 0x21 ≤ n then ⟨0x00120104, n - 0x20, 1⟩
  else ⟨b * 0x10000 + 8, n, 1⟩

end Sys2Proof.Machine
end

