-- ==== Sys2Proof/Machine/Ops.lean ====
section
/-! DEFINITION. The named operations that the meanings share: tables, registers, memory windows, the fault log and the
delivery of its entries, requests to the ladder. -/

namespace Sys2Proof.Machine

/-! ## Tables: sparse data by key, strictly rising -/

/-- The entry at a key. -/
def Tbl.get? {α : Type} : List (Nat × α) → Nat → Option α
  | [], _ => none
  | (k, v) :: t, n => if k = n then some v else Tbl.get? t n

/-- Sets the entry at a key, keeping the keys rising. -/
def Tbl.set {α : Type} : List (Nat × α) → Nat → α → List (Nat × α)
  | [], n, v => [(n, v)]
  | (k, w) :: t, n, v =>
    if n < k then (n, v) :: (k, w) :: t
    else if n = k then (n, v) :: t
    else (k, w) :: Tbl.set t n v

/-- Removes the entry at a key. -/
def Tbl.del {α : Type} : List (Nat × α) → Nat → List (Nat × α)
  | [], _ => []
  | (k, w) :: t, n => if k = n then Tbl.del t n else (k, w) :: Tbl.del t n

/-- The entry at a key, or a default. -/
def Tbl.getD {α : Type} (t : List (Nat × α)) (n : Nat) (d : α) : α := (Tbl.get? t n).getD d

/-- Sets the entry at a key; the default value is held by no entry. -/
def Tbl.put {α : Type} [DecidableEq α] (t : List (Nat × α)) (n : Nat) (d v : α) : List (Nat × α) :=
  if v = d then Tbl.del t n else Tbl.set t n v

/-- Saturating addition at a width. -/
def satAdd (w a b : Nat) : Nat := min (2 ^ w - 1) (a + b)

/-- A boolean as a bit. -/
def bit (b : Bool) : Nat := if b then 1 else 0

/-! ## Sorting: a stable merge sort, bounded by the length -/

/-- Two sorted lists as one; of equal elements those of the first list come first. -/
def mergeBy {α : Type} (le : α → α → Bool) : Nat → List α → List α → List α
  | 0, l, r => l ++ r
  | _ + 1, [], r => r
  | _ + 1, l, [] => l
  | n + 1, a :: l, b :: r => if le a b then a :: mergeBy le n l (b :: r) else b :: mergeBy le n (a :: l) r

/-- Halves are sorted and merged, to a depth. -/
def sortDepth {α : Type} (le : α → α → Bool) : Nat → List α → List α
  | 0, l => l
  | n + 1, l =>
    if l.length < 2 then l
    else mergeBy le l.length (sortDepth le n (l.take (l.length / 2))) (sortDepth le n (l.drop (l.length / 2)))

/-- A list in order; elements that count as equal keep their order. -/
def sortBy {α : Type} (le : α → α → Bool) (l : List α) : List α := sortDepth le l.length l

/-! ## Registers -/

/-- The stored word of the register at an address. -/
def rawReg (s : State) (a : Nat) : Word := Tbl.getD s.regs a (resetWord a)

/-- Stores a word into the register at an address. -/
def setRaw (a : Nat) (v : Word) (s : State) : State := { s with regs := Tbl.put s.regs a (resetWord a) v }

/-- The bits of a field in a word. -/
def Fld.get (f : Fld) (v : Word) : Nat := v.toNat / 2 ^ f.lo % 2 ^ f.w

/-- A word with the bits of a field replaced. -/
def Fld.put (f : Fld) (v : Word) (x : Nat) : Word :=
  BitVec.ofNat 32 (v.toNat - f.get v * 2 ^ f.lo + x % 2 ^ f.w * 2 ^ f.lo)

/-- The value of a register field. -/
def getF (s : State) (f : Fld) : Nat := f.get (rawReg s f.addr)

/-- Whether a one-bit field reads 1. -/
def flagF (s : State) (f : Fld) : Bool := getF s f != 0

/-- Sets a register field. -/
def setF (f : Fld) (x : Nat) (s : State) : State := setRaw f.addr (f.put (rawReg s f.addr) x) s

/-- R17 to R19: what the tick in progress has changed in the register at an address. -/
def freshOf (s : State) (a : Nat) : Fresh := (Tbl.get? s.fresh a).getD ⟨rawReg s a, 0⟩

/-- R17 to R19: the head's own change of a field is noted for the tick, with what it adds there. -/
def noteFresh (f : Fld) (x : Nat) (s : State) : State :=
  let n := freshOf s f.addr
  { s with fresh := Tbl.set s.fresh f.addr { n with news := f.put n.news x } }

/-- R18: the head sets bits of a W1C field; the field takes the value x. -/
def raiseF (f : Fld) (x : Nat) (s : State) : State :=
  setF f x (noteFresh f (f.get (freshOf s f.addr).news ||| x) s)

/-- R19: a counter field of n bits counts, saturating. -/
def addF (f : Fld) (x : Nat) (s : State) : State :=
  setF f (satAdd f.w (getF s f) x) (noteFresh f (satAdd f.w (f.get (freshOf s f.addr).news) x) s)

/-- R20: the word of RWS values that the register would stage or hold: the staged one if one is pending. -/
def stagedReg (s : State) (a : Nat) : Word :=
  ((Tbl.get? s.justStaged a).or (Tbl.get? s.staged a)).getD (rawReg s a)

/-! ## Updates of one block -/

def State.onHead (f : Head → Head) (s : State) : State := { s with head := f s.head }
def State.onRru (f : Rru → Rru) (s : State) : State := { s with rru := f s.rru }
def State.onTmb (f : Tmb → Tmb) (s : State) : State := { s with tmb := f s.tmb }
def State.onSns (f : Sns → Sns) (s : State) : State := { s with sns := f s.sns }
def State.onCro (f : Cro → Cro) (s : State) : State := { s with cro := f s.cro }
def State.onExs (f : Exs → Exs) (s : State) : State := { s with exs := f s.exs }
def State.onPat (f : Pat → Pat) (s : State) : State := { s with pat := f s.pat }
def State.onCal (f : Cal → Cal) (s : State) : State := { s with cal := f s.cal }
def State.onCtg (f : Ctg → Ctg) (s : State) : State := { s with ctg := f s.ctg }
def State.onTrc (f : Trc → Trc) (s : State) : State := { s with trc := f s.trc }
def State.onTge (f : Tge → Tge) (s : State) : State := { s with tge := f s.tge }
def State.onCfg (f : Cfg → Cfg) (s : State) : State := { s with cfg := f s.cfg }
def State.onChg (f : Chg → Chg) (s : State) : State := { s with chg := f s.chg }
def State.onLnk (f : Lnk → Lnk) (s : State) : State := { s with lnk := f s.lnk }
def State.onTen (f : Ten → Ten) (s : State) : State := { s with ten := f s.ten }
def State.onLcp (f : Lcp → Lcp) (s : State) : State := { s with lcp := f s.lcp }
def State.onMos (f : Mos → Mos) (s : State) : State := { s with mos := f s.mos }
def State.onFus (f : Fus → Fus) (s : State) : State := { s with fus := f s.fus }
def State.onPwr (f : Pwr → Pwr) (s : State) : State := { s with pwr := f s.pwr }
def State.onSup (f : Sup → Sup) (s : State) : State := { s with sup := f s.sup }
def State.onFlt (f : Flt → Flt) (s : State) : State := { s with flt := f s.flt }

/-- The timebase as a number of ticks. -/
def State.now (s : State) : Nat := s.tmb.tb.toNat

/-- Applies a change when a condition holds. -/
def when (c : Bool) (f : State → State) (s : State) : State := if c then f s else s

/-- Applies a change for each element of a list, in order. -/
def forEach {α : Type} (l : List α) (f : α → State → State) (s : State) : State := l.foldl (fun t x => f x t) s

/-- The next free value of the spec's open values (log entry 4). -/
def takeFree (s : State) : BitVec 256 × State :=
  (Config.freeValue s.freeCount, { s with freeCount := s.freeCount + 1 })

/-! ## Memory windows: bytes in canonical form -/

/-- R252, R302, R959: what an address of the memory windows reads that no cell lists: NONE in the row maps, 0 elsewhere (log
entry 2). -/
def memDefault (a : Nat) : Byte := if 0x30000000 ≤ a ∧ a < 0x30008000 ∧ a % 0x2000 < 0x1800 then 0xFF else 0

/-- R561: a byte of flash memory that has never been programmed. -/
def erased (_ : Nat) : Byte := 0xFF

/-- One byte of a list of cells. -/
def Mem.read (d : Nat → Byte) : List Host.Cell → Nat → Byte
  | [], n => d n
  | (k, v) :: t, n => if k = n then v else Mem.read d t n

/-- Writes one byte; a byte equal to the default is held by no cell. -/
def Mem.write (d : Nat → Byte) : List Host.Cell → Nat → Byte → List Host.Cell
  | [], n, v => if v = d n then [] else [(n, v)]
  | (k, w) :: t, n, v =>
    if n < k then (if v = d n then (k, w) :: t else (n, v) :: (k, w) :: t)
    else if n = k then (if v = d n then t else (n, v) :: t)
    else (k, w) :: Mem.write d t n v

/-- The canonical form: addresses strictly rising above a bound, and no cell at the default. -/
def Mem.wfFrom (d : Nat → Byte) : Nat → List Host.Cell → Bool
  | _, [] => true
  | lo, (k, v) :: t => decide (lo ≤ k) && v != d k && Mem.wfFrom d (k + 1) t

/-- The canonical form of the memory windows. -/
def Memory.wf (m : List Host.Cell) : Bool := Mem.wfFrom memDefault 0 m

/-- Writes bytes at rising addresses. -/
def Mem.writeBytes (d : Nat → Byte) (m : List Host.Cell) (a : Nat) : List Byte → List Host.Cell
  | [] => m
  | b :: bs => Mem.writeBytes d (Mem.write d m a b) (a + 1) bs

/-- The canonical list of cells that a list of addressed bytes stands for, the last byte of an address winning. -/
def Mem.normal (d : Nat → Byte) (l : List (Nat × Byte)) : List Host.Cell := l.foldl (fun m c => Mem.write d m c.1 c.2) []

/-- R961: a little-endian word. -/
def Mem.readWord (d : Nat → Byte) (m : List Host.Cell) (a : Nat) : Word :=
  Mem.read d m (a + 3) ++ Mem.read d m (a + 2) ++ Mem.read d m (a + 1) ++ Mem.read d m a

/-- The bytes of a word, the byte of bits [7:0] first. -/
def wordBytes (v : Word) : List Byte :=
  [v.extractLsb' 0 8, v.extractLsb' 8 8, v.extractLsb' 16 8, v.extractLsb' 24 8]

/-- R961: the word of a memory window at an address. -/
def memWord (s : State) (a : Nat) : Word := Mem.readWord memDefault s.mem a

/-- R961: writes a word of a memory window. -/
def setMemWord (a : Nat) (v : Word) (s : State) : State :=
  { s with mem := Mem.writeBytes memDefault s.mem a (wordBytes v) }

/-- Bytes of a list of cells from an address upwards. -/
def Mem.readBytes (d : Nat → Byte) (m : List Host.Cell) (a n : Nat) : List Byte :=
  (List.range n).map fun i => Mem.read d m (a + i)

/-- A big-endian number. -/
def beNat (l : List Byte) : Nat := l.foldl (fun n b => n * 256 + b.toNat) 0

/-- The bytes of a number, big-endian. -/
def beBytes : Nat → Nat → List Byte
  | 0, _ => []
  | n + 1, v => BitVec.ofNat 8 (v / 256 ^ n) :: beBytes n v

/-- A big-endian field of a payload. -/
def fieldAt (p : List Byte) (ofs n : Nat) : Nat := beNat ((p.drop ofs).take n)

/-! ## Event details (R873) -/

/-- R873: a field of DETAIL with its width. -/
inductive DetailField where
  | h (n : Nat)
  | w (n : Nat)
  | q (n : Nat)
  deriving DecidableEq, Repr

/-- R873: width and value of a field. -/
def DetailField.parts : DetailField → Nat × Nat
  | .h n => (16, n)
  | .w n => (32, n)
  | .q n => (64, n)

/-- R873: the fields from bit 63 down; a field that does not fit keeps its least significant bits in the bits left. -/
def packFrom : Nat → List DetailField → Nat
  | _, [] => 0
  | left, f :: fs =>
    let (w, v) := f.parts
    if left = 0 then 0
    else if w ≤ left then v % 2 ^ w * 2 ^ (left - w) + packFrom (left - w) fs
    else v % 2 ^ left

/-- R873: DETAIL of an entry. -/
def packDetail (fs : List DetailField) : BitVec 64 := BitVec.ofNat 64 (packFrom 64 fs)

/-- R873: a signed value in a field of 32 bits. -/
def signed32 (x : Int) : Nat := (BitVec.ofInt 32 x).toNat

/-- R873: a signed value in a field of 16 bits. -/
def signed16 (x : Int) : Nat := (BitVec.ofInt 16 x).toNat

/-! ## Entries -/

/-- R875: the SEV code. -/
def sevCode : Severity → Nat
  | .info => 0
  | .warn => 1
  | .fault => 2
  | .critical => 3

/-- R872: the FLAGS byte of an entry. -/
def LogEntry.flagsByte (e : LogEntry) : Nat :=
  sevCode e.sev * 64 + bit e.nested * 32 + e.level % 4 * 8 + bit e.rpValid * 4 + bit e.acked * 2 + bit e.retained

/-- R872: the 32 bytes of an entry as a number, the first byte most significant. -/
def LogEntry.bits (e : LogEntry) : BitVec 256 :=
  e.tb ++ e.f ++ e.l ++ e.code ++ BitVec.ofNat 8 e.flagsByte ++ e.detail ++ e.seq ++ (0 : BitVec 16)

/-- R872, `FLT_ENTRY[j]`: word j of an entry. -/
def LogEntry.word (e : LogEntry) (j : Nat) : Word := e.bits.extractLsb' (224 - 32 * j) 32

/-- R872: the eight words of an entry. -/
def LogEntry.words (e : LogEntry) : List Nat := (List.range 8).map fun j => (e.word j).toNat

/-- R878: an unacknowledged CRITICAL entry. -/
def LogEntry.unackCritical (e : LogEntry) : Bool := e.sev == .critical && !e.acked

/-! ## Streams: numbering and EVENT packets -/

/-- R629: the stream with an ID. -/
def getStream (s : State) (sid : Nat) : Stream := Tbl.getD s.lnk.streams sid {}

/-- Sets the stream with an ID. -/
def setStream (sid : Nat) (x : Stream) : State → State :=
  State.onLnk fun l => { l with streams := Tbl.put l.streams sid {} x }

/-- Changes the stream with an ID. -/
def modStream (sid : Nat) (f : Stream → Stream) (s : State) : State := setStream sid (f (getStream s sid)) s

/-- R629: a stream ID of a tenant. -/
def isTenantStream (sid : Nat) : Bool := 0x1000 ≤ sid && sid < 0x2000

/-- R629: TENANT_ID in the header. -/
def streamTenant (sid : Nat) : Nat := if isTenantStream sid then sid - 0x1000 else 0xFFFF

/-- R666: the context of a tenant. -/
def getCtx (s : State) (t : Nat) : Ctx := Tbl.getD s.ten.ctx t {}

/-- Changes the context of a tenant. -/
def modCtx (t : Nat) (f : Ctx → Ctx) (s : State) : State :=
  s.onTen fun x => { x with ctx := Tbl.put x.ctx t {} (f (getCtx s t)) }

/-- R629, R639: whether a stream is encrypted. -/
def streamEnc (s : State) (sid : Nat) : Bool := isTenantStream sid || flagF s (R.LNK_STR_CTRL_ENC sid)

/-- R647: CR_SIZE of a constant-rate stream. -/
def streamCrSize (s : State) (sid : Nat) : Option Nat :=
  if isTenantStream sid then
    let c := getCtx s (streamTenant sid)
    if c.words.ctrl.getLsbD 29 then some (c.words.crSize.toNat % 2 ^ 14) else none
  else if flagF s (R.LNK_STR_CTRL_CR sid) then some (getF s (R.LNK_STR_CR_SIZE sid)) else none

/-- R637: a packet is numbered in its stream's epoch and enqueued. -/
def pushPacket (sid : Nat) (p : Packet) (s : State) : State :=
  let st := getStream s sid
  let p' := { p with enc := streamEnc s sid, sealedSize := streamCrSize s sid, streamId := BitVec.ofNat 16 sid,
                     tenantId := BitVec.ofNat 16 (streamTenant sid),
                     seq := s.lnk.epoch ++ BitVec.ofNat 40 st.count }
  let s := setStream sid { st with queue := st.queue ++ [p'], count := st.count + 1 } s
  if 2 ^ 40 - 1 ≤ st.count + 1 then s.onLnk fun l => { l with epochDue := true } else s

/-- R635: an empty packet of a type. -/
def blankPacket (s : State) (t : PktType) : Packet :=
  { type := t, enc := false, sealedSize := none, last := true, streamId := 0, tenantId := 0,
    f := BitVec.ofNat 40 s.rru.f, exp := 0xFF, payloadLen := 0, seq := 0, flags := 0, frag := 0, desc := [],
    data := [], keyGen := 0 }

/-- R645, R651: an entry is enqueued on a stream as an EVENT packet. -/
def pushEvent (e : LogEntry) (sid : Nat) (s : State) : State :=
  pushPacket sid { blankPacket s .event with payloadLen := 32, data := e.words } s

/-- R633: a stream enqueues. -/
def streamLive (s : State) (sid : Nat) : Bool := (getStream s sid).st == .running

/-- R645: the steward streams that receive every entry. -/
def eventStreams (s : State) : List Nat :=
  (List.range 32).filter fun i => streamLive s i && getF s (R.LNK_STR_CTRL_TYPES i) / 8 % 2 == 1

/-- R645: the head-state entries that every tenant stream receives: restarts, HOLD and SLEEP. -/
def headStateCode (code : Nat) : Bool := code == 0x1002 || code == 0x1003 || code == 0x1004 || code == 0x0F09

/-- R670: the tenants whose stream is running. -/
def liveTenants (s : State) : List Nat :=
  (s.ten.ctx.map Prod.fst).filter fun t => streamLive s (0x1000 + t)

/-- R645: an entry is enqueued on every stream that receives it. -/
def pushToStreams (e : LogEntry) (s : State) : State :=
  let s := forEach (eventStreams s) (pushEvent e) s
  if headStateCode e.code.toNat then forEach (liveTenants s) (fun t => pushEvent e (0x1000 + t)) s else s

/-! ## The fault log -/

/-- R724, R725: a session's queue takes an entry, or counts it as lost. -/
def Session.take (now : Nat) (e : LogEntry) (x : Session) : Session :=
  if x.evq.length < 1024 then
    { x with evq := x.evq ++ [e], evqTb := if x.evq.isEmpty then now else x.evqTb }
  else { x with lost := x.lost + 1 }

/-- R724: an entry goes to the sessions that want it; an event-only code goes to every session with EVT = 1. -/
def pushToSessions (e : LogEntry) (all : Bool) (s : State) : State :=
  s.onLcp fun l => { l with sessions := l.sessions.map fun x =>
    if x.opened && x.evt && (all || sevCode x.minSev ≤ sevCode e.sev) then x.take s.now e else x }

/-- R876: the ring without its oldest entry that is not an unacknowledged CRITICAL entry (the ring is newest first). -/
def dropOldest (ring : List LogEntry) : List LogEntry :=
  match ring.reverse.findIdx? fun e => !e.unackCritical with
  | some i => (ring.reverse.eraseIdx i).reverse
  | none => ring

/-- R876, R877: whether a new entry finds room. -/
def ringFull (ring : List LogEntry) : Bool := 256 ≤ ring.length && ring.all LogEntry.unackCritical

/-- R876, R877, R880: an entry takes the next SEQ and is stored and sent, or is lost. -/
def storeEntry (e : LogEntry) (s : State) : State :=
  let e := { e with seq := s.flt.nextSeq }
  let s := s.onFlt fun f => { f with nextSeq := f.nextSeq + 1 }
  if ringFull s.flt.ring then
    addF R.FLT_CNT_LOST 1 (s.onFlt fun f => { f with lostSince := f.lostSince + 1 })
  else
    let s := s.onFlt fun f =>
      { f with ring := e :: (if f.ring.length < 256 then f.ring else dropOldest f.ring)
               pendingLong := f.pendingLong ++ [e] }
    pushToStreams e (pushToSessions e false s)

/-- R874, R870, R837: the log cannot be written: firmware is not running, or a power-fail warning is in force. -/
def logHeld (s : State) : Bool :=
  !s.head.fwReady || s.head.coreRestart || s.sup.coreDown || s.sup.dieDown || s.pwr.pf != .normal

/-- R872, R874: the entry of an event raised now. -/
def makeEntry (s : State) (code : Nat) (sev : Severity) (level : Nat) (detail : BitVec 64) : LogEntry :=
  { tb := s.tmb.tb
    f := if s.rru.rpValid then BitVec.ofNat 40 s.rru.f else 0
    l := if s.rru.rpValid then BitVec.ofNat 16 s.rru.l else 0
    code := BitVec.ofNat 16 code, sev := sev
    nested := !s.flt.windows.isEmpty
    level := level, rpValid := s.rru.rpValid, acked := false, retained := logHeld s, detail := detail, seq := 0 }

/-- R871 to R874, R883: an entry is logged, or kept in retained memory until firmware can log it. -/
def logEntry (e : LogEntry) (s : State) : State :=
  let s := if e.nested then addF R.FLT_CNT_NESTED 1 s else s
  if logHeld s then s.onFlt fun f => { f with held := f.held ++ [e] } else storeEntry e s

/-- R848: a request to the ladder, acted on at the end of the tick. -/
def requestLadder (e : LadderEvent) : State → State := State.onSup fun x => { x with requests := x.requests ++ [e] }

/-- R859: REARM in TB. -/
def rearmTb (s : State) : Nat := getF s R.SUP_LADDER_REARM * 25000000

/-- R849 row 1, R864: the level-2 restarts within HOUR. -/
def recentL2 (s : State) : List Nat := s.sup.l2Win.filter fun t => s.now < t + getF s R.SUP_LADDER_HOUR * 15000000000

/-- R849, R884, R885: the level of a ladder event. -/
def ladderLevel (s : State) (e : LadderEvent) : Nat :=
  let raw := if 0 < e.minLevel then e.minLevel
    else if !e.expiry then 2
    else match s.sup.lastExpiry with
      | some t => if s.now < t + rearmTb s then 2 else 1
      | none => 1
  if raw = 2 ∧ s.fus.wires.ladder ≤ (recentL2 s).length then 3 else min 3 raw

/-- R872, R853: LEVEL of the entry that makes a ladder event; 0 where the event performs no restart. -/
def entryLevel (s : State) (e : LadderEvent) : Nat :=
  if s.pwr.pf != .normal || s.head.st == .off || s.head.st == .sleep then 0 else ladderLevel s e

/-- R884: the entries that name the ladder's own action, a restart, HOLD or an escalation, make no further ladder event (log
entry 13). -/
def ladderOwn (code : Nat) : Bool :=
  code == 0x1003 || code == 0x1004 || code == 0x1102

/-- R884, R886: the open handling window of the highest level below 3 in whose path a block's error lies. -/
def nestedWindow (s : State) (block : Nat) : Option Handling :=
  let hits := s.flt.windows.filter fun w => w.code / 256 == block || w.resets.contains block
  if s.pwr.pf != .normal || hits.any (fun w => 3 ≤ w.level) then none
  else hits.foldl (fun m w => match m with
    | none => some w
    | some v => if v.level < w.level then some w else some v) none

/-- R882: an error keeps the open level-0 windows open for another second. -/
def touchWindows (s : State) : State :=
  s.onFlt fun f => { f with windows := f.windows.map fun w => if w.level = 0 then { w with lastTb := s.now } else w }

/-- R884 to R886: the ladder level that a nested error reaches, and the handled code. -/
def nestedTarget (s : State) (code : Nat) (sev : Severity) : Option (Nat × Nat) :=
  if sevCode sev < 2 || ladderOwn code then none
  else (nestedWindow s (code / 256)).map fun w => (w.level + 1, w.code)

/-- R871: raises an event with a severity of its own: its EVT bit, its entry, and the escalation of a nested error. -/
def raiseSev (code : Nat) (sev : Severity) (level : Nat) (fs : List DetailField) (s : State) : State :=
  let s := raiseF (evtField code) 1 s
  let d := packDetail fs
  if eventOnlyCodes.contains code then
    (if code = 0x0C10 then s else pushToSessions (makeEntry s code sev 0 d) true s)
  else
    match nestedTarget s code sev with
    | none =>
      let s := logEntry (makeEntry s code sev level d) s
      if 2 ≤ sevCode sev then touchWindows s else s
    | some (up, handled) =>
      let e : LadderEvent := { code := code, detail := d.extractLsb' 16 48, expiry := false, minLevel := up }
      let s := logEntry (makeEntry s code sev (max level (entryLevel s e)) d) s
      let s := touchWindows s
      let s := raiseF (evtField 0x1102) 1 s
      let s := logEntry (makeEntry s 0x1102 .fault 0 (packDetail [.h handled, .h up])) s
      requestLadder e s

/-- R871: raises an event. -/
def raise (code : Nat) (fs : List DetailField) (s : State) : State := raiseSev code (severityOf code) 0 fs s

/-- R848, R872: raises an event that is itself a ladder event. -/
def raiseLadder (code : Nat) (fs : List DetailField) (expiry : Bool) (s : State) : State :=
  let e : LadderEvent := { code := code, detail := (packDetail fs).extractLsb' 16 48, expiry := expiry, minLevel := 0 }
  requestLadder e (raiseSev code (severityOf code) (entryLevel s e) fs s)

/-- R871: raises an event that makes at most one entry in a period of TB; a suppressed one is counted. The key tells
the limits of one code apart. -/
def raiseLimited (key period code : Nat) (fs : List DetailField) (s : State) : State :=
  let k := code * 0x100000 + key
  let late := match Tbl.get? s.flt.lastLogged k with
    | none => true
    | some t => period ≤ s.now - t
  if late then raise code fs (s.onFlt fun f => { f with lastLogged := Tbl.set f.lastLogged k s.now })
  else addF R.FLT_CNT2_SUPPRESSED 1 (raiseF (evtField code) 1 s)

/-- One second in TB. -/
def second : Nat := 250000000

/-- One millisecond in TB. -/
def milli : Nat := 250000

/-- One microsecond in TB. -/
def micro : Nat := 250

/-- R645, R651: raises an event of a stream, whose entry that stream itself receives. -/
def raiseFor (sid code : Nat) (fs : List DetailField) (s : State) : State :=
  let e := makeEntry s code (severityOf code) 0 (packDetail fs)
  let own := !(eventStreams s).contains sid && streamLive s sid
  let s := raise code fs s
  if own then pushEvent e sid s else s

/-- R882: a handling window opens. -/
def openWindow (level code : Nat) (resets : List Nat) (s : State) : State :=
  s.onFlt fun f => { f with windows := f.windows ++ [⟨level, code, s.now, resets⟩] }

/-- R882: the windows of a level close. -/
def closeLevel (level : Nat) : State → State :=
  State.onFlt fun f => { f with windows := f.windows.filter fun w => w.level != level }

/-- R870, R874: firmware is ready again and logs what was kept, in the order of the raises. -/
def flushHeld (s : State) : State :=
  forEach s.flt.held (fun e t => storeEntry e t) (s.onFlt fun f => { f with held := [] })

/-! ## Head state and register writes -/

/-- R6: the code of a head state. -/
def HeadState.code : HeadState → Nat
  | .off => 0
  | .boot => 1
  | .unconfigured => 2
  | .configuring => 3
  | .acquiring => 4
  | .running => 5
  | .hold => 6
  | .sleep => 7

/-- R6, R968: the head enters a state. -/
def setHead (st : HeadState) (s : State) : State :=
  if s.head.st = st then s
  else s.onHead fun h => { h with prev := h.st, st := st, stateTb := s.tmb.tb,
                                  cnt := h.cnt.modify st.code (satAdd 32 1) }

/-- R831, R832: the head sleeps, and no wake source has woken it yet. -/
def asleep (s : State) : Bool := s.head.st == .sleep && !s.head.waking

/-- R791, R799: the JTAG port is enabled. -/
def jtagEnabled (s : State) : Bool :=
  !s.fus.wires.rmJtag && (match s.fus.lc with
    | .blank | .factory | .provisioned => true
    | .deployed => s.fus.unlocked
    | .retired => false)

/-- R20: the head has no running raster configuration, so that an RWS write takes effect at once: in BOOT, UNCONFIGURED and
CONFIGURING, and in steps 1 to 8 of R573. In HOLD no exception holds, with or without an image: a write there waits for the first
boundary that the raster PLL produces. -/
def noRaster (s : State) : Bool :=
  s.head.st == .boot || s.head.st == .unconfigured || s.head.st == .configuring || s.head.applying

/-- R970: the LOCK bit of a block is set. -/
def lockedBlock (s : State) (b : Nat) : Bool := s.head.locks.contains b

/-- What a block answers to a register write. -/
inductive WriteResult where
  /-- The write was accepted. -/
  | ok
  /-- The block ignored the write and logged this event. -/
  | event (code : Nat)
  deriving DecidableEq, Repr

/-- R18: a word after a write of 1s to its W1C bits; those that the head set in this tick stay. -/
def clearBits (w v w1c news : Word) : Word := w &&& ~~~(v &&& w1c &&& ~~~news)

/-- R15, R18, R20: a write by the access types of the register's fields alone. -/
def plainWrite (a : Nat) (v : Word) (s : State) : State :=
  let ds := fieldsAt a
  let now := noRaster s
  let lk := lockedBlock s (a / 0x10000)
  let rw := maskOf (fun d => !d.sensed && (d.acc == .rw || (d.acc == .rwl && !lk) || (d.acc == .rws && now))) ds
  let w1c := maskOf (fun d => d.acc == .w1c) ds
  let rws := maskOf (fun d => d.acc == .rws) ds
  let put := fun (w news : Word) => clearBits ((w &&& ~~~rw) ||| (v &&& rw)) v w1c news
  let s := match Tbl.get? s.fresh a with
    | some n => setRaw a (put (rawReg s a) n.news) { s with fresh := Tbl.set s.fresh a { n with base := put n.base 0 } }
    | none => setRaw a (put (rawReg s a) 0) s
  if now || rws = 0 then s
  else { s with justStaged := Tbl.set s.justStaged a ((stagedReg s a &&& ~~~rws) ||| (v &&& rws)) }

/-- R20: the staged values of RWS fields take effect, but for those written in this tick. -/
def applyStaged (s : State) : State :=
  forEach s.staged (fun (a, v) t =>
    let rws := maskOf (fun d => d.acc == .rws) (fieldsAt a)
    setRaw a ((rawReg t a &&& ~~~rws) ||| (v &&& rws)) t) { s with staged := [] }

/-- R17 to R20: the tick ends: what it changed is no longer new, and what it staged waits with the rest. -/
def endFresh (s : State) : State :=
  { s with fresh := [], justStaged := [], staged := s.justStaged.foldl (fun t x => Tbl.set t x.1 x.2) s.staged }

/-- A write that the block ignores, with the event it logs and the register's offset as its detail. -/
def rejectWrite (code a : Nat) (s : State) : WriteResult × State :=
  (.event code, raise code [.h (a % 0x10000)] s)

end Sys2Proof.Machine
end

