-- ==== Sys2Proof/Machine/Monitor.lean ====
section
/-! DEFINITION. What chapters share of supervision: declarations of a stuck machine and their escalation (R858, R859),
level-0 handling (R882) and leases (R887). -/

namespace Sys2Proof.Machine

/-- R859: the declarations of a monitor within REARM. -/
def recentDeclared (s : State) (m : Nat) : List Nat := (s.sup.monWin.getD m []).filter fun t => s.now < t + rearmTb s

/-- R858: the block of a monitored machine. -/
def machineBlock (m : Nat) : Nat := [5, 6, 11, 10, 9].getD m 0x10

/-- R294, R858, R859: a monitor declares a machine stuck, again if it still is, and escalates when it has done so STUCK_MAX times within REARM. -/
def declareStuck (m i : Nat) (s : State) : State :=
  let s := addF (R.SUP_MON_CNT_TOTAL m) 1 (raise 0x1007 [.h m, .h i] s)
  let l := s.now :: recentDeclared s m
  let s := if s.sup.stuck.contains (m, i) then s
    else openWindow 0 0x1007 [machineBlock m] (s.onSup fun x => { x with stuck := x.stuck ++ [(m, i)] })
  if getF s R.SUP_MON_CFG_STUCK_MAX ≤ l.length then
    raiseLadder 0x1009 [.h m] false (s.onSup fun x => { x with monWin := x.monWin.set m [] })
  else s.onSup fun x => { x with monWin := x.monWin.set m l }

/-- R858: the first response of a monitor has been carried out. -/
def respondStuck (m i : Nat) (s : State) : State := raise 0x1008 [.h m, .h i] s

/-- R858, R882: a machine that was declared stuck moves again. -/
def machineMoves (m i : Nat) (s : State) : State :=
  if s.sup.stuck.contains (m, i) then
    let s := s.onSup fun x => { x with stuck := x.stuck.filter (· != (m, i)) }
    if s.sup.stuck.any fun p => p.1 == m then s
    else s.onFlt fun f => { f with windows := f.windows.filter fun w => !(w.level == 0 && w.code == 0x1007 && w.resets == [machineBlock m]) }
  else s

/-! ## Leases (R887) -/

/-- R887: the longest time without an access, in TB; a steward session's lease is that of its chapter. -/
def leaseTb (s : State) (r : Nat) : Nat :=
  [25000000, 2500000, 250000000, 750000000, 750000000, 750000000, 25000000, getF s R.CFG_CHG_LEASE * 25000000].getD r 0

/-- R887: a resource. -/
def getLease (s : State) (r : Nat) : Lease := s.flt.leases.getD r {}

/-- Changes a resource's token. -/
def modLease (r : Nat) (f : Lease → Lease) : State → State := State.onFlt fun x => { x with leases := x.leases.modify r f }

/-- R882, R888: the mark of a resource in the handling window of its revocation; no block has such a number. -/
def leaseMark (r : Nat) : Nat := 0x100 + r

/-- R882: a revoked resource makes progress again. -/
def closeRevoked (r : Nat) : State → State :=
  State.onFlt fun f => { f with windows := f.windows.filter fun w => !(w.code == 0x1103 && w.resets.contains (leaseMark r)) }

/-- R887: a party takes, or renews, the token of a resource. -/
def takeLease (r owner : Nat) (s : State) : State :=
  closeRevoked r (modLease r (fun x => { x with st := .held, owner := owner, expires := s.now + leaseTb s r, former := none }) s)

/-- R890: the block that holds a token, as the reset path of a revocation. -/
def ownerBlocks (owner : Nat) : List Nat := if owner < 0x12 then [owner] else []

/-- R888: a lease is revoked: its entry, its window and its count. -/
def leaseRevoked (r : Nat) (s : State) : State :=
  let o := (getLease s r).owner
  let s := openWindow 0 0x1103 (leaseMark r :: ownerBlocks o) (raise 0x1103 [.h r, .h o, .h 0] s)
  addF R.FLT_CNT2_REVOKED 1 (modLease r (fun x => { x with former := some o }) s)

/-- R887, R891: a party frees the token. -/
def freeLease (r : Nat) : State → State := modLease r fun x => { former := x.former }

/-- R887: a party may take the token of a resource. -/
def leaseOpen (s : State) (r owner : Nat) : Bool :=
  (getLease s r).st == .free || ((getLease s r).st == .held && (getLease s r).owner == owner)

/-- R890: a party that does not hold a token acts on the resource, and is refused. -/
def refusedHolder (r owner : Nat) (s : State) : State := raise 0x1103 [.h r, .h owner, .h 1] s

/-- R890: a party acts on a resource; one that has lost the token to a revocation is refused with an event. -/
def formerActs (r owner : Nat) (s : State) : State := if (getLease s r).former = some owner then refusedHolder r owner s else s

/-- R887, R890: the party that ends its use of a resource frees the token if it holds it. -/
def leaveLease (r owner : Nat) (s : State) : State :=
  if (getLease s r).st = .held ∧ (getLease s r).owner = owner then freeLease r s else formerActs r owner s

end Sys2Proof.Machine
end

