-- ==== Sys2Proof/Machine/Energy.lean ====
section
/-! DEFINITION. Chapter 19, hold-up energy: the store rule and the checks of store operations. -/

namespace Sys2Proof.Machine

/-- R777: the value of a fuse word, the OR of its two copies. -/
def fuseWord (s : State) (w : Nat) : Word := Tbl.getD s.fus.a w 0 ||| Tbl.getD s.fus.b w 0

/-- R779, R789: the words of fuse region 2, which hold the trims; none when its unit has failed its check. -/
def trimWords (s : State) : List Word := if s.fus.fail.getLsbD 2 then [] else (List.range 32).map fun i => fuseWord s (12 + i)

/-- R816: C_BULK in µF. -/
def cBulk (s : State) : Nat := Config.bulkCapacity (trimWords s)

/-- R816: E_avail in µJ at a bulk voltage in 0.01 V, as 20,000 times its value. -/
def energyTimes (c v : Nat) : Nat := c * (v * v - 625000000)

/-- R816: E_avail in mJ. -/
def availMj (s : State) (v : Nat) : Nat := energyTimes (cBulk s) v / 20000000

/-- R818: the number of an operation. -/
def StoreOp.code : StoreOp → Nat
  | .norErase => 0
  | .norProgram => 1
  | .emmcWrite => 2
  | .fuseWord => 3
  | .checkpoint => 4

/-- R818: E_required in µJ. -/
def StoreOp.energy : StoreOp → Nat
  | .norErase => 8000000
  | .norProgram => 6000
  | .emmcWrite => 4000000
  | .fuseWord => 2400
  | .checkpoint => 400000

/-- R817: E_RES in µJ. -/
def eRes (s : State) : Nat := if s.pwr.pf = .normal then 8200000 else 0

/-- R817: a store operation may start at a bulk voltage. -/
def energyOk (s : State) (op : StoreOp) (v : Nat) : Bool :=
  let need := eRes s + s.pwr.running.foldl (fun n r => n + r.op.energy) 0 + op.energy
  decide (625000000 ≤ v * v) && decide (30000 * need ≤ energyTimes (cBulk s) v)

/-- R821: a store operation of a user runs. -/
def storeRuns (s : State) (u : StoreUser) : Bool := s.pwr.running.any fun r => r.user == u

/-- R819, R820, R826: a store operation of a user is checked or waits, or is queued behind the one that its controller runs. -/
def storeAsked (s : State) (u : StoreUser) : Bool := ((s.pwr.checking ++ s.pwr.waiting).any fun w => w.user == u) || s.pwr.queued.contains u

/-- R819: a user asks for a store operation; its energy check begins. -/
def askStore (op : StoreOp) (u : StoreUser) (s : State) : State :=
  if storeRuns s u || storeAsked s u then s
  else s.onPwr fun x => { x with checking := x.checking ++ [⟨op, u, s.now, s.now⟩] }

/-- R434, R677: a user withdraws an operation that has not started. -/
def dropStore (u : StoreUser) : State → State :=
  State.onPwr fun x =>
    { x with checking := x.checking.filter (·.user != u), waiting := x.waiting.filter (·.user != u), queued := x.queued.filter (· != u) }

/-- R821: the operation of a user ends. -/
def endStore (u : StoreUser) : State → State := State.onPwr fun x => { x with running := x.running.filter (·.user != u) }

/-- R820: an operation whose check fails waits. -/
def waitStore (w : WaitStore) (s : State) : State :=
  let s := if w.since = w.last then addF R.PWR_CNT_WAITS 1 s else s
  let s := s.onPwr fun x => { x with
    checking := x.checking.filter (·.user != w.user), waiting := x.waiting ++ [{ w with last := s.now }] }
  raiseLimited 0 second 0x0F03 [.h w.op.code, .w s.pwr.eAvail] s

/-- R817, R857: an operation starts. -/
def runStore (w : WaitStore) : State → State :=
  State.onPwr fun x => { x with
    checking := x.checking.filter (·.user != w.user), running := x.running ++ [⟨w.op, w.user⟩] }

/-- R820: a waiting operation is due for a new check. -/
def retryDue (s : State) (w : WaitStore) : Bool := decide (w.last + 10 * milli ≤ s.now)

/-- R820: the waiting operations whose 10 ms have passed are checked again. -/
def doEnergyCheckRetry (s : State) : State :=
  s.onPwr fun x => { x with
    checking := x.checking ++ (x.waiting.filter (retryDue s)).map fun w => { w with last := s.now }
    waiting := x.waiting.filter fun w => !retryDue s w }

end Sys2Proof.Machine
end

