-- ==== Sys2Proof/Machine/Raster.lean ====
section
/-! DEFINITION. Chapter 1: raster sources, qualification and failover, the raster PLL, its outputs and the system PLL. -/

namespace Sys2Proof.Machine

/-! ## Sources -/

/-- R25: the code of a source. -/
def srcCode : Source → Nat
  | .free => 0
  | .syncIn => 1
  | .digital => 2
  | .ptpSchedule => 3
  | .optical => 4
  | .mosaic => 5

/-- R25: the source with a code. -/
def srcOf : Nat → Source
  | 0 => .free
  | 1 => .syncIn
  | 2 => .digital
  | 3 => .ptpSchedule
  | 4 => .optical
  | _ => .mosaic

/-- R54: the codes that a word of `RRU_SRC_PRIO` lists, highest rank first. -/
def prioOf (v : Word) : List Nat :=
  (List.range (v.toNat / 2 ^ 18 % 8 + 1)).map fun i => v.toNat / 2 ^ (3 * i) % 8

/-- R54: the priority list in force. -/
def prioList (s : State) : List Nat := prioOf (rawReg s A.RRU_SRC_PRIO)

/-- R33, R34, R748, R768: the sources that the head may follow in its mosaic role, highest rank first. -/
def effList (s : State) : List Nat :=
  match s.mos.st with
  | .solo | .root => (prioList s).filter (· != 5)
  | .member | .interimRoot | .partitioned => [5]
  | .joining | .refused => []

/-- R87: the nominal line period in 2⁻¹⁶ ns. -/
def linePeriod (s : State) : Nat := getF s R.RRU_LPER_HI_LINE_PERIOD_HI * 2 ^ 32 + getF s R.RRU_LPER_LO_LINE_PERIOD_LO

/-- R25: the line-rate range of a source in Hz. -/
def rateRange : Nat → Nat × Nat
  | 1 => (10000, 250000)
  | 4 => (500, 250000)
  | _ => (500, 2500000)

/-- 10⁹ × 2¹⁶: the line period of 1 Hz in 2⁻¹⁶ ns. -/
def hertz : Nat := 65536000000000

/-- R976: the nominal line rate lies in the range of a source. -/
def rateOk (s : State) (src : Nat) : Bool :=
  let (lo, hi) := rateRange src
  lo * linePeriod s ≤ hertz && hertz ≤ hi * linePeriod s

/-- R33: OPTICAL serves as the cross-check of a member. -/
def crossCheck (s : State) : Bool := !(effList s).contains 4 && s.mos.st != .solo && s.mos.st != .root && (prioList s).contains 4

/-- R745: the own source of a member that claims the root: its highest-ranked one. -/
def claimSource (s : State) : Option Nat :=
  if s.mos.st == .member && flagF s R.MOS_CFG_ROOT_CLAIM then (prioList s).find? fun c => c != 5 && rateOk s c else none

/-- R44, R976, R745: the head monitors a source. -/
def monitored (s : State) (src : Nat) : Bool := ((effList s).contains src || claimSource s == some src) && rateOk s src

/-- The monitor of a source. -/
def getMon (s : State) (src : Nat) : SourceMon := s.rru.mon.getD src {}

/-- Changes the monitor of a source. -/
def modMon (src : Nat) (f : SourceMon → SourceMon) : State → State :=
  State.onRru fun r => { r with mon := r.mon.modify src f }

/-- R43, R44: a source counts as qualified; FREE always does. -/
def isQualified (s : State) (src : Nat) : Bool := src == 0 || (getMon s src).qualified

/-- R44, R976: the sources that the head monitors. -/
def watched (s : State) : List Nat := (List.range 6).filter (monitored s)

/-- EVENT_WIN in 2⁻¹⁶ ns (R46). -/
def eventWindow (s : State) : Nat := getF s R.RRU_PLL_LOCK_EVENT_WIN * linePeriod s / 65536

/-- R43: a spacing in 2⁻¹⁶ ns over a number of lines in 1/65,536 line lies within LINE_TOL of LINE_PERIOD. -/
def spacingOk (s : State) (dt lines : Nat) : Bool :=
  let want := linePeriod s * lines
  let have_ := dt * 65536
  let dev := if want ≤ have_ then have_ - want else want - have_
  dev * 1000000 ≤ getF s R.RRU_LPER_HI_LINE_TOL * want

/-! ## Frame geometry -/

/-- R40: the length of a field of a parity. -/
def fieldLength (s : State) (parity : Bool) : Nat :=
  if flagF s R.RRU_GEOM_INTERLACE && parity then getF s R.RRU_TL_TL_ALT else getF s R.RRU_TL_TL

/-- R37 to R39: a vertical event at a line count is accepted; the frames of FREE are TL lines long. -/
def countOk (s : State) (src : Nat) (parity : Bool) (c : Nat) : Bool :=
  if flagF s R.RRU_GEOM_VRR_EN ∧ src ≠ 0 then getF s R.RRU_TL_VRR_TL_MIN ≤ c && c ≤ getF s R.RRU_TL_VRR_TL_MAX
  else c == fieldLength s parity

/-- R37 to R39: the line count at which a frame ends without a vertical event. -/
def frameLimit (s : State) (parity steady : Bool) : Nat :=
  if flagF s R.RRU_GEOM_VRR_EN && !steady then getF s R.RRU_TL_VRR_TL_MAX else fieldLength s parity

/-- The line count of the active raster at the end of the line in progress. -/
def activeCount (s : State) : Nat := s.rru.l + 1

/-- R45: the line count that a source keeps; for OPTICAL the line periods since its last vertical event, at a time in
2⁻¹⁶ ns. -/
def sourceCount (s : State) (src vtb : Nat) : Nat :=
  let m := getMon s src
  if src ≠ 4 then m.lineCount
  else match m.lastVert with
    | some u => if linePeriod s = 0 then 0 else (vtb - u + linePeriod s / 2) / linePeriod s
    | none => 0

/-- R45, R755: the line count of a source is its own: it is not active, or no raster position is valid, or it is a new
root's. -/
def ownCount (s : State) (src : Nat) : Bool :=
  src != srcCode s.rru.active || !s.rru.rpValid || s.rru.pll == .coast || (src == 5 && s.mos.reconcile)

/-! ## Flags -/

/-- R53: the loop coasts, FREE is active after COAST_MAX, or the loop pulls in after a coast. -/
def coastNow (s : State) : Bool :=
  s.rru.pll == .coast || (s.rru.active == .free && s.rru.freeByCoast && s.rru.pll != .off) || s.rru.pullAfterCoast

/-- R53: results acquire COAST (`RRU_STATUS.COASTING`). -/
def coasting (s : State) : Bool := coastNow s || s.rru.frameCoast

/-! ## The raster PLL -/

/-- R55: the feedback divider in use. -/
def feedbackN (s : State) : Nat :=
  let n := getF s R.RRU_PLL_NDIV_N
  if n = 0 then 6400000000 * linePeriod s / hertz else n

/-- R56: a band covers the target frequency. -/
def bandCovers (s : State) (b : Nat) : Bool :=
  let target := feedbackN s * hertz
  let centre := (3200000000 + b * 25000000) * linePeriod s
  let dev := if centre ≤ target then target - centre else centre - target
  dev ≤ 25000000 * linePeriod s

/-- `RRU_PLL_CW`: the control word takes a value that the spec does not fix. -/
def newControlWord (s : State) : State :=
  let (v, s) := takeFree s
  s.onRru fun r => { r with cw := v.extractLsb' 0 24 }

/-- R7, R70: ACQUIRING ends when the raster PLL locks or coasts. -/
def rasterUp (s : State) : State := if s.head.st == .acquiring then setHead .running s else s

/-- R75: the raster outputs stop. -/
def stopOutputs : State → State := State.onRru fun r => { r with outEn := 0, outPulse := 0, delayed := [] }

/-- R57, R977: the source on which QUAL acquires: the first qualified entry above FREE, then FREE where it counts, and after a band
failure of FREE the first qualified entry below it. -/
def qualChoice (s : State) : Option Nat :=
  let l := effList s
  let usable := fun c => !s.rru.bandFailed.contains c
  let ready := fun c => rateOk s c && isQualified s c && usable c
  let above := l.takeWhile (· != 0)
  match above.find? ready with
  | some c => some c
  | none =>
    if !l.contains 0 then none
    else if usable 0 then (if above.isEmpty || s.rru.freeCounts then some 0 else none)
    else (l.drop (above.length + 1)).find? ready

/-- R57: the band of a source cannot be had; the source waits for its retry, and QUAL is entered anew. -/
def bandFail (src : Nat) (s : State) : State :=
  raise 0x0108 [.h src] (s.onRru fun r =>
    { r with pll := .qual, bandFailed := r.bandFailed ++ [src], bandCur := 0, cw := 0, holdsWord := false, failTb := s.now, qualTb := s.now })

/-- R69: QUAL starts acquisition on a source, if one can be chosen; the number bounds the entries that BAND_MAN fails. -/
def tryAcquireN : Nat → State → State
  | 0, s => s
  | n + 1, s =>
    if s.rru.pll != .qual then s
    else match qualChoice s with
      | none => s
      | some c =>
        let s := s.onRru fun r => { r with active := srcOf c, lockCount := 0, bigErr := 0, holdsWord := false, searchLines := 0,
                                           freeByCoast := c == 0 && r.freeCounts }
        if flagF s R.RRU_PLL_CTRL_BAND_AUTO then newControlWord (s.onRru fun r => { r with pll := .search })
        else
          let b := getF s R.RRU_PLL_CTRL_BAND_MAN
          if bandCovers s b then
            newControlWord (s.onRru fun r => { r with pll := .pull, bandCur := BitVec.ofNat 7 b })
          else tryAcquireN n (bandFail c s)

/-- R69: QUAL starts acquisition on a source, if one can be chosen. -/
def tryAcquire (s : State) : State := tryAcquireN 6 s

/-- R69, R62: the loop enters QUAL without a control word. -/
def enterQual (s : State) : State :=
  tryAcquire (s.onRru fun r =>
    { r with pll := .qual, bandCur := 0, cw := 0, holdsWord := false, lockCount := 0, bigErr := 0, chosen := none,
             revertTo := none, freeDue := false, pullAfterCoast := false, bandFailed := [], freeCounts := false,
             freeByCoast := false, alignDue := false, qualTb := s.now })

/-- R68: the event of a loss, a failover or a revert is kept until the tick ends. -/
def noteMove (code : Nat) (l : List Nat) : State → State := State.onRru fun r => { r with moves := r.moves ++ [(code, l)] }

/-- R49, R50, R52: the events of the tick's losses, failovers and reverts that no write has abandoned (R68). -/
def logMoves (s : State) : State :=
  forEach s.rru.moves (fun x s =>
    raise x.1 (x.2.map .h) (if x.1 = 0x0105 then addF R.RRU_CNT_FAILOVERS 1 s else s)) (s.onRru fun r => { r with moves := [] })

/-- R50: while the loop coasts, the first qualified source in priority order is chosen, FREE excepted. -/
def chooseInCoast (s : State) : State :=
  if s.rru.pll == .coast && s.rru.chosen.isNone then
    s.onRru fun r => { r with chosenTb := s.now, chosen := ((effList s).find? fun c => c != 0 && rateOk s c && isQualified s c).map srcOf }
  else s

/-- R49: the control word freezes and the loop coasts. -/
def beginCoast (s : State) : State :=
  rasterUp (chooseInCoast (s.onRru fun r =>
    { r with pll := .coast, coastFrom := r.active, coastTb := s.now, chosen := none, revertTo := none, frameCoast := true, lockCount := 0,
             bigErr := 0, pullAfterCoast := false, freeDue := false }))

/-- R47, R49, R67: the active source is lost for a cause. -/
def loseActive (cause : Nat) (s : State) : State :=
  let src := srcCode s.rru.active
  match s.rru.pll with
  | .locked => beginCoast (noteMove 0x0103 [src, cause] s)
  | .pull => if s.rru.holdsWord then beginCoast (noteMove 0x0103 [src, cause] s) else enterQual s
  | .search => enterQual s
  | _ => s

/-- R47: a source is disqualified; the loss of the active source, of a chosen one or of a marked one follows. -/
def disqualify (src cause : Nat) (s : State) : State :=
  let s := modMon src (fun m => { m with qualified := false, goodLines := 0, goodVerts := 0, missLines := 0,
                                         missVerts := 0, holdFrames := 0 }) s
  let s := s.onRru fun r => { r with revertTo := if r.revertTo = some (srcOf src) then none else r.revertTo,
                                     chosen := if r.chosen = some (srcOf src) then none else r.chosen
                                     qualTb := if r.pll = .qual then s.now else r.qualTb }
  if srcCode s.rru.active = src ∧ s.rru.pll ≠ .coast ∧ s.rru.pll ≠ .off ∧ s.rru.pll ≠ .qual then loseActive cause s
  else chooseInCoast s

/-- R44, R977, R50: a source has qualified. -/
def qualify (src : Nat) (s : State) : State :=
  let s := modMon src (fun m => { m with qualified := true, missLines := 0, missVerts := 0, holdFrames := 0 }) s
  chooseInCoast (tryAcquire s)

/-- R52: a source ranks above the active one. -/
def ranksAbove (s : State) (src : Nat) : Bool :=
  ((effList s).takeWhile (· != srcCode s.rru.active)).contains src

/-- R52: the revert to a source is marked when it has stayed qualified for REVERT_HOLD frames; R69 lets it freeze the loop in LOCKED
alone. -/
def markRevert (src : Nat) (s : State) : State :=
  let n := getF s R.RRU_FAILOVER_REVERT_HOLD
  if (s.rru.pll = .locked ∨ s.rru.pll = .pull) ∧ s.rru.revertTo = none ∧ 0 < n ∧ src ≠ 0 ∧ ranksAbove s src ∧ isQualified s src ∧
      n ≤ (getMon s src).holdFrames then
    s.onRru fun r => { r with revertTo := some (srcOf src) }
  else s

/-- R50, R52: the chosen source is adopted at its vertical event, which ends the coasting frame. -/
def adopt (src : Nat) (s : State) : State :=
  let old := srcCode s.rru.coastFrom
  let rev := s.rru.revertTo = some (srcOf src)
  let s := newControlWord (s.onRru fun r =>
    { r with active := srcOf src, pll := .pull, holdsWord := true, pullAfterCoast := true, chosen := none,
             revertTo := none, lockCount := 0, bigErr := 0, boundaryDue := true, freeDue := false, freeByCoast := false,
             frameCoast := true })
  if old = src then noteMove 0x0104 [src] s
  else if rev then noteMove 0x0106 [old, src] s
  else noteMove 0x0105 [old, src] s

/-! ## Line events -/

/-- R26, R27: a sync pulse has the shape that SYNC_BILEVEL selects. -/
def pulseShape (s : State) (pos neg : Nat) : Bool :=
  if flagF s R.RRU_GEOM_SYNC_BILEVEL then pos == 0 && neg != 0 else pos != 0 && neg != 0

/-- R26: an amplitude lies in its window. -/
def amplitudeOk (s : State) (pos neg : Nat) : Bool :=
  let ok := fun v => decide (150 ≤ v) && decide (v ≤ 450)
  pulseShape s pos neg && ok neg && (flagF s R.RRU_GEOM_SYNC_BILEVEL || ok pos)

/-- R27: a line of SYNC_IN that delivers a pulse is judged. The detail of event 0x010F is the greater of the two halves, and the event
comes once until a good line ends the count: the spec fixes neither (log entry 58). -/
def judgeAmplitude (pos neg : Nat) (s : State) : State :=
  if amplitudeOk s pos neg then modMon 1 (fun m => { m with badAmpl := 0 }) s
  else
    let n := min 16 ((getMon s 1).badAmpl + 1)
    let first := decide ((getMon s 1).badAmpl = 15)
    let s := modMon 1 (fun m => { m with badAmpl := n }) s
    if first then disqualify 1 2 (raise 0x010F [.h (max pos neg)] s) else s

/-- R48: DUT lines in 1/65,536 line from the last accepted crossing to one at `line`: over the frames that have ended since, or over
the frame in progress where the crossing is the first sign of the next. -/
def crossingLines (s : State) (m : SourceMon) (line : Nat) : Nat :=
  if m.ended ≠ 0 then m.ended * 65536 + line - m.lastLine
  else if m.lastLine < line then line - m.lastLine
  else fieldLength s m.parity * 65536 + line - m.lastLine

/-- R46: lines without an event since the last one, in 1/65,536 line; the crossings of OPTICAL are predicted by their DUT
lines (R48). -/
def skippedLines (src : Nat) (m : SourceMon) : Nat := if src = 4 then 0 else m.skipped * 65536

/-- R43, R46, R48: a line event (a crossing, for OPTICAL) of a monitored source at time t: its monitor. -/
def lineMonitor (src t line : Nat) (s : State) : State :=
  let m := getMon s src
  let lines := if src = 4 then crossingLines s m line else 65536
  match m.lastEvent with
  | none =>
    modMon src (fun m => { m with lastEvent := some t, skipped := 0, goodLines := 0, goodVerts := 0, missLines := 0, ended := 0,
                                  lineCount := m.lineCount + 1, lastLine := line, crossings := m.crossings + 1 }) s
  | some last =>
    let pred := last + linePeriod s * (lines + skippedLines src m) / 65536
    let dev := if pred ≤ t then t - pred else pred - t
    let good := skippedLines src m = 0 ∧ spacingOk s (t - last) lines
    if dev ≤ eventWindow s then
      modMon src (fun m => { m with lastEvent := some t, skipped := 0, missLines := 0, ended := 0,
                                    goodLines := if good then min 64 (m.goodLines + 1) else 0,
                                    goodVerts := if good then m.goodVerts else 0,
                                    lineCount := m.lineCount + 1, lastLine := line, crossings := m.crossings + 1 }) s
    else if m.qualified then s
    else modMon src (fun m => { m with lastEvent := some t, skipped := 0, goodLines := 0, goodVerts := 0, ended := 0,
                                       lineCount := m.lineCount + 1, lastLine := line, crossings := m.crossings + 1 }) s

/-- R46: an event at time t lies in the acceptance window of a source's prediction. -/
def inWindow (s : State) (src t line : Nat) : Bool :=
  let m := getMon s src
  match m.lastEvent with
  | none => false
  | some last =>
    let lines := if src = 4 then crossingLines s m line else 65536
    let pred := last + linePeriod s * (lines + skippedLines src m) / 65536
    (if pred ≤ t then t - pred else pred - t) ≤ eventWindow s

/-- R56: a line event of the band search; a trial of 32 line events ends in a control word and a band that the spec does not fix. -/
def searchEvent (s : State) : State :=
  let n := s.rru.searchLines + 1
  let s := s.onRru fun r => { r with searchLines := n }
  if n % 32 = 0 ∧ n < 224 then
    let (v, s) := takeFree s
    s.onRru fun r => { r with cw := v.extractLsb' 0 24, bandCur := v.extractLsb' 24 7 }
  else s

/-- R56, R58, R59: the phase error of a line event of the active source, worth a number of lines. -/
def phaseCheck (err : Int) (lines : Nat) (s : State) : State :=
  let thr : Int := getF s R.RRU_PLL_LOCK_LOCK_THR
  let mag : Int := err.natAbs
  match s.rru.pll with
  | .search => searchEvent s
  | .pull =>
    newControlWord (s.onRru fun r => { r with phaseErr := BitVec.ofInt 16 err,
                                              lockCount := if mag < thr then r.lockCount + lines else 0 })
  | .locked =>
    let n := if 4 * thr ≤ mag then s.rru.bigErr + 1 else 0
    let s := newControlWord (s.onRru fun r => { r with phaseErr := BitVec.ofInt 16 err, bigErr := n })
    if 16 ≤ n then
      raise 0x0102 [.h (signed16 err)] (s.onRru fun r =>
        { r with pll := .pull, holdsWord := true, lockCount := 0, bigErr := 0 })
    else s
  | _ => s

/-- R46 to R49, R58, R59: a line event of a monitored source. -/
def lineEvent (src t : Nat) (err : Int) (line : Nat) (s : State) : State :=
  let m := getMon s src
  let taken := inWindow s src t line
  let lines := if src = 4 then crossingLines s m line / 65536 else 1
  let period := match m.lastEvent with
    | some last => if m.skipped = 0 ∧ src ≠ 4 then t - last else s.rru.measLper
    | none => s.rru.measLper
  let s := lineMonitor src t line s
  if srcCode s.rru.active = src ∧ taken then
    phaseCheck err lines (s.onRru fun r => { r with measLper := if r.pll = .coast then r.measLper else period })
  else s

/-- R46, R47, R58: an expected line event of a monitored source is missing. -/
def lineMissing (src : Nat) (s : State) : State :=
  let m := getMon s src
  if src = 0 ∨ m.lastEvent = none then s
  else
    let act := srcCode s.rru.active = src ∧ s.rru.pll ≠ .coast ∧ s.rru.pll ≠ .off
    let s := modMon src (fun m => { m with skipped := m.skipped + 1, lineCount := m.lineCount + 1, goodLines := 0,
                                           goodVerts := 0, missLines := m.missLines + 1 }) s
    let s := if act then addF R.RRU_CNT_MISSED 1 (s.onRru fun r => { r with lockCount := 0 }) else s
    if m.qualified ∧ 4 ≤ m.missLines + 1 then disqualify src 0 s else s

/-- R31: time since the epoch of PTP_SCHEDULE in 2⁻¹⁶ ns. -/
def sinceEpoch (s : State) : Int :=
  let epoch : Int := ((getF s R.RRU_EPOCH_SEC_HI * 2 ^ 32 + getF s R.RRU_EPOCH_SEC_LO) * 1000000000 + getF s R.RRU_EPOCH_NS : Nat)
  ((s.tmb.todSec.toNat * 1000000000 + s.tmb.todNs : Nat) - epoch) * 65536

/-- R31: the line of PTP_SCHEDULE whose time lies in this tick, with that time in 2⁻¹⁶ ns of TB. -/
def scheduleLine (s : State) : Option (Int × Nat) :=
  let p : Int := linePeriod s
  let late := sinceEpoch s % p
  if p ≠ 0 ∧ late < 262144 then some (sinceEpoch s / p, s.now * 262144 - late.toNat) else none

/-- R25: FREE's line event comes one nominal line period after the last, and not before that time. -/
def freeLine (s : State) (t : Nat) : Option Nat :=
  match (getMon s 0).lastEvent with
  | none => some t
  | some u => if u + linePeriod s ≤ s.now * 262144 then some (u + linePeriod s) else none

/-- R25, R30: an edge of DIGITAL (of DE, or of HSYNC) is the line event that USE_DE and the polarities select. -/
def activeEdge (s : State) (de falling : Bool) : Bool :=
  de == flagF s R.RRU_GEOM_USE_DE && falling == (if de then flagF s R.RRU_GEOM_DE_POL else flagF s R.RRU_GEOM_HS_POL)

/-- R46: a monitored raster source delivers a line event. FREE and PTP_SCHEDULE compute its time. Of SYNC_IN, `pos` and `neg` are the
amplitudes of the halves; of DIGITAL, they say that the edge is one of DE (not HSYNC), and that it falls. -/
def doSourceLineEvent (src : Source) (t : Nat) (err : Int) (pos neg line : Nat) (s : State) : State :=
  let c := srcCode src
  if crossCheck s ∧ c = 4 then modMon 4 (fun m => { m with crossings := m.crossings + 1 }) s
  else if !monitored s c then s
  else match src with
    | .free => match freeLine s t with
      | some t => lineEvent 0 t err line s
      | none => s
    | .syncIn =>
      let s := judgeAmplitude pos neg s
      if pulseShape s pos neg && (getMon s 1).badAmpl < 16 then lineEvent 1 t err line s else s
    | .digital => if activeEdge s (pos != 0) (neg != 0) then lineEvent 2 t err line s else s
    | .ptpSchedule => match scheduleLine s with
      | some (_, t) => if s.tmb.todState = .locked then lineEvent 3 t err line s else s
      | none => s
    | .optical | .mosaic => lineEvent c t err line s

/-- R46: the acceptance window of a source's next predicted line event has ended; OPTICAL's predictions lie with the tracker
(R48). -/
def windowEnded (s : State) (src : Nat) : Bool :=
  match (getMon s src).lastEvent with
  | some last => src == 4 || decide (last + linePeriod s * ((getMon s src).skipped + 1) + eventWindow s ≤ (s.now + 1) * 262144)
  | none => false

/-- R46: the acceptance window of a predicted line event ends without one. -/
def doLineEventMissing (src : Source) (s : State) : State :=
  if monitored s (srcCode src) ∧ windowEnded s (srcCode src) then lineMissing (srcCode src) s else s

/-! ## Vertical events -/

/-- R41: the parity that a vertical event reports. -/
def takeParity (src : Nat) (parity : Bool) (s : State) : State :=
  if flagF s R.RRU_GEOM_INTERLACE then
    let m := getMon s src
    let s' := if m.paritySeen ∧ m.parity = parity then raise 0x010A [.h (bit parity)] s else s
    modMon src (fun m => { m with parity := parity, paritySeen := true }) s'
  else s

/-- R32: the frame of OPTICAL that ends is present. -/
def opticalPresent (s : State) : Bool := getF s R.RRU_OPT_OPT_MINSEG_M1 + 1 ≤ (getMon s 4).crossings

/-- R47, R48: a vertical event is missing, or a frame of OPTICAL is not present. -/
def vertMissing (src : Nat) (s : State) : State :=
  let m := getMon s src
  let s := modMon src (fun m => { m with missVerts := m.missVerts + 1, goodVerts := 0 }) s
  if src ≠ 0 ∧ m.qualified ∧ 2 ≤ m.missVerts + 1 then disqualify src 1 s else s

/-- R43: an accepted vertical event counts towards qualification, and R52 towards the hold of a revert. -/
def countVertical (src : Nat) (s : State) : State :=
  let m := getMon s src
  if m.qualified then markRevert src (modMon src (fun m => { m with missVerts := 0, holdFrames := m.holdFrames + 1 }) s)
  else if 64 ≤ m.goodLines then
    let s := modMon src (fun m => { m with goodVerts := m.goodVerts + 1 }) s
    if 2 ≤ m.goodVerts + 1 then qualify src s else s
  else s

/-- R37, R38: the frame in progress of the active raster ends at this vertical event. -/
def endsFrame (s : State) (src : Nat) : Bool :=
  srcCode s.rru.active == src && (s.rru.alignDue || (src != 4 && s.rru.rpValid && (s.rru.pll == .locked || s.rru.pll == .pull)))

/-- R37, R45: a frame of a source ends after c lines, at a time in 2⁻¹⁶ ns. -/
def endSourceFrame (src c vtb : Nat) : State → State :=
  modMon src (fun m => { m with lineCount := 0, crossings := 0, lastVert := some vtb, ended := m.ended + c })

/-- R40: the parity that the field in progress takes; a raster without fields shows 0. -/
def fieldNow (s : State) (parity : Bool) : Bool := flagF s R.RRU_GEOM_INTERLACE && parity

/-- R37 to R52: a vertical event of a monitored source at a time in 2⁻¹⁶ ns. -/
def verticalEvent (src vtb : Nat) (parity : Bool) (s : State) : State :=
  let m := getMon s src
  let own := src = 4 || ownCount s src
  let c := if own then sourceCount s src vtb else activeCount s
  let ok := (own && !m.vertSeen) || countOk s src (if own then m.parity else s.rru.field) c
  if !ok then raise 0x0109 [.h c] s
  else
    let adopts := s.rru.pll = .coast ∧ s.rru.chosen = some (srcOf src) ∧ s.rru.chosenTb < s.now
    let present := src ≠ 4 ∨ opticalPresent s
    let s := takeParity src parity s
    let s := endSourceFrame src c vtb (modMon src (fun m => { m with vertSeen := true }) s)
    let s := if present then countVertical src s else vertMissing src s
    if adopts ∧ s.rru.chosen = some (srcOf src) then adopt src (s.onRru fun r => { r with field := fieldNow s parity })
    else if endsFrame s src then s.onRru fun r => { r with boundaryDue := true, field := fieldNow s parity }
    else s

/-- R33, R908: the OPTICAL cross-check of a member at the end of a frame of OPTICAL. -/
def xcheckFrame (diff : Int) (s : State) : State :=
  let present := opticalPresent s
  let s := modMon 4 (fun m => { m with crossings := 0 }) s
  if !present ∨ diff.natAbs ≤ getF s R.RRU_PLL_LOCK_EVENT_WIN then s.onRru fun r => { r with xcheck := 0 }
  else
    let n := min 17 (s.rru.xcheck + 1)
    let s := s.onRru fun r => { r with xcheck := n }
    if n = 16 then raise 0x0110 [.h (signed16 diff)] s else s

/-- R41: the parity that a vertical event of SYNC_IN or DIGITAL marks: 1 in the second half of a line. -/
def halfOfLine (s : State) (src t : Nat) : Bool :=
  match (getMon s src).lastEvent with
  | some u => linePeriod s != 0 && decide (linePeriod s ≤ 2 * ((t - u) % linePeriod s))
  | none => false

/-- R30, R31, R41: when a vertical event of a source comes, in 2⁻¹⁶ ns, and the parity of the field that it starts; none where the
edge is not the active one, or the schedule has no frame there. SYNC_IN and DIGITAL mark the parity by the half of the line; the
operand names it for the others, and for DIGITAL it says that the edge of VSYNC falls. -/
def verticalAt (s : State) (src : Source) (parity : Bool) : Option (Nat × Bool) :=
  let t := s.now * 262144
  match src with
  | .syncIn => some (t, halfOfLine s 1 t)
  | .digital => if parity = flagF s R.RRU_GEOM_VS_POL then some (t, halfOfLine s 2 t) else none
  | .ptpSchedule => match scheduleLine s with
    | some (k, t) => if k % (getF s R.RRU_TL_TL : Int) = 0 then some (t, parity) else none
    | none => none
  | _ => some (t, parity)

/-- R37: a monitored source delivers a vertical event. -/
def doSourceVerticalEvent (src : Source) (parity : Bool) (diff : Int) (s : State) : State :=
  let c := srcCode src
  if crossCheck s ∧ c = 4 then xcheckFrame diff s
  else if monitored s c ∧ s.rru.pll ≠ .off then
    match verticalAt s src parity with
    | some (t, p) => verticalEvent c t p s
    | none => s
  else s

/-- R40, R41: the parity of a field that starts without a vertical event. The spec gives none: the model lets the fields go on
alternating, for the active raster and for a source's own count (log entry 59). -/
def nextParity (s : State) (parity : Bool) : Bool := flagF s R.RRU_GEOM_INTERLACE && !parity

/-- R37, R38, R45: a source's frame of c lines ends without a vertical event, which is missing. -/
def ownFrameEnd (src c : Nat) (s : State) : State :=
  vertMissing src (endSourceFrame src c (s.now * 262144) (modMon src (fun m => { m with parity := nextParity s m.parity }) s))

/-- R37 to R39: the line count of the active raster passes the last permitted line. -/
def flywheelDue (s : State) : Bool :=
  s.rru.rpValid && !s.rru.boundaryDue && s.rru.pll != .off &&
    decide (frameLimit s s.rru.field (s.rru.pll == .coast || s.rru.active == .free) ≤ activeCount s)

/-- R37 to R39: the frame of the active raster ends without a vertical event; outside a coast that event is missing. -/
def activeFrameEnd (s : State) : State :=
  let c := srcCode s.rru.active
  let n := activeCount s
  let s := s.onRru fun r => { r with boundaryDue := true, field := nextParity s r.field }
  if c = 4 ∧ s.rru.pll ≠ .coast ∧ opticalPresent s then s
  else
    let s := raise 0x0109 [.h n] s
    if ownCount s c || !monitored s c then s else ownFrameEnd c n s

/-- R45: the line count that a source keeps for itself passes the last permitted line. -/
def ownEndDue (s : State) (src : Nat) : Bool :=
  monitored s src && (src == 4 || ownCount s src) && (getMon s src).vertSeen &&
    decide (frameLimit s (getMon s src).parity (src == 0) ≤ sourceCount s src (s.now * 262144))

/-- R37, R38, R45: the line count of the active raster, or one that a source keeps for itself, passes the last permitted line. -/
def doFlywheelFrameEnd (src : Source) (s : State) : State :=
  let c := srcCode src
  if c = srcCode s.rru.active ∧ flywheelDue s then activeFrameEnd s
  else if ownEndDue s c then
    let n := sourceCount s c (s.now * 262144)
    ownFrameEnd c n (raise 0x0109 [.h n] s)
  else s

/-- R52, R69: the active frame ends after a revert was marked, and the control word freezes. -/
def revertFreezes (s : State) : State :=
  match s.rru.pll, s.rru.revertTo with
  | .locked, some src => (beginCoast s).onRru fun r => { r with chosen := some src, revertTo := some src, chosenTb := s.now }
  | _, _ => s

/-- R52: the frame in progress has ended, and a revert is marked. -/
def doRevertFreeze (s : State) : State := if s.rru.boundaryDue then revertFreezes s else s

/-- COAST_MAX in TB. -/
def coastMax (s : State) : Nat := getF s R.RRU_FAILOVER_COAST_MAX * 25000000

/-- R51: the loop has coasted for COAST_MAX; FREE is adopted at the next coasted boundary. -/
def doCoastMaxExpired (s : State) : State :=
  if s.rru.pll = .coast ∧ coastMax s ≠ 0 ∧ s.rru.coastTb + coastMax s ≤ s.now ∧ (effList s).contains 0 ∧ s.rru.chosen = none then
    s.onRru fun r => { r with freeDue := true }
  else s

/-- R977: in QUAL, every source above FREE has stayed unqualified for COAST_MAX. -/
def doQualCoastMaxExpired (s : State) : State :=
  let above := (effList s).takeWhile (· != 0)
  if s.rru.pll = .qual ∧ coastMax s ≠ 0 ∧ s.rru.qualTb + coastMax s ≤ s.now ∧ (effList s).contains 0 ∧ above ≠ [] ∧
      above.all (fun c => !(rateOk s c && isQualified s c)) then
    tryAcquire (s.onRru fun r => { r with freeCounts := true })
  else s

/-- R56, R57: the 7 trials of the band search have ended, with a band that covers the target or with none. -/
def doBandSearchDone (band : Option (BitVec 7)) (s : State) : State :=
  if s.rru.pll = .search ∧ 224 ≤ s.rru.searchLines then
    match band with
    | some b => if bandCovers s b.toNat then newControlWord (s.onRru fun r => { r with pll := .pull, bandCur := b, lockCount := 0 }) else s
    | none => tryAcquire (bandFail (srcCode s.rru.active) s)
  else s

/-- R57: one second after a band failure, the loop retries from QUAL. -/
def doBandFailRetry (s : State) : State :=
  if s.rru.pll = .qual ∧ s.rru.bandFailed ≠ [] ∧ s.rru.failTb + second ≤ s.now then
    tryAcquire (s.onRru fun r => { r with bandFailed := [] })
  else s

/-- R58, R69: lock is declared. -/
def doLockDeclared (s : State) : State :=
  if s.rru.pll = .pull ∧ 256 ≤ s.rru.lockCount then
    let s := s.onRru fun r => { r with pll := .locked, bigErr := 0, pullAfterCoast := false, alignDue := !r.rpValid }
    (rasterUp (raise 0x0101 [.h (srcCode s.rru.active), .h s.rru.bandCur.toNat] s))
  else s

/-! ## Boundaries -/

/-- R73, R84: the outputs enabled from this line boundary on. -/
def outputsEnabled (s : State) : BitVec 8 :=
  if !s.rru.rpValid then 0
  else
    let on := fun n => flagF s (R.RRU_OUT_CFG_EN n) && !(s.head.st == .hold && decide (1 ≤ n) && decide (n ≤ 6))
    BitVec.ofNat 8 ((List.range 8).foldl (fun v n => v + bit (on n) * 2 ^ n) 0)

/-- R72: the outputs that pulse at line L. -/
def outputPulses (s : State) (en : BitVec 8) (l : Nat) : BitVec 8 :=
  BitVec.ofNat 8 ((List.range 8).foldl
    (fun v n => v + bit (en.getLsbD n && l % (getF s (R.RRU_OUT_CFG_DIV_M1 n) + 1) == 0) * 2 ^ n) 0)

/-- R73: the ticks by which DELAY holds an output back: DELAY/8 VCO cycles, of which a line has N. The exposure scheduler takes the
DELAY of OUT0 as a phase. -/
def outDelay (s : State) (n : Nat) : Nat :=
  let d := feedbackN s * 8 * 262144
  if n = 0 ∨ d = 0 then 0 else getF s (R.RRU_OUT_CFG_DELAY n) * linePeriod s / d

/-- R72, R73: the outputs at the start of line L; those that a DELAY holds back pulse later. -/
def driveOutputs (l : Nat) (s : State) : State :=
  let en := outputsEnabled s
  let p := outputPulses s en l
  let later := (List.range 8).filter fun n => p.getLsbD n && outDelay s n != 0
  s.onRru fun r => { r with
    outEn := en, outPulse := p &&& ~~~(BitVec.ofNat 8 (later.map fun n => 2 ^ n).sum)
    delayed := r.delayed ++ later.map fun n => (s.now + outDelay s n, n) }

/-- R10, R243: when the line that starts at this tick started, in 2⁻¹⁶ ns: with the line event of the active source, or one
line period after the line before, where that lies in this tick. -/
def lineInstant (s : State) : Nat :=
  let here := fun t => decide ((t + 262143) / 262144 = s.now)
  let next := s.rru.lineAt + (if s.rru.measLper = 0 then linePeriod s else s.rru.measLper)
  match (getMon s (srcCode s.rru.active)).lastEvent with
  | some t => if here t then t else if here next then next else s.now * 262144
  | none => if here next then next else s.now * 262144

/-- R72: the raster passes the boundary of a line that starts no frame. -/
def nextLine (s : State) : State :=
  driveOutputs (s.rru.l + 1) (s.onRru fun r => { r with l := r.l + 1, lineAt := lineInstant s, lineNo := r.lineNo + 1 })

/-- R51: FREE is adopted at a coasted boundary, also where a listed source has qualified since COAST_MAX expired: the spec takes the
condition at the expiry and is silent on the time up to the boundary (log entry 60). -/
def adoptFree (s : State) : State :=
  let d := (s.now - s.rru.coastTb) / 25000000
  raise 0x010E [.h d] (newControlWord (s.onRru fun r =>
    { r with active := .free, pll := .locked, freeByCoast := true, freeDue := false, chosen := none, revertTo := none,
             frameCoast := true }))

/-- R35, R69: the frame number after a boundary. -/
def nextF (s : State) : Nat := if s.rru.fUsed then (s.rru.f + 1) % 2 ^ 40 else 0

/-- R35, R38: frame f starts. -/
def startFrame (f : Nat) (s : State) : State :=
  let len := activeCount s
  let valid := s.rru.rpValid
  s.onRru fun r =>
    { r with f := f, fUsed := true, l := 0, lineAt := lineInstant s, lineNo := r.lineNo + 1, rpValid := true, boundaryDue := false, alignDue := false,
             lastTl := if valid then len else r.lastTl
             maxTl := if valid then max r.maxTl len else r.maxTl
             minTl := if valid then min r.minTl len else r.minTl }

/-- R54, R976: a source that the head monitors no longer is neither chosen nor marked, and its loss follows where it is active. -/
def dropSource (src : Nat) (s : State) : State :=
  disqualify src 3 (modMon src (fun _ => {}) s)

/-- R54, R66, R976: the list of sources or the nominal line rate has changed; `old` is the list and `seen` are the sources that the head
monitored before. A source that it monitors no longer is lost with cause 3, for a rate out of its range too (log entry 61). -/
def listChanged (old seen : List Nat) (s : State) : State :=
  let s := forEach (seen.filter fun c => !monitored s c) dropSource s
  let act := srcCode s.rru.active
  if getF s R.RRU_FAILOVER_REVERT_HOLD ≠ 0 ∧ (s.rru.pll = .locked ∨ s.rru.pll = .pull) ∧ old ≠ effList s then
    match ((effList s).takeWhile (· != act)).find? fun c => c != 0 && rateOk s c && isQualified s c with
    | some c => s.onRru fun r => { r with revertTo := some (srcOf c) }
    | none => s
  else s

/-- R20, R54: the staged raster settings take effect at a boundary. -/
def stagedBoundary (s : State) : State := listChanged (effList s) (watched s) (applyStaged s)

/-- R35, R51 to R53: the raster's own part of a frame boundary. -/
def rasterBoundary (f : Nat) (s : State) : State :=
  let s := revertFreezes s
  let s := if s.rru.freeDue ∧ s.rru.pll = .coast then adoptFree s else s
  let s := stagedBoundary (startFrame f s)
  let s := s.onRru fun r => { r with frameCoast := coastNow s }
  driveOutputs 0 s

/-- R35: a frame boundary is due: the raster runs and its frame has ended. -/
def boundaryReady (s : State) : Bool :=
  s.rru.boundaryDue && (s.rru.rpValid || s.rru.alignDue) && s.rru.pll != .off

/-! ## Writes to the registers of the block -/

/-- R36, R39, R42, R87: the frame geometry of three words holds together. A length that the raster does not use may be 0, as the
records of R88 and the reset values have it, and is never 1 (log entry 62). -/
def geometryOk (tl vrr geom : Word) : Bool :=
  let t := tl.toNat % 65536
  let alt := tl.toNat / 65536
  let mn := vrr.toNat % 65536
  let mx := vrr.toNat / 65536
  let il := geom.getLsbD 0
  let vr := geom.getLsbD 1
  decide (2 ≤ t) && alt != 1 && mn != 1 && mx != 1 && !(il && vr) && (!il || decide (2 ≤ alt)) &&
    (!vr || (decide (2 ≤ mn) && decide (mn ≤ t) && decide (t ≤ mx)))

/-- R87: LINE_PERIOD and LINE_TOL lie in range. -/
def periodOk (lo hi : Word) : Bool :=
  let p := hi.toNat % 65536 * 2 ^ 32 + lo.toNat
  let tol := hi.toNat / 65536
  decide (26214400 ≤ p) && decide (p ≤ 131072000000) && decide (1 ≤ tol) && decide (tol ≤ 10000)

/-- R55, R87: a divider places the VCO in its range for a line period. -/
def dividerOk (n period : Nat) : Bool :=
  n == 0 || (decide (1280 ≤ n) && decide (n ≤ 12800000) && decide (3200000000 * period ≤ n * hertz) &&
    decide (n * hertz ≤ 6400000000 * period))

/-- R54, R87: a priority list names each source at most once. -/
def prioOk (v : Word) : Bool :=
  decide (v.toNat / 2 ^ 18 % 8 ≤ 5) && (prioOf v).all (fun c => decide (c ≤ 5)) && decide (prioOf v).Nodup

/-- R87, R36 to R42, R55: a value is in range for a register of the block. -/
def rruRangeOk (s : State) (a : Nat) (v : Word) : Bool :=
  let st := stagedReg s
  if a = A.RRU_SRC_PRIO then prioOk v
  else if a = A.RRU_FAILOVER then decide (R.RRU_FAILOVER_COAST_MAX.get v ≤ 6000)
  else if a = A.RRU_TL then geometryOk v (st A.RRU_TL_VRR) (st A.RRU_GEOM)
  else if a = A.RRU_TL_VRR then geometryOk (st A.RRU_TL) v (st A.RRU_GEOM)
  else if a = A.RRU_GEOM then geometryOk (st A.RRU_TL) (st A.RRU_TL_VRR) v
  else if a = A.RRU_LPER_LO then
    periodOk v (st A.RRU_LPER_HI) &&
      dividerOk (getF s R.RRU_PLL_NDIV_N) ((st A.RRU_LPER_HI).toNat % 65536 * 2 ^ 32 + v.toNat)
  else if a = A.RRU_LPER_HI then
    periodOk (st A.RRU_LPER_LO) v &&
      dividerOk (getF s R.RRU_PLL_NDIV_N) (v.toNat % 65536 * 2 ^ 32 + (st A.RRU_LPER_LO).toNat)
  else if a = A.RRU_EPOCH_NS then decide (v.toNat % 2 ^ 30 < 1000000000)
  else if a = A.RRU_PLL_CTRL then decide (R.RRU_PLL_CTRL_BW.get v ≤ 11)
  else if a = A.RRU_PLL_NDIV then dividerOk (v.toNat % 2 ^ 24) (linePeriod s)
  else if a = A.RRU_PLL_LOCK then
    let thr := R.RRU_PLL_LOCK_LOCK_THR.get v
    let win := R.RRU_PLL_LOCK_EVENT_WIN.get v
    decide (1 ≤ thr) && decide (thr ≤ 4096) && decide (256 ≤ win) && decide (win ≤ 16384)
  else if a = A.RRU_OUT_CFG 0 ∨ a = A.RRU_OUT_CFG 7 then decide (v.toNat / 2 ^ 16 % 2 ^ 12 = 0)
  else true

/-- R62, R68: an acquisition restart by a write at an offset; a loss, failover or revert of the same tick is abandoned. -/
def acqRestart (ofs : Nat) (s : State) : State :=
  let s := raise 0x0107 [.h ofs] (s.onRru fun r => { r with moves := [] })
  enterQual (stopOutputs (s.onRru fun r =>
    { r with rpValid := false, boundaryDue := false, acqGap := true, acqPlanned := true, acqAbandon := true,
              frameCoast := false }))

/-- R81, R84, R85: the head state lets the raster PLL run. -/
def pllMayRun (s : State) : Bool := s.head.st == .acquiring || s.head.st == .running || s.head.st == .hold

/-- R69: the raster PLL starts qualification from OFF. -/
def enablePll (s : State) : State := if s.rru.pll = .off then enterQual s else s

/-- R69, R83, R85: the raster PLL stops in OFF. -/
def stopPll (s : State) : State :=
  stopOutputs (s.onRru fun r =>
    { r with pll := .off, delayed := [], rpValid := false, boundaryDue := false, alignDue := false, cw := 0, bandCur := 0,
             holdsWord := false, lockCount := 0, bigErr := 0, chosen := none, revertTo := none, freeDue := false,
             pullAfterCoast := false, frameCoast := false, freeByCoast := false, freeCounts := false, bandFailed := [] })

/-- R61, R69, R81: a write to a PLL configuration register; a loop that the head state holds in OFF stays there. -/
def writePll (a : Nat) (v : Word) (s : State) : WriteResult × State :=
  if !rruRangeOk s a v then rejectWrite 0x0111 a s
  else
    let was := flagF s R.RRU_PLL_CTRL_EN
    let s := plainWrite a v s
    let now := flagF s R.RRU_PLL_CTRL_EN
    if now ∧ !was then (.ok, if pllMayRun s then enablePll s else s)
    else if now then (.ok, if s.rru.pll = .off then s else acqRestart (a % 0x10000) s)
    else if was then (.ok, stopPll (raise 0x0107 [.h (a % 0x10000)] s))
    else (.ok, s)

/-- R78: a change of reference in CONFIGURING restarts the system PLL's acquisition, and TB holds. -/
def changeSysRef (ext : Bool) (s : State) : State :=
  if ext = s.rru.sysRefExt ∨ s.rru.sysFailedOver then s
  else (s.onRru fun r => { r with sysRefExt := ext, sysPll := .search }).onTmb fun t => { t with run := false }

/-- R61, R78, R87: a write to a register of the block. -/
def writeRru (a : Nat) (v : Word) (s : State) : WriteResult × State :=
  if a = A.RRU_PLL_CTRL ∨ a = A.RRU_PLL_NDIV ∨ a = A.RRU_PLL_LOCK ∨ a = A.RRU_PLL_RESTART then writePll a v s
  else if a = A.RRU_CTRL then
    let s := if v.getLsbD 1 then s.onRru fun r => { r with maxTl := 0, minTl := 0xFFFF } else s
    (.ok, s)
  else if a = A.RRU_SYS_CTRL then
    let s := plainWrite a v s
    (.ok, if s.head.st = .configuring then changeSysRef (flagF s R.RRU_SYS_CTRL_SRC) s else s)
  else if rruRangeOk s a v then (.ok, plainWrite a v s)
  else rejectWrite 0x0111 a s

/-- R28, R81: the 75 Ω termination is connected. -/
def terminated (s : State) : Bool :=
  flagF s R.RRU_GEOM_TERM && (s.head.st == .acquiring || s.head.st == .running || s.head.st == .hold)

/-! ## The system PLL -/

/-- R76: the control word of the system PLL takes a value that the spec does not fix; it freezes while the loop coasts (R49). -/
def newSysWord (s : State) : State :=
  let (v, s) := takeFree s
  s.onRru fun r => { r with sysCw := v.extractLsb' 0 24 }

/-- R76, R92: the system PLL has locked: 256 of its 1 MHz comparison events in a row lay within the threshold (R58), after its band
search unless it held a word (R56, R79). The comparison events themselves are no commands (log entry 63). -/
def sysLocks (s : State) : State := (newSysWord (s.onRru fun r => { r with sysPll := .locked })).onTmb fun t => { t with run := true }

/-- R76: the system PLL acquires, so that it can lock. -/
def sysAcquires (s : State) : Bool := s.rru.sysPll == .search || s.rru.sysPll == .pull

/-- R47, R79: the external 10 MHz is lost. -/
def doSysRefLost (s : State) : State :=
  let s := s.onRru fun r => { r with extPresent := false }
  if s.rru.sysRefExt ∧ s.rru.sysPll ≠ .off ∧ s.rru.sysPll ≠ .coast then
    let s := raise 0x010B [.h 1] (s.onRru fun r => { r with sysPll := .coast })
    if flagF s R.RRU_SYS_CTRL_FAILOVER_EN then
      raise 0x010C [] (s.onRru fun r => { r with sysRefExt := false, sysFailedOver := true })
    else s
  else s

/-- R79: a system PLL that coasts pulls in on the reference that it has, without a band search: the crystal after a failover. -/
def sysPullIn (s : State) : State :=
  if s.rru.sysPll = .coast ∧ (!s.rru.sysRefExt ∨ s.rru.extPresent) then s.onRru fun r => { r with sysPll := .pull } else s

/-- R79: the external 10 MHz returns. -/
def doExt10mhzReturn (s : State) : State :=
  let s := s.onRru fun r => { r with extPresent := true }
  sysPullIn s

/-- `RRU_STATUS`. The bit of FREE is 1 while FREE is listed: R43 calls FREE always qualified, and the register resets to 0 (log entry
64). -/
def rruStatus (s : State) : Word :=
  let q := (List.range 6).foldl (fun v c => v + bit (monitored s c && (c == 0 || (getMon s c).qualified)) * 2 ^ c) 0
  BitVec.ofNat 32 (q * 2 ^ 18 + bit s.rru.field * 2 ^ 17 + bit s.rru.rpValid * 2 ^ 16 + bit (coasting s) * 2 ^ 15 +
    srcCode s.rru.active * 2 ^ 8 + (match s.rru.pll with
      | .off => 0 | .qual => 1 | .search => 2 | .pull => 3 | .locked => 4 | .coast => 5))

end Sys2Proof.Machine
end

