-- ==== Sys2Proof/Machine/Timers.lean ====
section
/-! DEFINITION. Chapter 2: raster time, the timebase, the time of day and the timers. -/

namespace Sys2Proof.Machine

/-! ## Raster position -/

/-- R10, R98: the phase φ of this tick, from the time since the start of the line and the measured line period. -/
def phiNow (s : State) : Nat :=
  let lper := if s.rru.measLper = 0 then linePeriod s else s.rru.measLper
  if lper = 0 then 0 else min 65535 ((s.now * 262144 - s.rru.lineAt) * 65536 / lper)

/-! ## Timer units -/

/-- Changes one timer unit. -/
def modUnit (u : Nat) (f : TimerUnit → TimerUnit) : State → State :=
  State.onTmb fun t => { t with units := t.units.modify u f }

/-- One timer unit. -/
def getUnit (s : State) (u : Nat) : TimerUnit := s.tmb.units.getD u {}

/-- R128: the unit is frozen by a debug halt. -/
def unitFrozen (s : State) (u : Nat) : Bool := s.tmb.halted && flagF s (R.TMB_U_CTRL_FREEZE_ON_HALT u)

/-- R126, R134: firmware can send an EVENT message. -/
def canSendEvent (s : State) : Bool := !logHeld s && !s.tmb.halted

/-- R126, R127, R134: an enabled flag of a unit sends an EVENT message, within the rate limit. The spec leaves open where the second of
the limit begins, of which unit's excess event 0x020A speaks, and how the entry says RESTARTED and which TB it carries after a restart
(log entry 66). -/
def timerEvent (u code number : Nat) (restarted : Bool) (s : State) : State :=
  let x := getUnit s u
  let fresh := second ≤ s.now - x.evtFrom || x.evtSent == 0
  let x := if fresh then { x with evtSent := 0, evtFrom := s.now } else x
  if !canSendEvent s then raiseF (evtField code) 1 s
  else if x.evtSent < 1000 then
    let s := raiseF (evtField code) 1 (modUnit u (fun _ => { x with evtSent := x.evtSent + 1 }) s)
    let e := makeEntry s code (severityOf code) 0 (packDetail [.h number])
    pushToSessions { e with retained := restarted } true s
  else
    let s := addF (R.TMB_U_EVT_DROP_DROP u) 1 (raiseF (evtField code) 1 (modUnit u (fun _ => x) s))
    raiseLimited 0 second 0x020A [.h u, .h (getF s (R.TMB_U_EVT_DROP_DROP u))] s

/-- R114: a pulse of a unit reaches the units that link to it, one tick later. -/
def pulseUev (u sel : Nat) (s : State) : State :=
  if getF s (R.TMB_U_CTRL_UEV_SEL u) = sel then
    forEach (List.range 8) (fun v t =>
      if getF t (R.TMB_U_CTRL_LINK_SRC v) = u ∧ u < v ∧ 2 ≤ getF t (R.TMB_U_CTRL_LINK_ACT v) then
        modUnit v (fun x => { x with links := x.links ++ [t.now] }) t
      else t) s
  else s

/-- R117, R126: channel c of unit u matches: MATCH, its EVENT and its UEV pulse. -/
def matchChannel (u c : Nat) (s : State) : State :=
  let s := raiseF (R.TMB_U_FLAGS_MATCH u) (getF s (R.TMB_U_FLAGS_MATCH u) ||| 2 ^ c) s
  let s := when ((getF s (R.TMB_U_EVT_EN_MATCH u)).testBit c) (timerEvent u 0x0210 (4 * u + c) false) s
  pulseUev u (c + 1) s

/-- R112: a unit's counter wraps. -/
def wrapCounter (u : Nat) (s : State) : State :=
  let s := raiseF (R.TMB_U_FLAGS_OVF u) 1 s
  let s := when (flagF s (R.TMB_U_EVT_EN_OVF u)) (timerEvent u 0x0204 u false) s
  pulseUev u 0 s

/-- R112 to R114: CNT of a unit increments or wraps; in a tick with a write or a clear of CNT the increment is lost. What the increment
raises follows when the tick ends. -/
def incrementCounter (u : Nat) (s : State) : State :=
  if (getUnit s u).cntAt = some s.now then s
  else
    let cnt := getF s (R.TMB_U_CNT u)
    let wraps := cnt == getF s (R.TMB_U_TOP u) || cnt == 0xFFFFFFFF
    let v := if wraps then 0 else cnt + 1
    setF (R.TMB_U_CNT u) v (modUnit u (fun x => { x with reached := x.reached ++ [(v, wraps)] }) s)

/-- R113, R114: CNT of a unit is set from outside its count; the increments of the tick raise nothing. -/
def holdCounter (u : Nat) (s : State) : State := modUnit u (fun x => { x with cntAt := some s.now, reached := [] }) s

/-- R117: the COUNTER channels of a unit that match a value of CNT. -/
def counterHits (s : State) (u v : Nat) : List Nat :=
  (List.range 4).filter fun c =>
    getF s (R.TMB_CH_CTRL_MODE u c) == 2 && flagF s (R.TMB_CH_CTRL_EN u c) && getF s (R.TMB_CMP_LO u c) == v

/-- R111: one event passes a unit's prescaler. -/
def prescale (u : Nat) (s : State) : State :=
  let m1 := getF s (R.TMB_U_CTRL_PSC_M1 u)
  let x := getUnit s u
  let n := if x.pscOf = m1 then x.psc + 1 else 1
  if m1 < n then incrementCounter u (modUnit u (fun x => { x with psc := 0, pscOf := m1 }) s)
  else modUnit u (fun x => { x with psc := n, pscOf := m1 }) s

/-- R114: the ACTIVE level of a unit, from the levels of the last tick. -/
def unitActive (s : State) (u : Nat) : Bool :=
  getF s (R.TMB_U_CTRL_CNT_SRC u) != 0 &&
    (getF s (R.TMB_U_CTRL_LINK_ACT u) != 1 || (getUnit s (getF s (R.TMB_U_CTRL_LINK_SRC u))).active)

/-- R114, R116: a unit acts on the pulse of its linked unit, one tick after it. -/
def linkedEvent (u : Nat) (s : State) : State :=
  match (getUnit s u).links with
  | [] => s
  | t :: rest =>
    if s.now ≤ t then s
    else
      let s := modUnit u (fun x => { x with links := rest }) s
      match getF s (R.TMB_U_CTRL_LINK_ACT u) with
      | 2 => setF (R.TMB_U_CNT u) 0 (holdCounter u s)
      | 3 => if getF s (R.TMB_U_CTRL_CNT_SRC u) = 0 then s else prescale u s
      | _ => s

/-- R111, R114: an event of a unit's own source. -/
def sourceEvent (u : Nat) (s : State) : State :=
  let clearDue := (getUnit s u).links.any fun t => decide (t < s.now)
  match getF s (R.TMB_U_CTRL_LINK_ACT u) with
  | 0 => if unitActive s u then prescale u s else s
  | 1 => if unitActive s u then prescale u s else s
  | 2 => if clearDue then linkedEvent u s else if unitActive s u then prescale u s else s
  | _ => s

/-- R128, R132, R137: a unit holds: in a debug halt, in SLEEP up to its end, and while TB does not run. -/
def unitHolds (s : State) (u : Nat) : Bool := unitFrozen s u || s.head.st == .sleep || !s.tmb.run

/-- R111, R116: a count source event of a timer unit, or the event of its linked unit. -/
def doTimerSourceEvent (u : Fin 8) (linked : Bool) (s : State) : State :=
  if unitHolds s u then s else if linked then linkedEvent u s else sourceEvent u s

/-! ## Compare channels -/

/-- R117: the 64-bit compare value of a channel. -/
def cmpValue (s : State) (u c : Nat) : Nat := getF s (R.TMB_CMP_HI u c) * 2 ^ 32 + getF s (R.TMB_CMP_LO u c)

/-- R118: sets the 64-bit compare value of a channel. -/
def setCmp (u c v : Nat) (s : State) : State :=
  setF (R.TMB_CMP_HI u c) (v / 2 ^ 32 % 2 ^ 32) (setF (R.TMB_CMP_LO u c) (v % 2 ^ 32) s)

/-- R119: a periodic compare value after whole periods have carried it past a TB. -/
def pastPeriods (cmp period tb : Nat) : Nat :=
  if tb < cmp then cmp else cmp + ((tb - cmp) / period + 1) * period

/-- R120: the raster position has reached a channel's ⟨L, φ⟩. -/
def reached (s : State) (u c : Nat) : Bool :=
  decide (getF s (R.TMB_CMP_LO u c) ≤ s.rru.l * 65536 + phiNow s)

/-- Marks that a channel does not match again in the current frame. -/
def spendChannel (u c : Nat) (s : State) : State :=
  modUnit u (fun x => { x with spent := x.spent.set c (some s.rru.f) }) s

/-- R117, R120, R121: a channel's target is reached in this tick in RASTER mode. -/
def rasterDue (s : State) (u c : Nat) : Bool :=
  s.rru.rpValid && reached s u c && (getUnit s u).spent.getD c none != some s.rru.f &&
    (flagF s (R.TMB_CH_CTRL_RP_ANYF u c) || getF s (R.TMB_CMP_HI u c) == s.rru.f % 2 ^ 32)

/-- R117 to R122, R128: channel c of unit u reaches its target in TB, TB_PERIODIC or RASTER mode. A match in COUNTER
mode is part of the source event that makes it. -/
def compareMatch (u c : Nat) (s : State) : State :=
  if !flagF s (R.TMB_CH_CTRL_EN u c) || asleep s then s
  else
    let due := s.now == cmpValue s u c && !unitFrozen s u && !(getUnit s u).addDue.contains c
    match getF s (R.TMB_CH_CTRL_MODE u c) with
    | 0 => if due then matchChannel u c (setF (R.TMB_CH_CTRL_EN u c) 0 s) else s
    | 1 =>
      if due then
        matchChannel u c (modUnit u (fun x => { x with addDue := (x.addDue.filter (· != c)) ++ [c] }) s)
      else s
    | 3 =>
      if rasterDue s u c then
        let s := spendChannel u c s
        matchChannel u c (if flagF s (R.TMB_CH_CTRL_RP_ANYF u c) then s else setF (R.TMB_CH_CTRL_EN u c) 0 s)
      else s
    | _ => s

/-- R117 to R122: channel c of unit u reaches its target now. -/
def compareDue (s : State) (u c : Nat) : Bool :=
  flagF s (R.TMB_CH_CTRL_EN u c) && !asleep s &&
    match getF s (R.TMB_CH_CTRL_MODE u c) with
    | 0 | 1 => s.now == cmpValue s u c && !unitFrozen s u && !(getUnit s u).addDue.contains c
    | 3 => rasterDue s u c
    | _ => false

/-- R118: the period is added to the compare value of the channels that matched in this tick, unless the value was written in it. -/
def addPeriods (u : Nat) (s : State) : State :=
  let due := (getUnit s u).addDue.filter fun c => (getUnit s u).cmpAt.getD c none != some s.now
  forEach due (fun c s => setCmp u c ((cmpValue s u c + getF s (R.TMB_PERIOD_PERIOD_M1 u c) + 1) % 2 ^ 64) s)
    (modUnit u (fun x => { x with addDue := [] }) s)

/-- R119, R121: a channel enabled after its target: LATE. -/
def setLate (u c : Nat) (s : State) : State :=
  raise 0x0202 [.h (4 * u + c)] (raiseF (R.TMB_U_FLAGS_LATE u) (getF s (R.TMB_U_FLAGS_LATE u) ||| 2 ^ c) s)

/-- R119, R121: EN of a channel goes from 0 to 1. A raster target that the position equals in this very tick counts as passed (log entry
67). -/
def enableChannel (u c : Nat) (s : State) : State :=
  let s := modUnit u (fun x => { x with spent := x.spent.set c none }) s
  match getF s (R.TMB_CH_CTRL_MODE u c) with
  | 0 => if cmpValue s u c < s.now then setLate u c s else s
  | 1 =>
    if cmpValue s u c < s.now then
      setLate u c (setCmp u c (pastPeriods (cmpValue s u c) (getF s (R.TMB_PERIOD_PERIOD_M1 u c) + 1) s.now) s)
    else s
  | 3 =>
    if flagF s (R.TMB_CH_CTRL_RP_ANYF u c) then s
    else
      let ahead := (getF s (R.TMB_CMP_HI u c) + 2 ^ 32 - s.rru.f % 2 ^ 32) % 2 ^ 32
      if 2 ^ 31 ≤ ahead then setLate u c s
      else if ahead = 0 ∧ reached s u c then setLate u c (spendChannel u c s)
      else s
  | _ => s

/-- R121, R128, R132: a channel's target passed without a match. -/
def setMissed (u c cause : Nat) (s : State) : State :=
  raise 0x0203 [.h (4 * u + c), .h cause]
    (raiseF (R.TMB_U_FLAGS_MISSED u) (getF s (R.TMB_U_FLAGS_MISSED u) ||| 2 ^ c) s)

/-- R121: a frame ends: the RASTER channels that wait for a point of it that it did not reach. -/
def missedAtFrameEnd (s : State) : State :=
  if !s.rru.rpValid then s
  else forEach (List.range 32) (fun k t =>
    let u := k / 4
    let c := k % 4
    if flagF t (R.TMB_CH_CTRL_EN u c) ∧ getF t (R.TMB_CH_CTRL_MODE u c) = 3 ∧ !flagF t (R.TMB_CH_CTRL_RP_ANYF u c) ∧
        getF t (R.TMB_CMP_HI u c) = s.rru.f % 2 ^ 32 ∧ !reached s u c then
      setMissed u c 2 (setF (R.TMB_CH_CTRL_EN u c) 0 t)
    else t) s

/-- R117: a channel in a TB mode is armed. -/
def tbArmed (s : State) (k : Nat) : Bool :=
  flagF s (R.TMB_CH_CTRL_EN (k / 4) (k % 4)) && decide (getF s (R.TMB_CH_CTRL_MODE (k / 4) (k % 4)) ≤ 1)

/-- R132: the channels armed in a TB mode whose target has not passed, with their targets. -/
def sleepTargets (s : State) : List (Nat × Nat) :=
  ((List.range 32).filter fun k => tbArmed s k && decide (s.now ≤ cmpValue s (k / 4) (k % 4))).map fun k => (k, cmpValue s (k / 4) (k % 4))

/-- R128: the armed channels of the frozen units whose target passes with this tick. -/
def haltMissed (s : State) : State :=
  forEach ((List.range 32).filter fun k => unitFrozen s (k / 4) && tbArmed s k && cmpValue s (k / 4) (k % 4) == s.now) (fun k s =>
    let u := k / 4
    let c := k % 4
    let s := setMissed u c 1 s
    if getF s (R.TMB_CH_CTRL_MODE u c) = 1 then
      setCmp u c (pastPeriods (cmpValue s u c) (getF s (R.TMB_PERIOD_PERIOD_M1 u c) + 1) s.now) s
    else s) s

/-! ## Debug halt -/

/-- R128, R939: JTAG halts the management core. -/
def doDebugHalt (s : State) : State :=
  if s.tmb.halted ∨ !jtagEnabled s then s else s.onTmb fun t => { t with halted := true }

/-- R134: one EVENT for each flag bit that is set and enabled. -/
def sendSetFlags (restarted : Bool) (s : State) : State :=
  forEach (List.range 8) (fun u t =>
    let bits := getF t (R.TMB_U_FLAGS_MATCH u) &&& getF t (R.TMB_U_EVT_EN_MATCH u)
    let t := forEach (List.range 4) (fun c t => when (bits.testBit c) (timerEvent u 0x0210 (4 * u + c) restarted) t) t
    when (flagF t (R.TMB_U_FLAGS_OVF u) && flagF t (R.TMB_U_EVT_EN_OVF u)) (timerEvent u 0x0204 u restarted) t) s

/-- R128: the debugger releases the management core, which then sends an EVENT for each flag set meanwhile, as after a restart (log entry
66). -/
def doDebugHaltEnd (s : State) : State :=
  if s.tmb.halted then sendSetFlags false (s.onTmb fun t => { t with halted := false }) else s

/-! ## Time of day -/

/-- 10⁹: the nanoseconds of a second. -/
def nsPerSecond : Nat := 1000000000

/-- R100, R105: TOD moves by a signed number of nanoseconds, with carry or borrow into the seconds. -/
def moveTod (d : Int) (s : State) : State :=
  let total : Int := (s.tmb.todSec.toNat * nsPerSecond + s.tmb.todNs : Nat) + d
  let sec := total / (nsPerSecond : Int)
  s.onTmb fun t => { t with todSec := BitVec.ofInt 48 sec, todNs := (total % (nsPerSecond : Int)).toNat }

/-- R100: the whole nanoseconds that one tick adds, and the fraction that is left. -/
def tickNs (s : State) : Int × Int :=
  let freq := (rawReg s A.TMB_TOD_FREQ).toInt
  let acc := s.tmb.todFrac + 4 * freq
  (4 + acc / 65536000000, acc % 65536000000)

/-- R100 to R105: TOD in one tick: a commit wins over an adjustment, the advance and the roll-over. -/
def tickTod (s : State) : State :=
  match s.tmb.commit with
  | some (sec, ns) =>
    let adj := s.tmb.adj
    let s := s.onTmb fun t => { t with todSec := sec, todNs := ns, commit := none, adj := none, todFrac := 0 }
    match adj with
    | some d => raise 0x020C [.w (signed32 d)] s
    | none => s
  | none =>
    let (d, frac) := tickNs s
    let d := d + s.tmb.adj.getD 0
    moveTod d (s.onTmb fun t => { t with adj := none, todFrac := frac })

/-- R838: the watchdog's oscillator in one tick of the timebase, at its nominal 4.000 MHz (log entry 20). -/
def rcTick : State → State := State.onSup fun x =>
  if !x.wdgRun then x
  else if 123 ≤ x.elapsedPart then { x with elapsed := satAdd 32 x.elapsed 1, elapsedPart := x.elapsedPart + 2 - 125 }
  else { x with elapsedPart := x.elapsedPart + 2 }

/-- R17, R91, R100, R114: one tick of the timebase. -/
def tick (s : State) : State :=
  let s := endFresh s
  if !s.tmb.run then s
  else
    let levels := (List.range 8).map (unitActive s)
    let s := s.onTmb fun t => { t with tb := t.tb + 1,
                                       units := t.units.mapIdx fun u x => { x with active := levels.getD u false } }
    let s := tickTod (rcTick s)
    if (s.now - s.head.stateTb.toNat) % second = 0 then
      s.onHead fun h => { h with sec := h.sec.modify h.st.code (satAdd 32 1) }
    else s

/-- R100: the next tick passes the end of a second. -/
def rolloverDue (s : State) : Bool :=
  let (d, _) := tickNs s
  decide ((nsPerSecond : Int) ≤ s.tmb.todNs + d + s.tmb.adj.getD 0)

/-- R129: TB and TOD are made up from a number of slow ticks. -/
def makeUp (ticks : Nat) (s : State) : State :=
  let n := ticks * 1953125 / 256
  let s := s.onTmb fun t => { t with tb := BitVec.ofNat 64 (t.tb.toNat + n), makeup := min 0xFFFFFFFF ticks }
  raise 0x0201 [.w ticks] (moveTod (4 * n) s)

/-- R107: the servo starts to acquire. -/
def acquireTod : State → State := State.onTmb fun t => { t with todState := .acquiring, todGood := 0, todBad := 0 }

/-- R107: the servo is left in FREE. -/
def freeTod : State → State := State.onTmb fun t => { t with todState := .free, todGood := 0, todBad := 0 }

/-- R106, R107: the servo's control of the frequency takes a value that the spec does not fix, within the range of R138. -/
def servoFrequency (s : State) : State :=
  let (v, s) := takeFree s
  setRaw A.TMB_TOD_FREQ (BitVec.ofInt 32 ((v.toNat % 65536001 : Nat) - 32768000)) s

/-- R106, R107: a time message is accepted with an offset in ns (TOD less the master's time). The row 'Offset ≥ 1 s' is taken of the
magnitude, as the other rows write it (log entry 68); the step takes the adjustment path of R105, at the next tick. -/
def servoOffset (off : Int) (s : State) : State :=
  let thr : Int := getF s R.TMB_TOD_CTRL_LOCK_THR
  let mag : Int := off.natAbs
  let sat : Int := max (-2147483648) (min 2147483647 off)
  let s := when (s.tmb.todState != .free) (State.onTmb fun t => { t with todOffset := BitVec.ofInt 32 sat }) s
  match s.tmb.todState with
  | .free => s
  | .holdover => servoFrequency (acquireTod s)
  | .acquiring =>
    if 1000000000 ≤ mag then raise 0x0209 [.w (signed32 (-off))] ((acquireTod s).onTmb fun t => { t with adj := some (-off) })
    else
      let n := if mag < thr then s.tmb.todGood + 1 else 0
      let s := servoFrequency (s.onTmb fun t => { t with todGood := n })
      if 16 ≤ n then
        raise 0x0205 [.w (signed32 off)] (s.onTmb fun t => { t with todState := .locked, todGood := 0, todBad := 0 })
      else s
  | .locked =>
    let n := if 4 * thr ≤ mag then s.tmb.todBad + 1 else 0
    let s := servoFrequency (s.onTmb fun t => { t with todBad := n })
    if 4 ≤ n then raise 0x0206 [.w (signed32 off)] (acquireTod s) else s

/-- R107: no time message has arrived for TOD_TIMEOUT. -/
def doTodTimeout (s : State) : State :=
  if s.tmb.todState = .locked then
    (raise 0x0207 [] (s.onTmb fun t => { t with todState := .holdover, todGood := 0, todBad := 0 }))
  else s

/-! ## Writes to the registers of the block -/

/-- R115: a link action accepts the UEV_SEL of the linked unit. -/
def linkFits (act sel : Nat) : Bool := if act = 0 then true else if act = 1 then sel == 5 else decide (sel ≤ 4)

/-- R114, R115, R138: a word of `TMB_U_CTRL[u]` is in range, with the other units as they stand: its own link, and the links to it. -/
def unitCtrlOk (s : State) (u : Nat) (v : Word) : Bool :=
  let src := (R.TMB_U_CTRL_LINK_SRC u).get v
  let act := (R.TMB_U_CTRL_LINK_ACT u).get v
  let sel := (R.TMB_U_CTRL_UEV_SEL u).get v
  decide (sel ≤ 5) && decide ((R.TMB_U_CTRL_CNT_SRC u).get v ≤ 5) &&
    (if u = 0 then src == 0 && act == 0 else decide (src < u)) &&
    linkFits act (getF s (R.TMB_U_CTRL_UEV_SEL src)) && (act != 3 || (R.TMB_U_CTRL_CNT_SRC u).get v != 0) &&
    (List.range 8).all fun w => !(decide (u < w) && getF s (R.TMB_U_CTRL_LINK_SRC w) == u) || linkFits (getF s (R.TMB_U_CTRL_LINK_ACT w)) sel

/-- R126: newly enabled flags that are set send their EVENTs. -/
def enabledFlags (u : Nat) (old v : Word) (s : State) : State :=
  let f := rawReg s (A.TMB_U_FLAGS u)
  let new := f &&& v &&& ~~~old
  let s := forEach (List.range 4) (fun c t => when (new.getLsbD c) (timerEvent u 0x0210 (4 * u + c) false) t) s
  when (new.getLsbD 12) (timerEvent u 0x0204 u false) s

/-- R138: a value is in range for a register of the block. -/
def tmbRangeOk (s : State) (a : Nat) (v : Word) : Bool :=
  if a = A.TMB_TOD_SET_NS then decide (v.toNat % 2 ^ 30 < nsPerSecond)
  else if a = A.TMB_TOD_ADJ then decide (-500000000 ≤ v.toInt) && decide (v.toInt ≤ 500000000)
  else if a = A.TMB_TOD_FREQ then decide (-32768000 ≤ v.toInt) && decide (v.toInt ≤ 32768000)
  else if a = A.TMB_TOD_CTRL then
    let thr := R.TMB_TOD_CTRL_LOCK_THR.get v
    decide (10 ≤ thr) && decide (thr ≤ 1000000) && decide (R.TMB_TOD_CTRL_TIMEOUT_M1.get v ≤ 239)
  else if 0x21000 ≤ a ∧ a < 0x21800 then
    let u := (a - 0x21000) / 0x100
    let ofs := (a - 0x21000) % 0x100
    if ofs = 0 then unitCtrlOk s u v
    else if 0x40 ≤ ofs ∧ ofs % 0x10 = 0 then
      let c := (ofs - 0x40) / 0x10
      (R.TMB_CH_CTRL_WAKE u c).get v == 0 || (R.TMB_CH_CTRL_MODE u c).get v == 0
    else true
  else true

/-- R104 to R107: a write to `TMB_TOD_CTRL`. -/
def writeTodCtrl (a : Nat) (v : Word) (s : State) : State :=
  let was := flagF s R.TMB_TOD_CTRL_SERVO_EN
  let s := plainWrite a v s
  let now := flagF s R.TMB_TOD_CTRL_SERVO_EN
  if now && !was then acquireTod s else if was && !now then freeTod s else s

/-- R102 to R128: a write to a register of a timer unit, at an offset from the unit's base. -/
def writeUnit (u ofs a : Nat) (v : Word) (s : State) : State :=
  if ofs = 0x10 then
    let old := rawReg s a
    enabledFlags u old v (plainWrite a v s)
  else if 0x40 ≤ ofs ∧ ofs % 0x10 = 0 then
    let c := (ofs - 0x40) / 0x10
    let was := flagF s (R.TMB_CH_CTRL_EN u c)
    let s := plainWrite a v s
    if flagF s (R.TMB_CH_CTRL_EN u c) && !was then enableChannel u c s else s
  else if ofs = 4 then holdCounter u (plainWrite a v s)
  else if 0x40 ≤ ofs ∧ (ofs % 0x10 = 4 ∨ ofs % 0x10 = 8) then
    modUnit u (fun x => { x with cmpAt := x.cmpAt.set ((ofs - 0x40) / 0x10) (some s.now) }) (plainWrite a v s)
  else plainWrite a v s

/-- R106: the registers that only the servo writes while it runs. -/
def servoHeld (a : Nat) : Bool := a == A.TMB_TOD_SET_NS || a == A.TMB_TOD_ADJ || a == A.TMB_TOD_FREQ

/-- R102 to R138: a write to a register of the block. Of two adjustments of TOD in one tick the later stands (log entry 69). -/
def writeTmb (a : Nat) (v : Word) (s : State) : WriteResult × State :=
  if servoHeld a && flagF s R.TMB_TOD_CTRL_SERVO_EN then rejectWrite 0x0208 a s
  else if !tmbRangeOk s a v then rejectWrite 0x020B a s
  else if a = A.TMB_TOD_SET_NS then
    let sec := BitVec.ofNat 48 (getF s R.TMB_TOD_SET_SEC_HI * 2 ^ 32 + getF s R.TMB_TOD_SET_SEC_LO)
    (.ok, s.onTmb fun t => { t with commit := some (sec, v.toNat % 2 ^ 30) })
  else if a = A.TMB_TOD_ADJ then (.ok, s.onTmb fun t => { t with adj := some v.toInt })
  else if a = A.TMB_TOD_CTRL then (.ok, writeTodCtrl a v s)
  else if 0x21000 ≤ a ∧ a < 0x21800 then (.ok, writeUnit ((a - 0x21000) / 0x100) ((a - 0x21000) % 0x100) a v s)
  else (.ok, plainWrite a v s)

/-- R94 to R107: the words of the block that the state holds elsewhere. -/
def readTmb (s : State) (a : Nat) : Option Word :=
  let t := s.tmb
  if a = A.TMB_TB_LO then some (t.tb.extractLsb' 0 32)
  else if a = A.TMB_TB_HI then some (t.tb.extractLsb' 32 32)
  else if a = A.TMB_FB_TB_LO then some (t.fbTb.extractLsb' 0 32)
  else if a = A.TMB_FB_TB_HI then some (t.fbTb.extractLsb' 32 32)
  else if a = A.TMB_FB_F_LO then some (t.fbF.extractLsb' 0 32)
  else if a = A.TMB_FB_F_HI then some ((t.fbF.extractLsb' 32 8).setWidth 32)
  else if a = A.TMB_RPTB_LO then some (t.rpTb.extractLsb' 0 32)
  else if a = A.TMB_RPTB_HI then some (t.rpTb.extractLsb' 32 32)
  else if a = A.TMB_MAKEUP then some (BitVec.ofNat 32 t.makeup)
  else if a = A.TMB_TOD_NS then some (BitVec.ofNat 32 t.todNs)
  else if a = A.TMB_TOD_SEC_LO then some (t.todSec.extractLsb' 0 32)
  else if a = A.TMB_TOD_SEC_HI then some ((t.todSec.extractLsb' 32 16).setWidth 32)
  else if a = A.TMB_TOD_STATUS then some (match t.todState with
    | .free => 0 | .acquiring => 1 | .locked => 2 | .holdover => 3)
  else if a = A.TMB_TOD_OFFSET then some t.todOffset
  else none

/-- R98: the capture at a frame boundary. -/
def captureBoundary (s : State) : State :=
  s.onTmb fun t => { t with fbTb := t.tb, fbF := BitVec.ofNat 40 s.rru.f }

end Sys2Proof.Machine
end

