-- ==== Sys2Proof/Machine/Geometry.lean ====
section
/-! DEFINITION. What chapters 3 to 5 share: readout geometries, exposure programs, row maps, what they need, row times. -/

namespace Sys2Proof.Machine

/-! ## Flags of results (R23) -/

def flagSat : Nat := 0x1
def flagStraddle : Nat := 0x2
def flagGap : Nat := 0x4
def flagCoast : Nat := 0x8
def flagPartition : Nat := 0x10
def flagCalStale : Nat := 0x20
def flagCtgWarn : Nat := 0x40
def flagCtgExpired : Nat := 0x80
def flagTransition : Nat := 0x100
def flagTruncated : Nat := 0x200
def flagSlip : Nat := 0x400
def flagOverflow : Nat := 0x800
def flagDiscordant : Nat := 0x1000
def flagRestarted : Nat := 0x2000
def flagTemp : Nat := 0x4000
def flagWithheld : Nat := 0x8000

/-! ## Readout geometries -/

/-- R203: one readout geometry; the bitmap is one number, bit g for row group g. -/
structure Geo where
  valid : Bool
  sbEn : Nat
  c0 : Nat
  c1 : Nat
  bin : Nat
  fmt : Nat
  bits : Nat
  deriving DecidableEq, Repr

/-- A bitmap of 1,536 bits from its 48 words. -/
def bitmapOf (word : Nat → Nat) : Nat := (List.range 48).foldl (fun n w => n + word w * 2 ^ (32 * w)) 0

/-- A bitmap of 1,536 bits from its 192 bytes. -/
def bitmapBytes (p : List Byte) : Nat :=
  (p.take 192).reverse.foldl (fun n b => n * 256 + b.toNat) 0

/-- R203: the descriptor n as the registers hold it. -/
def geoOf (s : State) (n : Nat) : Geo :=
  { valid := flagF s (R.CRO_GEO_CTRL_VALID n), sbEn := getF s (R.CRO_GEO_CTRL_SB_EN n),
    c0 := getF s (R.CRO_GEO_COLS_COL_START16 n), c1 := getF s (R.CRO_GEO_COLS_COL_END16 n),
    bin := getF s (R.CRO_GEO_CTRL_BIN n), fmt := getF s (R.CRO_GEO_CTRL_FMT n),
    bits := bitmapOf fun w => getF s (R.CRO_GEO_RGB n w) }

/-- R240: the descriptor of a GEOMETRY record. -/
def geoOfRecord (p : List Byte) : Geo :=
  { valid := true, sbEn := fieldAt p 4 4, c0 := fieldAt p 8 2, c1 := fieldAt p 10 2, bin := fieldAt p 1 1,
    fmt := fieldAt p 2 1, bits := bitmapBytes (p.drop 16) }

/-- The positions of the bits set in a bitmap, below a bound, rising. -/
def bitsOf (n bits : Nat) : List Nat := (List.range n).filter bits.testBit

/-- R204: the bits of a pair of row groups are equal. -/
def paired (bits : Nat) : Bool := (List.range 768).all fun j => bits.testBit (2 * j) == bits.testBit (2 * j + 1)

/-- R204: a descriptor is valid. -/
def geoOk (g : Geo) : Bool :=
  decide (g.c0 ≤ g.c1) && decide (g.c1 ≤ 1279) && decide (g.sbEn < 2 ^ 20) && g.bits % 2 ^ 1536 != 0 && decide (g.bin ≤ 2) &&
    (List.range 20).all (fun b => decide (b < g.c0 / 64) || decide (g.c1 / 64 < b) || g.sbEn.testBit b) &&
    (g.bin == 0 || paired g.bits)

/-! ## Exposure programs and row maps -/

/-- R254, R255: a used exposure entry. -/
structure ExpEntry where
  valid : Bool
  anchor : Nat
  gain : Nat
  map : Nat
  long : Bool
  geo : Nat
  start : Nat
  len : Nat
  wsm : Nat
  /-- The reserved fields are all zero. -/
  clean : Bool
  deriving DecidableEq, Repr

/-- R254: an exposure program. -/
structure Prog where
  valid : Bool
  div : Nat
  ph : Nat
  epoch : Nat
  period : Nat
  exps : List ExpEntry
  clean : Bool
  deriving DecidableEq, Repr

/-- R255: the exposure entry that starts at an offset of a word store. -/
def expOf (word : Nat → Nat) (o : Nat) : ExpEntry :=
  let w := word o
  { valid := w.testBit 31, anchor := w / 2 ^ 29 % 4, gain := w / 2 ^ 27 % 4, map := w / 2 ^ 25 % 4, long := w.testBit 24,
    geo := w / 2 ^ 20 % 16, start := word (o + 4), len := word (o + 12) * 2 ^ 32 + word (o + 8),
    wsm := (List.range 8).foldl (fun n i => n + word (o + 24 + 4 * i) * 2 ^ (32 * i)) 0,
    clean := decide (w % 2 ^ 20 = 0) && word (o + 16) == 0 && word (o + 20) == 0 }

/-- R254: the program at the start of a word store. -/
def progOf (word : Nat → Nat) : Prog :=
  let w := word 0
  { valid := w.testBit 31, div := word 4 % 65536, ph := word 4 / 65536, epoch := word 12 * 2 ^ 32 + word 8,
    period := word 20 * 2 ^ 32 + word 16, exps := (List.range (w % 8 + 1)).map fun e => expOf word (64 + 56 * e),
    clean := decide (w / 8 % 2 ^ 28 = 0) && (List.range 10).all fun i => word (24 + 4 * i) == 0 }

/-- R254: address of program p in the scheduler memory window. -/
def progAddr (p : Nat) : Nat := 0x30010000 + 0x200 * p

/-- R254: program p. -/
def getProg (s : State) (p : Nat) : Prog := progOf fun o => (memWord s (progAddr p + o)).toNat

/-- R252: address of the entry of row group g in row map r. -/
def mapAddr (r g : Nat) : Nat := 0x30000000 + 0x2000 * r + 4 * g

/-- R248: the entry of row group g in row map r. -/
def rowMap (s : State) (r g : Nat) : Nat := (memWord s (mapAddr r g)).toNat

/-- R248: NONE. -/
def mapNone : Nat := 0xFFFFFFFF

/-- An exposure lane. -/
def getLane (s : State) (m : Nat) : ExLane := s.exs.lanes.getD m {}

/-- Changes an exposure lane. -/
def modLane (m : Nat) (f : ExLane → ExLane) : State → State :=
  State.onExs fun x => { x with lanes := x.lanes.modify m f }

/-- R253, R270: a lane state in which the lane's tables are in use. -/
def ExLaneState.busy : ExLaneState → Bool
  | .armed | .running | .draining => true
  | _ => false

/-- The program that a lane runs. -/
def laneProg (s : State) (m : Nat) : Prog := getProg s (getLane s m).prog

/-- The exposures of a lane's program with their indexes. -/
def laneExps (s : State) (m : Nat) : List (Nat × ExpEntry) := (laneProg s m).exps.mapIdx fun i e => (i, e)

/-- R253: the lanes whose tables are in use. -/
def busyLanes (s : State) : List Nat := (List.range 4).filter fun m => (getLane s m).st.busy

/-! ## Staged settings (R600) -/

/-- R162: the geometries that the open change set has staged: those of its descriptors and of its programs. -/
def stagedGeos (s : State) : List Geo :=
  let t := forEach s.chg.geoRegs (fun x => setRaw x.1 x.2) s
  (s.chg.geoIdx.map (geoOf t)).filter Geo.valid

/-- R207: the descriptors that the programs of lanes in use reference. -/
def runningRefs (s : State) : List Nat :=
  ((busyLanes s).flatMap fun m => (laneProg s m).exps.map ExpEntry.geo).eraseDups

/-- R156, R162: the programs whose geometries are active: of every lane that is not OFF, and of a lane of a change set whose
settings have taken effect. -/
def neededProgs (s : State) : List Nat :=
  let lanes := (List.range 4).filter fun m => (getLane s m).st != .off
  (lanes.map fun m => (getLane s m).prog) ++
    (lanes.filter fun m => (getLane s m).st == .stopped && s.chg.fns.contains m).map fun m => getF s (R.EXS_LANE_CTRL_PROG m)

/-- R156: the active geometries, and the staged ones. -/
def neededGeos (s : State) : List Geo :=
  let refs := ((neededProgs s).flatMap fun p => (getProg s p).exps.map ExpEntry.geo).eraseDups
  (refs.map (geoOf s)).filter Geo.valid ++ stagedGeos s

/-! ## What is needed (R156, R157, R197) -/

/-- R156: a geometry needs pixels of a tile. -/
def Geo.needsTile (g : Geo) (t : Nat) : Bool :=
  let row := t / 20
  let col := t % 20
  decide (g.c0 / 64 ≤ col) && decide (col ≤ g.c1 / 64) && g.bits / 2 ^ (128 * row) % 2 ^ 128 != 0

/-- R157: the edge columns that CLAMP_SIDE selects, left and right. -/
def clampSides (s : State) : Bool × Bool :=
  match getF s R.SNS_CTRL_CLAMP_SIDE with
  | 1 => (true, false)
  | 2 => (false, true)
  | _ => (true, true)

/-- One tile. -/
def getTile (s : State) (t : Nat) : Tile := Tbl.getD s.sns.tiles t {}

/-- Changes one tile. -/
def modTile (t : Nat) (f : Tile → Tile) (s : State) : State :=
  s.onSns fun x => { x with tiles := Tbl.put x.tiles t {} (f (getTile s t)) }

/-- R156: a tile is needed for itself. -/
def tileUsed (geos : List Geo) (s : State) (t : Nat) : Bool := geos.any (·.needsTile t) || (getTile s t).calNeed

/-- R156, R157: a tile is needed. -/
def tileNeed (geos : List Geo) (s : State) (t : Nat) : Bool :=
  let anchor := let (l, r) := clampSides s; (l && t % 20 == 0) || (r && t % 20 == 19)
  tileUsed geos s t || (anchor && (List.range 20).any fun c => tileUsed geos s (t / 20 * 20 + c))

/-- One sub-bank domain. -/
def getSb (s : State) (d : Nat) : SubBank := Tbl.getD s.cro.sbs d {}

/-- Changes one sub-bank domain. -/
def modSb (d : Nat) (f : SubBank → SubBank) (s : State) : State :=
  s.onCro fun x => { x with sbs := Tbl.put x.sbs d {} (f (getSb s d)) }

/-- The row groups of one parity. -/
def parityBits (bank : Nat) : Nat :=
  (List.range 24).foldl (fun n i => n + 0x5555555555555555 * 2 ^ bank * 2 ^ (64 * i)) 0

/-- R197: a geometry needs sub-bank sb of a bank. -/
def Geo.needsSb (g : Geo) (bank sb : Nat) : Bool := g.sbEn.testBit sb && (g.bits &&& parityBits bank) != 0

/-- R197: a sub-bank is needed for itself. -/
def sbUsed (geos : List Geo) (s : State) (d : Nat) : Bool := geos.any (·.needsSb (d / 20) (d % 20)) || (getSb s d).calNeed

/-- R197: a sub-bank domain is needed. -/
def sbNeed (geos : List Geo) (s : State) (d : Nat) : Bool :=
  let edge := let (l, r) := clampSides s; (l && d % 20 == 0) || (r && d % 20 == 19)
  sbUsed geos s d || (edge && (List.range 20).any fun b => sbUsed geos s (d / 20 * 20 + b))

/-! ## Row times (R190, R232, R267) -/

/-- One lane of the sensor link. -/
def getLink (s : State) (l : Nat) : LinkLane := Tbl.getD s.cro.lanes l {}

/-- Changes one lane of the sensor link. -/
def modLink (l : Nat) (f : LinkLane → LinkLane) (s : State) : State :=
  s.onCro fun x => { x with lanes := Tbl.put x.lanes l {} (f (getLink s l)) }

/-- R232: usable lanes of a bank. -/
def usableLanes (s : State) (bank : Nat) : Nat :=
  ((List.range 48).filter fun i => (getLink s (48 * bank + i)).st == .up).length

/-- R190: the row time of a gain mode in TB, with the link at full strength. -/
def rowTime (gain : Nat) : Nat := if gain = 2 then 1000 else 500

/-- R190: row reads of a row group. -/
def rowsPerGroup (bin : Nat) : Nat := if bin = 0 then 8 else 4

/-- R232, R267: the time of a number of rows with U usable lanes, in TB rounded up. -/
def rowsTime (u gain rows : Nat) : Nat :=
  if 32 ≤ u then rows * rowTime gain else if u = 0 then rows * rowTime gain * 32
  else (rows * rowTime gain * 32 + u - 1) / u

/-- R182, R267: the banks that a read of a row group uses. -/
def banksOf (bin g : Nat) : List Nat := if bin = 0 then [g % 2] else [0, 1]

/-- R267: usable lanes that govern a read on banks: the fewer of the two. -/
def usableOf (s : State) (banks : List Nat) : Nat := (banks.map (usableLanes s)).foldl min 48

/-- R267: the read slot of an exposure on a row group. -/
def readSlot (s : State) (bin gain g : Nat) : Nat := rowsTime (usableOf s (banksOf bin g)) gain (rowsPerGroup bin)

/-- R190, R280: the read slot with the link at full strength. -/
def fullSlot (bin gain : Nat) : Nat := rowsPerGroup bin * rowTime gain

/-- R246: the line period in force for placement, in 2⁻¹⁶ ns. -/
def placePeriod (s : State) : Nat := if s.rru.measLper = 0 then linePeriod s else s.rru.measLper

/-- R245, R246: a length in 1/65,536 line as TB, rounded to nearest, at a line period. -/
def linesToTb (lper v : Nat) : Nat := (v * lper + 8589934592) / 17179869184

/-- R285, R333: ticks as φ units at a line period, rounded to nearest and saturating. -/
def tbToPhi (lper ticks : Nat) : Nat :=
  if lper = 0 then 0xFFFFFFFF else min 0xFFFFFFFF ((ticks * 17179869184 + lper / 2) / lper)

/-- R255: the realised length of an exposure in TB. -/
def lenTb (lper : Nat) (e : ExpEntry) : Nat := if e.long then e.len else max 1 (linesToTb lper e.len)

end Sys2Proof.Machine
end

