-- ==== Sys2Proof/Machine/Pixel.lean ====
section
/-! DEFINITION. Chapters 3 and 4, power: the tiles, the sub-banks, the cooler and the registers of block SNS. -/

namespace Sys2Proof.Machine

/-! ## Switches -/

/-- R158, R198: switches may close: the head measures or starts to, and no power-fail warning is in force. -/
def switchesMayClose (s : State) : Bool :=
  (s.head.st == .acquiring || s.head.st == .running) && s.pwr.pf == .normal && !s.sup.dieDown

/-- R158: a tile whose switch is closed and that is not in FAULT. -/
def TileState.powered : TileState → Bool
  | .ramp | .flush | .ready => true
  | _ => false

/-- R198: a sub-bank whose switch is closed and that is not in FAULT. -/
def SubBankState.powered : SubBankState → Bool
  | .ramp | .trim | .ready => true
  | _ => false

/-- The exposure entry of a booking. -/
def bookingExp (s : State) (b : Booking) : Option ExpEntry := (laneProg s b.lane).exps[b.exp]?

/-- R158: an open exposure of a booking covers a tile. -/
def bookingOnTile (s : State) (t : Nat) (b : Booking) : Bool :=
  match bookingExp s b with
  | none => false
  | some e =>
    let g := geoOf s e.geo
    let rg := if g.bin = 0 then b.rg else 2 * b.rg
    b.resetDone && decide (rg / 128 = t / 20) && decide (g.c0 / 64 ≤ t % 20) && decide (t % 20 ≤ g.c1 / 64)

/-- R158: an exposure is open in a tile. -/
def tileOpen (s : State) (t : Nat) : Bool := s.exs.bookings.any (bookingOnTile s t)

/-- R158: the OFF row: every needed tile that may power up closes its switch. -/
def closeTiles (geos : List Geo) (s : State) : State :=
  forEach (List.range 240) (fun t x =>
    if (getTile x t).st = .off ∧ !flagF x (R.SNS_TILE_CTRL_FORCE_OFF t) ∧ tileNeed geos x t then
      modTile t (fun y => { y with st := .ramp, closedTb := s.now }) x
    else x) s

/-- R198: the OFF row of the sub-banks. -/
def closeSubBanks (geos : List Geo) (s : State) : State :=
  forEach (List.range 40) (fun d x =>
    if (getSb x d).st = .off ∧ !flagF x (R.CRO_SB_CTRL_FORCE_OFF d) ∧ sbNeed geos x d then
      modSb d (fun y => { y with st := .ramp }) x
    else x) s

/-- R156, R197: Sensor Calibration reads tiles or converts on sub-banks. -/
def calNeeds (s : State) : Bool := s.sns.tiles.any (fun p => p.2.calNeed) || s.cro.sbs.any (fun p => p.2.calNeed)

/-- R158, R198: the OFF rows apply in every tick. -/
def closeSwitches (s : State) : State :=
  if !switchesMayClose s then s
  else
    let geos := neededGeos s
    if geos.isEmpty && !calNeeds s then s else closeSubBanks geos (closeTiles geos s)

/-- R158, R174, R176: switches may open for NEED = 0: not before the image is applied again after a level-2 restart, unless the
head has gone to UNCONFIGURED for want of one. -/
def switchesMayOpen (s : State) : Bool :=
  !s.sup.dieDown && !(s.head.st == .acquiring && s.head.cause == .level2 && !s.head.applied)

/-- R158, R198: the openings of a frame boundary, or of the millisecond tick that stands in for it. -/
def openSwitches (s : State) : State :=
  if !switchesMayOpen s then s
  else
    let geos := neededGeos s
    let s := forEach (s.sns.tiles.map Prod.fst) (fun t x =>
      if (getTile x t).st.powered &&
          (flagF x (R.SNS_TILE_CTRL_FORCE_OFF t) || (!tileNeed geos x t && !tileOpen x t)) then
        modTile t (fun y => { y with st := .off, current := 0 }) x
      else x) s
    forEach (s.cro.sbs.map Prod.fst) (fun d x =>
      if (getSb x d).st.powered &&
          (flagF x (R.CRO_SB_CTRL_FORCE_OFF d) || (!sbNeed geos x d && (x.cro.reading.getD (d / 20) none).isNone)) then
        modSb d (fun y => { y with st := .off, current := 0 }) x
      else x) s

/-- R158, R198: HOLD, SLEEP and load shedding open every switch at once, and no read goes on. -/
def shedSwitches (s : State) : State :=
  let s := s.onCro fun x => { x with reading := [none, none], freeAt := [0, 0], rowBuf := [none, none] }
  let s := forEach (s.sns.tiles.map Prod.fst) (fun t x =>
    if (getTile x t).st.powered then modTile t (fun y => { y with st := .off, current := 0 }) x else x) s
  forEach (s.cro.sbs.map Prod.fst) (fun d x =>
    if (getSb x d).st.powered then modSb d (fun y => { y with st := .off, current := 0 }) x else x) s

/-- R158: while RP_VALID = 0, a tick with TB a multiple of 250,000 stands in for a frame boundary. -/
def doPeriodicMsTick (s : State) : State :=
  if !s.rru.rpValid && s.tmb.run && decide (s.now % milli = 0) then openSwitches s else s

/-! ## Tiles -/

/-- R160: rail and bias of a ramping tile settle. -/
def doTileRailSettled (t : Fin 240) (s : State) : State :=
  if (getTile s t).st = .ramp then modTile t (fun x => { x with st := .flush }) s else s

/-- R160: the two global resets of a tile complete. -/
def doTileFlushDone (t : Fin 240) (s : State) : State :=
  if (getTile s t).st = .flush then modTile t (fun x => { x with st := .ready }) s else s

/-- R158, R164: a tile loses the exposures that are open in it. -/
def dropExposures (t : Nat) (s : State) : State :=
  let hit := bookingOnTile s t
  s.onExs fun x => { x with bookings := x.bookings.map fun b => if hit b then { b with dropped := b.dropped ++ [t] } else b }

/-- R158, R159, R164: a tile's rail draws too much. -/
def doTileOvercurrent (t : Fin 240) (current : BitVec 16) (s : State) : State :=
  if (getTile s t).st.powered then
    raise 0x0304 [.h t, .h current.toNat] (modTile t (fun x => { x with st := .fault, current := current }) (dropExposures t s))
  else s

/-- R158: FORCE_OFF of a powered tile discards its open exposures. -/
def forceTileOff (t : Nat) (s : State) : State :=
  if (getTile s t).st.powered then raise 0x0307 [.h t] (dropExposures t s) else s

/-! ## Cooler -/

/-- R165: the setpoint in 0.01 °C. -/
def setpoint (v : Word) : Int := (v.extractLsb' 0 16).toInt

/-- R168: the cap of the cooler's input power in 0.01 W. -/
def coolCap (s : State) : Nat := 100 * min 45 (getF s R.PWR_POLICY_COOL_CAP)

/-- R166: the cooler stops. -/
def coolerOff (s : State) : State :=
  s.onSns fun x => { x with temp := if x.temp = .fault then .fault else .off, coolOn := false, inBand := 0,
                            coolSat := false, coolPwr := 0, heldOver := false }

/-- R166, R170: the OFF row: the cooler is enabled and may run. -/
def startCooler (s : State) : State :=
  if s.sns.temp = .off ∧ flagF s R.SNS_COOL_CTRL_EN ∧ s.sns.hotSide.toInt < 6000 ∧ s.head.fwReady ∧
      !asleep s ∧ s.head.st ≠ .off ∧ s.pwr.pf = .normal ∧ !s.sup.dieDown then
    s.onSns fun x => { x with temp := .settling, coolOn := true, inBand := 0 }
  else s

/-- R166, R176: the temperature state after a sample. -/
def tempStep (plateOk : Bool) (s : State) : State :=
  let x := s.sns
  let dev := (x.sensor.toInt - setpoint (rawReg s A.SNS_COOL_CTRL)).natAbs
  let good := dev ≤ 10
  match x.temp with
  | .off => startCooler s
  | .fault => s
  | .settling =>
    if 7500 ≤ x.hotSide.toInt then
      raise 0x0305 [.h (signed16 x.hotSide.toInt)] (s.onSns fun x => { x with temp := .fault, coolOn := false, inBand := 0 })
    else
      let n := if good then x.inBand + 1 else 0
      let held := x.heldOver && plateOk
      if 100 ≤ n ∨ (held && decide good) then
        raise 0x0301 [.h (signed16 x.sensor.toInt)] (s.onSns fun x => { x with temp := .stable, inBand := 0, heldOver := false })
      else s.onSns fun x => { x with inBand := n, heldOver := held }
  | .stable =>
    if 7500 ≤ x.hotSide.toInt then
      raise 0x0305 [.h (signed16 x.hotSide.toInt)] (s.onSns fun x => { x with temp := .fault, coolOn := false, inBand := 0 })
    else if good then s
    else raise 0x0302 [.h (signed16 x.sensor.toInt)] (s.onSns fun x => { x with temp := .settling, inBand := 0 })

/-- R166, R168: a 10 ms regulation step. -/
def coolerSample (hot sensor : BitVec 16) (power : BitVec 16) (plateOk : Bool) (s : State) : State :=
  let cap := coolCap s
  tempStep plateOk (s.onSns fun x =>
    { x with hotSide := hot, sensor := sensor, coolPwr := power, sampled := true, coolSat := x.coolSat && decide (cap ≤ power.toNat) })

/-- R168: the cooler has driven at its cap for 1 s. -/
def doCoolerSaturated (s : State) : State :=
  if s.sns.coolOn ∧ !s.sns.coolSat then
    raise 0x0303 [.h (signed16 s.sns.hotSide.toInt), .h (coolCap s / 100)] (s.onSns fun x => { x with coolSat := true })
  else s

/-- R167: results carry TEMP_UNSTABLE. -/
def tempUnstable (s : State) : Bool := s.sns.temp != .stable

/-! ## Writes and reads of block SNS -/

/-- R172: a value is in range for a register of the block. -/
def snsRangeOk (a : Nat) (v : Word) : Bool :=
  if a = A.SNS_CTRL then R.SNS_CTRL_CLAMP_SIDE.get v != 3
  else if a = A.SNS_COOL_CTRL then decide (-1000 ≤ setpoint v) && decide (setpoint v ≤ 2500)
  else if a = A.SNS_BIAS_PIX then
    let vrst := R.SNS_BIAS_PIX_VRST.get v
    let vpix := R.SNS_BIAS_PIX_VPIX.get v
    decide (2800 ≤ vpix) && decide (vpix ≤ 3600) && decide (2400 ≤ vrst) && decide (vrst ≤ 3300) && decide (vrst ≤ vpix)
  else if a = A.SNS_BIAS_TX then
    let x := (v.extractLsb' 0 16).toInt
    decide (-1200 ≤ x) && decide (x ≤ 0)
  else if a = A.SNS_ROWDRV then
    let tx := R.SNS_ROWDRV_TX_PW.get v
    let rst := R.SNS_ROWDRV_RST_PW.get v
    decide (10 ≤ tx) && decide (tx ≤ 30) && decide (10 ≤ rst) && decide (rst ≤ 30)
  else true

/-- R165, R166: what a write of `SNS_COOL_CTRL` does beyond setting its fields. -/
def coolWritten (old v : Word) (s : State) : State :=
  let s := if setpoint old ≠ setpoint v ∧ (s.sns.temp = .settling ∨ s.sns.temp = .stable) then
      s.onSns fun x => { x with temp := .settling, inBand := 0 }
    else s
  if v.getLsbD 30 ∧ s.sns.temp = .fault then
    (if s.sns.hotSide.toInt < 6000 then s.onSns fun x => { x with temp := .off } else s)
  else if !v.getLsbD 31 then coolerOff s
  else startCooler s

/-- R158: a write of `SNS_TILE_CTRL[t]`. -/
def tileWritten (t : Nat) (was : Bool) (v : Word) (s : State) : State :=
  let s := if v.getLsbD 1 ∧ (getTile s t).st = .fault then modTile t (fun x => { x with st := .off, current := 0 }) s else s
  if v.getLsbD 0 && !was then forceTileOff t s else s

/-- R158 to R172: a write to a register of the block. -/
def writeSns (a : Nat) (v : Word) (s : State) : WriteResult × State :=
  if !snsRangeOk a v then rejectWrite 0x0308 a s
  else
    let old := rawReg s a
    let s := plainWrite a v s
    if a = A.SNS_COOL_CTRL then (.ok, coolWritten old v s)
    else if 0x31000 ≤ a ∧ a < 0x313C0 then (.ok, tileWritten ((a - 0x31000) / 4) (old.getLsbD 0) v s)
    else (.ok, s)

/-- The state code of a tile. -/
def TileState.code : TileState → Nat
  | .off => 0
  | .ramp => 1
  | .flush => 2
  | .ready => 3
  | .fault => 4

/-- R158 to R168: the words of the block that the state holds elsewhere. -/
def readSns (s : State) (a : Nat) : Option Word :=
  let count := fun st => (s.sns.tiles.filter fun p => p.2.st == st).length
  if a = A.SNS_STATUS then
    some (BitVec.ofNat 32 (count .ready * 65536 + count .fault * 256 + bit s.sns.coolSat * 4 + (match s.sns.temp with
      | .off => 0 | .settling => 1 | .stable => 2 | .fault => 3)))
  else if a = A.SNS_TEMP then some (if s.sns.sampled then s.sns.hotSide ++ s.sns.sensor else 0)
  else if a = A.SNS_COOL_PWR then some (if s.sns.sampled then s.sns.coolPwr.setWidth 32 else 0)
  else if 0x30080 ≤ a ∧ a < 0x300A0 then
    let w := (a - 0x30080) / 4
    some (BitVec.ofNat 32 ((List.range 32).foldl (fun n b =>
      n + bit ((getTile s (32 * w + b)).st == .ready && decide (32 * w + b < 240)) * 2 ^ b) 0))
  else if 0x31400 ≤ a ∧ a < 0x317C0 then
    let t := (a - 0x31400) / 4
    let x := getTile s t
    some (x.current ++ BitVec.ofNat 16 (bit (tileNeed (neededGeos s) s t) * 8 + x.st.code))
  else none

end Sys2Proof.Machine
end

