-- ==== Sys2Proof/Machine/Column.lean ====
section
/-! DEFINITION. Chapter 4: sub-bank events, the sensor link, geometry descriptors and the registers of block CRO. -/

namespace Sys2Proof.Machine

/-! ## Sub-banks -/

/-- R198: the rail of a ramping sub-bank settles. -/
def doSubbankRailSettled (d : Fin 40) (s : State) : State :=
  if (getSb s d).st = .ramp then modSb d (fun x => { x with st := .trim }) s else s

/-- R221: the clamp values of a bank have had no row since power-up of its sub-banks. -/
def unseedBank (bank : Nat) : State → State :=
  State.onCro fun x => { x with clamps := x.clamps.mapIdx fun i c => if i / 4 = bank then { c with lastTb := none } else c }

/-- R198, R221: a sub-bank's trim completes. -/
def doSubbankTrimDone (d : Fin 40) (s : State) : State :=
  if (getSb s d).st = .trim then
    let s := modSb d (fun x => { x with st := .ready }) s
    if d.val % 20 = 0 ∨ d.val % 20 = 19 then unseedBank (d.val / 20) s else s
  else s

/-- R198: a sub-bank's rail draws too much. -/
def doSubbankOvercurrent (d : Fin 40) (current : BitVec 16) (s : State) : State :=
  if (getSb s d).st.powered then
    raise 0x0401 [.h d, .h current.toNat] (modSb d (fun x => { x with st := .fault, current := current }) s)
  else s

/-! ## The sensor link -/

/-- R231: ten seconds in TB. -/
def tenSeconds : Nat := 10 * second

/-- R233: the rows of the read in progress on a bank that have not arrived are lost. -/
def killRead (bank : Nat) : State → State :=
  State.onCro fun x => { x with
    reading := x.reading.mapIdx fun k r => if k = bank then r.map (fun q => { q with dead := true }) else r }

/-- R232, R233: event 0x0406 for U usable lanes. -/
def linkDegraded (bank u : Nat) (s : State) : State :=
  let s := if u = 0 then killRead bank s else s
  raiseSev 0x0406 (if u = 0 then .critical else .warn) 0 [.h bank, .h u]
    (s.onCro fun x => { x with lastU := x.lastU.set bank u })

/-- R232: a lane of a bank has gone out of use. -/
def lanesFell (bank : Nat) (s : State) : State :=
  let u := usableLanes s bank
  if u < 32 ∧ u ≠ s.cro.lastU.getD bank 48 then linkDegraded bank u s else s

/-- R232: a lane of a bank has come into use. -/
def lanesRose (bank : Nat) (s : State) : State :=
  let u := usableLanes s bank
  if 32 ≤ s.cro.lastU.getD bank 48 then s
  else if 32 ≤ u then
    raise 0x040B [.h bank, .h u] (s.onCro fun x => { x with lastU := x.lastU.set bank u })
  else if u ≠ s.cro.lastU.getD bank 48 then linkDegraded bank u s
  else s

/-- R231: the retrains of a lane within the last 10 s. -/
def recentRetrains (s : State) (l : Nat) : List Nat := (getLink s l).retrains.filter fun t => s.now < t + tenSeconds

/-- R882: the mark of a lane in the handling window of its retrain; no block has such a number. -/
def laneMark (l : Nat) : Nat := 0x200 + l

/-- R882: a lane is in use again, or is given up. -/
def closeLane (l : Nat) : State → State :=
  State.onFlt fun f => { f with windows := f.windows.filter fun w => !(w.code == 0x0404 && w.resets.contains (laneMark l)) }

/-- R231: a lane is retrained. -/
def retrainLane (l : Nat) (s : State) : State :=
  let recent := recentRetrains s l
  lanesFell (l / 48) (openWindow 0 0x0404 [4, laneMark l] (raise 0x0404 [.h l]
    (modLink l (fun x => { x with st := .training, errs := [], retrains := recent ++ [s.now] }) s)))

/-- R231: a retrain of a lane has failed: the lane is retrained again, or marked FAILED with the third failure within 10 s. -/
def retrainFails (l : Nat) (s : State) : State :=
  let fails := ((getLink s l).fails.filter fun t => s.now < t + tenSeconds) ++ [s.now]
  let s := modLink l (fun x => { x with fails := fails }) s
  if 3 ≤ fails.length then
    lanesFell (l / 48) (closeLane l (raise 0x0405 [.h l] (modLink l (fun x => { x with st := .failed, errs := [] }) s)))
  else retrainLane l s

/-- R231: a lane has had more than 16 CRC errors in 1 s. -/
def doLaneRetrain (l : Fin 96) (s : State) : State :=
  let recent := (getLink s l).errs.filter fun t => s.now < t + second
  if (getLink s l).st = .up ∧ 16 < recent.length then retrainLane l s else s

/-- R231: the training of a lane ends, with or without success. -/
def doLaneRetrainDone (l : Fin 96) (ok : Bool) (s : State) : State :=
  if (getLink s l).st = .training then
    if ok then closeLane l (lanesRose (l.val / 48) (modLink l (fun x => { x with st := .up }) s)) else retrainFails l s
  else s

/-- R234, R236, R237: the link is trained. -/
def trainLink (s : State) : State :=
  forEach (List.range 96) (fun l t =>
    if (getLink t l).st = .failed then t else modLink l (fun x => { x with st := .training, errs := [] }) t) s

/-- R237: the link is off. -/
def linkOff (s : State) : State := s.onCro fun x => { x with lanes := [] }

/-- R230: a row is lost on the link. -/
def rowLost (bank row : Nat) (s : State) : State :=
  raiseLimited bank second 0x0407 [.h bank, .h row] (addF R.CRO_CNT_ROWS_LOST 1 s)

/-- R230, R231: a row packet fails its CRC on a lane. -/
def rowCrcError (bank l row : Nat) (s : State) : State :=
  let s := addF (R.CRO_LANE_STATUS_CRC_ERR l) 1 s
  rowLost bank row (modLink l (fun x => { x with errs := (x.errs.filter fun t => s.now < t + second) ++ [s.now] }) s)

/-! ## Geometry descriptors -/

/-- R207: the descriptor is referenced by a running or staged program. -/
def geoInUse (s : State) (n : Nat) : Bool := (runningRefs s).contains n || s.chg.refs.contains n

/-- R204, R207: a write to a word of descriptor n. -/
def writeGeo (n a : Nat) (v : Word) (s : State) : WriteResult × State :=
  if geoInUse s n then (.event 0x0409, raise 0x0409 [.h n] s)
  else
    let t := plainWrite a v s
    let g := geoOf t n
    if g.bin = 3 ∨ 1279 < g.c0 ∨ 1279 < g.c1 ∨ (g.valid ∧ !geoOk g) then rejectWrite 0x040A a s else (.ok, t)

/-! ## Writes and reads of block CRO -/

/-- R198: a write of `CRO_SB_CTRL[d]`. -/
def sbWritten (d : Nat) (was : Bool) (v : Word) (s : State) : State :=
  let s := if v.getLsbD 1 ∧ (getSb s d).st = .fault then modSb d (fun x => { x with st := .off, current := 0 }) s else s
  if v.getLsbD 0 && !was && (getSb s d).st.powered then raise 0x0403 [.h d] s else s

/-- R239: a value is in range for a register of the block. -/
def croRangeOk (a : Nat) (v : Word) : Bool :=
  if a = A.CRO_LEVELS then
    let p := R.CRO_LEVELS_PEDESTAL.get v
    decide (2048 ≤ R.CRO_LEVELS_SAT_THR.get v) && decide (16 ≤ p) && decide (p ≤ 95)
  else if a = A.CRO_CLAMP then R.CRO_CLAMP_JUMP.get v != 0 && decide (R.CRO_CLAMP_TC.get v ≤ 10)
  else true

/-- R198 to R239: a write to a register of the block. -/
def writeCro (a : Nat) (v : Word) (s : State) : WriteResult × State :=
  if a = A.CRO_CTRL then
    (.ok, if v.getLsbD 1 then setRaw A.CRO_CNT 0 s else s)
  else if !croRangeOk a v then rejectWrite 0x040A a s
  else if 0x40200 ≤ a ∧ a < 0x402A0 then
    let was := (rawReg s a).getLsbD 0
    (.ok, sbWritten ((a - 0x40200) / 4) was v (plainWrite a v s))
  else if 0x41000 ≤ a ∧ a < 0x41400 then writeGeo ((a - 0x41000) / 0x40) a v s
  else if 0x42000 ≤ a ∧ a < 0x43000 then writeGeo ((a - 0x42000) / 0x100) a v s
  else (.ok, plainWrite a v s)

/-- The state code of a sub-bank. -/
def SubBankState.code : SubBankState → Nat
  | .off => 0
  | .ramp => 1
  | .trim => 2
  | .ready => 3
  | .fault => 4

/-- R197 to R232: the words of the block that the state holds elsewhere. -/
def readCro (s : State) (a : Nat) : Option Word :=
  let count := fun st => (s.cro.sbs.filter fun p => p.2.st == st).length
  if a = A.CRO_STATUS then
    some (BitVec.ofNat 32 (usableLanes s 1 * 2 ^ 24 + usableLanes s 0 * 2 ^ 16 + count .ready * 256 + count .fault))
  else if 0x40100 ≤ a ∧ a < 0x40120 then
    some (BitVec.ofNat 32 ((s.cro.clamps.getD ((a - 0x40100) / 4) {}).value / 4096 % 65536))
  else if 0x40300 ≤ a ∧ a < 0x403A0 then
    let d := (a - 0x40300) / 4
    let x := getSb s d
    some (x.current ++ BitVec.ofNat 16 (bit (sbNeed (neededGeos s) s d) * 8 + x.st.code))
  else if 0x40400 ≤ a ∧ a < 0x40580 then
    let l := (a - 0x40400) / 4
    some (BitVec.ofNat 32 (getF s (R.CRO_LANE_STATUS_CRC_ERR l) * 65536 + min 255 (recentRetrains s l).length * 256 +
      (match (getLink s l).st with | .down => 0 | .training => 1 | .up => 2 | .failed => 3)))
  else if 0x41000 ≤ a ∧ a < 0x41400 ∧ a % 0x40 = 8 then
    let n := (a - 0x41000) / 0x40
    some (BitVec.ofNat 32 (bit (geoInUse s n) * 2 ^ 31 + (bitsOf 1536 (geoOf s n).bits).length))
  else none

end Sys2Proof.Machine
end

