-- ==== Sys2Proof/Machine/Exposure.lean ====
section
/-! DEFINITION. Chapter 5: lanes, admission, the placement of resets and reads, and the registers of block EXS. -/

namespace Sys2Proof.Machine

/-! ## What an exposure reads -/

/-- R249, R265, R302: the row groups (binned row groups) that an exposure reads with a lane bitmap, rising. -/
def readList (s : State) (lane : Nat) (e : ExpEntry) : List Nat :=
  let g := geoOf s e.geo
  let both := lane &&& g.bits
  let l := if g.bin = 0 then bitsOf 1536 both else (List.range 768).filter fun j => both.testBit (2 * j)
  if e.anchor = 0 then l.filter fun x => rowMap s e.map (if g.bin = 0 then x else 2 * x) != mapNone else l

/-- R256: the position k of a row group among those that an exposure reads in its bank. -/
def readIndex (bin : Nat) (l : List Nat) (g : Nat) : Nat :=
  (l.filter fun x => decide (x < g) && (bin != 0 || x % 2 == g % 2)).length

/-- R145, R147: the row groups of the array that a row group or a binned row group holds. -/
def sensorGroups (bin g : Nat) : List Nat := if bin = 0 then [g] else [2 * g, 2 * g + 1]

/-! ## Admission -/

/-- One line of 1/65,536 line at LINE_PERIOD, and one tick, in 2⁻³² ns: lines and ticks compare in this unit. -/
def tickUnit : Nat := 17179869184

/-- R276: the reset offset of an exposure on a row group, in 2⁻³² ns from its anchor point. -/
def resetOffset (s : State) (e : ExpEntry) (l : List Nat) (g : Nat) : Nat :=
  let bin := (geoOf s e.geo).bin
  let k := readIndex bin l g
  let wave := k * fullSlot bin e.gain * tickUnit
  match e.anchor with
  | 0 => (rowMap s e.map (if bin = 0 then g else 2 * g) + e.start) * linePeriod s
  | 1 => e.start * linePeriod s + wave
  | _ => e.start * tickUnit + wave

/-- R276: LEN in 2⁻³² ns. -/
def lenUnits (s : State) (e : ExpEntry) : Nat := if e.long then e.len * tickUnit else e.len * linePeriod s

/-- R276: the shortest frame in lines. -/
def shortestFrame (s : State) : Nat :=
  if flagF s R.RRU_GEOM_VRR_EN then getF s R.RRU_TL_VRR_TL_MIN
  else if flagF s R.RRU_GEOM_INTERLACE then min (getF s R.RRU_TL_TL) (getF s R.RRU_TL_TL_ALT)
  else getF s R.RRU_TL_TL

/-- R276: the shortest anchor period of an exposure in 2⁻³² ns; 0 stands for a single absolute instance. -/
def anchorPeriod (s : State) (p : Prog) (e : ExpEntry) : Nat :=
  if e.anchor = 2 then p.period * tickUnit else (p.div + 1) * shortestFrame s * 65536 * linePeriod s

/-- R276: the exposures that read a row group, as (reset offset, occupation). -/
def occupations (s : State) (reads : List (ExpEntry × List Nat)) (g : Nat) : List (Nat × Nat) :=
  reads.filterMap fun (e, l) =>
    if e.long ∨ !l.contains g then none
    else some (resetOffset s e l g, lenUnits s e + fullSlot (geoOf s e.geo).bin e.gain * tickUnit)

/-- R276: sorted occupations follow one another without overlap, the first after the last within a period. -/
def noOverlap (period : Nat) (l : List (Nat × Nat)) : Bool :=
  let l := sortBy (fun a b => decide (a.1 ≤ b.1)) l
  let steps := (l.zip l.tail).all fun (a, b) => decide (a.1 + a.2 ≤ b.1)
  match l.head?, l.getLast? with
  | some a, some b => steps && (period == 0 || decide (b.1 + b.2 ≤ a.1 + period))
  | _, _ => true

/-- The exposures of a program with the row groups they read under a lane bitmap. -/
def progReads (s : State) (p : Prog) (bits : Nat) : List (ExpEntry × List Nat) :=
  p.exps.map fun e => (e, readList s bits e)

/-- R276, R277: the first row group on which a program collides with itself. -/
def overlapAt (s : State) (p : Prog) (bits : Nat) : Option Nat :=
  let reads := progReads s p bits
  let period := match p.exps with
    | e :: _ => anchorPeriod s p e
    | [] => 0
  let groups := sortBy (fun a b => decide (a ≤ b)) (reads.flatMap Prod.snd).eraseDups
  groups.find? fun g => !noOverlap period (occupations s reads g)

/-- R280: what an exposure adds to the load of a bank, as a fraction. -/
def expLoad (s : State) (p : Prog) (bank : Nat) (e : ExpEntry) (l : List Nat) : Nat × Nat :=
  let bin := (geoOf s e.geo).bin
  let n := if bin = 0 then (l.filter fun g => g % 2 == bank).length else l.length
  let period := anchorPeriod s p e
  let period := if e.anchor = 2 ∧ p.period = 0 then 0 else if e.long then max period (lenUnits s e) else period
  if period = 0 then (0, 1) else (n * fullSlot bin e.gain * tickUnit, period)

/-- The sum of two fractions. -/
def addFrac (a b : Nat × Nat) : Nat × Nat := (a.1 * b.2 + b.1 * a.2, a.2 * b.2)

/-- R280: the load of a bank over lanes given as (program, bitmap). -/
def bankLoad (s : State) (lanes : List (Prog × Nat)) (bank : Nat) : Nat × Nat :=
  (lanes.flatMap fun (p, bits) => (progReads s p bits).map fun (e, l) => expLoad s p bank e l).foldl addFrac (0, 1)

/-- A fraction in 2⁻¹⁶, rounded to nearest. -/
def fracShow (x : Nat × Nat) : Nat := (x.1 * 65536 * 2 + x.2) / (2 * x.2)

/-- R255, R264: an exposure entry is in range, whatever lane runs it. -/
def expOk (s : State) (p : Prog) (e : ExpEntry) : Bool :=
  e.valid && e.clean && decide (e.anchor ≤ 2) && decide (e.gain ≤ 2) &&
    (if e.long then decide (1 ≤ e.len) && decide (e.len ≤ 150000000000)
     else decide (1 ≤ e.len) && decide (e.len ≤ 0xFFFF0000)) &&
    (geoOf s e.geo).valid &&
    (p.exps.all fun f => (f.anchor == 2) == (e.anchor == 2)) && (!e.long || p.exps.length == 1) &&
    (p.exps.all fun f => (geoOf s f.geo).bin == (geoOf s e.geo).bin) &&
    (p.exps.all fun f => (geoOf s f.geo).fmt != 3 || (geoOf s e.geo).fmt != 3 || f.geo == e.geo)

/-- R307: the longest and the shortest LEN of a program, in 2⁻³² ns. -/
def lenExtremes (s : State) (p : Prog) : Nat × Nat :=
  let l := p.exps.map (lenUnits s)
  (l.foldl max 0, l.foldl min (l.headD 0))

/-- R264, R266: an exposure entry is in range for a lane bitmap. -/
def expFits (s : State) (bits : Nat) (e : ExpEntry) : Bool :=
  (bits &&& (geoOf s e.geo).bits) != 0 && ((geoOf s e.geo).bin == 0 || paired bits) &&
    (e.anchor != 0 || (readList s bits e) != [])

/-- R264, R307: a program is in range, whatever lane runs it. -/
def progValid (s : State) (p : Prog) : Bool :=
  let (hi, lo) := lenExtremes s p
  let abs := p.exps.any fun e => e.anchor == 2
  p.valid && p.clean && decide (p.ph ≤ p.div) && (!abs || (p.div == 0 && p.ph == 0)) &&
    (p.period == 0 || decide (p.period ≤ 150000000000)) && p.exps.all (expOk s p) && decide (hi ≤ 4096 * lo)

/-- R264, R307: a program is in range for a lane bitmap. -/
def progOk (s : State) (p : Prog) (bits : Nat) : Bool := progValid s p && p.exps.all (expFits s bits)

/-- R318: RATIO rounded up, and SHIFT. -/
def ratioShift (s : State) (p : Prog) : Nat × Nat :=
  let (hi, lo) := lenExtremes s p
  let r := if lo = 0 then 0 else (hi + lo - 1) / lo
  (r, if hi ≤ 640 * lo then 0 else if hi ≤ 1280 * lo then 1 else if hi ≤ 2560 * lo then 2 else 3)

/-- The lane bitmap that the registers hold. -/
def laneBitmap (s : State) (m : Nat) : Nat := bitmapOf fun w => getF s (R.EXS_LANE_RGB m w)

/-- The program and the bitmap that the registers of a lane name. -/
def laneSetting (s : State) (m : Nat) : Prog × Nat := (getProg s (getF s (R.EXS_LANE_CTRL_PROG m)), laneBitmap s m)

/-- R265, R280: the programs and bitmaps in force of the other lanes. -/
def otherLanes (s : State) (m : Nat) : List (Prog × Nat) :=
  ((busyLanes s).filter (· != m)).map fun n => (laneProg s n, (getLane s n).rgb)

/-- R265: the bitmaps in force of the STOPPED lanes that no change set holds; they are not OFF, and load no bank. -/
def stoppedBits (s : State) (m : Nat) : List Nat :=
  ((List.range 4).filter fun n => n != m && (getLane s n).st == .stopped && !s.chg.fns.contains n).map fun n => (getLane s n).rgb

/-- R271: why a lane is not admitted: the event and its details. -/
inductive Admission where
  | ok
  | invalid
  | load (bank load : Nat)
  | overlap (rg : Nat)
  deriving DecidableEq, Repr

/-- R264, R265, R276, R280: admission of a lane on the settings of its registers. -/
def admission (s : State) (m : Nat) (others : List (Prog × Nat)) : Admission :=
  let (p, bits) := laneSetting s m
  if !progOk s p bits || others.any (fun o => (o.2 &&& bits) != 0) || (stoppedBits s m).any (fun o => (o &&& bits) != 0) then .invalid
  else match overlapAt s p bits with
    | some g => .overlap g
    | none =>
      let bad := [0, 1].find? fun b => let x := bankLoad s ((p, bits) :: others) b; decide (x.2 < x.1)
      match bad with
      | some b => .load b (fracShow (bankLoad s ((p, bits) :: others) b))
      | none => .ok

/-- R271, R277, R280: the event of a refused admission. -/
def admissionEvent (m : Nat) (a : Admission) (s : State) : State :=
  match a with
  | .load b x => raise 0x0505 [.h m, .h b, .w x] s
  | .overlap g => raise 0x0506 [.h m, .h g] s
  | _ => s

/-- R355: the window sets that a lane's program selects. -/
def laneWsm (s : State) (m : Nat) : Nat := (laneProg s m).exps.foldl (fun n e => n ||| e.wsm) 0

/-- R274: flags owed to the results of a lane's frames. -/
def noteFlags (lane first last flags : Nat) (s : State) : State :=
  s.onExs fun x => { x with notes := x.notes ++ [⟨lane, first, last, flags, if lane < 4 then laneWsm s lane else 0⟩] }

/-- R375, R609: the window sets that a stopped lane has fed carry GAP for the frames before a start. -/
def noteStopped (m start : Nat) (s : State) : State :=
  match (getLane s m).gapFrom with
  | some g => if g < start then noteFlags m g (start - 1) flagGap s else s
  | none => s

/-- R271, R318, R344: an admitted lane is ARMED with its settings in force. -/
def armLane (m : Nat) (start : Option Nat) (s : State) : State :=
  let s := noteStopped m (max (s.rru.f + 1) (start.getD 0)) s
  let p := laneSetting s m
  let (ratio, shift) := ratioShift s p.1
  let loads := [0, 1].map fun b => fracShow (bankLoad s (p :: otherLanes s m) b)
  let ctrl := getF s (R.EXS_LANE_CTRL_PROG m)
  let mode := flagF s (R.EXS_FU_LANE_MODE m)
  (modLane m (fun x => { x with st := .armed, start := start, prog := ctrl, rgb := p.2, nextAbs := none, ratio := ratio,
                                shift := shift, mode := mode, stopF := 0 }) s).onExs
    fun x => { x with load := loads }

/-- R271: an enabled lane starts from OFF or STOPPED at a start frame. -/
def startLane (m : Nat) (start : Option Nat) (s : State) : State :=
  let st := (getLane s m).st
  if st.busy then s
  else if !flagF s (R.EXS_LANE_CTRL_EN m) then
    modLane m (fun x => { x with st := .off, ratio := 0, shift := 0, gapFrom := none }) (noteStopped m (s.rru.f + 1) s)
  else match admission s m (otherLanes s m) with
    | .ok => armLane m start s
    | a => admissionEvent m a s

/-! ## GAP and abandonment -/

/-- R256, R267: k × S of a row group, with the row time in force now. -/
def waveTb (s : State) (lane : Nat) (e : ExpEntry) (g : Nat) : Nat :=
  let bin := (geoOf s e.geo).bin
  readIndex bin (readList s (getLane s lane).rgb e) g * readSlot s bin e.gain g

/-- R244: the DELAY of OUT0 in φ units. -/
def out0Delay (s : State) : Nat :=
  let n := feedbackN s
  if n = 0 then 0 else getF s (R.RRU_OUT_CFG_DELAY 0) * 8192 / n

/-- R243: lines from the anchor boundary of an instance, in φ units. -/
def linesSince (s : State) (i : Inst) : Nat := (s.rru.lineNo - i.line0) * 65536 + phiNow s

/-- R256, R244: START of an instance, or M_MAP + START, in φ units from its anchor boundary. -/
def anchorPhi (s : State) (e : ExpEntry) (g : Nat) : Nat :=
  (if e.anchor = 0 then rowMap s e.map (if (geoOf s e.geo).bin = 0 then g else 2 * g) else 0) + e.start + out0Delay s

/-- R256, R279: the tick of the reset target of an instance on a row group, once it has been reached; of a target on the raster line
count, from the line period in force (log entry 72). -/
def targetTb (s : State) (i : Inst) (e : ExpEntry) (g : Nat) : Option Nat :=
  let since := linesSince s i
  let ago := s.now - linesToTb (placePeriod s) (since - anchorPhi s e g)
  match e.anchor with
  | 0 => if anchorPhi s e g ≤ since then some ago else none
  | 1 =>
    if anchorPhi s e g ≤ since then
      let t := i.startTb.getD ago + waveTb s i.lane e g
      if t ≤ s.now then some t else none
    else none
  | _ => let t := i.frame + e.start + waveTb s i.lane e g; if t ≤ s.now then some t else none

/-- R256: the ticks at which the raster reaches START of the FRAME instances are kept. -/
def markStarts (s : State) : State :=
  if s.exs.insts = [] then s
  else s.onExs fun x => { x with insts := x.insts.map fun i =>
    match i.startTb, (laneProg s i.lane).exps[i.exp]? with
    | none, some e => if e.anchor = 1 ∧ anchorPhi s e 0 ≤ linesSince s i then { i with startTb := some s.now } else i
    | _, _ => i }

/-- R326: the frame that holds a tick: the last one whose boundary is not after it. -/
def frameAt (s : State) (tb : Nat) : Nat :=
  ((s.pat.frames.filter fun m => decide (m.tb ≤ tb)).getLast?.map FrameMark.f).getD
    ((s.pat.frames.head?.map FrameMark.f).getD s.rru.f)

/-- R274: the frame that the GAP results of an unplaced instance are attributed to. -/
def abandonFrame (s : State) (i : Inst) (g : Nat) : Nat :=
  match (laneProg s i.lane).exps[i.exp]? with
  | none => s.rru.f
  | some e => match targetTb s i e g with
    | none => s.rru.f
    | some t =>
      if e.anchor = 0 then
        ((s.pat.frames.filter fun m => decide (m.line0 * 65536 ≤ i.line0 * 65536 + anchorPhi s e g)).getLast?.map FrameMark.f).getD s.rru.f
      else frameAt s t

/-- R274: an unplaced instance on a row group is abandoned. -/
def abandonUnplaced (i : Inst) (g : Nat) (s : State) : State :=
  let f := abandonFrame s i g
  noteFlags i.lane f f flagGap s

/-- A booking's identity. -/
def Booking.is (b : Booking) (lane exp frame rg : Nat) : Bool :=
  b.lane == lane && b.exp == exp && b.frame == frame && b.rg == rg

/-- R262: the row groups of a LONG exposure are no longer open. -/
def closeLong (lane rg : Nat) : State → State :=
  State.onExs fun x => { x with longOpen := x.longOpen.filter fun p => !(p.1 == lane && p.2 == rg) }

/-- R321, R324: a member of an open fusion set is abandoned. -/
def abandonMember (lane frame rg exp : Nat) : State → State :=
  State.onExs fun x => { x with sets := x.sets.map fun f =>
    if f.lane = lane ∧ f.frame = frame ∧ f.rg = rg ∧ f.outstanding.contains exp then
      { f with outstanding := f.outstanding.filter (· != exp), abandoned := true }
    else f }

/-- The binning of a booking's geometry. -/
def bookingBin (s : State) (b : Booking) : Nat := match bookingExp s b with
  | some e => (geoOf s e.geo).bin
  | none => 0

/-- R275: the end of the last booked read of a row group. -/
def bookedEnd (s : State) (g : Nat) : Nat :=
  s.exs.bookings.foldl (fun m c => if (sensorGroups (bookingBin s c) c.rg).contains g then max m (c.readTb + c.slot) else m) 0

/-- R274, R275: the bank time and the row groups of a booking whose read has not started are free again. -/
def releaseBooking (b : Booking) (s : State) : State :=
  let bin := bookingBin s b
  let gone := (banksOf bin b.rg).map fun k => (k, (b.readTb, b.readTb + b.slot))
  s.onExs fun x => { x with
    prevEnd := (sensorGroups bin b.rg).foldl (fun t g => Tbl.set t g (bookedEnd s g)) x.prevEnd
    booked := x.booked.filter fun k => !gone.contains k }

/-- R274: a placed instance on a row group is abandoned: it is not read. -/
def abandonBooking (b : Booking) (s : State) : State :=
  let f := if b.resetDone then b.attr else s.rru.f
  let s := noteFlags b.lane f f flagGap s
  let s := abandonMember b.lane b.frame b.rg b.exp (closeLong b.lane b.rg s)
  let s := s.onExs fun x => { x with bookings := x.bookings.filter fun c => !c.is b.lane b.exp b.frame b.rg }
  if b.reading then s else releaseBooking b s

/-- R274: every unplaced instance of the lanes that a test selects is abandoned. -/
def abandonInsts (which : Inst → Bool) (s : State) : State :=
  let s := forEach (s.exs.insts.filter which) (fun i t =>
    forEach i.left (fun g t => abandonMember i.lane i.frame g i.exp (abandonUnplaced i g t)) t) s
  s.onExs fun x => { x with insts := x.insts.filter fun i => !which i }

/-- R271, R295: a lane abandons its open instances. -/
def abandonLane (m : Nat) (s : State) : State :=
  let s := abandonInsts (fun i => i.lane == m) s
  forEach (s.exs.bookings.filter fun b => b.lane == m) abandonBooking s

/-- R271, R298, R299: HOLD, SLEEP, a level-2 restart or a power-fail warning switches the lanes off; a STOPPED lane stays as it is
from a power-fail warning on. -/
def lanesOff (keepStopped : Bool) (s : State) : State :=
  let s := forEach (busyLanes s) abandonLane s
  s.onExs fun x => { x with
    lanes := x.lanes.map (fun l =>
      if keepStopped && l.st == .stopped then l
      else { l with st := .off, start := none, ratio := 0, shift := 0, nextAbs := none, gapFrom := none }),
    longOpen := [], prevEnd := [], bookings := [], insts := [] }

/-- R271, R273: nothing of a lane is outstanding. -/
def laneDrained (s : State) (m : Nat) : Bool :=
  !(s.exs.insts.any fun i => i.lane == m && i.left != []) && !(s.exs.bookings.any fun b => b.lane == m)

/-- R271: the last booked read of a DRAINING lane has ended. -/
def drainCheck (m : Nat) (s : State) : State :=
  if (getLane s m).st = .draining ∧ laneDrained s m then
    raise 0x0504 [.h m, .w s.rru.f] (modLane m (fun x => { x with st := .stopped }) s)
  else s

/-- R271: a RUNNING lane stops at frame F. -/
def stopLane (m : Nat) (s : State) : State :=
  if (getLane s m).st = .running then
    drainCheck m (modLane m (fun x => { x with st := .draining, stopF := s.rru.f, gapFrom := some s.rru.f }) s)
  else s

/-! ## Issue -/

/-- R242: an instance of an exposure is issued. -/
def issue (m exp key : Nat) (e : ExpEntry) (s : State) : State :=
  let l := readList s (getLane s m).rgb e
  if l = [] then s
  else s.onExs fun x => { x with insts := x.insts ++ [{ lane := m, exp := exp, frame := key, line0 := s.rru.lineNo, left := l }] }

/-- R244: OUT0 is enabled. -/
def out0On (s : State) : Bool := s.rru.outEn.getLsbD 0

/-- R242, R244, R258: a RUNNING lane issues its raster-anchored instances at a frame boundary. -/
def issueLane (m : Nat) (s : State) : State :=
  let p := laneProg s m
  if (getLane s m).st = .running ∧ out0On s ∧ s.rru.f % (p.div + 1) = p.ph then
    forEach (laneExps s m) (fun (i, e) t => if e.anchor = 2 then t else issue m i s.rru.f e t) s
  else s

/-- R259: the first absolute instance at or after a TB. -/
def firstAbs (p : Prog) (tb : Nat) : Option Nat :=
  if tb ≤ p.epoch then some p.epoch
  else if p.period = 0 then none
  else some (p.epoch + (tb - p.epoch + p.period - 1) / p.period * p.period)

/-- R271, R272, R259: an ARMED lane starts at a frame boundary. -/
def runLane (m : Nat) (s : State) : State :=
  let x := getLane s m
  match x.st, x.start with
  | .armed, some f0 =>
    if s.rru.rpValid ∧ f0 ≤ s.rru.f then
      let p := laneProg s m
      let abs := p.exps.any fun e => e.anchor == 2
      let first := if abs then firstAbs p s.now else none
      let s := noteStopped m s.rru.f (modLane m (fun x => { x with gapFrom := some (x.gapFrom.getD f0) }) s)
      let s := modLane m (fun x => { x with st := .running, nextAbs := first, openFrame := s.rru.f, gapFrom := none }) s
      let s := if abs ∧ first = none then raise 0x050A [.h x.prog] s else s
      raise 0x0503 [.h m, .w f0] s
    else s
  | _, _ => s

/-- R259: TB reaches T_n of an absolute program. -/
def doAbsInstanceDue (m : Fin 4) (s : State) : State :=
  let x := getLane s m
  match x.st, x.nextAbs with
  | .running, some t =>
    if t ≤ s.now then
      let p := laneProg s m
      let s := modLane m (fun x => { x with nextAbs := (if p.period = 0 then none else some (t + p.period)) }) s
      forEach (laneExps s m) (fun (i, e) u => issue m i t e u) s
    else s
  | _, _ => s

/-! ## Placement (R283) -/

/-- R161, R283: the tiles of a geometry's columns in a row group's tile row that are powering up. -/
def rampingTiles (s : State) (geo : Geo) (g : Nat) : List Nat :=
  let row := (if geo.bin = 0 then g else 2 * g) / 128
  ((List.range 20).filter fun c => geo.c0 / 64 ≤ c && c ≤ geo.c1 / 64).map (20 * row + ·) |>.filter fun t =>
    let x := (getTile s t).st
    !flagF s (R.SNS_TILE_CTRL_FORCE_OFF t) && x != .ready && x != .fault

/-- R160, R283: the tick at which the tiles that are powering up reach READY. -/
def tilesReady (s : State) (l : List Nat) : Nat :=
  l.foldl (fun m t => max m (if (getTile s t).st = .off then s.now + 62500 else (getTile s t).closedTb + 62500)) 0

/-- R191, R283: the busy times of a bank: booked reads, and the read in progress. -/
def bankBusy (s : State) (bank : Nat) : List (Nat × Nat) :=
  let lanes := s.exs.bookings.filterMap fun b => match bookingExp s b with
    | some e => if (banksOf (geoOf s e.geo).bin b.rg).contains bank then some (b.readTb, b.readTb + b.slot) else none
    | none => none
  let now := match s.cro.reading.getD bank none with
    | some r => [(r.start, r.start + r.slot)]
    | none => []
  lanes ++ now

/-- R283: the earliest tick at or after x at which nothing in the list overlaps a slot. -/
def firstFree : Nat → List (Nat × Nat) → Nat → Nat → Nat
  | 0, _, x, _ => x
  | n + 1, busy, x, slot =>
    match busy.find? fun b => decide (b.1 < x + slot) && decide (x < b.2) with
    | some b => firstFree n busy b.2 slot
    | none => x

/-- R275: the end of the previous read of a row group. -/
def prevReadEnd (s : State) (bin g : Nat) : Nat :=
  ((sensorGroups bin g).map fun x => Tbl.getD s.exs.prevEnd x 0).foldl max 0

/-- R286: a slip is counted and logged. -/
def countSlip (m phi : Nat) (s : State) : State :=
  let s := addF (R.EXS_LANE_CNT_SLIPS m) 1 s
  let s := setF (R.EXS_LANE_MAXSLIP m) (max (getF s (R.EXS_LANE_MAXSLIP m)) phi) s
  raiseLimited m second 0x0501 [.h m, .w phi] s

/-- R287: the instance on a row group is abandoned at its placement. -/
def abandonAtPlacement (i : Inst) (g : Nat) (s : State) : State :=
  let s := abandonMember i.lane i.frame g i.exp (abandonUnplaced i g s)
  raiseLimited i.lane second 0x0502 [.h i.lane, .h g] (addF (R.EXS_LANE_CNT_ABANDONED i.lane) 1 s)

/-- R283: a reset is placed and its read booked. -/
def book (i : Inst) (g : Nat) (e : ExpEntry) (bin readTb len slot slip : Nat) (s : State) : State :=
  let lper := placePeriod s
  let u := usableOf s (banksOf bin g)
  s.onExs fun x => { x with
    bookings := x.bookings ++ [{ lane := i.lane, exp := i.exp, frame := i.frame, rg := g, resetTb := readTb - len,
                                 readTb := readTb, slot := slot, u := u, slip := tbToPhi lper slip, resetDone := false,
                                 reading := false, attr := 0, lper := lper, pos := 0, dropped := [], flags := 0, rows := [] }]
    prevEnd := (sensorGroups bin g).foldl (fun t r => Tbl.set t r (readTb + slot)) x.prevEnd
    booked := x.booked ++ (banksOf bin g).map fun b => (b, (readTb, readTb + slot))
    longOpen := if e.long then x.longOpen ++ [(i.lane, g)] else x.longOpen }

/-- R233, R283 to R288: the placement of an instance on a row group whose target has been reached, at the tick `target`. -/
def place (i : Inst) (g target : Nat) (e : ExpEntry) (s : State) : State :=
  let geo := geoOf s e.geo
  let banks := banksOf geo.bin g
  if s.exs.longOpen.contains (i.lane, g) then addF (R.EXS_LANE_SKIP i.lane) 1 s
  else if usableOf s banks = 0 then abandonMember i.lane i.frame g i.exp (abandonUnplaced i g s)
  else
    let lper := placePeriod s
    let len := lenTb lper e
    let slot := readSlot s geo.bin e.gain g
    let ramp := rampingTiles s geo g
    let ready := tilesReady s ramp
    let before := max s.now (prevReadEnd s geo.bin g)
    let earliest := max before ready
    let busy := banks.flatMap (bankBusy s)
    let readTb := firstFree (busy.length + 1) busy (earliest + len) slot
    let slip := readTb - (target + len)
    if linesToTb lper (getF s R.EXS_SLIP_MAX) < slip then abandonAtPlacement i g s
    else
      let s := book i g e geo.bin readTb len slot slip s
      if slip = 0 then s
      else
        let s := countSlip i.lane (tbToPhi lper slip) s
        match ramp with
        | t :: _ => when (decide (before < ready)) (raise 0x0306 [.h t, .h g]) s
        | [] => s

/-- The instance of a lane's exposure with a key. -/
def findInst (s : State) (m exp key : Nat) : Option Inst :=
  s.exs.insts.find? fun i => i.lane == m && i.exp == exp && i.frame == key

/-- R242: a row group of an instance is no longer to be placed. -/
def takeGroup (m exp key g : Nat) : State → State :=
  State.onExs fun x =>
    let l := x.insts.map fun i =>
      if i.lane = m ∧ i.exp = exp ∧ i.frame = key then { i with left := i.left.filter (· != g) } else i
    { x with insts := l.filter fun i => i.left != [] }

/-- R300: the head places no reset from a power-fail warning on, in HOLD or in SLEEP. -/
def mayPlace (s : State) : Bool := s.pwr.pf == .normal && s.head.st == .running && !s.sup.dieDown

/-- A reset target that has been reached: its tick, and the instance and row group that it is for. -/
structure Target where
  tb : Nat
  inst : Inst
  exp : ExpEntry
  rg : Nat
  deriving DecidableEq, Repr

/-- R279: the order of placement: by target, then lane, exposure index and row group. -/
def Target.before (a b : Target) : Bool :=
  decide (a.tb < b.tb) || (a.tb == b.tb && (decide (a.inst.lane < b.inst.lane) || (a.inst.lane == b.inst.lane &&
    (decide (a.inst.exp < b.inst.exp) || (a.inst.exp == b.inst.exp && decide (a.rg ≤ b.rg))))))

/-- R256, R279: the reset targets that have been reached and not placed, in the order of their placement. -/
def dueTargets (s : State) : List Target :=
  sortBy Target.before (s.exs.insts.flatMap fun i => match (laneProg s i.lane).exps[i.exp]? with
    | some e => i.left.filterMap fun g => (targetTb s i e g).map fun t => ⟨t, i, e, g⟩
    | none => [])

/-- R244, R256, R279: the reset targets up to that of an instance on a row group, if that one has been reached. -/
def targetsUpTo (s : State) (m exp key g : Nat) : List Target :=
  let named := fun (t : Target) => t.inst.lane == m && t.inst.exp == exp && t.inst.frame == key && t.rg == g
  let l := dueTargets s
  match l.find? named with
  | some t => l.filter fun x => x.before t
  | none => []

/-! ## Resets and reads -/

/-- Changes one booking. -/
def modBooking (m exp key g : Nat) (f : Booking → Booking) : State → State :=
  State.onExs fun x => { x with bookings := x.bookings.map fun b => if b.is m exp key g then f b else b }

/-- One booking. -/
def findBooking (s : State) (m exp key g : Nat) : Option Booking := s.exs.bookings.find? (·.is m exp key g)

/-- R164: the tiles of a geometry's columns in a row group's tile row that are not READY. -/
def deadTiles (s : State) (geo : Geo) (g : Nat) : List Nat :=
  let row := (if geo.bin = 0 then g else 2 * g) / 128
  (((List.range 20).filter fun c => geo.c0 / 64 ≤ c && c ≤ geo.c1 / 64).map (20 * row + ·)).filter fun t =>
    (getTile s t).st != .ready

/-- R164, R245, R326: a booked reset of a lane begins at its tick. -/
def laneResetStart (m exp key g : Nat) (s : State) : State :=
  match findBooking s m exp key g, (laneProg s m).exps[exp]? with
  | some b, some e =>
    if !b.resetDone ∧ b.resetTb ≤ s.now then
      let dead := deadTiles s (geoOf s e.geo) g
      modBooking m exp key g (fun b =>
        { b with resetDone := true, attr := frameAt s b.resetTb, pos := s.ctg.pos, dropped := b.dropped ++ dead }) s
    else s
  | _, _ => s

/-- R326: a boundary in the tick of a reset makes the reset one of the frame that starts. -/
def reattribute (f : Nat) (s : State) : State :=
  if s.exs.bookings = [] then s
  else s.onExs fun x => { x with bookings := x.bookings.map fun b => if b.resetDone ∧ s.now ≤ b.resetTb then { b with attr := f } else b }

/-- R331: the start of the read of the last row. -/
def lastRowTb (s : State) (b : Booking) (e : ExpEntry) : Nat :=
  b.readTb + rowsTime b.u e.gain (rowsPerGroup (geoOf s e.geo).bin - 1)

/-- R332, R333: SPLIT and NB of an interval from a reset to a tick, from the boundaries of the frames in progress. -/
def straddle (s : State) (lper reset fin : Nat) : Option (Nat × Nat) :=
  let hits := (s.pat.frames.map FrameMark.tb).filter fun t => reset < t && t ≤ fin
  match hits with
  | [] => none
  | t :: ts => some (tbToPhi lper (ts.foldl min t - reset), min 0xFFFFFFFF hits.length)

/-- R197, R200: the sub-banks that a read needs and that are not READY, by domain; those of the edge columns that CLAMP_SIDE
selects are among them. -/
def deadSubBanks (s : State) (sbEn : Nat) (banks : List Nat) : List Nat :=
  let edge := let (l, r) := clampSides s; bit l + bit r * 2 ^ 19
  banks.flatMap fun b => ((List.range 20).filter fun k => (sbEn ||| edge).testBit k && (getSb s (20 * b + k)).st != .ready).map
    (20 * b + ·)

/-- R191, R233, R314: a read that starts on a bank, with the fusion thresholds in force. -/
def bankRead (m exp key g start slot u : Nat) (dead : Bool) (s : State) : BankRead :=
  { lane := m, exp := exp, frame := key, rg := g, start := start, slot := slot, u := u, dead := dead, got := [],
    tLo := getF s R.EXS_FU_DUAL_T_LO, tHi := getF s R.EXS_FU_DUAL_T_HI }

/-- R200: event 0x0402 for each sub-bank of a read that is not READY. -/
def deadEvents (domains : List Nat) (g : Nat) (s : State) : State := forEach domains (fun d t => raise 0x0402 [.h d, .h g] t) s

/-- R195, R286: a read that its bank delays slips. -/
def readDelayed (m exp key g start : Nat) (s : State) : State :=
  match findBooking s m exp key g with
  | some b =>
    if b.readTb < start then
      let late := tbToPhi b.lper (start - b.readTb)
      countSlip m (min 0xFFFFFFFF (b.slip + late)) (modBooking m exp key g (fun b =>
        { b with readTb := start, slip := min 0xFFFFFFFF (b.slip + late) }) s)
    else s
  | none => s

/-- R191, R195, R225: a booked read of a lane begins on its banks, which are free. -/
def laneReadStart (m exp key g : Nat) (s : State) : State :=
  match findBooking s m exp key g, (laneProg s m).exps[exp]? with
  | some b, some e =>
    let geo := geoOf s e.geo
    let banks := banksOf geo.bin g
    if b.resetDone ∧ !b.reading ∧ b.readTb ≤ s.now ∧ banks.all (fun k => (s.cro.reading.getD k none).isNone) then
      let start := (banks.map fun k => s.cro.freeAt.getD k 0).foldl max b.readTb
      let bad := deadSubBanks s geo.sbEn banks
      let s := readDelayed m exp key g start (modBooking m exp key g (fun b =>
        { b with reading := true, flags := b.flags ||| if bad = [] then 0 else flagGap }) s)
      let s := s.onCro fun x => { x with
        reading := x.reading.mapIdx (fun k r =>
          if banks.contains k then some (bankRead m exp key g start b.slot b.u (usableLanes s k == 0) s) else r)
        gain := x.gain.mapIdx (fun k r => if banks.contains k then e.gain else r)
        freeAt := x.freeAt.mapIdx (fun k r => if banks.contains k then start + b.slot else r) }
      deadEvents bad g s
    else s
  | _, _ => s

/-- R191: the banks that read an exposure of a lane on a row group. -/
def banksReading (s : State) (m exp key g : Nat) : List Nat :=
  (List.range 2).filter fun k => match s.cro.reading.getD k none with
    | some r => r.lane == m && r.exp == exp && r.frame == key && r.rg == g
    | none => false

/-- R191: the banks of a read are free again. -/
def freeBanks (banks : List Nat) : State → State :=
  State.onCro fun x => { x with reading := x.reading.mapIdx fun k r => if banks.contains k then none else r }

/-- R244: OUT0 is disabled: every raster-anchored reset that is not placed is abandoned. -/
def abandonRaster (s : State) : State :=
  abandonInsts (fun i => match (laneProg s i.lane).exps[i.exp]? with
    | some e => e.anchor != 2
    | none => true) s

/-- R291: an acquisition restart abandons every instance whose reset is not placed. -/
def acqAbandons (s : State) : State :=
  if s.rru.acqAbandon then abandonInsts (fun _ => true) (s.onRru fun r => { r with acqAbandon := false }) else s

/-! ## Heartbeat -/

/-- R295: the scheduler alone is reset; its bookings are cleared. The open fusion sets close beside it (R341). -/
def resetScheduler (s : State) : State :=
  let f := s.rru.f
  let last := s.exs.beatFrame
  let s := forEach (List.range 4) (fun m t =>
    match (getLane t m).st with
    | .running => modLane m (fun x => { x with st := .armed, start := some (f + 1), gapFrom := some last }) (abandonLane m t)
    | .draining =>
      raise 0x0504 [.h m, .w f] (noteFlags m last f flagGap (modLane m (fun x => { x with st := .stopped }) (abandonLane m t)))
    | _ => t) s
  raise 0x050C [.w f] (s.onExs fun x => { x with bookings := [], missedBeats := 0 })

/-- R293, R294: the scheduler processes a frame boundary, or stands still. -/
def heartbeat (stalled : Bool) (s : State) : State :=
  if stalled then s.onExs fun x => { x with missedBeats := x.missedBeats + 1 }
  else s.onExs fun x => { x with heartbeat := x.heartbeat + 1, missedBeats := 0, beatFrame := s.rru.f }

/-- R416: free bank time from t0 to t1, in gaps of at least 32 µs, in ticks. -/
def freeTime (s : State) (bank t0 t1 : Nat) : Nat :=
  let l := sortBy (fun a b => decide (a.1 ≤ b.1))
    (s.exs.booked.filterMap fun (b, (x, y)) => if b = bank ∧ t0 < y ∧ x < t1 then some (max x t0, min y t1) else none)
  let (free, fin) := l.foldl (fun (acc : Nat × Nat) x => ((if acc.2 + 8000 ≤ x.1 then acc.1 + (x.1 - acc.2) else acc.1), max acc.2 x.2)) (0, t0)
  if fin + 8000 ≤ t1 then free + (t1 - fin) else free

/-- R416: bank time booked before a TB is forgotten. -/
def forgetBooked (t : Nat) : State → State :=
  State.onExs fun x => { x with booked := x.booked.filter fun b => t < b.2.2 }

/-! ## Writes and reads of block EXS -/

/-- R270, R344: a lane's registers may be written. -/
def laneWritable (s : State) (m : Nat) : Bool := (getLane s m).st == .off || (getLane s m).st == .stopped

/-- R270: a write that the lane's state refuses. -/
def laneBusyReject (m a : Nat) (s : State) : WriteResult × State :=
  (.event 0x0508, raise 0x0508 [.h m, .h (a % 0x10000)] s)

/-- R270, R314, R344: a write to a register of the block. -/
def writeExs (a : Nat) (v : Word) (s : State) : WriteResult × State :=
  if a = A.EXS_CTRL then
    if v.getLsbD 0 then
      (.ok, forEach (List.range 4) (fun m t =>
        setRaw (A.EXS_LANE_CNT m) 0 (setRaw (A.EXS_LANE_MAXSLIP m) 0 (setRaw (A.EXS_LANE_SKIP m) 0 t))) s)
    else (.ok, s)
  else if a = A.EXS_FU_DUAL then
    if R.EXS_FU_DUAL_T_LO.get v < R.EXS_FU_DUAL_T_HI.get v then
      (.ok, plainWrite a v s)
    else rejectWrite 0x050B a s
  else if 0x50100 ≤ a ∧ a < 0x50180 ∧ a % 0x20 = 0 then
    let m := (a - 0x50100) / 0x20
    if laneWritable s m then (.ok, plainWrite a v s) else laneBusyReject m a s
  else if 0x51000 ≤ a ∧ a < 0x51400 then
    let m := (a - 0x51000) / 0x100
    if laneWritable s m then (.ok, plainWrite a v s) else laneBusyReject m a s
  else if 0x50820 ≤ a ∧ a < 0x50830 then
    let m := (a - 0x50820) / 4
    if laneWritable s m then (.ok, plainWrite a v s) else laneBusyReject m a s
  else (.ok, plainWrite a v s)

/-- R253: the row maps in use. -/
def mapUse (s : State) : Nat :=
  (List.range 4).foldl (fun n r => n + bit ((busyLanes s).any fun m =>
    (laneProg s m).exps.any fun e => e.anchor == 0 && e.map == r) * 2 ^ r) 0

/-- R270: the programs in use. -/
def progInUse (s : State) (p : Nat) : Bool := (busyLanes s).any fun m => (getLane s m).prog == p

/-- R16, R254, R255: the bits of a word of a program that are not reserved, by the word's offset. -/
def progMask (o : Nat) : Word :=
  if o < 64 then (if o = 0 then 0x80000007 else if o < 24 then 0xFFFFFFFF else 0)
  else match (o - 64) % 56 with
    | 0 => 0xFFF00000
    | 16 | 20 => 0
    | _ => 0xFFFFFFFF

/-- R301: the limits that a write to a word of program p breaks, with the other words of the field as they stand: FRAME_PH and
FRAME_DIV_M1, ABS_PERIOD, ANCHOR and GAIN, and LEN (log entry 73). -/
def progBad (s : State) (p o : Nat) (v : Word) : Bool :=
  let word := fun k => (memWord s (progAddr p + k)).toNat
  let v := v.toNat
  let most := 150000000000
  if o < 64 then
    match o with
    | 4 => decide (v % 65536 < v / 65536)
    | 16 => decide (most < word 20 * 2 ^ 32 + v)
    | 20 => decide (most < v * 2 ^ 32 + word 16)
    | _ => false
  else
    let e := o - (o - 64) % 56
    let above := fun (hi lo : Nat) => decide ((if (word e).testBit 24 then most else 0xFFFF0000) < hi * 2 ^ 32 + lo)
    match (o - 64) % 56 with
    | 0 => v / 2 ^ 29 % 4 == 3 || v / 2 ^ 27 % 4 == 3
    | 8 => (v == 0 && word (e + 12) == 0) || above (word (e + 12)) v
    | 12 => above v (word (e + 8))
    | _ => false

/-- R252 to R255, R270, R301: a write to a word of the scheduler memory window. -/
def writeScheduler (a : Nat) (v : Word) (s : State) : WriteResult × State :=
  if 0x30000000 ≤ a ∧ a < 0x30008000 ∧ a % 0x2000 < 0x1800 then
    if (mapUse s).testBit ((a - 0x30000000) / 0x2000) then (.event 0x0507, raise 0x0507 [.w a] s)
    else (.ok, setMemWord a v s)
  else if 0x30010000 ≤ a ∧ a < 0x30018000 then
    let p := (a - 0x30010000) / 0x200
    let v := v &&& progMask ((a - 0x30010000) % 0x200)
    if progInUse s p then (.event 0x0507, raise 0x0507 [.w a] s)
    else if progBad s p ((a - 0x30010000) % 0x200) v then (.event 0x050B, raise 0x050B [.w a] s)
    else (.ok, setMemWord a v s)
  else (.ok, s)

/-- The state code of a lane. -/
def ExLaneState.code : ExLaneState → Nat
  | .off => 0
  | .armed => 1
  | .running => 2
  | .draining => 3
  | .stopped => 4

/-- R324: the open fusion sets. -/
def openSets (s : State) : Nat := (s.exs.sets.filter fun f => !f.closed).length

/-- R253 to R344: the words of the block that the state holds elsewhere. -/
def readExs (s : State) (a : Nat) : Option Word :=
  let st := fun m => (getLane s m).st.code
  if a = A.EXS_STATUS then some (BitVec.ofNat 32 (st 3 * 4096 + st 2 * 256 + st 1 * 16 + st 0))
  else if a = A.EXS_HEARTBEAT then some s.exs.heartbeat
  else if 0x50020 ≤ a ∧ a < 0x50028 then some (BitVec.ofNat 32 (min 0x1FFFF (s.exs.load.getD ((a - 0x50020) / 4) 0)))
  else if a = A.EXS_MAP_USE then some (BitVec.ofNat 32 (mapUse s))
  else if 0x50040 ≤ a ∧ a < 0x50048 then
    let w := (a - 0x50040) / 4
    some (BitVec.ofNat 32 ((List.range 32).foldl (fun n b => n + bit (progInUse s (32 * w + b)) * 2 ^ b) 0))
  else if 0x50100 ≤ a ∧ a < 0x50180 ∧ a % 0x20 = 4 then some (BitVec.ofNat 32 (st ((a - 0x50100) / 0x20)))
  else if 0x50100 ≤ a ∧ a < 0x50180 ∧ a % 0x20 = 8 then
    some (BitVec.ofNat 32 ((getLane s ((a - 0x50100) / 0x20)).start.getD 0 % 2 ^ 32))
  else if 0x50100 ≤ a ∧ a < 0x50180 ∧ a % 0x20 = 0xC then
    some (BitVec.ofNat 32 ((getLane s ((a - 0x50100) / 0x20)).start.getD 0 / 2 ^ 32 % 256))
  else if a = A.EXS_FU_STATUS then
    some (BitVec.ofNat 32 (getF s R.EXS_FU_STATUS_PEND_MAX * 65536 + min 4095 (openSets s)))
  else if 0x50820 ≤ a ∧ a < 0x50830 then
    let m := (a - 0x50820) / 4
    let x := getLane s m
    some (BitVec.ofNat 32 (min 8191 x.ratio * 65536 + x.shift * 256 + getF s (R.EXS_FU_LANE_MODE m)))
  else none

end Sys2Proof.Machine
end

