-- ==== Sys2Proof/Machine/Streams.lean ====
section
/-! DEFINITION. Chapter 14, packets: the settings of a stream, the units it enqueues, and its queue. -/

namespace Sys2Proof.Machine

/-! ## Settings -/

/-- R629, R687: the settings of a stream, of the steward or of a tenant. -/
structure StrCfg where
  raw : Bool
  stat : Bool
  track : Bool
  event : Bool
  ipv6 : Bool
  enc : Bool
  cr : Bool
  retain : Bool
  port : Nat
  geoMask : Nat
  mtu : Nat
  quota : Nat
  qlim : Nat
  crSize : Nat
  crPeriod : Nat
  dst : List Nat
  keySlot : Nat
  deriving DecidableEq, Repr

/-- R661: the settings of steward stream i, from its registers. -/
def stewardCfg (s : State) (i : Nat) : StrCfg :=
  let t := getF s (R.LNK_STR_CTRL_TYPES i)
  { raw := t.testBit 0, stat := t.testBit 1, track := t.testBit 2, event := t.testBit 3,
    ipv6 := flagF s (R.LNK_STR_CTRL_IPV6 i), enc := flagF s (R.LNK_STR_CTRL_ENC i), cr := flagF s (R.LNK_STR_CTRL_CR i),
    retain := flagF s (R.LNK_STR_CTRL_RETAIN i), port := getF s (R.LNK_STR_CTRL_PORT i),
    geoMask := getF s (R.LNK_STR_CTRL_GEO_MASK i), mtu := getF s (R.LNK_STR_IP_MTU i),
    quota := getF s (R.LNK_STR_QUOTA_QUOTA i), qlim := getF s (R.LNK_STR_QLIM_QLIM i),
    crSize := getF s (R.LNK_STR_CR_SIZE i), crPeriod := getF s (R.LNK_STR_CR_PERIOD i),
    dst := (List.range 4).map fun k => getF s (R.LNK_STR_DST i k), keySlot := 4096 + i }

/-- R666, R691: the settings of a tenant's stream, from a context's words. -/
def tenantCfg (t : Nat) (w : CtxWords) : StrCfg :=
  { raw := w.ctrl.getLsbD 30, stat := true, track := true, event := true, ipv6 := w.ctrl.getLsbD 28, enc := true,
    cr := w.ctrl.getLsbD 29, retain := true, port := w.ctrl.toNat / 2 ^ 24 % 8, geoMask := w.geo.toNat % 65536,
    mtu := w.ip.toNat % 2 ^ 14, quota := w.quota.toNat % 2 ^ 19, qlim := w.qlim.toNat % 2 ^ 22,
    crSize := w.crSize.toNat % 2 ^ 14, crPeriod := w.crPeriod.toNat, dst := w.dst.map BitVec.toNat, keySlot := t }

/-- The settings of the stream with an ID. -/
def streamCfg (s : State) (sid : Nat) : StrCfg :=
  if isTenantStream sid then tenantCfg (sid - 0x1000) (getCtx s (sid - 0x1000)).words else stewardCfg s sid

/-- R632, R673: the stream may be sent: its key is present if it needs one, and R638 has not stopped it. -/
def keyOk (s : State) (c : StrCfg) : Bool :=
  !c.enc || ((Tbl.get? s.ten.keys c.keySlot).isSome && s.lnk.epoch != 0xFFFFFF)

/-- R641, R642, R647: payload bytes that one packet of a stream holds. -/
def payloadRoom (c : StrCfg) : Nat :=
  if c.cr then c.crSize - 80
  else c.mtu - (if c.ipv6 then 40 else 20) - 8 - 32 - (if c.enc then 16 else 0)

/-- R648: the UDP payload bytes of a packet. -/
def Packet.size (p : Packet) : Nat := p.sealedSize.getD (32 + p.payloadLen + if p.enc then 16 else 0)

/-- R651: queued bytes of a stream that count towards QLIM. -/
def queuedBytes (s : State) (sid : Nat) : Nat :=
  ((getStream s sid).queue.filter fun p => p.type != .event).foldl (fun n p => n + p.size) 0

/-- R633: a stream enqueues a unit attributed to a frame. -/
def takesFrame (s : State) (sid frame : Nat) : Bool :=
  let x := getStream s sid
  x.st == .running || (x.st == .draining && decide (frame < x.stopF))

/-- R635: the code of a packet type. -/
def PktType.code : PktType → Nat
  | .raw => 1
  | .stat => 2
  | .track => 3
  | .event => 4

/-- R651, R632: a unit that a stream drops: counted, and named in an entry of event 0x0B03. -/
def dropUnit (sid : Nat) (t : PktType) (frame set slot : Nat) (s : State) : State :=
  let s := if isTenantStream sid then
      modCtx (sid - 0x1000) (fun c => { c with resultsDropped := satAdd 32 c.resultsDropped 1 }) s
    else addF (R.LNK_STR_DROPS_RESULTS sid) 1 s
  raiseFor sid 0x0B03 [.h sid, .h t.code, .w frame, .h set, .h slot] s

/-- R632: event 0x0B06, once for a stream whose key is missing. -/
def noteKeyMissing (sid : Nat) (s : State) : State :=
  if (getStream s sid).keyLogged then s
  else raiseFor sid 0x0B06 [.h sid] (modStream sid (fun x => { x with keyLogged := true }) s)

/-- R637, R651: a unit of packets is enqueued whole, or dropped. -/
def enqueueUnit (sid : Nat) (t : PktType) (frame set slot : Nat) (pkts : List Packet) (s : State) : State :=
  let c := streamCfg s sid
  if !keyOk s c then
    dropUnit sid t frame set slot (if (Tbl.get? s.ten.keys c.keySlot).isNone then noteKeyMissing sid s else s)
  else
    let bytes := pkts.foldl (fun n p => n + 32 + p.payloadLen + (if c.enc then 16 else 0)) 0
    if queuedBytes s sid + bytes ≤ c.qlim * 1024 then forEach pkts (pushPacket sid) s
    else dropUnit sid t frame set slot s

/-- R636: the packets of a unit with their FRAG and LAST. -/
def finishUnit (l : List Packet) : List Packet :=
  l.mapIdx fun i p => { p with frag := i, last := decide (i + 1 = l.length) }

/-! ## Rows (R640, R641, R689) -/

/-- R211: bytes of a number of pixels in a format. -/
def pixelBytes (fmt n : Nat) : Nat :=
  match fmt with
  | 0 => (3 * n + 1) / 2
  | 2 => 2 * n
  | _ => 3 * n

/-- R641: pixels of one packet. -/
def pixelsPerPacket (c : StrCfg) (fmt : Nat) : Nat :=
  let room := payloadRoom c - 32
  let n := match fmt with
    | 0 => room * 2 / 3
    | 2 => room / 2
    | _ => room / 3
  n / 16 * 16

/-- A list cut into parts of a length. -/
def chunks {α : Type} : Nat → Nat → List α → List (List α)
  | 0, _, _ => []
  | _, _, [] => []
  | fuel + 1, n, l => l.take n :: chunks fuel n (l.drop n)

/-- R640: one row as it leaves: its place, the values of its descriptor and its pixels' codes, low x first. -/
structure RowUnit where
  geo : Nat
  fmt : Nat
  bin : Nat
  lane : Nat
  gain : Nat
  exp : Nat
  frame : Nat
  flags : Nat
  row : Nat
  x0 : Nat
  pos : Nat
  slip : Nat
  split : Nat
  nb : Nat
  resetTb : Nat
  pixels : List Nat
  deriving DecidableEq, Repr

/-- R640: the packets of a row on a stream. -/
def rowPackets (s : State) (c : StrCfg) (r : RowUnit) : List Packet :=
  let n := pixelsPerPacket c r.fmt
  let parts := if n = 0 then [] else chunks r.pixels.length n r.pixels
  finishUnit (parts.mapIdx fun i l =>
    { blankPacket s .raw with
      f := BitVec.ofNat 40 r.frame, exp := BitVec.ofNat 8 r.exp, flags := BitVec.ofNat 32 r.flags,
      payloadLen := 32 + pixelBytes r.fmt l.length,
      desc := [r.row, r.x0 + i * n, l.length, r.fmt, r.bin, r.geo, r.lane, r.gain, r.pos, r.slip, r.split, r.nb, r.resetTb],
      data := l })

/-- R3: raw output is withheld. -/
def rawWithheld (s : State) : Bool := s.fus.wires.rmRaw

/-- The width of a delivered pixel in sensor pixels. -/
def pixelPitch (bin : Nat) : Nat := if bin = 0 then 1 else if bin = 1 then 2 else 4

/-- R689: the part of a row that a tenant's narrowed region admits. -/
def tenantRow (w : CtxWords) (r : RowUnit) : Option RowUnit :=
  let x0 := (w.y0x0.toNat % 2 ^ 15 + 15) / 16 * 16
  let x1 := (w.y1x1.toNat % 2 ^ 15 + 1) / 16 * 16
  let y0 := w.y0x0.toNat / 2 ^ 16 % 2 ^ 14
  let y1 := w.y1x1.toNat / 2 ^ 16 % 2 ^ 14
  let p := pixelPitch r.bin
  let lo := max r.x0 ((x0 + p - 1) / p)
  let hi := min (r.x0 + r.pixels.length) (x1 / p)
  if y0 ≤ r.row * p ∧ r.row * p + p - 1 ≤ y1 ∧ lo < hi then
    some { r with x0 := lo, pixels := (r.pixels.drop (lo - r.x0)).take (hi - lo) }
  else none

/-- R630, R689: a raw or fused row goes to every stream that carries it. -/
def sendRow (r : RowUnit) (s : State) : State :=
  if rawWithheld s then s
  else
    let s := forEach (List.range 32) (fun i t =>
      let c := stewardCfg t i
      if takesFrame t i r.frame && c.raw && c.geoMask.testBit r.geo then
        enqueueUnit i .raw r.frame 0 r.exp (rowPackets t c r) t
      else t) s
    forEach (s.ten.ctx.map Prod.fst) (fun t x =>
      let ctx := getCtx x t
      let c := tenantCfg t ctx.words
      if takesFrame x (0x1000 + t) r.frame && c.raw && ctx.rawSub && c.geoMask.testBit r.geo then
        match tenantRow ctx.words r with
        | some q => enqueueUnit (0x1000 + t) .raw r.frame 0 r.exp (rowPackets x c q) x
        | none => x
      else x) s

/-! ## Results (R642) -/

/-- R642: the packets of a result on a stream. -/
def resultPackets (s : State) (c : StrCfg) (r : ResultUnit) : List Packet :=
  let n := (payloadRoom c - 32) / 48
  let parts := if r.recs.isEmpty then [[]] else if n = 0 then [] else chunks r.recs.length n r.recs
  finishUnit (parts.mapIdx fun i l =>
    { blankPacket s .stat with
      f := BitVec.ofNat 40 r.frame, exp := BitVec.ofNat 8 r.slot, flags := BitVec.ofNat 32 r.flags,
      payloadLen := 32 + 48 * l.length,
      desc := [r.set, r.slot, r.framesM1, r.recs.length, i * n, l.length, r.slip, r.splitMin, r.splitMax, r.nbMax],
      data := l.flatMap ResultRec.fields })

/-- R685: a tenant receives the results of a set for a frame. -/
def Ctx.subscribed (c : Ctx) (set frame : Nat) : Bool :=
  c.sub.any fun p => p.set == set && decide (p.first ≤ frame) && (match p.fin with | some e => decide (frame < e) | none => true)

/-- R666: the SUB bit of a set. -/
def Ctx.subNow (c : Ctx) (set : Nat) : Bool := c.sub.any fun p => p.set == set && p.fin.isNone

/-- R690: raw rows that a tenant subscribed to are not delivered. -/
def tenantWithheld (s : State) (x : Ctx) : Bool :=
  x.rawSub && (rawWithheld s || !x.words.ctrl.getLsbD 30 ||
    (runningRefs s).any fun n => !(x.words.geo.toNat % 65536).testBit n)

/-- R382, R630, R687: a result goes to every stream that the set is granted to, with the records of its party. -/
def sendResult (r : ResultUnit) (s : State) : State :=
  let s := forEach (List.range 32) (fun i t =>
    let c := stewardCfg t i
    if takesFrame t i r.frame && c.stat && (getF t (R.LNK_STR_WSM i (r.set / 32))).testBit (r.set % 32) then
      let flags := if c.raw && rawWithheld t then r.flags ||| flagWithheld else r.flags
      enqueueUnit i .stat r.frame r.set r.slot
        (resultPackets t c { r with flags := flags, recs := r.recs.filter fun x => x.owner.isNone }) t
    else t) s
  forEach (s.ten.ctx.map Prod.fst) (fun t x =>
    let ctx := getCtx x t
    if takesFrame x (0x1000 + t) r.frame && ctx.subscribed r.set r.frame then
      let flags := if tenantWithheld x ctx then r.flags ||| flagWithheld else r.flags
      enqueueUnit (0x1000 + t) .stat r.frame r.set r.slot
        (resultPackets x (tenantCfg t ctx.words)
          { r with flags := flags, recs := r.recs.filter fun q => q.owner == none || q.owner == some t }) x
    else x) s

/-! ## TRACK records (R643) -/

/-- R643: the size of a record of a kind. -/
def trackSize (kind : Nat) : Nat := if kind = 2 then 24 else 40

/-- R643: the records that wait are enqueued as one TRACK packet. -/
def flushTrack (sid : Nat) (s : State) : State :=
  match (getStream s sid).track with
  | none => s
  | some b =>
    let s := modStream sid (fun x => { x with track := none }) s
    enqueueUnit sid .track s.rru.f 0 0
      [{ blankPacket s .track with payloadLen := b.bytes, data := b.recs.flatMap id, last := true }] s

/-- R643: a record is added to a stream's TRACK packet, which is enqueued when it is full. -/
def addTrack (sid kind : Nat) (fields : List Nat) (s : State) : State :=
  let size := trackSize kind
  let room := payloadRoom (streamCfg s sid)
  let full := match (getStream s sid).track with
    | some b => decide (room < b.bytes + size)
    | none => false
  let s := if full then flushTrack sid s else s
  let b := (getStream s sid).track.getD ⟨[], 0, s.now⟩
  let b := { b with recs := b.recs ++ [kind :: size :: fields], bytes := b.bytes + size }
  let s := modStream sid (fun x => { x with track := some b }) s
  if room < b.bytes + 24 then flushTrack sid s else s

/-- R630, R643: a TRACK record goes to every steward stream that carries TRACK, and, for FRAME records, to every tenant
stream. -/
def sendTrack (kind : Nat) (fields : List Nat) (tenants : Bool) (s : State) : State :=
  let s := forEach (List.range 32) (fun i t =>
    if takesFrame t i t.rru.f && (stewardCfg t i).track then addTrack i kind fields t else t) s
  if tenants then forEach (liveTenants s) (fun t x => addTrack (0x1000 + t) kind fields x) s else s

/-- R643: 1 ms after its first record, a partial TRACK packet is enqueued. -/
def doTrackFlushTimeout (sid : Nat) (s : State) : State :=
  match (getStream s sid).track with
  | some b => if b.firstTb + milli ≤ s.now then flushTrack sid s else s
  | none => s

end Sys2Proof.Machine
end

