-- ==== Sys2Proof/Machine/Stats.lean ====
section
/-! DEFINITION. Chapter 7: windows, the segment plan, window sets, records, intervals, results and slices. -/

namespace Sys2Proof.Machine

/-! ## Windows -/

/-- R352: address of the entry of window w. -/
def winAddr (w : Nat) : Nat := 0x10000000 + 16 * w

/-- R351: the first window of the tenant pool. -/
def poolBase : Nat := 49152

/-- R352: the windows whose VALID is 1, rising. -/
def windowIds (s : State) : List Nat :=
  s.mem.filterMap fun c =>
    if 0x10000000 ≤ c.1 ∧ c.1 < 0x10100000 ∧ c.1 % 16 = 3 ∧ 128 ≤ c.2.toNat then some ((c.1 - 0x10000000) / 16) else none

/-- R352: the window that an entry's words define. -/
def windowOf (w w0 w1 w2 : Nat) : Window :=
  { id := w, set := w0 % 256, tenant := if w0.testBit 30 then some (w0 / 65536 % 4096) else none,
    x0 := w1 % 32768, y0 := w1 / 65536 % 16384, x1 := w2 % 32768, y1 := w2 / 65536 % 16384 }

/-- R352: window w. -/
def getWindow (s : State) (w : Nat) : Window :=
  windowOf w (memWord s (winAddr w)).toNat (memWord s (winAddr w + 4)).toNat (memWord s (winAddr w + 8)).toNat

/-- The windows whose VALID is 1. -/
def windows (s : State) : List Window := (windowIds s).map (getWindow s)

/-- R352, R387: writes the entry of a window. -/
def putWindow (w : Window) (s : State) : State :=
  let w0 := 2 ^ 31 + (match w.tenant with | some t => 2 ^ 30 + t * 65536 | none => 0) + w.set
  let s := setMemWord (winAddr w.id) (BitVec.ofNat 32 w0) s
  let s := setMemWord (winAddr w.id + 4) (BitVec.ofNat 32 (w.y0 * 65536 + w.x0)) s
  setMemWord (winAddr w.id + 8) (BitVec.ofNat 32 (w.y1 * 65536 + w.x1)) s

/-- R389: clears the entry of a window. -/
def clearWindow (w : Nat) (s : State) : State :=
  forEach [0, 4, 8, 12] (fun o t => setMemWord (winAddr w + o) 0 t) s

/-- R352: a window's rectangle is in range. -/
def Window.inRange (w : Window) : Bool :=
  decide (w.x0 ≤ w.x1) && decide (w.x1 ≤ 20479) && decide (w.y0 ≤ w.y1) && decide (w.y1 ≤ 12287)

/-! ## Window sets -/

/-- One window set. -/
def getSet (s : State) (n : Nat) : WinSet := Tbl.getD s.pat.sets n {}

/-- Changes one window set. -/
def modSet (n : Nat) (f : WinSet → WinSet) (s : State) : State :=
  s.onPat fun x => { x with sets := Tbl.put x.sets n {} (f (getSet s n)) }

/-- R353, R402: a set whose settings may be written. -/
def SetState.idle : SetState → Bool
  | .off | .stopped => true
  | _ => false

/-- R374: a set that accumulates. -/
def SetState.accumulates : SetState → Bool
  | .running | .stopping => true
  | _ => false

/-- The sets that are not OFF. -/
def liveSets (s : State) : List Nat := (s.pat.sets.filter fun p => p.2.st != .off).map Prod.fst

/-- R355: a program selects a set in an exposure. -/
def Prog.selects (p : Prog) (set : Nat) : Bool := p.exps.any fun e => e.wsm.testBit set

/-- R372: a lane feeds a set. -/
def feeds (s : State) (set m : Nat) : Bool :=
  let st := (getLane s m).st
  (st == .running || st == .draining) && (laneProg s m).selects set

/-- R372, R379: a lane feeds a set, or has fed it after a frame: a lane that has stopped since. -/
def feedsFrom (s : State) (set first m : Nat) : Bool :=
  feeds s set m || ((laneProg s m).selects set && match (getLane s m).gapFrom with
    | some g => decide (first < g)
    | none => false)

/-- R378, R379: the slots in use of a set from a frame on: those of the lanes that feed it, and slot 8. -/
def slotsInUse (s : State) (set first : Nat) : List Nat :=
  (sortBy Nat.ble ((((List.range 4).filter (feedsFrom s set first)).flatMap fun m => List.range (laneProg s m).exps.length) ++
    [8])).eraseDups

/-! ## The segment plan (R357) -/

/-- R357: the first slice of a row on which windows break a limit, and which limit: 0 per pixel, 1 per slice row. -/
def rowBreak (ws : List Window) (y : Nat) : Option (Nat × Nat) :=
  let row := ws.filter fun w => w.y0 ≤ y && y ≤ w.y1
  (List.range 16).findSome? fun i =>
    let l := row.filter fun w => w.x0 ≤ 1280 * i + 1279 && 1280 * i ≤ w.x1
    let deep := l.any fun v =>
      let x := max v.x0 (1280 * i)
      decide (8 < (l.filter fun w => w.x0 ≤ x && x ≤ w.x1).length)
    if deep then some (i, 0) else if 64 < l.length then some (i, 1) else none

/-- R358: the first row and slice on which windows break a limit. -/
def planBreak (ws : List Window) : Option (Nat × (Nat × Nat)) :=
  ((sortBy Nat.ble (ws.map Window.y0)).eraseDups).findSome? fun y => (rowBreak ws y).map fun b => (y, b)

/-- R357: the windows of the plan with some sets beside those that are not OFF. -/
def planWindows (s : State) (more : List Nat) : List Window :=
  (windows s).filter fun w => (liveSets s).contains w.set || more.contains w.set

/-! ## Results (R377) -/

/-- R364: the fields of a record. -/
def Rec.fields (r : Rec) (w : Nat) : List Nat :=
  [r.count, w, r.sum, r.sumSq, r.min, r.max, r.sat, r.dframes, r.flags.toNat]

/-- R378: the empty results with GAP for the frames `first` to `last` of a slot. -/
def gapResults (set slot first last flags : Nat) : List ResultUnit :=
  if last < first then [] else
    (List.range ((last - first) / 65536 + 1)).map fun i =>
      { set := set, slot := slot, frame := first + 65536 * i, framesM1 := min 65535 (last - first - 65536 * i), flags := flags,
        slip := 0, splitMin := 0, splitMax := 0, nbMax := 0, recs := [] }

/-- R378, R379: the empty results that a set owes for the frames from `first` up to a start, in the slots in use at the start. -/
def owedResults (s : State) (set first start : Nat) : List ResultUnit :=
  if first < start then
    (slotsInUse s set s.rru.f).flatMap fun slot => gapResults set slot first (start - 1) (flagGap ||| (getSet s set).gapFlags)
  else []

/-- R378: the empty results of a running set for skipped frames. -/
def sendGap (set first start : Nat) (s : State) : State := forEach (owedResults s set first start) sendResult s

/-- R378: the empty results that the sets which start at a boundary owe leave once the streams have started. -/
def sendOwed (s : State) : State := forEach s.pat.owed sendResult (s.onPat fun x => { x with owed := [] })

/-- R272, R375, R609: the first frame from which a lane that is not RUNNING brings nothing. -/
def laneGap (s : State) (m : Nat) : Option Nat :=
  let x := getLane s m
  if x.st = .running ∨ x.st = .off then none else x.gapFrom.or (if x.st = .armed then x.start else none)

/-- R377, R274, R375: the flags of an interval that its records do not carry: those of the lanes that feed the set, or that have
stopped and fed it, and those of the head. -/
def notesFor (s : State) (set first last : Nat) : Nat :=
  let stopped := (List.range 4).any fun m => (laneProg s m).selects set && match laneGap s m with
    | some g => decide (g ≤ last)
    | none => false
  s.exs.notes.foldl (fun f n =>
    if n.lane = 4 then (if first ≤ n.last then f ||| n.flags else f)
    else if first ≤ n.last ∧ n.first ≤ last ∧ n.wsm.testBit set then f ||| n.flags else f) (if stopped then flagGap else 0)

/-- R377: the result of a slot of an interval. -/
def slotResult (set : Nat) (iv : Interval) (flags slot : Nat) : ResultUnit :=
  let recs := iv.wins.map fun w => (w, Tbl.getD iv.recs (16 * w.id + slot) {})
  let m := Tbl.getD iv.slots slot {}
  { set := set, slot := slot, frame := iv.first, framesM1 := iv.frames - 1,
    flags := recs.foldl (fun f r => f ||| r.2.flags.toNat) flags, slip := m.slip, splitMin := m.splitMin,
    splitMax := m.splitMax, nbMax := m.nb, recs := recs.map fun r => ⟨r.1.id, r.1.tenant, r.2.fields r.1.id⟩ }

/-- R372, R373, R380: an interval of a set closes and its hand-off begins; `early` says that later data of it is discarded. -/
def closeInterval (set : Nat) (iv : Interval) (extra : Nat) (early : Bool) (s : State) : State :=
  let k := (getSet s set).kM1 + 1
  let flags := notesFor s set iv.first (iv.first + iv.frames - 1) ||| iv.flags ||| extra ||| (if iv.frames < k then flagTruncated else 0)
  let h : HandOff := { iv := iv, flags := flags, slots := slotsInUse s set iv.first, early := early }
  modSet set (fun x => { x with ivls := x.ivls.filter (fun i => i.first != iv.first), handing := x.handing ++ [h] }) s

/-- R377, R379, R380: the results of a closed interval: of the slots in use, and of those that its data has used. -/
def HandOff.results (set : Nat) (h : HandOff) : List ResultUnit :=
  ((sortBy Nat.ble (h.slots ++ h.iv.slots.map Prod.fst)).eraseDups).map (slotResult set h.iv h.flags)

/-- R381: the hand-off of the oldest closed buffer of a set ends. -/
def doHandoffComplete (set : Fin 256) (s : State) : State :=
  match (getSet s set).handing with
  | [] => s
  | h :: rest => forEach (h.results set) sendResult (modSet set (fun x => { x with handing := rest }) s)

/-- R400: the hand-offs that run end at once. -/
def finishHandoffs (s : State) : State :=
  forEach (s.pat.sets.map Prod.fst) (fun n t =>
    forEach (getSet t n).handing (fun h u => forEach (h.results n) sendResult u) (modSet n (fun x => { x with handing := [] }) t)) s

/-! ## Opening an interval -/

/-- R389: a pending tenant window change whose boundary has come. -/
def TwPending.ripe (p : TwPending) (set tb : Nat) : Bool := p.set == set && decide (p.accepted + milli ≤ tb)

/-- R389: tenant window changes take effect at an interval boundary of their host set. -/
def applyTenantWindows (set tb : Nat) (s : State) : State :=
  let s := forEach (s.pat.twPending.filter fun p => p.ripe set tb) (fun p t => match p.rect with
    | some w => putWindow w t
    | none =>
      let t := modCtx p.tenant (fun c => { c with wins := c.wins.filter fun q => q.2 != p.win }) (clearWindow p.win t)
      if p.report then raiseFor (0x1000 + p.tenant) 0x060B [.h 1] t else t) s
  s.onPat fun x => { x with twPending := x.twPending.filter fun p => !p.ripe set tb }

/-- R685: a set's frames that are still open or whose results have not been handed off. -/
def oldestOwed (s : State) (set f : Nat) : Nat :=
  let x := getSet s set
  (x.ivls.map Interval.first ++ x.handing.map fun h => h.iv.first).foldl min f

/-- R685: subscriptions change at an interval boundary of their set; f is the first frame of the interval that begins. -/
def applySubs (set f tb : Nat) (s : State) : State :=
  let old := oldestOwed s set f
  forEach (s.ten.ctx.map Prod.fst) (fun t x =>
    match Tbl.get? (getCtx x t).subNext set with
    | some (want, at0) =>
      if at0 + milli ≤ tb then
        modCtx t (fun c =>
          let kept := c.sub.filter fun p => p.set != set || (match p.fin with | some e => decide (old < e) | none => true)
          { c with
            sub := if want then kept ++ [⟨set, f, none⟩]
              else kept.map fun p => if p.set = set ∧ p.fin.isNone then { p with fin := some f } else p
            subNext := Tbl.del c.subNext set }) x
      else x
    | none => x) s

/-- R389: a window whose first boundary has not come accumulates nothing yet. -/
def freshWindow (s : State) (w : Nat) : Bool := s.pat.twPending.any fun p => p.fresh && p.win == w

/-- R359, R389: the windows that a set accumulates from a boundary on. -/
def setWindows (s : State) (set : Nat) : List Window :=
  (windows s).filter fun w => w.set == set && !freshWindow s w.id

/-- R369: the first frame after the interval of a set that holds a frame. -/
def intervalEnd (start k f : Nat) : Nat := start + ((f - start) / k + 1) * k

/-- R369, R374: the next interval of a set opens; that of a STOPPING set ends before the stop frame. -/
def openInterval (set : Nat) (s : State) : State :=
  let f := (getSet s set).nextFirst
  let tb := ((s.pat.frames.find? fun m => m.f == f).map FrameMark.tb).getD s.now
  let s := applySubs set f tb (applyTenantWindows set tb s)
  let wins := setWindows s set
  modSet set (fun x =>
    let fin := intervalEnd (x.start.getD f) (x.kM1 + 1) f
    let fin := if x.st = .stopping then min fin x.stopF else fin
    let buf := match x.ivls.getLast? with | some i => !i.buf | none => x.lastBuf
    { x with ivls := x.ivls ++ [⟨f, fin - f, wins, [], [], buf, 0⟩], nextFirst := fin, lastBuf := !buf }) s

/-- R373: data arrives for a third interval, and the oldest open one closes. -/
def earlyClose (set : Nat) (s : State) : State :=
  match (getSet s set).ivls with
  | iv :: _ :: _ =>
    raise 0x0603 [.h set, .w iv.first] (addF R.PAT_CNT_EARLY_CLOSE 1 (closeInterval set iv flagGap true s))
  | _ => s

/-- R371, R373: the interval that holds a frame is open if the set takes data attributed to it. -/
def ensureInterval (set frame : Nat) (s : State) : State :=
  let x := getSet s set
  if x.st = .running ∨ (x.st = .stopping ∧ frame < x.stopF) then
    forEach (List.range (frame + 1 - x.nextFirst)) (fun _ t =>
      if (getSet t set).nextFirst ≤ frame then openInterval set (earlyClose set t) else t) s
  else s

/-! ## Records (R360 to R368) -/

/-- R366: a field takes an addition, or holds its largest value. -/
def fieldAdd (w a b : Nat) : Nat × Bool := (min (2 ^ w - 1) (a + b), decide (2 ^ w ≤ a + b))

/-- R360 to R362, R366: one pixel enters a record. -/
def Rec.pixel (r : Rec) (p : Px) : Rec :=
  match p with
  | .none => r
  | .sat =>
    let (n, o) := fieldAdd 48 r.sat 1
    { r with sat := n, flags := r.flags ||| BitVec.ofNat 16 (flagSat + if o then flagOverflow else 0) }
  | .val v =>
    let v := v.toNat
    let (c, o1) := fieldAdd 48 r.count 1
    let (a, o2) := fieldAdd 64 r.sum v
    let (q, o3) := fieldAdd 96 r.sumSq (v * v)
    { r with count := c, sum := a, sumSq := q, min := Nat.min r.min v, max := Nat.max r.max v,
             flags := r.flags ||| if o1 || o2 || o3 then BitVec.ofNat 16 flagOverflow else 0 }

/-- R364, R365, R226: a row has brought pixels of a frame into a record. -/
def Rec.row (r : Rec) (frame flags oldest : Nat) (tag : Option Nat) : Rec :=
  let seen := r.seen.filter fun p => oldest ≤ p.1
  let changed := tag.isNone || seen.any fun p => p.1 == frame && p.2 != tag
  let fl := (flags &&& (65535 - flagSat)) ||| if changed then flagTransition else 0
  let new := !(seen.any fun p => p.1 == frame)
  let (d, o) := fieldAdd 24 r.dframes (bit new)
  { r with dframes := d, flags := r.flags ||| BitVec.ofNat 16 (fl ||| if o then flagOverflow else 0),
           seen := if seen.contains (frame, tag) then seen else (frame, tag) :: seen }

/-- R360: the codes of a row that lie inside a window, in the columns of some slices. -/
def StatRow.inside (r : StatRow) (w : Window) (slices : List Nat) : List Px :=
  if r.y < w.y0 ∨ w.y1 < r.y then []
  else (r.codes.zipIdx.filter fun p =>
    let x := (r.x0 + p.2) * r.pitch
    w.x0 ≤ x && x ≤ w.x1 && slices.contains (x / 1280) && p.1 != .none).map Prod.fst

/-- R335, R377: slip, SPLIT and NB of a row enter a slot's. -/
def SlotMeta.add (m : SlotMeta) (r : StatRow) : SlotMeta :=
  let m := { m with slip := max m.slip r.slip }
  if r.nb = 0 then m
  else { m with splitMin := (if m.nb = 0 then r.split else min m.splitMin r.split), splitMax := max m.splitMax r.split,
                nb := max m.nb r.nb }

/-- R349: a row is committed into the records of an interval, and the windows whose record has overflowed by it. -/
def Interval.commit (iv : Interval) (r : StatRow) (slices : List Nat) (oldest : Nat) : Interval × List Nat :=
  iv.wins.foldl (fun (acc : Interval × List Nat) w =>
    match r.inside w slices with
    | [] => acc
    | ps =>
      let key := 16 * w.id + r.slot
      let old := Tbl.getD acc.1.recs key {}
      let new := (ps.foldl Rec.pixel old).row r.frame r.flags oldest r.tag
      let ov := new.flags.toNat.testBit 11 && !old.flags.toNat.testBit 11
      ({ acc.1 with recs := Tbl.set acc.1.recs key new,
                    slots := Tbl.set acc.1.slots r.slot ((Tbl.getD acc.1.slots r.slot {}).add r) },
       if ov then acc.2 ++ [w.id] else acc.2)) (iv, [])

/-- R366: the records that overflowed are counted and logged. -/
def noteOverflow (set slot : Nat) (wins : List Nat) (s : State) : State :=
  forEach wins (fun w t => raiseLimited set second 0x0602 [.h set, .h w, .h slot] (addF R.PAT_CNT_OVF 1 t)) s

/-- R364, R978: the oldest frame that may still bring rows: one that has not closed for the head, or one of a row that a slice
holds. -/
def oldestFrame (s : State) : Nat :=
  s.pat.slices.foldl (fun f x => x.held.foldl (fun f h => min f h.row.frame) f) ((s.pat.frames.head?.map FrameMark.f).getD s.rru.f)

/-- R369: an interval holds a frame. -/
def Interval.holds (i : Interval) (f : Nat) : Bool := decide (i.first ≤ f) && decide (f < i.first + i.frames)

/-- R373, R380: the interval of a set that takes data of a frame: an open one, or one whose hand-off runs. -/
def takingInterval (s : State) (set frame : Nat) : Option Interval :=
  let x := getSet s set
  (x.ivls.find? (·.holds frame)).or ((x.handing.find? fun h => !h.early && h.iv.holds frame).map HandOff.iv)

/-- Changes the interval of a set that begins with a frame. -/
def modInterval (set first : Nat) (f : Interval → Interval) : State → State :=
  modSet set fun x => { x with
    ivls := x.ivls.map fun i => if i.first = first then f i else i
    handing := x.handing.map fun h => if h.iv.first = first ∧ !h.early then { h with iv := f h.iv } else h }

/-- R355, R371: a row enters one set. -/
def commitSet (r : StatRow) (slices : List Nat) (set : Nat) (s : State) : State :=
  let s := ensureInterval set r.frame s
  match takingInterval s set r.frame with
  | none => s
  | some iv =>
    let (iv', exceeds) := iv.commit r slices (oldestFrame s)
    noteOverflow set r.slot exceeds (modInterval set iv.first (fun _ => iv') s)

/-- The sets that accumulate and that a mask selects. -/
def selectedSets (s : State) (wsm : Nat) : List Nat :=
  (s.pat.sets.filter fun p => p.2.st.accumulates && wsm.testBit p.1).map Prod.fst

/-- R349: a row is committed by some slices. -/
def commitRow (r : StatRow) (slices : List Nat) (s : State) : State :=
  forEach (selectedSets s r.wsm) (commitSet r slices) s

/-! ## Slices (R346 to R349, R394) -/

/-- Changes one slice. -/
def modSlice (i : Nat) (f : Slice → Slice) : State → State := State.onPat fun x => { x with slices := x.slices.modify i f }

/-- R346: the slices that a row reaches. -/
def StatRow.slices (r : StatRow) : List Nat :=
  let a := r.x0 * r.pitch / 1280
  let b := (r.x0 + (r.codes.length - 1)) * r.pitch / 1280
  if r.codes.isEmpty then [] else (List.range 16).filter fun i => a ≤ i && i ≤ b

/-- R348: open segments of a row in a slice. -/
def segments (s : State) (r : StatRow) (i : Nat) : Nat :=
  ((windows s).filter fun w => r.wsm.testBit w.set && (getSet s w.set).st.accumulates && w.y0 ≤ r.y && r.y ≤ w.y1 &&
    w.x0 ≤ 1280 * i + 1279 && 1280 * i ≤ w.x1 && !freshWindow s w.id).length

/-- R394: the rows that a slice's pipe holds are committed, oldest first. -/
def releaseHeld (pipe i : Nat) (s : State) : State :=
  let held := ((s.pat.slices.getD i {}).held).filter fun h => h.pipe == pipe
  if held = [] then s
  else
    let s := forEach held (fun h t => commitRow h.row [i] t) s
    machineMoves 1 i (modSlice i (fun x => { x with held := x.held.filter fun h => h.pipe != pipe,
                                                    commits := x.commits + BitVec.ofNat 16 held.length }) s)

/-- R395: the records of the windows of an interval that a lost row intersects in a slice carry GAP. -/
def Interval.lose (iv : Interval) (i : Nat) (r : StatRow) : Interval :=
  { iv with recs := iv.wins.foldl (fun recs w =>
      if w.y0 ≤ r.y ∧ r.y ≤ w.y1 ∧ w.x0 ≤ 1280 * i + 1279 ∧ 1280 * i ≤ w.x1 then
        let old := Tbl.getD recs (16 * w.id + r.slot) {}
        Tbl.set recs (16 * w.id + r.slot) { old with flags := old.flags ||| BitVec.ofNat 16 flagGap }
      else recs) iv.recs }

/-- R395: every record of a window that a lost row intersects in a slice carries GAP. -/
def loseRow (i : Nat) (r : StatRow) (s : State) : State :=
  forEach (selectedSets s r.wsm) (fun set t =>
    let t := ensureInterval set r.frame t
    match takingInterval t set r.frame with
    | some iv => modInterval set iv.first (fun iv => iv.lose i r) t
    | none => t) s

/-- R812, R813: the domain of a slice is in FAULT. -/
def sliceFault (s : State) (i : Nat) : Bool := Tbl.get? s.pwr.doms (280 + i) == some .fault

/-- R347, R394, R813: a row reaches the slices; those that are stuck hold it, those in FAULT lose it, the others commit it. -/
def feedRow (r : StatRow) (stuck : BitVec 16) (s : State) : State :=
  let pipe := if r.slot = 8 then 1 else 0
  let all := r.slices.filter fun i => !sliceFault s i
  let s := forEach (r.slices.filter (sliceFault s)) (fun i t => loseRow i r t) s
  let holds := all.filter fun i => stuck.getLsbD i
  let free := all.filter fun i => !stuck.getLsbD i
  let s := forEach free (releaseHeld pipe) s
  let s := forEach free (fun i t => setF (R.PAT_SLICE_STATUS_MAX_SEG i)
    (max (getF t (R.PAT_SLICE_STATUS_MAX_SEG i)) (min 64 (segments t r i))) t) s
  let s := commitRow r free s
  let s := forEach free (fun i => modSlice i fun x => { x with commits := x.commits + 1 }) s
  forEach holds (fun i t => modSlice i (fun x => { x with held := x.held ++ [⟨pipe, t.now, r⟩] }) t) s

/-- R394, R395: a slice is reset alone: its held rows are lost. -/
def resetSlice (i : Nat) (s : State) : State :=
  let held := (s.pat.slices.getD i {}).held
  let s := forEach held (fun h t => loseRow i h.row t) s
  let s := modSlice i (fun x => { x with held := [], resetTb := some s.now }) s
  raise 0x0607 [.h i, .h held.length] s

/-- R394: 64 µs in TB. -/
def sliceTimeout : Nat := 16000

/-- R394, R858: a slice whose pipe has held a row for 64 µs is declared stuck and reset. -/
def doSliceStuck (i : Fin 16) (pipe : Fin 2) (s : State) : State :=
  let held := (s.pat.slices.getD i {}).held.filter fun h => h.pipe == pipe.val
  if held.any fun h => decide (h.tb + sliceTimeout ≤ s.now) then
    let s := raise 0x0606 [.h i, .h pipe] s
    let s := declareStuck 1 i s
    respondStuck 1 i (resetSlice i s)
  else s

/-! ## Life of a set (R374) -/

/-- R358, R404: event 0x0601 for a plan that breaks a limit. -/
def planEvent (set : Nat) (b : Nat × (Nat × Nat)) (s : State) : State :=
  raise 0x0601 [.h set, .h b.1, .h b.2.1, .h b.2.2] s

/-- R374, R378, R402: a set starts, at a start frame if it is known. -/
def startSet (set : Nat) (start : Option Nat) (s : State) : State :=
  let x := getSet s set
  if !x.st.idle then s
  else if !flagF s (R.PAT_SET_CTRL_EN set) then modSet set (fun x => { x with st := .off }) s
  else match planBreak (planWindows s [set]) with
    | some b => planEvent set b s
    | none =>
      modSet set (fun x => { x with st := .armed, start := start, kM1 := getF s (R.PAT_SET_CTRL_K_M1 set), ivls := [], stopF := 0 }) s

/-- R370, R378: what a set that starts owes: the frames since it stopped, or since its named start frame; after a sleep, those up to
the sleep command, and those from the named start frame on. -/
def setOwes (s : State) (set f0 : Nat) : List ResultUnit :=
  let x := getSet s set
  match x.gapTo with
  | some e => owedResults s set (x.gapFrom.getD e) e ++ owedResults s set f0 s.rru.f
  | none => owedResults s set (x.gapFrom.getD f0) s.rru.f

/-- R370, R374, R378: an ARMED set starts at a frame boundary. -/
def runSet (set : Nat) (s : State) : State :=
  let x := getSet s set
  match x.st, x.start with
  | .armed, some f0 =>
    if s.rru.rpValid ∧ f0 ≤ s.rru.f then
      let s := s.onPat fun p => { p with owed := p.owed ++ setOwes s set f0 }
      let s := modSet set (fun x => { x with st := .running, nextFirst := s.rru.f, gapFrom := none, gapTo := none, gapFlags := 0 }) s
      raise 0x0604 [.h set, .w s.rru.f] (openInterval set s)
    else s
  | _, _ => s

/-- R372, R374: a set opens the intervals that have begun, at most two at a time; a STOPPING set those before its stop frame. -/
def fillIntervals (set : Nat) (s : State) : State :=
  let x := getSet s set
  if (x.st = .running ∨ (x.st = .stopping ∧ x.nextFirst < x.stopF)) ∧ x.nextFirst ≤ s.rru.f ∧ x.ivls.length < 2 then
    openInterval set s
  else s

/-- R374: a RUNNING set stops at the frame in progress. -/
def stopSet (set : Nat) (s : State) : State :=
  let f := s.rru.f
  if (getSet s set).st = .running then
    modSet set (fun x => { x with
      st := .stopping, stopF := f, gapFrom := some f,
      ivls := (x.ivls.filter fun i => decide (i.first < f)).map fun i => { i with frames := min i.frames (f - i.first) } }) s
  else s

/-- R372: a frame has closed for every lane that feeds a set. -/
def frameClosedFor (s : State) (set frame : Nat) : Bool :=
  decide (frame < s.rru.f) && (List.range 4).all fun m => !feeds s set m || decide (frame < (getLane s m).openFrame)

/-- R372, R374: the oldest interval of a set closes when its frames have closed, and a STOPPING set stops after the last. -/
def closeDue (set : Nat) (s : State) : State :=
  let x := getSet s set
  if !x.st.accumulates then s
  else match x.ivls with
    | iv :: _ => if frameClosedFor s set (iv.first + iv.frames - 1) then closeInterval set iv 0 false s else s
    | [] =>
      if x.st = .stopping ∧ (x.stopF = 0 ∨ (x.stopF ≤ x.nextFirst ∧ frameClosedFor s set (x.stopF - 1))) then
        raise 0x0605 [.h set, .w x.stopF] (modSet set (fun x => { x with st := .stopped }) s)
      else s

/-- R372: every interval and set that is due closes, and the intervals that have begun open. -/
def settleSets (s : State) : State :=
  forEach (liveSets s) (fun n t =>
    fillIntervals n (closeDue n (closeDue n (fillIntervals n (closeDue n (fillIntervals n t)))))) s

/-- R374, R376, R400: sleep or a power-fail warning closes the open intervals of the sets that accumulate, TRUNCATED where a frame of
theirs has not closed; these sets are OFF. -/
def truncateSets (s : State) : State :=
  let s := forEach ((liveSets s).filter fun n => (getSet s n).st.accumulates) (fun n t =>
    let t := forEach (getSet t n).ivls (fun iv u =>
      let whole := frameClosedFor u n (iv.first + iv.frames - 1)
      let iv' := if whole then iv else { iv with frames := max 1 (min iv.frames (u.rru.f + 1 - iv.first)) }
      let u := modSet n (fun x => { x with ivls := x.ivls.map fun i => if i.first = iv.first then iv' else i }) u
      closeInterval n iv' (if whole then 0 else flagTruncated) false u) t
    modSet n (fun x => { x with st := .off, start := none, ivls := [] }) t) s
  finishHandoffs s

/-- R378: the frames that a set owes an empty result for end with a sleep command. -/
def sleepGaps (s : State) : State :=
  forEach (liveSets s ++ (s.pat.sets.filter fun p => p.2.st == .off).map Prod.fst) (fun n t => modSet n (fun x =>
    let from' := x.gapFrom.or (if x.st = .armed then x.start else none)
    { x with gapFrom := from', gapTo := x.gapTo.or (from'.map fun _ => s.rru.f) }) t) s

/-- R374, R378, R399: a level-2 restart or HOLD discards the open intervals; every set is OFF and owes an empty result. -/
def discardSets (restarted : Bool) (s : State) : State :=
  forEach (liveSets s) (fun n t =>
    modSet n (fun x =>
      let owed := match x.st, x.ivls with
        | .armed, _ => x.gapFrom
        | _, iv :: _ => some iv.first
        | .running, [] => some x.nextFirst
        | _, [] => x.gapFrom
      { x with st := .off, start := none, ivls := [], handing := [], gapFrom := owed, gapTo := none, gapFlags := bif restarted then flagRestarted else 0 }) t) s

/-- R377: flags that owe to the head's own conditions, or to a lane, are kept while an interval may need them. -/
def pruneNotes (s : State) : State :=
  let oldest := s.pat.sets.foldl (fun m p =>
    if p.2.st.accumulates then min m (match p.2.ivls with | i :: _ => i.first | [] => p.2.nextFirst) else m) s.rru.f
  if s.exs.notes.all fun n => decide (oldest ≤ n.last) then s
  else s.onExs fun x => { x with notes := x.notes.filter fun n => decide (oldest ≤ n.last) }

/-- R377: a condition of the head that holds now reaches every interval that has begun. -/
def noteHead (flags : Nat) (s : State) : State :=
  let f := s.rru.f
  if flags = 0 ∨ s.exs.notes.any (fun n => n.lane == 4 && n.flags == flags && n.last == f) then s
  else if s.exs.notes.any (fun n => n.lane == 4 && n.flags == flags && n.last + 1 == f) then
    s.onExs fun x => { x with notes := x.notes.map fun n =>
      if n.lane = 4 ∧ n.flags = flags ∧ n.last + 1 = f then { n with last := f } else n }
  else noteFlags 4 f f flags s

/-! ## Writes and reads of block PAT and of the windows -/

/-- R353, R354: a write to a word of a window entry. -/
def writeWindow (a : Nat) (v : Word) (s : State) : WriteResult × State :=
  let w := (a - 0x10000000) / 16
  let k := a % 16 / 4
  let keep : Word := match k with | 0 => 0xCFFF00FF | 1 => 0x3FFF7FFF | 2 => 0x3FFF7FFF | _ => 0
  let v := v &&& keep
  let old := (memWord s (winAddr w)).toNat
  let named := if k = 0 then v.toNat % 256 else old % 256
  let busy := !(getSet s (old % 256)).st.idle || !(getSet s named).st.idle
  if poolBase ≤ w ∨ busy then (.event 0x0608, raise 0x0608 [.w a] s)
  else
    let t := setMemWord a v s
    let w0 := (memWord t (winAddr w)).toNat
    let bad := w0.testBit 31 && (w0.testBit 30 || w0 / 65536 % 4096 != 0 || !(getWindow t w).inRange)
    if bad then (.event 0x060A, raise 0x060A [.w a] s) else (.ok, t)

/-- R402: a write to a register of the block. -/
def writePat (a : Nat) (v : Word) (s : State) : WriteResult × State :=
  if a = A.PAT_CTRL then (.ok, if v.getLsbD 0 then setRaw A.PAT_CNT 0 s else s)
  else if 0x61000 ≤ a ∧ a < 0x62000 ∧ a % 16 = 0 then
    if (getSet s ((a - 0x61000) / 16)).st.idle then (.ok, plainWrite a v s) else rejectWrite 0x0608 a s
  else (.ok, plainWrite a v s)

/-- The state code of a set. -/
def SetState.code : SetState → Nat
  | .off => 0
  | .armed => 1
  | .running => 2
  | .stopping => 3
  | .stopped => 4

/-- R394: the STATE of a slice. -/
def sliceState (s : State) (i : Nat) : Nat :=
  match (s.pat.slices.getD i {}).resetTb with
  | some t => if s.now < t + 2500 then 2 else bit (s.exs.lanes.any fun l => l.st == .running || l.st == .draining)
  | none => bit (s.exs.lanes.any fun l => l.st == .running || l.st == .draining)

/-- R357 to R402: the words of the block that the state holds elsewhere. -/
def readPat (s : State) (a : Nat) : Option Word :=
  if a = A.PAT_STATUS then
    some (BitVec.ofNat 32 ((s.pat.sets.filter fun p => p.2.st == .running).length * 2 ^ 23 + (planWindows s []).length))
  else if a = A.PAT_TW then some (BitVec.ofNat 32 ((windowIds s).filter fun w => poolBase ≤ w).length)
  else if a = A.PAT_DOSE_RATE then some (BitVec.ofNat 32 (min 0xFFFFFFFF s.pat.doseRate))
  else if a = A.PAT_DOSE_INC then some (BitVec.ofNat 32 (min 0xFFFFFFFF s.pat.doseInc))
  else if 0x60100 ≤ a ∧ a < 0x60140 then
    let i := (a - 0x60100) / 4
    some (BitVec.ofNat 32 ((s.pat.slices.getD i {}).commits.toNat * 65536 + getF s (R.PAT_SLICE_STATUS_MAX_SEG i) * 256 +
      sliceState s i))
  else if 0x61000 ≤ a ∧ a < 0x62000 then
    let n := (a - 0x61000) / 16
    let x := getSet s n
    let newest := (x.ivls.getLast?.map Interval.first).getD 0
    match a % 16 with
    | 4 => some (BitVec.ofNat 32 (x.st.code * 2 ^ 29 + bit ((x.ivls.getLast?.map Interval.buf).getD false) * 2 ^ 28 +
        x.ivls.length * 2 ^ 26 + ((windows s).filter fun w => w.set == n).length))
    | 8 => some (BitVec.ofNat 32 newest)
    | 12 => some (BitVec.ofNat 32 (newest / 2 ^ 32 % 256))
    | _ => none
  else none

end Sys2Proof.Machine
end

