-- ==== Sys2Proof/Machine/Cartridge.lean ====
section
/-! DEFINITION. Chapter 9: the optical cartridge: its states, the measurement gate, slider and shutter, life counters and
checkpoints, and the registers of block CTG. -/

namespace Sys2Proof.Machine

/-! ## Life (R467 to R470) -/

/-- R461: the limit of counter n, 0 for none. -/
def lifeLimit (s : State) (n : Nat) : Nat :=
  let v := s.ctg.id.limits.getD n 0
  if v = 0 then (if n = 5 then 2000000 else if n = 6 then 500000 else 0) else v

/-- R468: the life of counter n in 0.01 %. -/
def lifeOf (s : State) (n : Nat) : Nat :=
  let l := lifeLimit s n
  if l = 0 then 0 else s.ctg.counters.getD n 0 * 10000 / l

/-- R468: LIFE before it saturates. -/
def life (s : State) : Nat := ((List.range 7).map (lifeOf s)).foldl max 0

/-- R469: events of a counter that has crossed a threshold. -/
def lifeEvents (n : Nat) (s : State) : State :=
  let s := if 9500 ≤ lifeOf s n ∧ !s.ctg.warned.contains n then
      raise 0x0805 [.h n, .h (min 65535 (life s))] (s.onCtg fun c => { c with warned := c.warned ++ [n] }) else s
  if 10000 ≤ lifeOf s n ∧ !s.ctg.expired.contains n then
    raise 0x0806 [.h n] (s.onCtg fun c => { c with expired := c.expired ++ [n] }) else s

/-- R467: a life counter counts; an absent cartridge has none. -/
def countLife (n v : Nat) (s : State) : State :=
  if s.ctg.st = .absent ∨ v = 0 then s
  else lifeEvents n (s.onCtg fun c => { c with counters := c.counters.modify n (satAdd (if n < 5 then 64 else 32) v) })

/-- R469: CTG_WARN and CTG_EXPIRED as the counters of the seated cartridge have them. -/
def lifeFlags (s : State) : Nat :=
  if s.ctg.st = .absent then 0
  else if 10000 ≤ life s then flagCtgWarn + flagCtgExpired else if 9500 ≤ life s then flagCtgWarn else 0

/-- R469, R470: the flags that results take now; the gap results of an expiry under STOP carry both until the gate may reopen. -/
def ctgFlags (s : State) : Nat := if s.ctg.stopClosed then flagCtgWarn + flagCtgExpired else lifeFlags s

/-! ## The measurement gate (R451 to R453) -/

/-- R451: the conditions of the gate, apart from expiry. -/
def gateConditions (s : State) : Bool := s.ctg.st == .ready && !s.ctg.moving && !s.ctg.settling && !s.ctg.stopClosed

/-- R452: the gate closes, and every open instance is abandoned apart from reads in progress; the abandonment takes its effect
at once, as log entry 80 says. -/
def closeGate (s : State) : State :=
  if s.ctg.gate then
    let s := s.onCtg fun c => { c with gate := false }
    let s := abandonInsts (fun _ => true) s
    forEach (s.exs.bookings.filter fun b => !b.reading) abandonBooking s
  else s

/-- R453, R470: the gate at a frame boundary; an expiry under policy STOP stays in force while no cartridge is READY. -/
def gateBoundary (s : State) : State :=
  let stop := flagF s R.CTG_CTRL_POLICY && (if s.ctg.st = .ready then decide (10000 ≤ life s) else s.ctg.stopClosed)
  let s := s.onCtg fun c => { c with stopClosed := stop }
  if gateConditions s then s.onCtg fun c => { c with gate := true } else closeGate s

/-! ## Shutter (R449) -/

/-- R449, R476, R479: the shutter is to be closed. -/
def wantsClosed (s : State) : Bool :=
  s.ctg.calHolds || flagF s R.CTG_CTRL_SHUT || !s.head.applied || s.head.st == .hold || s.head.st == .sleep

/-- R449, R457: the shutter is driven to the state it is to have, and each close counts; it opens only on an authentic cartridge
(log entry 80). -/
def driveShutter (s : State) : State :=
  let want := wantsClosed s || !(s.ctg.st == .homing || s.ctg.st == .ready)
  if s.ctg.st = .absent ∨ want = s.ctg.shutCmd then s
  else if s.ctg.st = .fault then s
  else
    let s := s.onCtg fun c => { c with shutCmd := want, shutTb := s.now }
    if want then countLife 5 1 (s.onPat fun p => { p with lastNum := 0, lastDen := 1 }) else s

/-! ## States (R457) -/

/-- R457: the cartridge is faulty. -/
def ctgFault (s : State) : State := closeGate (s.onCtg fun c => { c with st := .fault, moving := false, settling := false })

/-- R457: homing ends when the slider and the shutter are where they are to be. -/
def homed (s : State) : State :=
  if s.ctg.st = .homing ∧ !s.ctg.moving ∧ s.ctg.shutClosed = s.ctg.shutCmd then
    let s := s.onCtg fun c => { c with st := .ready, ckptTb := s.now, ckptRetry := none }
    let s := if life s < 10000 then s.onCtg fun c => { c with stopClosed := false } else s
    raise 0x0803 [.h s.ctg.id.ctype.toNat, .q s.ctg.id.serial.toNat] s
  else s

/-- R457: the header, the limits and the certificate are read. -/
def startReading (s : State) : State :=
  s.onCtg fun c => { c with st := .reading, mem := [], id := {}, specBad := false, dateUnchecked := false }

/-- R456, R476: a seated cartridge is taken up once firmware runs. -/
def takeUpCartridge (s : State) : State :=
  if s.ctg.contact ∧ s.ctg.st = .absent ∧ s.head.fwReady ∧ !s.sup.dieDown ∧ !asleep s then
    startReading (raise 0x0801 [] s)
  else s

/-- R456: the presence contact has held for 500 ms. -/
def doCtgInserted (s : State) : State :=
  if s.ctg.contact then s else takeUpCartridge (s.onCtg fun c => { c with contact := true })

/-- R471: the counters of a cartridge that leaves are kept. -/
def rememberCartridge (s : State) : State :=
  if s.ctg.st = .homing ∨ s.ctg.st = .ready ∨ s.ctg.st = .fault then
    s.onCtg fun c => { c with memo :=
      (⟨c.id.serial, c.counters⟩ :: c.memo.filter fun m => m.serial != c.id.serial).take 4 }
  else s

/-- R455, R475: a cartridge is gone. -/
def removeCartridge (s : State) : State :=
  let counted := s.ctg.st == .homing || s.ctg.st == .ready || s.ctg.st == .fault
  let s := closeGate s
  let s := raise 0x0802 [.q s.ctg.id.serial.toNat] s
  let s := if counted then askStore .norProgram .journal (rememberCartridge s) else s
  let s := freeLease 6 (endStore .checkpoint (dropStore .checkpoint s))
  s.onCtg fun c => { c with st := .absent, id := {}, mem := [], moving := false, settling := false, moveReq := false,
                            shutClosed := true, shutCmd := true, specBad := false, dateUnchecked := false,
                            counters := List.replicate 7 0, warned := [], expired := [], ckptRetry := none }

/-- R455, R478: the presence contact opens. -/
def ctgContactOpens (s : State) : State :=
  let s := s.onCtg fun c => { c with contact := false }
  if s.ctg.st = .absent ∨ s.sup.dieDown ∨ asleep s then s else removeCartridge s

/-! ## Identity memory and authentication (R460 to R466) -/

/-- R460: bytes of the copy of the identity memory. -/
def ctgBytes (m : List Host.Cell) (a n : Nat) : List Byte := Mem.readBytes erased m a n

/-- R460: an area's CRC-32 matches. -/
def ctgCrcOk (m : List Host.Cell) (a n : Nat) : Bool :=
  beNat (ctgBytes m (a + n) 4) == (crc32 (ctgBytes m a n)).toNat

/-- R457: the first region that fails the checks of READING: 0 header, 1 limits, 3 certificate. -/
def badRegion (m : List Host.Cell) : Option Nat :=
  let head := ctgCrcOk m 0 60 && ctgBytes m 0 4 == [0x4C, 0x43, 0x54, 0x47] && beNat (ctgBytes m 4 2) == 1
  if !head then some 0 else if !ctgCrcOk m 0x400 60 then some 1 else if !ctgCrcOk m 0x200 508 then some 3 else none

/-- R460: what the head takes from the header, the certificate and the limits. -/
def ctgIdOf (m : List Host.Cell) : CtgId :=
  { format := BitVec.ofNat 16 (beNat (ctgBytes m 4 2)), ctype := BitVec.ofNat 16 (beNat (ctgBytes m 6 2)),
    serial := BitVec.ofNat 64 (beNat (ctgBytes m 8 8)), validFrom := beNat (ctgBytes m 0x240 4),
    validTo := beNat (ctgBytes m 0x244 4),
    limits := ((List.range 5).map fun p => beNat (ctgBytes m (0x400 + 8 * p) 8)) ++
      [beNat (ctgBytes m 0x428 4), beNat (ctgBytes m 0x42C 4)] }

/-- R457, R462, R463: the reads complete. -/
def doCtgReadComplete (mem : List (Nat × Byte)) (s : State) : State :=
  if s.ctg.st != .reading then s
  else
    let mem := Mem.normal erased mem
    let s := s.onCtg fun c => { c with mem := mem, id := ctgIdOf mem }
    match badRegion mem with
    | some r => raise 0x080C [.h r] (s.onCtg fun c => { c with st := .rejected })
    | none =>
      let s := if ctgCrcOk mem 0x1000 0xFFC then s
        else raise 0x080C [.h 2] (s.onCtg fun c => { c with specBad := true })
      let (x, s) := takeFree s
      s.onCtg fun c => { c with st := .auth, challenge := x, stepTb := s.now }

/-- R457, R466: authentication fails. -/
def authFail (cause : Nat) (s : State) : State :=
  raise 0x0804 [.h cause] (addF R.CTG_CNT_AUTH_FAIL 1 (s.onCtg fun c => { c with st := .rejected }))

/-- R465: today in days since 2000-01-01. -/
def todDays (s : State) : Nat := s.tmb.todSec.toNat / 86400 - 10957

/-- Counters of which nothing is known (log entry 4). -/
def freeCounters (s : State) : List Nat × State :=
  (List.range 7).foldl (fun (acc : List Nat × State) n =>
    let (x, t) := takeFree acc.2
    (acc.1 ++ [x.toNat % 2 ^ (if n < 5 then 64 else 32)], t)) ([], s)

/-- R471: the counters of the record in the cartridge; a record whose check word fails states none (log entry 4). -/
def ctgRecord (s : State) : List Nat × Nat × State :=
  let m := s.ctg.mem
  if ctgCrcOk m 0xF000 52 then
    (((List.range 5).map fun p => beNat (ctgBytes m (0xF000 + 8 * p) 8)) ++
      [beNat (ctgBytes m 0xF028 4), beNat (ctgBytes m 0xF02C 4)], beNat (ctgBytes m 0xF030 4), s)
  else
    let (l, s) := freeCounters s
    let (q, s) := takeFree s
    (l, q.toNat % 2 ^ 32, s)

/-- R447, R457, R458: the slider starts to move. -/
def startMove (pos : Nat) (s : State) : State :=
  let s := s.onCtg fun c => { c with moving := true, settling := false, target := pos, moveReq := false, moveTb := s.now }
  let s := s.onPat fun p => { p with lastNum := 0, lastDen := 1 }
  countLife 6 1 (closeGate s)

/-- R457, R470, R471: the signature is valid: the counters are merged, none decreases, and the slider homes. -/
def startHoming (s : State) : State :=
  let (rec, seq, s) := ctgRecord s
  let kept := ((s.ctg.memo.find? fun m => m.serial == s.ctg.id.serial).map CtgMemo.counters).getD []
  let s := s.onCtg fun c => { c with
    st := .homing, counters := rec.mapIdx (fun n v => max (max v (kept.getD n 0)) (c.counters.getD n 0)), stored := rec,
    sequence := BitVec.ofNat 32 seq, stepTb := s.now }
  let s := s.onCtg fun c => { c with
    warned := (List.range 7).filter fun n => 9500 ≤ lifeOf s n
    expired := (List.range 7).filter fun n => 10000 ≤ lifeOf s n }
  driveShutter (startMove (getF s R.CTG_FILTER_POS) s)

/-- R457, R464, R465: the secure element's answer is verified; `certOk` and `sigOk` say what the two signatures verify to. An answer
after 100 ms is none. Outside LOCKED and HOLDOVER the dates are skipped (log entry 80). -/
def doCtgAuthReply (certOk sigOk : Bool) (s : State) : State :=
  if s.ctg.st != .auth then s
  else if s.ctg.stepTb + 100 * milli < s.now then authFail 3 s
  else
    let dated := s.tmb.todState == .locked || s.tmb.todState == .holdover
    let valid := s.ctg.id.validFrom ≤ todDays s && todDays s ≤ s.ctg.id.validTo
    if !certOk then authFail 0 s
    else if dated && !valid then authFail 1 s
    else if !sigOk then authFail 2 s
    else startHoming (s.onCtg fun c => { c with dateUnchecked := !dated })

/-- R457: no answer within 100 ms. -/
def doCtgAuthTimeout (s : State) : State :=
  if s.ctg.st = .auth ∧ s.ctg.stepTb + 100 * milli ≤ s.now then authFail 3 s else s

/-- R457: not in position within 500 ms of homing. -/
def doCtgHomingTimeout (s : State) : State :=
  if s.ctg.st = .homing ∧ s.ctg.stepTb + 500 * milli ≤ s.now then raise 0x080A [.h s.ctg.target] (ctgFault s) else s

/-! ## Slider and shutter movements -/

/-- R447, R448: a requested move starts at a frame boundary. -/
def moveBoundary (s : State) : State :=
  if s.ctg.moveReq ∧ s.ctg.st = .ready ∧ !s.ctg.moving ∧ s.cal.phase = .idle then startMove (getF s R.CTG_FILTER_POS) s else s

/-- R457: the slider reports its target position. -/
def doSliderInPosition (s : State) : State :=
  if s.ctg.moving then
    homed (s.onCtg fun c => { c with moving := false, settling := true, pos := c.target, inPosTb := s.now })
  else s

/-- R451: the slider has settled for 2 ms. -/
def doSliderSettled (s : State) : State :=
  if s.ctg.settling ∧ s.ctg.inPosTb + 2 * milli ≤ s.now then s.onCtg fun c => { c with settling := false } else s

/-- R480: the time that a move may take. -/
def moveLimit (s : State) : Nat :=
  (40 + 20 * (max s.ctg.pos s.ctg.target - min s.ctg.pos s.ctg.target)) * milli

/-- R457: the slider does not report in time. -/
def doFilterFault (s : State) : State :=
  if s.ctg.st = .ready ∧ s.ctg.moving ∧ s.ctg.moveTb + moveLimit s ≤ s.now then
    raise 0x080A [.h s.ctg.target] (ctgFault s)
  else s

/-- R449: the shutter reports its commanded state. -/
def shutterReported (s : State) : State :=
  if s.ctg.st != .absent ∧ s.ctg.shutClosed != s.ctg.shutCmd then
    homed (s.onCtg fun c => { c with shutClosed := c.shutCmd, shutRepTb := s.now })
  else s

/-- R457: the shutter has failed to report in time. -/
def shutterLate (s : State) : Bool :=
  s.ctg.st == .ready && s.ctg.shutClosed != s.ctg.shutCmd && decide (s.ctg.shutTb + 25 * milli ≤ s.now)

/-- R457: the shutter fails. -/
def shutterFails (s : State) : State := raise 0x0809 [.h (bit s.ctg.shutCmd)] (ctgFault s)

/-! ## Checkpoints (R472 to R475) -/

/-- R473: a periodic checkpoint is deferred. -/
def deferCheckpoint (cause : Nat) (s : State) : State :=
  let first := !s.ctg.ckptLogged
  let s := freeLease 6 (addF R.CTG_CNT_CKPT_FAIL 1 (dropStore .checkpoint s))
  let s := s.onCtg fun c => { c with ckptRetry := some s.now, ckptLogged := true }
  if first then raise 0x0807 [.h cause] s else s

/-- R472, R474: the counters are sent with the start of the operation. -/
def checkpointStarts (s : State) : State := s.onCtg fun c => { c with ckptSent := c.counters }

/-- R472: the counters are to be sent to the cartridge. -/
def askCheckpoint (s : State) : State :=
  if s.ctg.st != .ready then s
  else if !leaseOpen s 6 8 then deferCheckpoint 1 s
  else askStore .checkpoint .checkpoint (takeLease 6 8 s)

/-- R472, R473: a checkpoint, or its retry, is due. -/
def checkpointDue (s : State) : Bool :=
  !storeRuns s .checkpoint && !storeAsked s .checkpoint &&
    match s.ctg.ckptRetry with
    | some t => decide (t + second ≤ s.now)
    | none => decide (s.ctg.ckptTb + 60 * second ≤ s.now)

/-- R472, R477: the checkpoint period or the retry time has passed. -/
def doCtgCheckpointDue (s : State) : State :=
  if s.ctg.st = .ready ∧ checkpointDue s ∧ s.pwr.pf = .normal ∧ !s.sup.coreDown ∧ !s.head.coreRestart then askCheckpoint s else s

/-- R474: the secure element accepts a checkpoint, or refuses it with its stored counters. -/
def doCtgCheckpointReply (accepted : Bool) (stored : List Nat) (s : State) : State :=
  if !storeRuns s .checkpoint then s
  else
    let s := endStore .checkpoint s
    if accepted then
      freeLease 6 (s.onCtg fun c => { c with stored := c.ckptSent, sequence := c.sequence + 1, ckptTb := s.now,
                                             ckptRetry := none, ckptLogged := false })
    else
      let lower := (List.range 7).filter fun n => s.ctg.ckptSent.getD n 0 < stored.getD n 0
      let s := s.onCtg fun c => { c with counters := c.counters.mapIdx fun n v => max v (stored.getD n 0) }
      let s := forEach lower (fun n t => lifeEvents n (raise 0x0808 [.h n] t)) s
      askCheckpoint s

/-! ## Writes and reads of block CTG -/

/-- R457, R470: RETRY leaves REJECTED or FAULT; the counters of a cartridge in FAULT are kept by SERIAL, so that none decreases. -/
def retryCartridge (s : State) : State :=
  if s.ctg.contact ∧ (s.ctg.st = .rejected ∨ s.ctg.st = .fault) then startReading (rememberCartridge s) else s

/-- R447, R449, R457: a write to a register of the block. -/
def writeCtg (a : Nat) (v : Word) (s : State) : WriteResult × State :=
  if a = A.CTG_CTRL then
    let s := driveShutter (plainWrite a v s)
    (.ok, if v.getLsbD 3 then retryCartridge s else s)
  else if a = A.CTG_FILTER then
    if 4 < v.toNat % 8 then rejectWrite 0x080B a s
    else
      let s := plainWrite a v s
      let held := if s.ctg.moving then s.ctg.target else s.ctg.pos
      (.ok, s.onCtg fun c => { c with moveReq := decide (v.toNat % 8 ≠ held) })
  else (.ok, plainWrite a v s)

/-- The state code of the cartridge. -/
def CtgState.code : CtgState → Nat
  | .absent => 0
  | .reading => 1
  | .auth => 2
  | .homing => 3
  | .ready => 4
  | .rejected => 5
  | .fault => 6

/-- R463: four bytes of the copy at `CTG_MEM_ADDR`. -/
def ctgMemWord (s : State) : Word :=
  BitVec.ofNat 32 (beNat (ctgBytes s.ctg.mem (getF s R.CTG_MEM_ADDR_A / 4 * 4) 4))

/-- R463: a read of `CTG_MEM_DATA` adds 4 to the address. -/
def stepMemAddr (s : State) : State := setF R.CTG_MEM_ADDR_A (getF s R.CTG_MEM_ADDR_A + 4) s

/-- R457 to R472: the words of the block that the state holds elsewhere. -/
def readCtg (s : State) (a : Nat) : Option Word :=
  let n := a % 0x100 / 8
  if a = A.CTG_STATUS then
    let c := s.ctg
    let fl := lifeFlags s
    some (BitVec.ofNat 32 (c.st.code * 2 ^ 29 + bit c.gate * 2 ^ 28 + bit c.shutClosed * 2 ^ 27 +
      bit (c.moving || c.settling) * 2 ^ 26 + c.pos * 2 ^ 23 + bit (fl.testBit 6) * 2 ^ 22 + bit (fl.testBit 7) * 2 ^ 21 +
      bit c.ckptRetry.isSome * 2 ^ 20 + bit c.specBad * 2 ^ 19 + bit c.dateUnchecked * 2 ^ 18 +
      (if c.st = .absent then 0 else min 65535 (life s))))
  else if a = A.CTG_TYPE then some (s.ctg.id.ctype ++ s.ctg.id.format)
  else if a = A.CTG_SERIAL_LO then some (s.ctg.id.serial.extractLsb' 0 32)
  else if a = A.CTG_SERIAL_HI then some (s.ctg.id.serial.extractLsb' 32 32)
  else if a = A.CTG_CKPT_AGE then some (BitVec.ofNat 32 (min 0xFFFFFFFF ((s.now - s.ctg.ckptTb) / second)))
  else if 0x80100 ≤ a ∧ a < 0x80138 then
    some (BitVec.ofNat 32 (s.ctg.counters.getD n 0 / (if a % 8 = 4 then 2 ^ 32 else 1)))
  else if 0x80200 ≤ a ∧ a < 0x80238 then
    some (BitVec.ofNat 32 (lifeLimit s n / (if a % 8 = 4 then 2 ^ 32 else 1)))
  else if a = A.CTG_MEM_DATA then some (ctgMemWord s)
  else none

end Sys2Proof.Machine
end

