-- ==== Sys2Proof/Machine/Pulses.lean ====
section
/-! DEFINITION. What the tracker and the trigger engines share: the raster position of a time, the engine cycles, the pulse
pins and the shared flags. -/

namespace Sys2Proof.Machine

/-! ## Raster position of a time -/

/-- R10: a raster position. -/
structure RasterPos where
  f : Nat
  l : Nat
  phi : Nat
  deriving DecidableEq, Repr

/-- R10: the measured line period, or the configured one before a measurement. -/
def linePer (s : State) : Nat := if s.rru.measLper = 0 then linePeriod s else s.rru.measLper

/-- R505, R539: the raster position of a time in 1/16 TB that is not after this tick; zeros while no position is valid. -/
def posAt (s : State) (t : Nat) : RasterPos :=
  let lper := linePer s
  let line := s.rru.lineAt
  let t := 16384 * t
  if !s.rru.rpValid ∨ lper = 0 then ⟨0, 0, 0⟩
  else if line ≤ t then ⟨s.rru.f, s.rru.l, min 65535 ((t - line) * 65536 / lper)⟩
  else
    let d := line - t
    let k := (d + lper - 1) / lper
    let phi := (k * lper - d) * 65536 / lper
    if k ≤ s.rru.l then ⟨s.rru.f, s.rru.l - k, phi⟩
    else ⟨(s.rru.f + 2 ^ 40 - 1) % 2 ^ 40, s.rru.lastTl - (k - s.rru.l), phi⟩

/-! ## Engine cycles and pulse pins (R516, R525) -/

/-- R516: the engine cycle of thread t's slot in this tick; cycle 0 is the first cycle of TB 0. -/
def slotCycle (s : State) (t : Nat) : Nat := 2 * s.now + t % 2

/-- R516: this tick holds thread t's slot. -/
def slotOpen (s : State) (t : Nat) : Bool := s.now % 8 == t / 2

/-- Changes one engine. -/
def modEngine (e : Nat) (f : Engine → Engine) : State → State := State.onTge fun x => { x with engines := x.engines.modify e f }

/-- One engine. -/
def getEngine (s : State) (e : Nat) : Engine := s.tge.engines.getD e {}

/-- R525: pulse pin 20 + k reads 1 in an engine cycle. -/
def pulseHigh (x : Engine) (k cycle : Nat) : Bool :=
  match x.pulses.getD k none with
  | some c => decide (c < cycle) && decide (cycle ≤ c + 16)
  | none => false

/-- R525: an event of pulse pin 20 + k in this tick; one less than 16 cycles after the last makes no further pulse. -/
def pulse (e k : Nat) (s : State) : State :=
  let c := 2 * s.now
  let fresh := match (getEngine s e).pulses.getD k none with
    | some p => decide (p + 16 ≤ c)
    | none => true
  if fresh then modEngine e (fun x => { x with pulses := x.pulses.set k (some c) }) s else s

/-- R524: a crossing of a tracker reaches the engines that selected it. -/
def crossingPulses (k : Nat) (s : State) : State :=
  forEach (List.range 4) (fun e s => forEach (List.range 4) (fun n s =>
    let b := (rawReg s (A.TGE_ENG_XING e)).toNat / 2 ^ (8 * n) % 256
    if b.testBit 7 ∧ b % 64 = k then pulse e (4 + n) s else s) s) s

/-- R524: a match of a compare channel reaches the engines that selected it. -/
def timerPulses (k : Nat) (s : State) : State :=
  forEach (List.range 4) (fun e s =>
    let s := if getF s (R.TGE_ENG_CTRL_TMR_A_CH e) = k then pulse e 2 s else s
    if getF s (R.TGE_ENG_CTRL_TMR_B_CH e) = k then pulse e 3 s else s) s

/-- R524: the pulses of the raster outputs OUT1 to OUT4 reach the engines. -/
def linePulses (s : State) : State :=
  forEach (List.range 4) (fun e s => if s.rru.outPulse.getLsbD (1 + e) then pulse e 0 s else s) s

/-- R524: a raster frame boundary reaches the engines. -/
def framePulses (s : State) : State := forEach (List.range 4) (fun e s => pulse e 1 s) s

/-! ## Shared flags (R530, R531) -/

/-- R531: the shared flags after the writes of engine cycle `cyc`. -/
def sharedFlags (s : State) : BitVec 128 :=
  let g := s.tge
  let hit := g.fSet ||| g.fClr ||| g.fTogged
  let steward := ((g.flags ||| (g.wSet &&& ~~~hit)) &&& ~~~(g.wClr &&& ~~~hit))
  let moved := (steward ^^^ (g.fTog &&& ~~~(g.fSet ||| g.fClr))) &&& ~~~g.fClr
  moved ||| g.fSet

/-- R517: the shared flags as a thread reads them in an engine cycle. -/
def flagsAt (s : State) (cycle : Nat) : BitVec 128 := if s.tge.cyc < cycle then sharedFlags s else s.tge.flags

/-- R517: the writes of earlier cycles have taken effect. -/
def openCycle (cycle : Nat) (s : State) : State :=
  if s.tge.cyc < cycle then
    let v := sharedFlags s
    s.onTge fun g => { g with flags := v, cyc := cycle, fSet := 0, fClr := 0, fTog := 0, fTogged := 0, wSet := 0, wClr := 0 }
  else s

/-- R533: a FLAG action of a thread in an engine cycle: 1 set, 2 clear, 3 toggle. -/
def threadFlag (act f cycle : Nat) (s : State) : State :=
  let s := openCycle cycle s
  let m : BitVec 128 := 1#128 <<< f
  match act with
  | 1 => s.onTge fun g => { g with fSet := g.fSet ||| m }
  | 2 => s.onTge fun g => { g with fClr := g.fClr ||| m }
  | _ => s.onTge fun g => { g with fTog := g.fTog ^^^ m, fTogged := g.fTogged ||| m }

/-- R530: the steward sets or clears flags; the later of two writes in a cycle stands. -/
def stewardFlags (clear : Bool) (m : BitVec 128) (s : State) : State :=
  let s := openCycle (2 * s.now) s
  if clear then s.onTge fun g => { g with wClr := g.wClr ||| m, wSet := g.wSet &&& ~~~m }
  else s.onTge fun g => { g with wSet := g.wSet ||| m, wClr := g.wClr &&& ~~~m }

end Sys2Proof.Machine
end

