-- ==== Sys2Proof/Machine/Calib.lean ====
section
/-! DEFINITION. Chapter 8: the calibration set and its corrections, due state, runs, the column check, storage and the
registers of block CAL. -/

namespace Sys2Proof.Machine

/-! ## The active set and its use (R405 to R409) -/

/-- R405: sensor columns. -/
def columns : Nat := 20480

/-- R313: the ratio G that the head uses for a column of a bank, in 1/4,096. -/
def usedRatio (s : State) (bank x : Nat) : Nat :=
  if s.cal.active.ratioOk then max 0x4800 (min 0x5800 (Tbl.getD s.cal.active.ratio (columns * bank + x) 0x5000)) else 0x5000

/-- R407: the sensor pixels of a shared unit, or the pixel itself. -/
def unitPixels (binned : Bool) (x y : Nat) : List Nat :=
  if binned then [columns * y + x, columns * y + x + 1, columns * (y + 1) + x, columns * (y + 1) + x + 1]
  else [columns * y + x]

/-- R223: the nearest integer of a fraction, halves up. -/
def roundDiv (n d : Int) : Int := (2 * n + d) / (2 * d)

/-- R218: a sample limited to 1 to 4,095. -/
def limitSample (v : Int) : Int := max 1 (min 4095 v)

/-- R406, R407: a sample of a gain (0 HCG, 1 LCG) of the pixel whose top-left sensor pixel is (x, y), corrected. -/
def correct (s : State) (bank gain : Nat) (binned : Bool) (x y len : Nat) (p : Px) : Px :=
  match p with
  | .val v =>
    let set := s.cal.active
    let ped : Int := getF s R.CRO_LEVELS_PEDESTAL
    let px := unitPixels binned x y
    let n : Int := px.length
    let o : Int := px.foldl (fun a i => a + Tbl.getD (if gain = 0 then set.ofsH else set.ofsL) i 0) 0
    let d : Nat := px.foldl (fun a i => a + Tbl.getD set.rate i 0) 0
    let k : Nat := Tbl.getD set.cgain ((2 * bank + gain) * columns + x) 0x4000
    let g : Int := if gain = 0 then 4096 else usedRatio s bank x
    let q : Int := 2000000000
    let num := ((v - ped) * q * n - o * 125000000) * g - d * len * 4096 * n
    .val (limitSample (ped + roundDiv (num * k) (q * n * g * 16384)))
  | _ => p

/-- R313: the columns of a set whose ratio lies outside 4.50 to 5.50, as (bank, column, ratio). -/
def limitedRatios (c : CalSet) : List (Nat × (Nat × Nat)) :=
  if c.ratioOk then
    (c.ratio.filter fun p => p.2 < 0x4800 || 0x5800 < p.2).map fun p => (p.1 / columns, (p.1 % columns, p.2))
  else []

/-- R408, R313, R413: a set becomes active. -/
def activate (c : CalSet) (src : Nat) (s : State) : State :=
  let late := match s.cal.due with
    | some (_, t) => decide (t + getF s R.CAL_STALE_MAX * second < s.now)
    | none => false
  let s := s.onCal fun x =>
    { x with active := c, src := src, tag := x.tag + 1, next := none, stale := x.stale && late, loaded := src != 3 }
  let l := limitedRatios c
  let s := forEach (l.take 16) (fun p t => raise 0x0514 [.h p.1, .h p.2.1, .h p.2.2] t) s
  if l.length ≤ 16 then s else addF R.FLT_CNT2_SUPPRESSED (l.length - 16) s

/-- R413: data corrected now carries CAL_STALE. -/
def calStale (s : State) : Bool := s.cal.src == 0 || s.cal.stale || !s.cal.active.ratioOk

/-! ## Due (R410 to R413) -/

/-- R410: the code of a reason. -/
def CalReason.code : CalReason → Nat
  | .temp => 0
  | .age => 1
  | .request => 2
  | .drift => 3
  | .noSet => 4

/-- R410 to R412: a reason for a calibration arises. -/
def makeDue (r : CalReason) (s : State) : State :=
  let s := raise 0x0701 [.h r.code] s
  if r = .request ∨ flagF s R.CAL_CTRL_AUTO_EN then
    s.onCal fun c => { c with due := some (c.due.getD (r, s.now)), requested := c.requested || r == .request }
  else s

/-- R410: a reason that is a condition arises when the condition begins to hold. -/
def conditionDue (r : CalReason) (holds : Bool) (s : State) : State :=
  if holds then
    if s.cal.arisen.contains r then s else makeDue r (s.onCal fun c => { c with arisen := c.arisen ++ [r] })
  else s.onCal fun c => { c with arisen := c.arisen.filter (· != r) }

/-- R410, R424: a sample of the sensor temperature in 0.01 °C. -/
def calTemperature (t : Int) (s : State) : State :=
  s.onCal fun c => { c with
    secSum := c.secSum + t, secN := c.secN + 1,
    tempSum := if c.phase = .idle ∨ c.phase = .opening then c.tempSum else c.tempSum + t,
    tempN := if c.phase = .idle ∨ c.phase = .opening then c.tempN else c.tempN + 1 }

/-- R410: the 1 s mean of the sensor temperature. -/
def doCalTempMean (s : State) : State :=
  if s.cal.secN = 0 then s
  else
    let m := roundDiv s.cal.secSum s.cal.secN
    let s := s.onCal fun c => { c with meanTemp := m, secSum := 0, secN := 0 }
    conditionDue .temp (decide (getF s R.CAL_TRIG_TEMP_DELTA < (m - s.cal.active.tCal).natAbs) && s.cal.src != 0) s

/-- R410: the age of the active set in TB: by TB for a set measured since TB started, by the time of day for one that was loaded
(log entry 54). -/
def setAge (s : State) : Nat :=
  let c := s.cal.active
  if s.cal.loaded then ((s.tmb.todSec.toNat * nsPerSecond + s.tmb.todNs) - (c.doneSec * nsPerSecond + c.doneNs)) / 4
  else s.now - c.doneTb

/-- R410: the active set is older than MAX_AGE. -/
def doCalAgeExpired (s : State) : State :=
  let max := getF s R.CAL_TRIG_MAX_AGE
  conditionDue .age (max != 0 && s.cal.src != 0 && decide (max * 60 * second < setAge s)) s

/-- R413: a due calibration passes STALE_MAX. -/
def doCalStaleEnter (s : State) : State :=
  match s.cal.due with
  | some (r, t) =>
    if !s.cal.stale ∧ t + getF s R.CAL_STALE_MAX * second < s.now then
      raise 0x0705 [.h r.code] (s.onCal fun c => { c with stale := true })
    else s
  | none => s

/-! ## Runs (R414 to R424) -/

/-- R414: a run may start, apart from its slot. -/
def runReady (s : State) : Bool :=
  s.cal.due.isSome && s.head.st == .running && s.sns.temp == .stable && s.ctg.st == .ready && s.pwr.pf == .normal &&
    (!s.cal.autoHeld || s.cal.requested) && s.cal.phase == .idle

/-- R416: E in µs, multiplied by the free time of the frame in ticks. -/
def estimateTimesFree (s : State) : Nat :=
  let rate := flagF s R.CAL_DARK_DRATE_EN
  let fixed := 34000 + if rate then 2 * getF s R.CAL_DARK_LEN_RATE * 10000 else 0
  let frames := getF s R.CAL_DARK_N_DARK_M1 + 5 + if rate then 2 else 0
  fixed * s.cal.freeNum + frames * 24704 * s.cal.freeDen

/-- R416: E in µs, rounded up, as `CAL_EST` shows it. -/
def runEstimate (s : State) : Nat :=
  if s.cal.freeNum = 0 then 0xFFFFFFFF else (estimateTimesFree s + s.cal.freeNum - 1) / s.cal.freeNum

/-- R414: frames since the last boundary that begins a PERIODIC slot. -/
def slotFrame (s : State) : Nat :=
  let p := getF s R.CAL_PERIOD_PERIOD_M1 + 1
  (s.rru.f + p - getF s R.CAL_PHASE_PHASE % p) % p

/-- R414: the boundary is the first of a PERIODIC slot. -/
def slotBegins (s : State) : Bool := (getF s R.CAL_SLOT_MODE).testBit 0 && slotFrame s == 0

/-- R414, R914: the boundary is the first of a PERIODIC slot, or one of a slot whose earlier boundaries found the slider moving. -/
def periodicSlot (s : State) : Bool :=
  slotBegins s ||
    ((getF s R.CAL_SLOT_MODE).testBit 0 && s.cal.slotWait && decide (slotFrame s ≤ getF s R.CAL_SLOT_SLOT_LEN_M1))

/-- R416, R914: the frames left in the slot cover the estimated run time. -/
def slotCovers (s : State) : Bool :=
  decide (estimateTimesFree s * 250 ≤ (getF s R.CAL_SLOT_SLOT_LEN_M1 + 1 - slotFrame s) * s.cal.frameLen * s.cal.freeNum)

/-- R416: f is at least 0.01. -/
def freeEnough (s : State) : Bool := decide (s.cal.freeDen ≤ 100 * s.cal.freeNum)

/-- R914: the filter slider moves, or has not settled. -/
def sliderMoves (s : State) : Bool := s.ctg.moving || s.ctg.settling

/-- R414: the boundary finds the flag of a FLAG slot set. -/
def flagSlot (s : State) : Bool := (getF s R.CAL_SLOT_MODE).testBit 1 && (sharedFlags s).getLsbD (getF s R.CAL_SLOT_FLAG_IDX)

/-- R156, R197: some tiles and every sub-bank are used, or not, by Sensor Calibration. -/
def calNeedTiles (tiles : List Nat) (on : Bool) (s : State) : State :=
  let s := forEach tiles (fun t => modTile t fun x => { x with calNeed := on }) s
  forEach (List.range 40) (fun d => modSb d fun x => { x with calNeed := on }) s

/-- R156, R197: the tiles and sub-banks that a run uses. -/
def calNeed (on : Bool) (s : State) : State := calNeedTiles (List.range 240) on s

/-- R144, R156: the tiles and sub-banks that the column check uses: those of the black rows. -/
def driftNeed (on : Bool) (s : State) : State := calNeedTiles (List.range 20 ++ (List.range 20).map (220 + ·)) on s

/-- R419: the policy registers that a run takes as they are at its start. -/
def runPolicy (s : State) : List (Nat × Word) :=
  [A.CAL_DARK, A.CAL_LEN_OFS, A.CAL_LIGHT, A.CAL_FLK].map fun a => (a, rawReg s a)

/-- R419: a policy field as the run in progress takes it. -/
def runF (s : State) (f : Fld) : Nat := f.get (Tbl.getD s.cal.policy f.addr (rawReg s f.addr))

/-- R419, R423: a run starts: the shutter is commanded to close. -/
def startRun (byFlag : Bool) (s : State) : State :=
  let closed := s.ctg.shutCmd
  let policy := runPolicy s
  let s := s.onCal fun c => { c with
    policy := policy, phase := .closing, flagRun := byFlag, aborted := false, force := false, forceLogged := false, tempSum := 0, tempN := 0,
    frame := 0, rgLeft := [], sums := [], tileSums := [], flk := [(0, 0), (0, 0)], stepTb := s.now, reads := [],
    driftLeft := [], driftSums := [] }
  let s := driveShutter (s.onCtg fun c => { c with calHolds := true })
  calNeed true (if closed then countLife 5 1 s else s)

/-- R428: the cause of an abort, in the order of the table; the last rows are HOLD, SLEEP and LEVEL2, and POWER. -/
inductive AbortCause where
  | temp | flag | shutter | cartridge | cancel | state | power
  deriving DecidableEq, Repr

/-- R428: the code of a cause. -/
def AbortCause.code : AbortCause → Nat
  | .temp => 0
  | .flag => 1
  | .shutter => 2
  | .cartridge => 3
  | .cancel => 4
  | .state => 5
  | .power => 6

/-- R426, R428: what an aborted run leaves: its partial maps are discarded; the shutter is opened or left alone. -/
def endAborted (opens : Bool) (s : State) : State :=
  let s := calNeed false s
  let s := s.onCal fun c => { c with phase := (if opens then .opening else .idle), aborted := true, sums := [], tileSums := [],
                                     reads := [], rgLeft := [], stepTb := s.now }
  let s := s.onCtg fun c => { c with calHolds := false }
  if opens then driveShutter s else s

/-- R427: a run aborted by light or by the shutter counts, and may hold automatic runs. -/
def countAbort (s : State) : State :=
  let n := min 15 (s.cal.abortsConsec + 1)
  let s := s.onCal fun c => { c with abortsConsec := n }
  if runF s R.CAL_LIGHT_ABORT_LIMIT ≤ n ∧ !s.cal.autoHeld then raise 0x070A [.h n] (s.onCal fun c => { c with autoHeld := true })
  else s

/-- R185: the bank of a row group, black ones included. -/
def calBank (rg : Nat) : Nat := if rg < 1536 then rg % 2 else if rg < 1540 then 0 else 1

/-- R429: HOLD, SLEEP, a level-2 restart or a power-fail warning ends the column check. -/
def dropDrift (s : State) : State :=
  if s.cal.driftLeft = [] then s
  else
    driftNeed false (s.onCal fun c =>
      { c with driftLeft := [], driftSums := [], reads := c.reads.filter fun r => !r.drift })

/-- R428: a run is aborted. -/
def abortRun (cause : AbortCause) (s : State) : State :=
  if s.cal.phase = .idle ∨ s.cal.aborted then (match cause with | .state | .power => dropDrift s | _ => s)
  else
    let opens := match cause with | .temp | .flag | .cancel => true | _ => false
    let s := endAborted opens s
    let s := raise 0x0704 [.h cause.code] (addF R.CAL_CNT_ABORTS 1 s)
    if cause = .shutter then countAbort s else s

/-- R426: light is detected in a run. -/
def lightDetected (place excess : Nat) (s : State) : State :=
  if s.cal.phase = .idle ∨ s.cal.aborted then s
  else
    let s := endAborted true (addF R.CAL_CNT_NOT_DARK 1 s)
    let s := s.onCal fun c => { c with suspect := true }
    countAbort (raise 0x0703 [.h place, .h excess] s)

/-- R425: the sum and the count of a tracker accumulator's window in the dark interval. -/
def flickerSample (acc : Nat) (system enabled : Bool) (sum : Int) (count : Nat) (s : State) : State :=
  let which := [runF s R.CAL_LIGHT_FLK_ACC0, runF s R.CAL_LIGHT_FLK_ACC1]
  if s.cal.phase = .idle ∨ s.cal.aborted ∨ system ∨ !enabled ∨ !which.contains acc then s
  else
    let flk := (s.cal.flk.zip which).map fun p => if p.2 = acc then (p.1.1 + sum.toNat, p.1.2 + count) else p.1
    let s := s.onCal fun c => { c with flk := flk }
    match (flk.zip which).find? fun p => p.2 == acc && p.1.2 != 0 && runF s R.CAL_FLK_FLK_LIMIT * p.1.2 < p.1.1 with
    | some p => lightDetected acc (p.1.1 / p.1.2 - runF s R.CAL_FLK_FLK_LIMIT) s
    | none => s

/-- R427: the causes that stop automatic runs are gone. -/
def clearHeld : State → State := State.onCal fun c => { c with abortsConsec := 0, autoHeld := false }

/-! ### Exposures of a run -/

/-- R420: the row groups of a frame: the active ones and the black ones. -/
def calGroups : List Nat := List.range 1544

/-- R419: the exposure of the phase in progress in TB. -/
def calLength (s : State) : Nat :=
  if s.cal.phase = .rate then runF s R.CAL_DARK_LEN_RATE * 10 * milli else runF s R.CAL_LEN_OFS * micro

/-- R419: frames of a phase. -/
def phaseFrames (s : State) (p : CalPhase) : Nat :=
  match p with
  | .dark => runF s R.CAL_DARK_N_DARK_M1 + 1
  | .inject => 4
  | .rate => 2
  | _ => 0

/-- R419: a phase that exposes. -/
def CalPhase.exposes : CalPhase → Bool
  | .dark | .inject | .rate => true
  | _ => false

/-- R419: the shutter reports closed, plus 2 ms. -/
def doCalDarkBegin (s : State) : State :=
  if s.cal.phase = .closing ∧ s.ctg.shutClosed ∧ s.ctg.shutCmd ∧ max s.ctg.shutRepTb s.cal.stepTb + 2 * milli ≤ s.now then
    s.onCal fun c => { c with phase := .dark, frame := 0, rgLeft := calGroups, tileSums := [] }
  else s

/-- R282, R420: the slot of a calibration read of a bank in a gain mode. -/
def calSlot (s : State) (bank gain : Nat) : Nat := rowsTime (usableLanes s bank) gain 8

/-- R282: the slots that the calibration reads of a bank which have not started have booked, but for that of a row group. -/
def calBooked (s : State) (bank rg : Nat) : List (Nat × Nat) :=
  (s.cal.reads.filter fun r => !r.reading && calBank r.rg == bank && r.rg != rg).map fun r => (r.readTb, r.readTb + calSlot s bank r.gain)

/-- R420: a list of busy times leaves a slot free. -/
def slotOpenIn (busy : List (Nat × Nat)) (start slot : Nat) : Bool :=
  !busy.any fun b => decide (b.1 < start + slot) && decide (start < b.2)

/-- R420: a bank has no booked lane read, and no read in progress, in a time. -/
def bankOpen (s : State) (bank start slot : Nat) : Bool := slotOpenIn (bankBusy s bank) start slot

/-- R275: the lanes' exposures that are open on a row group. -/
def lanesOn (s : State) (rg : Nat) : List Booking :=
  s.exs.bookings.filter fun b => match bookingExp s b with
    | some e => (sensorGroups (geoOf s e.geo).bin b.rg).contains rg
    | none => false

/-- R275, R282, R420: a calibration exposure starts on a row group that no lane exposes, when its read finds a free slot. -/
def calResetStart (rg : Nat) (s : State) : State :=
  let bank := calBank rg
  let read := s.now + calLength s
  if s.cal.phase.exposes ∧ s.cal.rgLeft.contains rg ∧ usableLanes s bank ≠ 0 ∧ (lanesOn s rg).isEmpty ∧
      Tbl.getD s.exs.prevEnd rg 0 ≤ s.now ∧ !(s.cal.reads.any fun r => r.rg == rg) ∧
      slotOpenIn (bankBusy s bank ++ calBooked s bank rg) read (calSlot s bank 2) then
    s.onCal fun c => { c with reads := c.reads ++ [⟨rg, 2, false, s.now, read, false⟩] }
  else s

/-- R200, R275: a calibration read starts on its bank; the row group is reset again only after it. -/
def calStarts (r : CalRead) (s : State) : State :=
  let bank := calBank r.rg
  let slot := calSlot s bank r.gain
  let u := usableLanes s bank
  let s := s.onCal fun c => { c with
    reads := (c.reads.filter fun q => !(q.rg == r.rg && q.gain == r.gain && q.drift == r.drift)) ++ [{ r with reading := true }] }
  let s := s.onExs fun x => { x with prevEnd := Tbl.set x.prevEnd r.rg (max (Tbl.getD x.prevEnd r.rg 0) (s.now + slot)) }
  let s := s.onCro fun x => { x with
    reading := x.reading.set bank (some (bankRead 4 (if r.drift then 1 + r.gain else 0) 0 r.rg s.now slot u (u == 0) s))
    gain := x.gain.set bank r.gain
    freeAt := x.freeAt.set bank (s.now + slot) }
  deadEvents (deadSubBanks s 0xFFFFF [bank]) r.rg s

/-- R275, R282, R420: a calibration read starts when no lane read is booked within its slot, and moves to the next free slot
otherwise; an exposure on a row group that a lane has reset since, or resets before the read ends, is made again. -/
def calReadStart (rg : Nat) (s : State) : State :=
  match s.cal.reads.find? fun r => r.rg == rg && !r.reading && !r.drift with
  | some r =>
    let bank := calBank rg
    let slot := calSlot s bank 2
    let busy := bankBusy s bank
    if s.now < r.readTb then s
    else if (lanesOn s rg).any (fun b => decide (b.resetTb < s.now + slot)) then
      s.onCal fun c => { c with reads := c.reads.filter fun q => !(q.rg == rg && !q.drift) }
    else if (s.cro.reading.getD bank none).isNone ∧ slotOpenIn busy s.now slot then calStarts { r with readTb := s.now } s
    else
      let busy := busy ++ calBooked s bank rg
      let t := firstFree (busy.length + 1) busy s.now slot
      s.onCal fun c => { c with reads := c.reads.map fun q => if q.rg = rg ∧ !q.drift then { q with readTb := t } else q }
  | none => s

/-- R196, R429: a read of the column check starts in free bank time. -/
def driftReadStart (rg gain : Nat) (s : State) : State :=
  let bank := calBank rg
  if 1536 ≤ rg ∧ s.cal.driftLeft.contains (2 * (rg - 1536) + gain) ∧ (s.cro.reading.getD bank none).isNone ∧
      usableLanes s bank ≠ 0 ∧ bankOpen s bank s.now (calSlot s bank gain) then
    calStarts ⟨rg, gain, true, s.now, s.now, false⟩ s
  else s

/-- Adds a value to a keyed sum and count. -/
def addSum (t : List (Nat × (Nat × Nat))) (k v : Nat) : List (Nat × (Nat × Nat)) :=
  let o := Tbl.getD t k (0, 0)
  Tbl.set t k (o.1 + v, o.2 + 1)

/-- R421: the key of a sum: phase (0 DARK, 1 INJECT, 2 RATE), gain and pixel. -/
def sumKey (phase gain i : Nat) : Nat := (2 * phase + gain) * 2 ^ 28 + i

/-- R421: the key of a black column's sum in DARK. -/
def blackKey (bank gain c : Nat) : Nat := 6 * 2 ^ 28 + (2 * bank + gain) * 20576 + c

/-- R419: the number of a phase's sums. -/
def CalPhase.number : CalPhase → Nat
  | .inject => 1
  | .rate => 2
  | _ => 0

/-- R422: the tiles that a run leaves out. -/
def tileLeftOut (s : State) (t : Nat) : Bool :=
  let st := (getTile s t).st
  (st == .off && flagF s (R.SNS_TILE_CTRL_FORCE_OFF t)) || st == .fault

/-- R421, R422: a row of an active row group enters the sums: samples of a gain by column. -/
def calSamples (gain y : Nat) (l : List (Nat × Px)) (s : State) : State :=
  let p := s.cal.phase
  let l := l.filterMap fun q => match q.2 with
    | .val v => if tileLeftOut s (y / 1024 * 20 + q.1 / 1024) then none else some (q.1, v.toNat)
    | _ => none
  s.onCal fun c => { c with
    sums := l.foldl (fun t q => addSum t (sumKey p.number gain (columns * y + q.1)) q.2) c.sums
    tileSums := if gain = 0 then l.foldl (fun t q => addSum t (y / 1024 * 20 + q.1 / 1024) q.2) c.tileSums else c.tileSums }

/-- R421, R429: a row of a black row group enters the sums: samples of a gain by readable column. -/
def blackSamples (drift : Bool) (bank gain : Nat) (l : List (Nat × Px)) (s : State) : State :=
  let add := fun t => l.foldl (fun t q => match q.2 with
    | .val v => addSum t (blackKey bank gain q.1) v.toNat
    | _ => t) t
  s.onCal fun c =>
    if drift then { c with driftSums := add c.driftSums }
    else if c.phase = .dark then { c with sums := add c.sums } else c

/-! ### Light (R425) -/

/-- R425: the sum of a map's values over the pixels of a tile. -/
def tileMapSum (t : Nat) (l : List (Nat × Int)) : Int :=
  l.foldl (fun a p => if p.1 / columns / 1024 * 20 + p.1 % columns / 1024 = t then a + p.2 else a) 0

/-- R425: the first tile whose HCG mean exceeds its expected mean by more than LIGHT_DN, and the excess in DN. -/
def brightTile (s : State) : Option (Nat × Nat) :=
  let ped : Int := getF s R.CRO_LEVELS_PEDESTAL
  let light : Int := runF s R.CAL_LIGHT_LIGHT_DN
  let n : Int := 1048576
  s.cal.tileSums.findSome? fun (p : Nat × (Nat × Nat)) =>
    let o := tileMapSum p.1 s.cal.active.ofsH
    let d := tileMapSum p.1 (s.cal.active.rate.map fun q => (q.1, (q.2 : Int)))
    -- expected mean, in 1 / (2 × 10⁹ × n) DN: P, offsets in 1/16 DN, rates in 1/8 DN/s over the exposure
    let q : Int := 2000000000
    let want := if s.cal.src = 0 then ped * q * n else ped * q * n + o * 125000000 + d * calLength s
    let excess := (p.2.1 : Int) * q * n - want * p.2.2
    let unit := q * n * p.2.2
    if p.2.2 ≠ 0 ∧ light * unit < excess then some (p.1, (excess / unit).toNat) else none

/-! ### The end of a frame and of a run -/

/-- R419: the phase after one whose frames have been read. -/
def nextPhase (s : State) : CalPhase :=
  match s.cal.phase with
  | .dark => .inject
  | .inject => if runF s R.CAL_DARK_DRATE_EN ≠ 0 then .rate else .opening
  | _ => .opening

/-- R419, R425: every row group of a frame has been read. -/
def calFrameEnds (s : State) : State :=
  let bright := if s.cal.phase = .inject then none else brightTile s
  match bright with
  | some (t, x) => lightDetected t x s
  | none =>
    if s.cal.frame + 1 < phaseFrames s s.cal.phase then
      s.onCal fun c => { c with frame := c.frame + 1, rgLeft := calGroups, tileSums := [] }
    else
      let p := nextPhase s
      let s := s.onCal fun c => { c with phase := p, frame := 0, tileSums := [], stepTb := s.now,
                                         rgLeft := if p = .opening then [] else calGroups }
      if p = .opening then driveShutter (calNeed false (s.onCtg fun c => { c with calHolds := false })) else s

/-- R430: the least common multiple of 1 to 32: a black column of a bank has at most 32 samples in a check. -/
def rowsLcm : Nat := 144403552893600

/-- R430: the mean absolute difference of a bank's and gain's black columns from BLACK_REF in 1/16 DN, as a fraction. -/
def driftOf (s : State) (bank gain : Nat) : Nat × Nat :=
  let l := s.cal.driftSums.filter fun p => (p.1 - 6 * 2 ^ 28) / 20576 == 2 * bank + gain && p.2.2 != 0
  let d := l.foldl (fun a p =>
    let ref : Nat := Tbl.getD s.cal.active.black (p.1 - 6 * 2 ^ 28) 0
    a + (((16 * p.2.1 * (rowsLcm / p.2.2) : Nat) : Int) - (ref * rowsLcm : Nat)).natAbs) 0
  (d, max 1 l.length * rowsLcm)

/-- R430: the column check is complete. -/
def driftCheck (s : State) : State :=
  let hits := [(0, 0), (0, 1), (1, 0), (1, 1)].filter fun p =>
    let d := driftOf s p.1 p.2
    decide (getF s R.CAL_FLK_DRIFT_DN * d.2 < d.1)
  let s := forEach hits (fun p t => let d := driftOf t p.1 p.2; raise 0x070C [.h p.1, .h p.2, .h (d.1 / d.2)] t) s
  let s := if hits = [] then s else makeDue .drift s
  s.onCal fun c => { c with driftSums := [] }

/-- R191: the calibration read of a row group that a bank performs has reached the end of its slot; `exp` is 0 for an exposure of a
run and 1 + gain for the column check. -/
def calReadEnds (s : State) (rg exp : Nat) : Bool :=
  match s.cro.reading.getD (calBank rg) none with
  | some r => r.lane == 4 && r.exp == exp && r.rg == rg && decide (r.start + r.slot ≤ s.now)
  | none => false

/-- R420, R429: the exposure of a calibration read that has ended; one of a run or check that has ended meanwhile is gone. -/
def calReadDone (rg gain : Nat) (s : State) : State :=
  match s.cal.reads.find? fun r => r.rg == rg && r.gain == gain && r.reading with
  | none => s
  | some r =>
    let s := s.onCal fun c => { c with reads := c.reads.filter (· != r) }
    if r.drift then
      let s := s.onCal fun c => { c with driftLeft := c.driftLeft.filter (· != 2 * (rg - 1536) + gain) }
      if s.cal.driftLeft = [] then driftCheck (driftNeed false s) else s
    else
      let s := s.onCal fun c => { c with rgLeft := c.rgLeft.filter (· != rg) }
      if s.cal.phase.exposes ∧ s.cal.rgLeft = [] then calFrameEnds s else s

/-! ### Maps (R421, R422) -/

/-- R421: a mean of a phase, gain and pixel as sum and count. -/
def meanOf (s : State) (phase gain i : Nat) : Nat × Nat := Tbl.getD s.cal.sums (sumKey phase gain i) (0, 0)

/-- R421: the pixels measured in DARK in a gain. -/
def measured (s : State) (gain : Nat) : List Nat :=
  s.cal.sums.filterMap fun p => if p.1 / 2 ^ 28 = gain ∧ p.2.2 ≠ 0 then some (p.1 % 2 ^ 28) else none

/-- A value limited to a range. -/
def clampInt (lo hi v : Int) : Int := max lo (min hi v)

/-- R421: the offsets of a gain. -/
def newOffsets (s : State) (gain : Nat) (old : List (Nat × Int)) : List (Nat × Int) :=
  let ped : Int := getF s R.CRO_LEVELS_PEDESTAL
  (measured s gain).foldl (fun t i =>
    let m := meanOf s 0 gain i
    Tbl.put t i 0 (clampInt (-32768) 32767 (roundDiv (16 * m.1) m.2 - 16 * ped))) old

/-- R421: the dark rates in 1/8 DN/s. -/
def newRates (s : State) (old : List (Nat × Nat)) : List (Nat × Nat) :=
  if runF s R.CAL_DARK_DRATE_EN = 0 then old
  else
    let dt : Int := runF s R.CAL_DARK_LEN_RATE * 10 * milli - runF s R.CAL_LEN_OFS * micro
    (measured s 0).foldl (fun t i =>
      let a := meanOf s 2 0 i
      let b := meanOf s 0 0 i
      if a.2 = 0 ∨ dt ≤ 0 then t
      else Tbl.put t i 0 (clampInt 0 255 (roundDiv (((a.1 : Int) * b.2 - (b.1 : Int) * a.2) * 8 * second) (a.2 * b.2 * dt))).toNat) old

/-- R421: the response of a column to the injection step, summed over its measured rows of a bank in 1/1,024 DN. -/
def columnResponse (s : State) (gain : Nat) : List (Nat × (Int × Nat)) :=
  (measured s gain).foldl (fun t i =>
    let a := meanOf s 1 gain i
    let b := meanOf s 0 gain i
    let bank := i / columns / 8 % 2
    let key := bank * columns + i % columns
    if a.2 = 0 then t
    else
      let r := roundDiv (((a.1 : Int) * b.2 - (b.1 : Int) * a.2) * 1024) (a.2 * b.2)
      let o := Tbl.getD t key (0, 0)
      Tbl.set t key (o.1 + r, o.2 + 1)) []

/-- R421: K of a gain: each column's response over the mean of its bank. -/
def newGains (s : State) (gain : Nat) (old : List (Nat × Nat)) : List (Nat × Nat) :=
  let l := columnResponse s gain
  let total := fun bank => l.foldl (fun (a : Int × Nat) p => if p.1 / columns = bank then (a.1 + p.2.1, a.2 + p.2.2) else a) (0, 0)
  l.foldl (fun t p =>
    let bank := p.1 / columns
    let m := total bank
    if m.1 ≤ 0 then t
    else Tbl.put t ((2 * bank + gain) * columns + p.1 % columns) 0x4000
      (clampInt 0 65535 (roundDiv (p.2.1 * m.2 * 16384) (p.2.2 * m.1))).toNat) old

/-- R421: the LCG:HCG ratios; a column without LCG response states none (log entry 4). -/
def newRatios (s : State) (old : List (Nat × Nat)) : List (Nat × Nat) :=
  let h := columnResponse s 0
  let l := columnResponse s 1
  h.foldl (fun t p =>
    let q := Tbl.getD l p.1 (0, 0)
    if q.2 = 0 then t
    else if q.1 ≤ 0 then Tbl.put t p.1 0x5000 ((Config.freeValue (s.freeCount + p.1)).toNat % 65536)
    else Tbl.put t p.1 0x5000 (clampInt 0 65535 (roundDiv (p.2.1 * q.2 * 4096) (p.2.2 * q.1))).toNat) old

/-- R421: BLACK_REF in 1/16 DN. -/
def newBlack (s : State) (old : List (Nat × Nat)) : List (Nat × Nat) :=
  s.cal.sums.foldl (fun t p =>
    if 6 * 2 ^ 28 ≤ p.1 ∧ p.2.2 ≠ 0 then Tbl.put t (p.1 - 6 * 2 ^ 28) 0 (min 65535 (roundDiv (16 * p.2.1) p.2.2).toNat) else t) old

/-- R433: a is newer than b in serial arithmetic. -/
def newerGen (a b : BitVec 32) : Bool := a != b && decide ((a - b).toNat < 2 ^ 31)

/-- R433: the newest valid copy. -/
def newestCopy (s : State) : Option (Nat × CalSet) :=
  match s.cal.copies.getD 0 none, s.cal.copies.getD 1 none with
  | some a, some b => if newerGen a.generation b.generation then some (0, a) else some (1, b)
  | some a, none => some (0, a)
  | none, some b => some (1, b)
  | none, none => none

/-- R421 to R424: the set that a run has measured. -/
def measuredSet (s : State) : CalSet :=
  let a := s.cal.active
  { generation := ((newestCopy s).map fun p => p.2.generation + 1).getD 1
    tCal := if s.cal.tempN = 0 then s.cal.meanTemp else roundDiv s.cal.tempSum s.cal.tempN
    doneTb := s.now, doneSec := s.tmb.todSec.toNat, doneNs := s.tmb.todNs, setpoint := setpoint (rawReg s A.SNS_COOL_CTRL), nDark := runF s R.CAL_DARK_N_DARK_M1 + 1
    drate := runF s R.CAL_DARK_DRATE_EN != 0, lenOfs := runF s R.CAL_LEN_OFS * micro
    tiles := (List.range 240).filter fun t => !tileLeftOut s t
    ofsH := newOffsets s 0 a.ofsH, ofsL := newOffsets s 1 a.ofsL, rate := newRates s a.rate
    cgain := newGains s 1 (newGains s 0 a.cgain), ratio := newRatios s a.ratio, ratioOk := true
    black := newBlack s a.black }

/-! ## Storage (R431 to R437) -/

/-- R431: bytes of a stored set. -/
def calRecordBytes : Nat := 1258702848

/-- R433, R435: a completed set is to be stored; a store in progress is superseded. -/
def startStore (c : CalSet) (s : State) : State :=
  match s.cal.store with
  | some t =>
    let s := dropStore .calibration (raise 0x0707 [.h t.copy, .h 2] s)
    s.onCal fun x => { x with store := some { copy := t.copy, set := c, done := 0, waitLogged := false, again := storeRuns s .calibration } }
  | none =>
    let copy := match newestCopy s with
      | some (k, _) => 1 - k
      | none => 0
    s.onCal fun x => { x with store := some { copy := copy, set := c, done := 0, waitLogged := false, again := storeRuns s .calibration }
                              copies := x.copies.set copy none }

/-- R434: the next command of a store is asked for while the eMMC is free. -/
def pumpCalStore (s : State) : State :=
  if s.cal.store.isSome ∧ !storeRuns s .calibration ∧ !storeAsked s .calibration ∧ leaseOpen s 5 7 ∧ s.pwr.pf = .normal ∧
      !s.sup.coreDown ∧ !s.head.coreRestart then
    askStore .emmcWrite .calibration (takeLease 5 7 s)
  else s

/-- R439: after a restart of the management core the store starts again from the start of its copy; the command that the eMMC
controller holds runs to its end. -/
def restartCalStore (s : State) : State :=
  match s.cal.store with
  | some t => dropStore .calibration (s.onCal fun c => { c with store := some { t with done := 0, again := storeRuns s .calibration } })
  | none => s

/-- R435: a store ends without a valid record. -/
def endCalStore (cause : Nat) (s : State) : State :=
  match s.cal.store with
  | some t =>
    let s := raise 0x0707 [.h t.copy, .h cause] (dropStore .calibration s)
    freeLease 5 (s.onCal fun c => { c with store := none, copies := c.copies.set t.copy none })
  | none => s

/-- R434: a command of a calibration store ends. -/
def calCommandDone (ok : Bool) (s : State) : State :=
  let s := endStore .calibration s
  match s.cal.store with
  | none => leaveLease 5 7 s
  | some t =>
    if !ok then endCalStore 3 s
    else if t.again then takeLease 5 7 (s.onCal fun c => { c with store := some { t with again := false } })
    else if calRecordBytes ≤ t.done + 131072 then
      let s := freeLease 5 (s.onCal fun c => { c with
        store := none, copies := c.copies.set t.copy (some t.set),
        src := if c.src = 3 ∧ c.active.generation = t.set.generation then t.copy + 1 else c.src })
      raise 0x0706 [.h t.copy, .w t.set.generation.toNat] s
    else takeLease 5 7 (s.onCal fun c => { c with store := some { t with done := t.done + 131072 } })

/-- R424: the shutter reports open, plus 2 ms, and the run is over. -/
def doCalRunComplete (s : State) : State :=
  if s.cal.phase = .opening ∧ s.ctg.shutClosed = s.ctg.shutCmd ∧ max s.ctg.shutRepTb s.cal.stepTb + 2 * milli ≤ s.now then
    if s.cal.aborted then s.onCal fun c => { c with phase := .idle, aborted := false }
    else
      let set := measuredSet s
      let s := { s with freeCount := s.freeCount + 2 * columns }
      let s := s.onCal fun c => { c with phase := .idle, next := some (set, 3), due := none, requested := false, force := false, arisen := [],
                                         suspect := false, sums := [], tileSums := [] }
      let s := raise 0x0702 [.w set.generation.toNat, .h (signed16 set.tCal)] (clearHeld s)
      startStore set s
  else s

/-- R436, R437: loading ends; `okA` and `okB` say whether the check word of each copy matches its contents. -/
def calLoad (okA okB : Bool) (s : State) : State :=
  let ok := fun (k : Nat) => if k = 0 then okA else okB
  let s := forEach ((List.range 2).filter fun k => (s.cal.copies.getD k none).isNone)
    (fun k t => raise 0x0708 [.h k, .h 0] t) s
  let try1 := fun (s : State) => match newestCopy s with
    | some (k, c) => if ok k then (s, some (k, c)) else
        (raise 0x0708 [.h k, .h 4] (s.onCal fun x => { x with copies := x.copies.set k none }), none)
    | none => (s, none)
  let (s, r) := try1 s
  let (s, r) := match r with
    | some c => (s, some c)
    | none => try1 s
  let s := s.onCal fun x => { x with loading := false }
  match r with
  | some (k, c) => s.onCal fun x => { x with next := some (c, k + 1) }
  | none => makeDue .noSet (raise 0x0709 [] s)

/-- R437: the stored set has been read and checked. -/
def doCalLoadComplete (okA okB : Bool) (s : State) : State := if s.cal.loading then calLoad okA okB s else s

/-- R437: loading starts. -/
def startLoad : State → State := State.onCal fun c => { c with loading := true }

/-! ## Frame boundaries -/

/-- R415: a pending FORCE that cannot start says why, once. -/
def forceWaits (s : State) : State :=
  let cause := if s.sns.temp != .stable then AbortCause.temp else if s.ctg.st != .ready then .cartridge else .state
  if s.cal.forceLogged then s
  else raise 0x0704 [.h cause.code] (s.onCal fun c => { c with forceLogged := true })

/-- R408, R414 to R417, R429, R914: calibration at a frame boundary. -/
def calBoundary (s : State) : State :=
  let s := match s.cal.next with
    | some (c, src) => activate c src s
    | none => s
  let s := if s.cal.flagRun && s.cal.phase != .idle && !(sharedFlags s).getLsbD (getF s R.CAL_SLOT_FLAG_IDX) then
      abortRun .flag s else s
  let periodic := periodicSlot s && (s.cal.force || slotCovers s)
  let slot := s.cal.force || periodic || flagSlot s
  let s := s.onCal fun c => { c with slotWait := periodicSlot s && sliderMoves s }
  if sliderMoves s ∧ runReady s then s
  else if runReady s ∧ slot ∧ freeEnough s then startRun (!s.cal.force && !periodic) s
  else
    let s := if s.cal.force && s.cal.phase == .idle then forceWaits s else s
    if flagF s R.CAL_CTRL_DRIFT_EN ∧ s.cal.due.isNone ∧ (slotBegins s ∨ flagSlot s) ∧ s.cal.driftLeft = [] ∧
        s.cal.phase = .idle ∧ s.head.st = .running then
      driftNeed true (s.onCal fun c => { c with driftLeft := List.range 16, driftSums := [] })
    else s

/-! ## Writes and reads of block CAL -/

/-- R443: a value is in range for a register of the block. -/
def calRangeOk (s : State) (a : Nat) (v : Word) : Bool :=
  if a = A.CAL_PHASE then decide (v.toNat ≤ getF s R.CAL_PERIOD_PERIOD_M1)
  else if a = A.CAL_PERIOD then decide (getF s R.CAL_PHASE_PHASE ≤ v.toNat)
  else if a = A.CAL_TRIG then let d := R.CAL_TRIG_TEMP_DELTA.get v; decide (5 ≤ d) && decide (d ≤ 500)
  else if a = A.CAL_STALE_MAX then R.CAL_STALE_MAX.get v != 0
  else if a = A.CAL_DARK then let d := R.CAL_DARK_LEN_RATE.get v; decide (1 ≤ d) && decide (d ≤ 1000)
  else if a = A.CAL_LEN_OFS then let d := R.CAL_LEN_OFS.get v; decide (8 ≤ d) && decide (d ≤ 4000)
  else if a = A.CAL_LIGHT then R.CAL_LIGHT_LIGHT_DN.get v != 0 && R.CAL_LIGHT_ABORT_LIMIT.get v != 0
  else if a = A.CAL_FLK then let d := R.CAL_FLK_DRIFT_DN.get v; decide (1 ≤ d) && decide (d ≤ 4095)
  else true

/-- R410: REQ makes a calibration due. -/
def doCalRequest (s : State) : State := makeDue .request s

/-- R415: FORCE makes a calibration due and opens a slot at the next boundary. -/
def doCalForce (s : State) : State :=
  makeDue .request (s.onCal fun c => { c with force := true, forceLogged := false })

/-- R428: CANCEL aborts a run. -/
def doCalCancel (s : State) : State := abortRun .cancel s

/-- R443: a write to a register of the block. -/
def writeCal (a : Nat) (v : Word) (s : State) : WriteResult × State :=
  if a = A.CAL_CTRL then
    let s := plainWrite a v s
    let s := if v.getLsbD 5 then setRaw A.CAL_CNT 0 s else s
    let s := if v.getLsbD 2 then doCalRequest s else s
    let s := if v.getLsbD 3 then doCalForce s else s
    (.ok, if v.getLsbD 4 then doCalCancel s else s)
  else if calRangeOk s a v then (.ok, plainWrite a v s) else rejectWrite 0x070B a s

/-- The code of a phase. -/
def CalPhase.code : CalPhase → Nat
  | .idle => 0
  | .closing => 1
  | .dark => 2
  | .inject => 3
  | .rate => 4
  | .opening => 5

/-- R405 to R437: the words of the block that the state holds elsewhere. -/
def readCal (s : State) (a : Nat) : Option Word :=
  let c := s.cal
  if a = A.CAL_STATUS then
    some (BitVec.ofNat 32 (c.phase.code * 2 ^ 28 + c.src * 2 ^ 26 + bit c.due.isSome * 2 ^ 25 + bit c.stale * 2 ^ 24 +
      bit c.suspect * 2 ^ 23 + bit c.autoHeld * 2 ^ 22 + bit c.store.isSome * 2 ^ 21 + bit c.loading * 2 ^ 20 +
      min 15 c.abortsConsec * 65536))
  else if a = A.CAL_GEN then some c.active.generation
  else if a = A.CAL_TEMP then some (BitVec.ofNat 32 (signed16 c.active.tCal * 65536 + signed16 c.meanTemp))
  else if a = A.CAL_AGE then some (BitVec.ofNat 32 (min 0xFFFFFFFF (setAge s / second)))
  else if a = A.CAL_EST then some (BitVec.ofNat 32 (min 0xFFFFFFFF (runEstimate s)))
  else none

end Sys2Proof.Machine
end

