-- ==== Sys2Proof/Machine/Tracker.lean ====
section
/-! DEFINITION. Chapter 10: the tracker converters' slices, sequences, accumulators, trackers and the optical recovery. -/

namespace Sys2Proof.Machine

/-! ## Inputs and resources -/

/-- R484: AIN0 and AIN1 are signed. -/
def signedInput (i : Nat) : Bool := i == 46 || i == 47

/-- R483: the value of a sample of an input. -/
def sampleValue (i : Nat) (v : BitVec 16) : Int := if signedInput i then v.toInt else v.toNat

/-- R486: a step lasts 25 TB. -/
def stepTicks : Nat := 25

/-- R511: the steward's steps, accumulators and trackers run. -/
def stewardOn (s : State) : Bool :=
  flagF s R.TRC_CTRL_REG_EN && s.head.applied && !s.sup.dieDown &&
    (s.head.st == .acquiring || s.head.st == .running || s.head.st == .hold)

/-- R511: windows of the steward's accumulators may open; after a power-fail warning or a sleep command none does. -/
def stewardWindows (s : State) : Bool := stewardOn s && s.pwr.pf == .normal && !s.pwr.sleeping

/-- R499, R500: the settings of an accumulator. -/
structure AccCfg where
  en : Bool
  mode : Nat
  src : Nat
  stream : Bool
  input : Nat
  /-- LEN_M1, or L_START × 65,536 + L_END. -/
  len : Nat
  deriving DecidableEq, Repr

/-- R500: an accumulator of the system. -/
def systemAcc (a : Nat) : Bool := decide (244 ≤ a)

/-- R500, R501: the settings of accumulator a. -/
def accCfg (s : State) (a : Nat) : AccCfg :=
  if systemAcc a then ⟨true, 0, 0, false, a - 210, 9999⟩
  else ⟨flagF s (R.TRC_ACC_CFG_EN a), getF s (R.TRC_ACC_CFG_MODE a), getF s (R.TRC_ACC_CFG_SRC a),
    flagF s (R.TRC_ACC_CFG_STREAM a), getF s (R.TRC_ACC_CFG_INPUT a), getF s (R.TRC_ACC_LEN a)⟩

/-- R500, R504: the settings of a tracker. -/
structure TrkCfg where
  en : Bool
  edge : Nat
  opt : Bool
  src : Nat
  xstream : Bool
  input : Nat
  hi : Int
  lo : Int
  deriving DecidableEq, Repr

/-- R484: a threshold of an input. -/
def threshold (i v : Nat) : Int := sampleValue i (BitVec.ofNat 16 v)

/-- R500, R504: the settings of tracker k; tracker 62 has the thresholds of the cooler fault, 75 °C and 60 °C (R166). -/
def trkCfg (s : State) (k : Nat) : TrkCfg :=
  if k = 62 then ⟨true, 0, false, 0, false, 35, 20000, 17600⟩
  else if k = 63 then ⟨true, 0, false, 1, false, 40, 0xFFFF, 0⟩
  else
    let i := getF s (R.TRC_TRK_CFG_INPUT k)
    ⟨flagF s (R.TRC_TRK_CFG_EN k) && stewardOn s, getF s (R.TRC_TRK_CFG_EDGE k), flagF s (R.TRC_TRK_CFG_OPT k),
      getF s (R.TRC_TRK_CFG_SRC k), flagF s (R.TRC_TRK_CFG_XSTREAM k), i,
      threshold i (getF s (R.TRC_TRK_THR_THR_HI k)), threshold i (getF s (R.TRC_TRK_THR_THR_LO k))⟩

/-- R501: a conversion of a sequence is one that SRC selects. -/
def srcAdmits (src : Nat) (injected : Bool) : Bool := src == 2 || (src == 1) == injected

/-- Changes an accumulator. -/
def modAcc (a : Nat) (f : Acc → Acc) : State → State :=
  State.onTrc fun x => { x with accs := Tbl.put x.accs a {} (f (Tbl.getD x.accs a {})) }

/-- One accumulator. -/
def getAcc (s : State) (a : Nat) : Acc := Tbl.getD s.trc.accs a {}

/-- Changes a tracker. -/
def modTrk (k : Nat) (f : Trk → Trk) : State → State :=
  State.onTrc fun x => { x with trks := Tbl.put x.trks k {} (f (Tbl.getD x.trks k {})) }

/-- One tracker. -/
def getTrk (s : State) (k : Nat) : Trk := Tbl.getD s.trc.trks k {}

/-! ## Accumulator windows (R501 to R503) -/

/-- R501: a window of raster time. -/
def AccCfg.raster (c : AccCfg) : Bool := c.mode != 0

/-- R493, R499, R502, R8: flags that hold for an open window now. -/
def accConditions (s : State) (a : Nat) : Nat :=
  let c := accCfg s a
  (if s.trc.settling.isSome then flagTransition else 0) ||| (if s.trc.starved && systemAcc a then flagGap else 0) |||
    (if s.head.coreRestart then flagRestarted else 0) ||| (if c.raster && coasting s then flagCoast else 0)

/-- The flags of a window gain others. -/
def Acc.addFlags (n : Nat) (x : Acc) : Acc := { x with flags := x.flags ||| BitVec.ofNat 16 n }

/-- R23: every open window takes the flags that hold. -/
def accrueAccs (s : State) : State :=
  forEach (s.trc.accs.filter fun p => p.2.openW) (fun p s =>
    let n := accConditions s p.1
    if n = 0 then s else modAcc p.1 (Acc.addFlags n) s) s

/-- R501: a window opens at a TB. -/
def openAcc (a tb : Nat) (s : State) : State :=
  modAcc a (fun x => { x with openW := true, sum := 0, count := 0, firstTb := tb, firstF := if s.rru.rpValid then s.rru.f else 0,
                              flags := BitVec.ofNat 16 (accConditions s a) }) s

/-- R503: a sample enters an open window. -/
def addSample (a : Nat) (v : Int) (s : State) : State :=
  let x := getAcc s a
  let sum := x.sum + v
  let lim : Int := 2 ^ 55
  let exceeds := lim ≤ sum || sum < -lim || 2 ^ 40 ≤ x.count + 1
  let y := { x with sum := max (-lim) (min (lim - 1) sum), count := min (2 ^ 40 - 1) (x.count + 1) }
  if exceeds then raiseLimited 0 second 0x090C [.h a] (modAcc a (fun _ => y.addFlags flagOverflow) s)
  else modAcc a (fun _ => y) s

/-- R503, R511: a window closes and gives its result. -/
def closeAcc (a extra : Nat) (s : State) : State :=
  let x := getAcc s a
  if !x.openW then s
  else
    let first := if s.trc.firstGap.contains a then flagGap ||| flagRestarted else 0
    let flags := x.flags ||| BitVec.ofNat 16 (extra ||| first ||| accConditions s a)
    let sum := BitVec.ofInt 56 x.sum
    let s := s.onTrc fun t => { t with firstGap := t.firstGap.filter (· != a) }
    let s := modAcc a (fun x => { x with openW := false, rSum := sum, rCount := BitVec.ofNat 40 x.count, rFlags := flags }) s
    let c := accCfg s a
    let s := if c.stream && s.head.st != .hold then
        sendTrack 1 [a, c.input, flags.toNat, (sum.signExtend 64).toNat, x.count, x.firstTb, x.firstF] false s
      else s
    flickerSample a (systemAcc a) c.en x.sum x.count s

/-- R501: a TIME window ends and the next one starts where it ends. -/
def doAccTimeWindowClose (a : Fin 256) (s : State) : State :=
  let c := accCfg s a
  let x := getAcc s a
  let stop := x.firstTb + (c.len + 1) * micro
  if x.openW ∧ c.mode = 0 ∧ stop ≤ s.now then openAcc a stop (closeAcc a 0 s) else s

/-- The accumulators of the steward that are enabled and whose window is of raster time. -/
def rasterAccs (s : State) : List (Nat × AccCfg) :=
  ((List.range 244).map fun a => (a, accCfg s a)).filter fun p => p.2.en && p.2.raster && stewardWindows s

/-- R501, R502: raster windows at the start of line l of a frame. -/
def accLine (l : Nat) (s : State) : State :=
  if !s.rru.rpValid then s
  else forEach (rasterAccs s) (fun (a, c) s =>
    if c.mode = 2 ∧ l % (c.len % 65536 + 1) = 0 then openAcc a s.now (closeAcc a 0 s)
    else if c.mode = 3 then
      let s := if l = c.len % 65536 then closeAcc a 0 s else s
      if l = c.len / 65536 then openAcc a s.now (closeAcc a 0 s) else s
    else s) s

/-- R501: raster windows at a frame boundary. -/
def accFrame (s : State) : State :=
  let s := forEach (rasterAccs s) (fun (a, c) s =>
    if c.mode = 1 then (if s.rru.f % (c.len % 65536 + 1) = 0 then openAcc a s.now (closeAcc a 0 s) else s)
    else closeAcc a 0 s) s
  accLine 0 s

/-- R502: RP_VALID is 0: open raster windows close with GAP. -/
def accInvalid (s : State) : State :=
  if s.rru.rpValid then s
  else forEach (s.trc.accs.filter fun p => p.2.openW && (accCfg s p.1).raster) (fun p s => closeAcc p.1 flagGap s) s

/-- The open windows of the steward's accumulators close, with flags. -/
def closeSteward (extra : Nat) (s : State) : State :=
  forEach (s.trc.accs.filter fun p => p.2.openW && !systemAcc p.1) (fun p s => closeAcc p.1 extra s) s

/-- R511: the open windows of the steward's accumulators are discarded. -/
def discardSteward : State → State := State.onTrc fun x =>
  let accs := x.accs.map fun p => if p.2.openW && !systemAcc p.1 then (p.1, { p.2 with openW := false }) else p
  { x with accs := accs }

/-- R501: TIME windows of the steward start at the enable. -/
def openSteward (s : State) : State :=
  if !stewardWindows s then s
  else forEach (List.range 244) (fun a s =>
    let c := accCfg s a
    if c.en && c.mode == 0 && !(getAcc s a).openW then openAcc a s.now s else s) s

/-! ## Optical recovery (R507 to R509) -/

/-- R507: the DUT line of a segment, none where it has none. -/
def segLine (s : State) (j : Nat) : Option Nat :=
  let v := getF s (R.TRC_SEG_LINE j)
  if v = 0xFFFFFFFF then none else some v

/-- R509: T_est from the crossings of a frame, in 2⁻¹⁶ ns per line. -/
def slope (l : List (Nat × Nat × Nat)) : Option Nat :=
  match l.head?, l.getLast? with
  | some (_, d0, t0), some (_, d1, t1) => if d0 < d1 then some ((t1 - t0) * 16384 * 65536 / (d1 - d0)) else none
  | _, _ => none

/-- R33, R908: time in 1/65,536 line from the frame boundary nearest to a time in 2⁻¹⁶ ns. -/
def boundaryDiff (s : State) (t : Nat) : Int :=
  let lper : Int := linePer s
  let d : Int := (t : Int) - s.tmb.fbTb.toNat * 262144
  let lines := if lper = 0 then 0 else d * 65536 / lper
  let whole : Int := fieldLength s s.rru.field * 65536
  if whole < 2 * lines then lines - whole else lines

/-- R509: OPTICAL's vertical event at a time in 2⁻¹⁶ ns. -/
def opticalVertical (t : Nat) (s : State) : State :=
  if crossCheck s then xcheckFrame (boundaryDiff s t) s
  else if monitored s 4 ∧ s.rru.pll ≠ .off then verticalEvent 4 t (!(getMon s 4).parity) s
  else s

/-- R508: OPTICAL's line event of DUT line d at a time in 2⁻¹⁶ ns; the phase error is that of the nearest raster line. -/
def opticalLine (t d : Nat) (s : State) : State :=
  if crossCheck s then modMon 4 (fun m => { m with crossings := m.crossings + 1 }) s
  else if !monitored s 4 then s
  else
    let lper : Int := linePer s
    let phase : Int := if lper = 0 then 0 else ((t : Int) - s.rru.lineAt) * 65536 / lper - d
    lineEvent 4 t ((phase + 32768) % 65536 - 32768) d s

/-- R507 to R509: a crossing of segment j at a time in 1/16 TB. -/
def opticalCrossing (j t : Nat) (s : State) : State :=
  match segLine s j with
  | none => s
  | some d =>
    let x := s.trc
    let fresh := match x.optFrame.getLast? with
      | some (_, dp, _) => decide (d + fieldLength s false * 32768 < dp)
      | none => true
    if fresh then
      let two := 2 ≤ x.optFrame.length
      let frames := if two then x.optFrames + 1 else x.optFrames
      let est := if frames < 2 then linePeriod s else (slope x.optFrame).getD x.tEst
      let s := s.onTrc fun x => { x with optPrev := x.optFrame, optFrame := [(j, d, t)], optFrames := frames, tEst := est,
                                         segs := min 32 x.optFrame.length }
      opticalLine (t * 16384) d (opticalVertical (t * 16384 - d * est / 65536) s)
    else if x.optFrame.any fun p => p.1 == j then s
    else opticalLine (t * 16384) d (s.onTrc fun x => { x with optFrame := x.optFrame ++ [(j, d, t)] })

/-! ## Trackers (R504 to R506) -/

/-- R505: the time of a crossing in 1/16 TB. -/
def crossingTime (prev : Option (Int × Nat)) (thr v : Int) (tb : Nat) : Nat :=
  match prev with
  | none => 16 * tb
  | some (v0, t0) =>
    let dv := v - v0
    if dv = 0 then 16 * tb
    else
      let num := 2 * (thr - v0) * (16 * ((tb : Int) - t0)) + dv
      (16 * (t0 : Int) + num / (2 * dv)).toNat

/-- R506: a crossing record goes to the stream path, or is dropped. -/
def queueCrossing (x : Xing) (s : State) : State :=
  if s.trc.xq.length < 1024 then s.onTrc fun t => { t with xq := t.xq ++ [x] }
  else
    let s := addF R.TRC_CNT2_XING_DROP 1 s
    raiseLimited 0 second 0x0909 [.h (getF s R.TRC_CNT2_XING_DROP)] s

/-- R504 to R507: a tracker crosses a threshold. -/
def crossing (k : Nat) (c : TrkCfg) (rising : Bool) (t : Nat) (s : State) : State :=
  let p := posAt s t
  let s := addF (R.TRC_TRK_STAT_CROSSINGS k) 1 s
  let s := crossingPulses k s
  let s := if c.xstream then
      queueCrossing ⟨k, rising, t, BitVec.ofNat 40 p.f, BitVec.ofNat 16 p.l, BitVec.ofNat 16 p.phi, 0⟩ s
    else s
  if c.opt && decide (c.input < 32) then opticalCrossing c.input t s else s

/-- R504: a sample of a tracker's input, taken at a TB. -/
def trackSample (k : Nat) (c : TrkCfg) (v : Int) (tb : Nat) (s : State) : State :=
  let x := getTrk s k
  let mm := match x.mm with
    | some (lo, hi) => (min lo v, max hi v)
    | none => (v, v)
  let level := if c.hi ≤ v then true else if v ≤ c.lo then false else x.level
  let s := modTrk k (fun y => { y with mm := some mm, level := level, prev := some (v, tb) }) s
  if level = x.level then s
  else if c.edge.testBit (if level then 0 else 1) then
    crossing k c level (crossingTime x.prev (if level then c.hi else c.lo) v tb) s
  else s

/-- R506: records leave the stream path for the TRACK stream. -/
def takeCrossings (n : Nat) (s : State) : State :=
  let out := s.trc.xq.take n
  let s := s.onTrc fun t => { t with xq := t.xq.drop n }
  if s.head.st = .hold then s
  else forEach out (fun x s =>
    sendTrack 2 [x.trk, if x.rising then 1 else 2, x.t, x.f.toNat, x.l.toNat, x.phi.toNat] false s) s

/-! ## Sequences (R495 to R499) -/

/-- R495: the system inputs of regular steps 0 to 2. -/
def systemStep : Nat → List Nat
  | 0 => [40, 34, 35, 41]
  | 1 => [36, 37, 38, 39]
  | _ => [42, 43, 44, 45]

/-- R495, R496: the inputs of a step of the regular or the injected sequence. -/
def stepInputs (s : State) (injected : Bool) (k : Nat) : List Nat :=
  if injected then
    let p0 := if k = 0 then 40 else getF s (R.TRC_STEP_INJ_IN_P0 k)
    if stewardOn s then [p0, getF s (R.TRC_STEP_INJ_IN_P1 k), getF s (R.TRC_STEP_INJ_IN_P2 k), getF s (R.TRC_STEP_INJ_IN_P3 k)]
    else [40, 63, 63, 63]
  else if k < 3 then systemStep k
  else [getF s (R.TRC_STEP_REG_IN_P0 k), getF s (R.TRC_STEP_REG_IN_P1 k), getF s (R.TRC_STEP_REG_IN_P2 k), getF s (R.TRC_STEP_REG_IN_P3 k)]

/-- R495: the last regular step. -/
def lastRegular (s : State) : Nat := if stewardOn s then getF s R.TRC_REG_CTRL_REG_COUNT_M1 else 2

/-- R496: the last injected step. -/
def lastInjected (s : State) : Nat := if stewardOn s then getF s R.TRC_INJ_CTRL_INJ_COUNT_M1 else 0

/-- R858: a trigger that a stuck regular sequence holds back. -/
def heldTrigger (s : State) (t : InjTrigger) : Bool := s.trc.injHeld && t != .powerFail && t != .energy

/-- R496, R497: an injected run starts, its step 0 sampling at a TB. -/
def startInjected (t : InjTrigger × Nat) (tb : Nat) (s : State) : State :=
  addF R.TRC_CNT_INJ_RUNS 1 (s.onTrc fun x => { x with injStep := some 0, injTrig := some t, stepTb := tb })

/-- R498: a trigger reaches busy slices and is dropped. -/
def dropTrigger (t : InjTrigger) (s : State) : State :=
  let s := forEach (List.range 5) (fun n s =>
    if (s.trc.slices.getD n {}).st == .faulty then s else addF (R.TRC_SLICE_STATUS_DROPS n) 1 s) s
  let n := s.trc.dropped + 1
  let old := s.flt.lastLogged
  let s := raiseLimited 0 second 0x0907 [.h n] s
  let s := s.onTrc fun x => { x with dropped := if s.flt.lastLogged = old then n else 0 }
  if t = .energy then s.onTrc fun x => { x with energyDrop := some s.now } else s

/-- R497: a trigger is held pending. -/
def pendTrigger (t : InjTrigger) (s : State) : State :=
  addF R.TRC_CNT2_PENDED 1 (s.onTrc fun x => { x with pending := some (t, s.now) })

/-- R497, R498: a trigger arrives while one is pending: in the same tick it merges, a power-fail warning replaces it, and
any other is dropped. -/
def thirdTrigger (t : InjTrigger) (p : InjTrigger × Nat) (s : State) : State :=
  if p.2 = s.now then (if t = .powerFail then s.onTrc fun x => { x with pending := some (t, s.now) } else s)
  else if t = .powerFail then dropTrigger p.1 (s.onTrc fun x => { x with pending := some (t, s.now) })
  else dropTrigger t s

/-- R496 to R498: a trigger of the injected sequence arrives at the sequencer. -/
def injectTrigger (t : InjTrigger) (s : State) : State :=
  let x := s.trc
  if !x.run then s
  else
    let ends := decide (x.stepTb + stepTicks ≤ s.now)
    match x.injStep, x.pending with
    | none, some p => if t == .powerFail && !ends then
          addF R.TRC_CNT_ABORTS 1 (startInjected (t, s.now) (s.now + 1) s)
        else thirdTrigger t p s
    | none, none =>
      if heldTrigger s t then pendTrigger t s
      else if ends then s.onTrc fun x => { x with pending := some (t, s.now) }
      else if s.now ≤ x.stepTb then startInjected (t, s.now) (s.now + 1) s
      else addF R.TRC_CNT_ABORTS 1 (startInjected (t, s.now) (s.now + 1) s)
    | some k, p =>
      let starts := decide (k = 0) && decide (x.stepTb = s.now) && x.injTrig.map (fun p => p.2 + 1) != some s.now
      if (x.injTrig.map Prod.snd) = some s.now ∨ starts then s
      else match p with
        | some p => if ends && k == lastInjected s then s else thirdTrigger t p s
        | none => if ends && k == lastInjected s then s.onTrc fun x => { x with pending := some (t, s.now) } else pendTrigger t s

/-- R496: the condition of a trigger holds. -/
def triggerOpen (s : State) : InjTrigger → Bool
  | .powerFail => s.pwr.pf != .normal
  | .energy => !s.pwr.checking.isEmpty && s.trc.settling.isNone
  | .raster => stewardOn s && flagF s R.TRC_INJ_CTRL_RASTER_EN && s.rru.rpValid && getF s R.TRC_INJ_RP_L == s.rru.l &&
      decide (getF s R.TRC_INJ_RP_PHI ≤ phiNow s)
  | .engine e => stewardOn s && flagF s R.TRC_INJ_CTRL_TGE_EN && (getF s R.TRC_INJ_CTRL_TGE_MASK).testBit e
  | .timer => stewardOn s && flagF s R.TRC_INJ_CTRL_TIMER_EN

/-- R496, R497: a trigger arrives. -/
def doInjectedTrigger (t : InjTrigger) (s : State) : State :=
  if triggerOpen s t then
    injectTrigger t (if t = .energy then modTrk 63 (fun x => { x with mm := none }) s else s)
  else s

/-- R496, R524: a match of compare channel k reaches the engines and, where it is selected, the injected sequence. -/
def channelReaches (k : Nat) (s : State) : State :=
  let t := timerPulses k s
  if getF s R.TRC_INJ_CTRL_TIMER_CH = k then doInjectedTrigger .timer t else t

/-- R819: an energy-check request that was dropped is repeated 1 µs later. -/
def doEnergyRequestRepeat (s : State) : State :=
  match s.trc.energyDrop with
  | some t => if t + micro ≤ s.now then doInjectedTrigger .energy (s.onTrc fun x => { x with energyDrop := none }) else s
  | none => s

/-- R497: the injected run that is pending may start. -/
def pendingRun (s : State) : Option (InjTrigger × Nat) :=
  match s.trc.pending with
  | some p => if heldTrigger s p.1 then none else some p
  | none => none

/-- R487: the handover that waits for a step boundary. -/
def performHandover (s : State) : State :=
  match s.trc.handover with
  | none => s
  | some (p, sp) =>
    match s.trc.positions.getD p none with
    | some old => s.onTrc fun x => { x with
        handover := none, positions := x.positions.set p (some sp), spare := some old
        slices := (x.slices.modify sp fun y => { y with st := .active }).modify old fun y =>
          { y with st := .calibrating, startTb := s.now } }
    | none => s.onTrc fun x => { x with handover := none }

/-- R497: the next run or the next regular step starts where the last step ended. -/
def nextStep (tb : Nat) (s : State) : State :=
  let s := performHandover s
  match pendingRun s with
  | some p => startInjected p tb (s.onTrc fun x => { x with pending := none })
  | none => s.onTrc fun x => { x with injStep := none, injTrig := none, stepTb := tb }

/-- R499, R858: a full pass of the regular sequence has ended. -/
def passEnds (s : State) : State :=
  machineMoves 4 0 (s.onTrc fun x => { x with passTb := s.now, starved := false, injHeld := false, step := 0 })

/-- R495, R497: the sequencer advances at the end of a step. -/
def advance (s : State) : State :=
  let tb := s.trc.stepTb + stepTicks
  match s.trc.injStep with
  | some k =>
    if k < lastInjected s then performHandover (s.onTrc fun x => { x with injStep := some (k + 1), stepTb := tb })
    else nextStep tb (s.onTrc fun x => { x with injStep := none, injTrig := none })
  | none =>
    nextStep tb (if lastRegular s ≤ s.trc.step then passEnds s else s.onTrc fun x => { x with step := x.step + 1 })

/-! ## Steps (R486 to R490) -/

/-- R488: no spare is left. -/
def noSpareLeft (s : State) : State :=
  if s.trc.spare.isNone ∧ !s.trc.noSpare then raise 0x0903 [] (s.onTrc fun x => { x with noSpare := true }) else s

/-- R490: the working slices in positions hold the positions from P0 upwards. -/
def compact (l : List (Option Nat)) : List (Option Nat) :=
  let keep := l.filter Option.isSome
  keep ++ List.replicate (l.length - keep.length) none

/-- R489, R490: the slice of a position has a hard fault. -/
def hardFault (p : Nat) (s : State) : State :=
  match s.trc.positions.getD p none with
  | none => s
  | some n =>
    let s := s.onTrc fun x => { x with slices := x.slices.modify n fun y => { y with st := .faulty } }
    let s := raise 0x0902 [.h n, .h p] s
    match s.trc.spare with
    | some sp =>
      noSpareLeft (s.onTrc fun x => { x with
        positions := x.positions.set p (some sp), spare := none, handover := none
        slices := x.slices.modify sp fun y => { y with st := .active } })
    | none =>
      let l := compact (s.trc.positions.set p none)
      let lost := (l.filter Option.isSome).length
      raise 0x0904 [.h lost] (noSpareLeft (s.onTrc fun x => { x with positions := l, handover := none }))

/-- R501, R504: a sample of an input, taken at a TB in a step of a sequence. -/
def takeSample (injected : Bool) (tb i : Nat) (v : BitVec 16) (s : State) : State :=
  let x := sampleValue i v
  let s := forEach (s.trc.accs.filter fun p => p.2.openW) (fun p s =>
    let c := accCfg s p.1
    if c.input == i && srcAdmits c.src injected then addSample p.1 x s else s) s
  forEach (List.range 64) (fun k s =>
    let c := trkCfg s k
    if c.en && c.input == i && srcAdmits c.src injected then trackSample k c x tb s else s) s

/-- R489, R490: a sample of an input is lost. -/
def loseSample (injected : Bool) (i : Nat) (s : State) : State :=
  forEach (s.trc.accs.filter fun p => p.2.openW) (fun p s =>
    let c := accCfg s p.1
    if c.input == i && srcAdmits c.src injected then modAcc p.1 (Acc.addFlags flagGap) s else s) s

/-- R486 to R490, R493: one position of a step that ends; none is a conversion that has not completed. -/
def stepPosition (injected : Bool) (tb p i : Nat) (v : Option (BitVec 16)) (s : State) : State :=
  if i = 63 then s
  else match s.trc.positions.getD p none, v with
    | none, _ => loseSample injected i s
    | some _, none => loseSample injected i s
    | some _, some v => if s.trc.settling.isSome then s else takeSample injected tb i v s

/-- R486, R506: the step in progress ends: the conversions of its positions, and the crossing records that the stream path
takes. -/
def trackerStep (p0 p1 p2 p3 : Option (BitVec 16)) (taken : Nat) (s : State) : State :=
  let x := s.trc
  if !x.run ∨ s.now < x.stepTb + stepTicks then s
  else
    let injected := x.injStep.isSome
    let inputs := stepInputs s injected (x.injStep.getD x.step)
    let all := inputs.zip [p0, p1, p2, p3]
    let faults := (List.range 4).filter fun p =>
      (x.positions.getD p none).isSome && inputs.getD p 63 != 63 && ([p0, p1, p2, p3].getD p none).isNone
    let s := forEach ((List.range 4).zip all) (fun q s => stepPosition injected x.stepTb q.1 q.2.1 q.2.2 s) s
    let s := forEach faults.reverse hardFault s
    takeCrossings taken (advance s)

/-- R496, R819: the V_BULK sample of an injected step 0 that ends now. -/
def bulkSample (s : State) (p0 : Option (BitVec 16)) : Option Nat :=
  let x := s.trc
  if x.run ∧ x.stepTb + stepTicks ≤ s.now ∧ x.injStep = some 0 ∧ x.settling.isNone ∧ (x.positions.getD 0 none).isSome then
    p0.map BitVec.toNat
  else none

/-! ## Slices and the reference (R487 to R494) -/

/-- R487: the handover of the 100 ms rotation is picked. -/
def pickHandover (s : State) : State :=
  let x := s.trc
  let held := (x.positions.mapIdx fun p n => (p, n)).filterMap fun q => q.2.map fun n => (q.1, n)
  match x.spare with
  | some sp =>
    if x.run ∧ (x.slices.getD sp {}).st = .ready ∧ x.handover.isNone then
      match held.foldl (fun (m : Option (Nat × Nat)) q => match m with
        | none => some q
        | some o => if (x.slices.getD q.2 {}).calTb < (x.slices.getD o.2 {}).calTb then some q else m) none with
      | some (p, _) => s.onTrc fun x => { x with handover := some (p, sp) }
      | none => s
    else s
  | none => s

/-- R487: the rotation, once in 100 ms. -/
def doSliceRotation (s : State) : State :=
  if s.trc.run ∧ s.trc.rotTb + 100 * milli ≤ s.now then pickHandover (s.onTrc fun x => { x with rotTb := s.now }) else s

/-- R491, R493: the reference in use changes, and settles. -/
def changeRef (new : Nat) (s : State) : State :=
  let old := s.trc.refActive
  if old = new then s
  else raise 0x0905 [.h old, .h new] (accrueAccs (s.onTrc fun x => { x with
    refActive := new, settling := some s.now, refMv := if new = 0 then 4096 else x.refMv
    trks := x.trks.map fun p => (p.1, { p.2 with settled := false }) }))

/-- R487, R488, R492, R494: a slice's calibration ends, with its offset in LSB, its gain error in ppm and the selected
reference as it measured it, in mV. -/
def doSliceCalComplete (n : Fin 5) (offset gain : Int) (refMv : Nat) (s : State) : State :=
  let x := s.trc.slices.getD n {}
  if x.st ≠ .calibrating ∨ !s.trc.run ∨ s.now < x.startTb + 2 * milli then s
  else
    let good := offset.natAbs ≤ 8 && gain.natAbs ≤ 1000
    let s := if good then
        s.onTrc fun t => { t with slices := t.slices.modify n fun y => { y with st := .ready, calTb := s.now } }
      else
        let s := s.onTrc fun t => { t with
          slices := t.slices.modify n fun y => { y with st := .faulty }, spare := none, handover := none }
        noSpareLeft (raise 0x0901 [.h n, .h (signed16 offset), .h (signed16 gain)] s)
    if s.trc.refActive = 1 ∧ (refMv < 2500 ∨ 4500 < refMv) then changeRef 0 (raise 0x0906 [.h refMv] s)
    else if s.trc.refActive = 0 then s
    else s.onTrc fun t => { t with refMv := refMv }

/-- R493: 2 ms after a change of the reference, SETTLING clears. -/
def doRefSettlingEnd (s : State) : State :=
  match s.trc.settling with
  | some t => if t + 2 * milli ≤ s.now then
      let s := s.onTrc fun x => { x with settling := none }
      s.onPwr fun p => { p with checking := p.checking.map fun w => { w with last := s.now } }
    else s
  | none => s

/-- R499, R858: the regular sequence has not passed for 10 ms. -/
def doRegStarved (s : State) : State :=
  if s.trc.run ∧ !s.trc.starved ∧ s.trc.passTb + 10 * milli ≤ s.now then
    let s := raise 0x0908 [.w ((s.now - s.trc.passTb) / micro)] (s.onTrc fun x => { x with starved := true, injHeld := true })
    respondStuck 4 0 (declareStuck 4 0 (accrueAccs s))
  else s

/-- R511: the block starts its system steps and resources. -/
def startTracker (s : State) : State :=
  if s.trc.run then s
  else
    let s := s.onTrc fun x => { x with
      run := true, step := 0, injStep := none, injTrig := none, pending := none, stepTb := s.now, passTb := s.now, rotTb := s.now, starved := false
      slices := x.slices.mapIdx fun n y => if x.positions.contains (some n) ∧ y.st ≠ .faulty then { y with st := .active }
        else if y.st = .faulty then y else { y with st := .calibrating, startTb := s.now } }
    forEach (List.range 12) (fun i s => openAcc (244 + i) s.now s) s

/-- R511: the block is off. -/
def stopTracker : State → State := State.onTrc fun x => { x with
  run := false, injStep := none, injTrig := none, pending := none, energyDrop := none, handover := none, settling := none,
  accs := x.accs.map fun p => (p.1, { p.2 with openW := false }) }

/-- R511, R512: the tracker sequences function starts. -/
def startSequences (s : State) : State := openSteward (setF R.TRC_CTRL_REG_EN 1 s)

/-- R511, R512: the tracker sequences function stops. -/
def stopSequences (s : State) : State :=
  if flagF s R.TRC_CTRL_REG_EN then
    setF R.TRC_CTRL_REG_EN 0 (closeSteward flagGap s)
  else s

/-! ## Writes and reads of block TRC -/

/-- R513: an input code that a step may name. -/
def stepInputOk (i : Nat) : Bool := i < 48 || i == 63

/-- R513: a value is in range for a step register. -/
def stepWordOk (v : Word) : Bool := [0, 8, 16, 24].all fun b => stepInputOk (v.toNat / 2 ^ b % 64)

/-- R513: a value is in range for `TRC_ACC_LEN` under a mode. -/
def accLenOk (mode : Nat) (v : Word) : Bool :=
  match mode with
  | 0 => decide (v.toNat ≤ 599999999)
  | 3 => decide (v.toNat / 65536 < v.toNat % 65536)
  | _ => decide (v.toNat < 65536)

/-- R507: another tracker than k feeds OPTICAL from a segment. -/
def segmentTaken (s : State) (k input : Nat) : Bool :=
  (List.range 62).any fun j => j != k && flagF s (R.TRC_TRK_CFG_OPT j) && getF s (R.TRC_TRK_CFG_INPUT j) == input

/-- R500, R507, R513: a value is in range for a register of the block. -/
def trcRangeOk (s : State) (a : Nat) (v : Word) : Bool :=
  let o := a % 0x10000
  if o = 0 then R.TRC_CTRL_REF_SEL.get v != 3
  else if o = 0xC then decide (2 ≤ R.TRC_REG_CTRL_REG_COUNT_M1.get v)
  else if 0x200 ≤ o ∧ o < 0x2A0 then stepWordOk v
  else if 0x1000 ≤ o ∧ o < 0x2000 then
    let i := (o - 0x1000) / 16
    decide (i < 244) && (if o % 16 = 0 then (R.TRC_ACC_CFG_SRC i).get v != 3 && decide ((R.TRC_ACC_CFG_INPUT i).get v < 48)
      else accLenOk (getF s (R.TRC_ACC_CFG_MODE i)) v)
  else if 0x3000 ≤ o ∧ o < 0x3400 ∧ o % 16 < 8 then
    let k := (o - 0x3000) / 16
    decide (k < 62) && (if o % 16 = 0 then
        let i := (R.TRC_TRK_CFG_INPUT k).get v
        (R.TRC_TRK_CFG_SRC k).get v != 3 && decide (i < 48) && !((R.TRC_TRK_CFG_OPT k).get v == 1 && decide (i < 32) && segmentTaken s k i)
      else
        let i := getF s (R.TRC_TRK_CFG_INPUT k)
        decide (threshold i ((R.TRC_TRK_THR_THR_LO k).get v) ≤ threshold i ((R.TRC_TRK_THR_THR_HI k).get v)))
  else true

/-- R512: a register that is written only while REG_EN is 0. -/
def trcHeld (a : Nat) : Bool :=
  let o := a % 0x10000
  o == 0xC || o == 0x10 || o == 0x14 || (0x100 ≤ o && o < 0x2A0) || (0x1000 ≤ o && o < 0x2000) || (0x3000 ≤ o && o < 0x3400 && o % 16 < 8)

/-- R491, R511: a write of `TRC_CTRL`. -/
def writeTrcCtrl (a : Nat) (v : Word) (s : State) : State :=
  let was := flagF s R.TRC_CTRL_REG_EN
  let s := if R.TRC_CTRL_CNT_CLR.get v = 1 then setRaw A.TRC_CNT 0 (setRaw A.TRC_CNT2 0 s) else s
  let s := if was && R.TRC_CTRL_REG_EN.get v == 0 then stopSequences s else s
  let s := changeRef (R.TRC_CTRL_REF_SEL.get v) (plainWrite a v s)
  if !was && R.TRC_CTRL_REG_EN.get v == 1 then openSteward s else s

/-- R495: a step register of the system, or the field of it that holds a system input. -/
def writeStep (a : Nat) (v : Word) (s : State) : State :=
  if a < A.TRC_STEP_REG 3 then s
  else if a = A.TRC_STEP_INJ 0 then plainWrite a ((v &&& 0xFFFFFFC0) ||| 40) s
  else plainWrite a v s

/-- R512, R513: a write to a register of the block. -/
def writeTrc (a : Nat) (v : Word) (s : State) : WriteResult × State :=
  if trcHeld a && flagF s R.TRC_CTRL_REG_EN then rejectWrite 0x090A a s
  else if !trcRangeOk s a v then rejectWrite 0x090B a s
  else if a = A.TRC_CTRL then (.ok, writeTrcCtrl a v s)
  else if A.TRC_STEP_REG 0 ≤ a ∧ a < A.TRC_STEP_INJ 8 then (.ok, writeStep a v s)
  else (.ok, plainWrite a v s)

/-- The code of a slice's state. -/
def SliceState.code : SliceState → Nat
  | .active => 0
  | .calibrating => 1
  | .ready => 2
  | .faulty => 3

/-- `TRC_SLICE_STATUS.ROLE` of a slice. -/
def sliceRole (s : State) (n : Nat) : Nat :=
  match s.trc.positions.findIdx? (· == some n) with
  | some p => p
  | none => if s.trc.spare = some n then 4 else 5

/-- `TRC_TRK_VAL`: a code in the input's coding. -/
def codeOf (v : Int) : Nat := (BitVec.ofInt 16 v).toNat

/-- R509: T_est, LINE_PERIOD before two frames with at least two crossings each. -/
def estimatedPeriod (s : State) : Nat := if s.trc.optFrames < 2 then linePeriod s else s.trc.tEst

/-- R486 to R509: the words of the block that the state holds elsewhere. -/
def readTrc (s : State) (a : Nat) : Option Word :=
  let x := s.trc
  let o := a % 0x10000
  let pos := fun p => (x.positions.getD p none).getD 7
  if o = 4 then
    some (BitVec.ofNat 32 (x.spare.getD 7 * 2 ^ 29 + pos 3 * 2 ^ 26 + pos 2 * 2 ^ 23 + pos 1 * 2 ^ 20 + pos 0 * 2 ^ 17 +
      x.refActive * 2 ^ 15 + bit x.settling.isSome * 2 ^ 14 + bit x.noSpare * 2 ^ 13 + bit x.starved * 2 ^ 12 +
      bit x.injStep.isSome * 2 ^ 11 + bit x.pending.isSome * 2 ^ 10))
  else if o = 0x20 then some (BitVec.ofNat 32 (estimatedPeriod s))
  else if o = 0x24 then some (BitVec.ofNat 32 (estimatedPeriod s / 2 ^ 32 % 2 ^ 16))
  else if o = 0x28 then some (BitVec.ofNat 32 x.segs)
  else if 0x40 ≤ o ∧ o < 0x54 then
    let n := (o - 0x40) / 4
    let y := x.slices.getD n {}
    some (BitVec.ofNat 32 (getF s (R.TRC_SLICE_STATUS_DROPS n) * 65536 + min 255 ((s.now - y.calTb) / (10 * milli)) * 256 +
      sliceRole s n * 4 + y.st.code))
  else if 0x200 ≤ o ∧ o < 0x20C then
    match systemStep ((o - 0x200) / 4) with
    | [a, b, c, d] => some (BitVec.ofNat 32 (d * 2 ^ 24 + c * 2 ^ 16 + b * 2 ^ 8 + a))
    | _ => some 0
  else if o = 0x280 then some ((rawReg s a &&& 0xFFFFFFC0) ||| 40)
  else if 0x2000 ≤ o ∧ o < 0x3000 then
    let y := getAcc s ((o - 0x2000) / 16)
    some (match o % 16 with
      | 0 => y.rSum.extractLsb' 0 32
      | 4 => (y.rSum.extractLsb' 32 24).setWidth 32
      | 8 => y.rCount.extractLsb' 0 32
      | _ => y.rFlags ++ (0 : BitVec 8) ++ y.rCount.extractLsb' 32 8)
  else if 0x3000 ≤ o ∧ o < 0x3400 ∧ 8 ≤ o % 16 then
    let k := (o - 0x3000) / 16
    let y := getTrk s k
    let c := trkCfg s k
    if o % 16 = 8 then
      let (lo, hi) := y.mm.getD (if signedInput c.input then (32767, -32768) else (65535, 0))
      some (BitVec.ofNat 32 (codeOf hi * 65536 + codeOf lo))
    else some (BitVec.ofNat 32 (bit y.level * 2 ^ 31 + getF s (R.TRC_TRK_STAT_CROSSINGS k)))
  else none

/-- R504: what a read of a register of the block clears beyond its counters. -/
def clearTrc (a : Nat) (s : State) : State :=
  let o := a % 0x10000
  if 0x3000 ≤ o ∧ o < 0x3400 ∧ o % 16 = 8 then
    modTrk ((o - 0x3000) / 16) (fun x => { x with mm := none, settled := s.trc.settling.isNone }) s
  else s

end Sys2Proof.Machine
end

