-- ==== Sys2Proof/Machine/Trigger.lean ====
section
/-! DEFINITION. Chapter 11: the trigger engines, their instructions, pins, flags, groups, injections and stalls. -/

namespace Sys2Proof.Machine

/-! ## Registers of the engines -/

/-- One thread. -/
def getThread (s : State) (e t : Nat) : Thread := (getEngine s e).threads.getD t {}

/-- Changes one thread. -/
def modThread (e t : Nat) (f : Thread → Thread) : State → State :=
  modEngine e fun x => { x with threads := x.threads.modify t f }

/-- R520: the group of a thread. -/
def threadGroup (s : State) (e t : Nat) : Nat := getF s (R.TGE_THR_CTRL_GROUP e t)

/-- R520: a thread is enabled. -/
def threadEn (s : State) (e t : Nat) : Bool := flagF s (R.TGE_THR_CTRL_EN e t)

/-- R522: the state of a group. -/
def groupSt (s : State) (e g : Nat) : GrpState := (getEngine s e).groups.getD g .off

/-- R523: a group is OFF or STOPPED. -/
def groupIdle (s : State) (e g : Nat) : Bool := groupSt s e g != .running

/-- R523: every group of an engine is OFF or STOPPED. -/
def engineIdle (s : State) (e : Nat) : Bool := (List.range 4).all (groupIdle s e)

/-- R520: a group owns its range when it has an enabled thread or a range other than that of reset (log entry 49). -/
def groupUsed (s : State) (e g : Nat) : Bool :=
  rawReg s (A.TGE_GRP_CODE e g) != 0 || (List.range 16).any fun t => threadEn s e t && threadGroup s e t == g

/-- R520: a word index lies in a group's range. -/
def inRange (s : State) (e g i : Nat) : Bool :=
  decide (getF s (R.TGE_GRP_CODE_CODE_LO e g) ≤ i) && decide (i ≤ getF s (R.TGE_GRP_CODE_CODE_HI e g))

/-- R524: an instruction word. -/
def codeWord (s : State) (e i : Nat) : Nat := (Tbl.getD s.tge.code (512 * e + i) 0).toNat

/-! ## Encoding (R533 to R540) -/

/-- R533: the operation of a word. -/
def opOf (w : Nat) : Nat := w / 4096 % 16

/-- R533: the delay field of a word. -/
def delayOf (w : Nat) : Nat := w / 512 % 8

/-- R533, R534: bits of the operand. -/
def operand (w lo n : Nat) : Nat := w / 2 ^ lo % 2 ^ n

/-- R540: a word is legal under a condition mode (true is jump-rich). -/
def legalWord (jumpRich : Bool) (w : Nat) : Bool :=
  match opOf w with
  | 0 => operand w 0 9 == 0
  | 1 => jumpRich || decide (operand w 6 3 < 5)
  | 2 =>
    match operand w 7 2 with
    | 0 => !jumpRich && operand w 6 1 == 0
    | 1 => true
    | 2 => operand w 3 4 == 0
    | _ => !jumpRich && operand w 2 5 == 0 && operand w 0 2 != 3
  | 3 => operand w 5 2 == 0
  | 4 => operand w 5 2 == 0
  | 5 => operand w 0 7 == 0
  | 6 => operand w 8 1 == 0 && operand w 0 7 == 0
  | 7 => operand w 6 3 != 7 && decide (operand w 0 3 < 4)
  | 8 => true
  | 9 => operand w 7 2 != 0
  | 10 => operand w 3 4 == 0 && (operand w 7 2 != 2 || operand w 0 3 == 0)
  | _ => false

/-- R537: the condition mode of an engine. -/
def jumpRich (s : State) (e : Nat) : Bool := flagF s (R.TGE_ENG_CTRL_MODE e)

/-- R521: a group passes its code check. -/
def codeCheck (s : State) (e g : Nat) : Bool :=
  let lo := getF s (R.TGE_GRP_CODE_CODE_LO e g)
  let hi := getF s (R.TGE_GRP_CODE_CODE_HI e g)
  ((List.range (hi + 1 - lo)).all fun i => legalWord (jumpRich s e) (codeWord s e (lo + i))) &&
    (List.range 16).all fun t => !(threadEn s e t && threadGroup s e t == g) || inRange s e g (getF s (R.TGE_THR_CTRL_ORIGIN e t))

/-! ## Pins (R524 to R529) -/

/-- R527: the configuration register of pin 0 to 19. -/
def lineReg (pin : Nat) : Nat := if pin < 16 then A.TGE_LINE_CFG pin else A.TGE_DIFF_CFG (pin - 16)

/-- R527: the owner of a line or pair: 0 none, 1 to 4 an engine, 5 the raster PLL. -/
def lineOwner (s : State) (pin : Nat) : Nat := (rawReg s (lineReg pin)).toNat % 8

/-- R524: the level of a pin as an engine's threads read it in an engine cycle. -/
def pinLevel (s : State) (e cycle pin : Nat) : Bool :=
  if pin < 20 then s.tge.inLevel.getLsbD pin
  else if pin < 28 then pulseHigh (getEngine s e) (pin - 20) cycle
  else if pin = 28 then s.cal.phase != .idle
  else if pin = 29 then s.ctg.gate
  else if pin = 30 then s.rru.rpValid
  else false

/-- R518, R534: the pins of a thread's group. -/
def groupPins (s : State) (e t : Nat) : List Nat :=
  (List.range (getF s (R.TGE_THR_PINS_PG_WIDTH_M1 e t) + 1)).map fun i => (getF s (R.TGE_THR_PINS_PG_BASE e t) + i) % 32

/-- R534: the levels of a thread's pin group as a value. -/
def groupLevels (s : State) (e t cycle : Nat) : Nat :=
  (groupPins s e t).reverse.foldl (fun n p => 2 * n + bit (pinLevel s e cycle p)) 0

/-- A bit of a word of 20 lines. -/
def setLine (v : BitVec 20) (pin : Nat) (b : Bool) : BitVec 20 :=
  if b then v ||| (1#20 <<< pin) else v &&& ~~~(1#20 <<< pin)

/-- R527, R528: a thread of group g of engine e writes a pin or a pin direction. -/
def writePin (e g : Nat) (dir : Bool) (pin : Nat) (b : Bool) (s : State) : State :=
  if pin < 20 ∧ lineOwner s pin = e + 1 then
    s.onTge fun x =>
      let x := { x with lastBy := Tbl.set x.lastBy pin (e, g) }
      if dir then { x with dirOut := setLine x.dirOut pin b } else { x with drive := setLine x.drive pin b }
  else raiseLimited e second 0x0A06 [.h e, .h pin] (addF (R.TGE_ENG_CNT_PIN_DENY e) 1 s)

/-- R534: a value is written to a thread's pin group. -/
def writeGroup (e t : Nat) (dir : Bool) (v : Nat) (s : State) : State :=
  forEach ((groupPins s e t).mapIdx fun i p => (i, p)) (fun (i, p) s => writePin e (threadGroup s e t) dir p (v.testBit i) s) s

/-- R522, R549: a line returns to IDLE. -/
def lineIdle (pin : Nat) (s : State) : State :=
  let idle := (rawReg s (lineReg pin)).getLsbD 7
  s.onTge fun x => { x with drive := setLine x.drive pin idle, lastBy := Tbl.del x.lastBy pin }

/-- R522: the lines that a group, or a whole engine, wrote last go to IDLE. -/
def linesIdle (e : Nat) (g : Option Nat) (s : State) : State :=
  forEach (s.tge.lastBy.filter fun p => p.2.1 == e && (g.isNone || g == some p.2.2)) (fun p s => lineIdle p.1 s) s

/-- R529, R549, R551: the level that the head drives on a line or pair, none while it is undriven. -/
def lineOut (s : State) (pin : Nat) : Option Bool :=
  let cfg := rawReg s (lineReg pin)
  let owner := lineOwner s pin
  if s.tge.padLatch ≠ [] then s.tge.padLatch.getD pin none
  else if s.tge.undriven ∨ owner = 0 then none
  else if s.tge.safe then (match cfg.toNat / 16 % 4 with
    | 1 => some false
    | 2 => some true
    | _ => none)
  else if owner = 5 then some (s.rru.outPulse.getLsbD (pin - 9))
  else if s.tge.dirOut.getLsbD pin then some (s.tge.drive.getLsbD pin)
  else none

/-! ## Executing an instruction -/

/-- What an instruction does to its thread's program counter. -/
inductive Flow where
  | next
  | jump (disp : Nat)
  | wait
  | blocked
  deriving DecidableEq, Repr

/-- R534: the raster position as a value. -/
def rpValue (s : State) : Nat :=
  let p := posAt s (16 * s.now)
  p.l % 65536 * 65536 + p.phi

/-- R539: a raster target is at or past in this slot of a thread and was not in its slot before, in this frame. -/
def targetCrossed (s : State) (target : BitVec 32) : Bool :=
  let p := posAt s (16 * s.now)
  let q := posAt s (16 * (s.now - 8))
  s.rru.rpValid && decide (target.toNat ≤ p.l * 65536 + p.phi) &&
    (decide (s.now < s.tmb.fbTb.toNat + 8) || decide (q.l * 65536 + q.phi < target.toNat))

/-- R538: the condition of a WAIT holds. -/
def waitHolds (s : State) (e t w cycle : Nat) : Bool :=
  match operand w 7 2 with
  | 0 => bit (pinLevel s e cycle (operand w 0 5)) == operand w 5 1
  | 1 => (flagsAt s cycle).getLsbD (operand w 0 7)
  | 2 => (getEngine s e).irq.getLsbD (operand w 0 3)
  | _ =>
    match operand w 0 2 with
    | 0 => pinLevel s e cycle 20 && s.rru.rpValid
    | 1 => pinLevel s e cycle 21 && s.rru.rpValid
    | _ => targetCrossed s (getThread s e t).a

/-- R532: a WAIT that proceeds clears the IRQ that it awaited. -/
def waitProceeds (e w : Nat) (s : State) : State :=
  if operand w 7 2 = 2 then modEngine e (fun x => { x with irq := x.irq &&& ~~~(1#8 <<< operand w 0 3) }) s else s

/-- R537: the condition of a JMP, and the counters after it. -/
def jumpTaken (s : State) (e w cycle : Nat) (x : Thread) (jpin : Nat) : Bool × Thread :=
  let rich := jumpRich s e
  match operand w 6 3 with
  | 0 => (true, x)
  | 1 => (x.c0.toNat ≥ 2, { x with c0 := if x.c0 = 0 then 0 else x.c0 - 1 })
  | 2 => (x.c1.toNat ≥ 2, { x with c1 := if x.c1 = 0 then 0 else x.c1 - 1 })
  | 3 => (if rich then pinLevel s e cycle jpin else x.c0 == 0, x)
  | 4 => (if rich then !pinLevel s e cycle jpin else x.c1 == 0, x)
  | 5 => (x.shCount == 0, x)
  | 6 => (x.shCount == 32, x)
  | _ => (x.a != x.b, x)

/-- R535: IN shifts bits into the shifter. -/
def shiftIn (x : Thread) (n v : Nat) : Thread :=
  { x with sh := BitVec.ofNat 32 (x.sh.toNat * 2 ^ n + v % 2 ^ n), shCount := min 32 (x.shCount + n) }

/-- R535: the bits that OUT takes. -/
def shiftOutBits (x : Thread) (n : Nat) : Nat :=
  let v := x.sh.toNat / 2 ^ (32 - n)
  let z := n - x.shCount
  v / 2 ^ z * 2 ^ z

/-- R535: the shifter after OUT. -/
def shiftOut (x : Thread) (n : Nat) : Thread :=
  { x with sh := BitVec.ofNat 32 (x.sh.toNat * 2 ^ n), shCount := x.shCount - n }

/-- R534: the value of an IN source. -/
def inSource (s : State) (e t cycle : Nat) (x : Thread) (src : Nat) : Nat :=
  match src with
  | 0 => groupLevels s e t cycle
  | 1 => x.a.toNat
  | 2 => x.b.toNat
  | _ => rpValue s

/-- R534: the value of a MOV source. -/
def movSource (s : State) (e t cycle : Nat) (x : Thread) (src : Nat) : Nat :=
  match src with
  | 0 => groupLevels s e t cycle
  | 1 => x.a.toNat
  | 2 => x.b.toNat
  | 3 => x.sh.toNat
  | 4 => 0
  | 5 => x.txf.length
  | 6 => rpValue s
  | _ => s.now % 2 ^ 32

/-- R534: the function of a MOV. -/
def movFn (fn : Nat) (v : BitVec 32) : BitVec 32 :=
  match fn with
  | 0 => v
  | 1 => ~~~v
  | 2 => v + 1
  | _ => v - 1

/-- R534: a MOV writes its destination. -/
def movDest (e t dst : Nat) (v : BitVec 32) (s : State) : State :=
  match dst with
  | 0 => writeGroup e t false v.toNat s
  | 1 => modThread e t (fun x => { x with a := v }) s
  | 2 => modThread e t (fun x => { x with b := v }) s
  | 3 => modThread e t (fun x => { x with sh := v, shCount := 32 }) s
  | 4 => modThread e t (fun x => { x with c0 := v.extractLsb' 0 16 }) s
  | 5 => modThread e t (fun x => { x with c1 := v.extractLsb' 0 16 }) s
  | _ => writeGroup e t true v.toNat s

/-- R536: PUSH. -/
def pushWord (e t w : Nat) (s : State) : Flow × State :=
  let x := getThread s e t
  let keep := operand w 8 1 = 1
  let cleared := if keep then x else { x with sh := 0, shCount := 0 }
  if x.rxf.length < 4 then (.next, modThread e t (fun _ => { cleared with rxf := x.rxf ++ [x.sh] }) s)
  else if operand w 7 1 = 0 then (.blocked, s)
  else (.next, setF (R.TGE_THR_STATUS_OVR e t) 1 (modThread e t (fun _ => cleared) s))

/-- R536: PULL. -/
def pullWord (e t w : Nat) (s : State) : Flow × State :=
  let x := getThread s e t
  match x.txf with
  | v :: l => (.next, modThread e t (fun _ => { x with sh := v, shCount := 32, txf := l }) s)
  | [] => if operand w 7 1 = 0 then (.blocked, s) else (.next, s)

/-- R548: an EVENT 0x0A10 of a thread; R549: those raised during a level-1 restart follow it, marked RESTARTED. -/
def threadEvent (e t n : Nat) (s : State) : State :=
  let x := getEngine s e
  let fresh := second ≤ s.now - x.evtFrom || x.evtSent == 0
  let (sent, frm) := if fresh then (0, s.now) else (x.evtSent, x.evtFrom)
  if sent < 1000 then
    let s := modEngine e (fun y => { y with evtSent := sent + 1, evtFrom := frm }) s
    let m := makeEntry s 0x0A10 .info 0 (packDetail [.h e, .h t, .h n, .q s.now])
    if s.head.fwReady && !s.head.coreRestart then pushToSessions m true s
    else s.onTge fun g => { g with heldEvents := g.heldEvents ++ [{ m with retained := true }] }
  else
    let s := addF (R.TGE_ENG_DROP e) 1 (modEngine e (fun y => { y with evtFrom := frm }) s)
    raiseLimited e second 0x0A0A [.h e, .w (getF s (R.TGE_ENG_DROP e))] s

/-- R549: firmware is ready again and sends what followed the restart. -/
def flushThreadEvents (s : State) : State :=
  forEach s.tge.heldEvents (fun m s => pushToSessions m true s) (s.onTge fun g => { g with heldEvents := [] })

/-- R533: an IRQ instruction. -/
def irqOp (e t w : Nat) (s : State) : State :=
  let n := operand w 0 3
  let set := modEngine e fun x => { x with irq := x.irq ||| (1#8 <<< n) }
  match operand w 7 2 with
  | 0 => set s
  | 1 => threadEvent e t n (set s)
  | 2 => doInjectedTrigger (.engine (Fin.ofNat 4 e)) s
  | _ => modEngine e (fun x => { x with irq := x.irq &&& ~~~(1#8 <<< n) }) s

/-- R533: a SET instruction. -/
def setOp (e t w : Nat) (s : State) : State :=
  let d := operand w 0 7
  match operand w 7 2 with
  | 0 => writeGroup e t false d s
  | 1 => writeGroup e t true d s
  | 2 => modThread e t (fun x => { x with c0 := BitVec.ofNat 16 d }) s
  | _ => modThread e t (fun x => { x with c1 := BitVec.ofNat 16 d }) s

/-- R533: an OUT instruction. -/
def outOp (e t w : Nat) (s : State) : State :=
  let n := operand w 0 5 + 1
  let x := getThread s e t
  let v := shiftOutBits x n
  let s := modThread e t (fun _ => shiftOut x n) s
  match operand w 7 2 with
  | 0 => writeGroup e t false v s
  | 1 => writeGroup e t true v s
  | 2 => modThread e t (fun y => { y with a := BitVec.ofNat 32 (y.a.toNat * 2 ^ n + v) }) s
  | _ => s

/-- R533: the effect of a legal word of a thread in its slot. -/
def executeWord (e t w : Nat) (s : State) : Flow × State :=
  let c := slotCycle s t
  let x := getThread s e t
  match opOf w with
  | 1 =>
    let (taken, y) := jumpTaken s e w c x (getF s (R.TGE_THR_PINS_JPIN e t))
    (if taken then .jump (operand w 0 6) else .next, modThread e t (fun _ => y) s)
  | 2 => if waitHolds s e t w c then (.next, waitProceeds e w s) else (.wait, s)
  | 3 => (.next, modThread e t (fun _ => shiftIn x (operand w 0 5 + 1) (inSource s e t c x (operand w 7 2))) s)
  | 4 => (.next, outOp e t w s)
  | 5 => pushWord e t w s
  | 6 => pullWord e t w s
  | 7 => (.next, movDest e t (operand w 6 3) (movFn (operand w 0 3) (BitVec.ofNat 32 (movSource s e t c x (operand w 3 3)))) s)
  | 8 => (.next, setOp e t w s)
  | 9 => (.next, threadFlag (operand w 7 2) (operand w 0 7) c s)
  | 10 => (.next, irqOp e t w s)
  | _ => (.next, s)

/-- R533: a signed displacement of 6 bits from a PC, modulo 512. -/
def displaced (pc : BitVec 9) (disp : Nat) : BitVec 9 := pc + (BitVec.ofNat 6 disp).signExtend 9

/-- R521: a thread whose PC has left its group's range is HALTED. -/
def checkRange (e t : Nat) (s : State) : State :=
  let x := getThread s e t
  if inRange s e (threadGroup s e t) x.pc.toNat then s
  else raise 0x0A04 [.h e, .h t, .h x.pc.toNat] (modThread e t (fun x => { x with st := .halted }) s)

/-- R519, R533: a thread after an instruction. -/
def finishSlot (e t w : Nat) (f : Flow) (s : State) : State :=
  let past := s.now + 8 * (delayOf w + 1)
  match f with
  | .next => checkRange e t (modThread e t (fun x => { x with st := .run, pc := x.pc + 1, ready := past }) s)
  | .jump d => checkRange e t (modThread e t (fun x => { x with st := .run, pc := displaced (x.pc + 1) d, ready := past }) s)
  | .wait => modThread e t (fun x => { x with st := .wait, ready := s.now + 8 }) s
  | .blocked => modThread e t (fun x => { x with st := .blocked, ready := s.now + 8 }) s

/-- R541: the thread's next slot belongs to a pending injection. -/
def slotTaken (s : State) (e t : Nat) : Bool := (getEngine s e).inj.any fun p => p.1 == t

/-- R516, R519: a thread in a state may execute in this tick. -/
def maySlot (s : State) (e t : Nat) (st : ThrState) : Bool :=
  slotOpen s t && !slotTaken s e t && (getThread s e t).st == st && decide ((getThread s e t).ready ≤ s.now)

/-- The word at a thread's PC. -/
def threadWord (s : State) (e t : Nat) : Nat := codeWord s e (getThread s e t).pc.toNat

/-- R516, R533: a running thread executes the word at its PC when the word is one of the kind named. -/
def runInstr (kind : Nat → Bool) (e : Fin 4) (t : Fin 16) (s : State) : State :=
  let w := threadWord s e t
  if maySlot s e t .run && legalWord (jumpRich s e) w && kind w then
    let (f, s) := executeWord e t w s
    finishSlot e t w f s
  else s

/-- R538, R536: a thread in WAIT or BLOCKED tries its instruction again, and goes on when it can. -/
def resume (st : ThrState) (op : Nat) (e : Fin 4) (t : Fin 16) (s : State) : State :=
  let w := threadWord s e t
  if maySlot s e t st && opOf w == op then
    match executeWord e t w s with
    | (.next, s) => finishSlot e t w .next s
    | _ => s
  else s

/-- The words of an operation. -/
def isOp (op w : Nat) : Bool := opOf w == op

/-- The words of an operation with a value of operand bits [8:7]. -/
def isOpMode (op mode w : Nat) : Bool := opOf w == op && operand w 7 2 == mode

def doInstrNop (e : Fin 4) (t : Fin 16) (s : State) : State := runInstr (isOp 0) e t s
def doInstrJmp (e : Fin 4) (t : Fin 16) (s : State) : State := runInstr (isOp 1) e t s
def doInstrWait (e : Fin 4) (t : Fin 16) (s : State) : State := runInstr (isOp 2) e t s
def doInstrIn (e : Fin 4) (t : Fin 16) (s : State) : State := runInstr (isOp 3) e t s
def doInstrOut (e : Fin 4) (t : Fin 16) (s : State) : State := runInstr (isOp 4) e t s
def doInstrPush (e : Fin 4) (t : Fin 16) (s : State) : State := runInstr (isOp 5) e t s
def doInstrPull (e : Fin 4) (t : Fin 16) (s : State) : State := runInstr (isOp 6) e t s
def doInstrMov (e : Fin 4) (t : Fin 16) (s : State) : State := runInstr (isOp 7) e t s
def doInstrSet (e : Fin 4) (t : Fin 16) (s : State) : State := runInstr (isOp 8) e t s
def doFlagSet (e : Fin 4) (t : Fin 16) (s : State) : State := runInstr (isOpMode 9 1) e t s
def doFlagClear (e : Fin 4) (t : Fin 16) (s : State) : State := runInstr (isOpMode 9 2) e t s
def doFlagToggle (e : Fin 4) (t : Fin 16) (s : State) : State := runInstr (isOpMode 9 3) e t s
def doIrqSet (e : Fin 4) (t : Fin 16) (s : State) : State := runInstr (isOpMode 10 0) e t s
def doIrqSetEvent (e : Fin 4) (t : Fin 16) (s : State) : State := runInstr (isOpMode 10 1) e t s
def doIrqTrackerRequest (e : Fin 4) (t : Fin 16) (s : State) : State := runInstr (isOpMode 10 2) e t s
def doIrqClear (e : Fin 4) (t : Fin 16) (s : State) : State := runInstr (isOpMode 10 3) e t s
def doWaitProceed (e : Fin 4) (t : Fin 16) (s : State) : State := resume .wait 2 e t s
def doPushResume (e : Fin 4) (t : Fin 16) (s : State) : State := resume .blocked 5 e t s
def doPullResume (e : Fin 4) (t : Fin 16) (s : State) : State := resume .blocked 6 e t s

/-! ## Injection (R541 to R543) -/

/-- R543: an injection is refused. -/
def refuseInjection (e t reason : Nat) (s : State) : State :=
  raise 0x0A05 [.h e, .h t, .h reason] (modEngine e (fun x => { x with injResult := 3 }) s)

/-- R541, R543: a write of `TGE_ENG_INJ[e]`. -/
def requestInjection (e : Nat) (v : Word) (s : State) : State :=
  let t := v.toNat / 65536 % 16
  let w := v.toNat % 65536
  let st := (getThread s e t).st
  if !legalWord (jumpRich s e) w then refuseInjection e t 0 s
  else if st = .off ∨ st = .halted then refuseInjection e t 1 s
  else if (getEngine s e).inj.isSome then refuseInjection e t 2 s
  else modEngine e (fun x => { x with inj := some (t, BitVec.ofNat 16 w), injResult := 0 }) s

/-- R541, R542: the injected instruction executes in the thread's next slot. -/
def doInjectionExecute (e : Fin 4) (s : State) : State :=
  match (getEngine s e).inj with
  | none => s
  | some (t, w) =>
    if !slotOpen s t then s
    else
      let (f, s) := executeWord e t w.toNat s
      let s := modEngine e (fun x => { x with inj := none, injResult := if f = .wait ∨ f = .blocked then 2 else 1 }) s
      let s := modThread e t (fun x => { x with ready := max x.ready (s.now + 8) }) s
      match f with
      | .jump d => checkRange e t (modThread e t (fun x => { x with st := .run, pc := displaced x.pc d }) s)
      | _ => s

/-! ## Groups (R520 to R522) -/

/-- R522: a thread starts at its origin. -/
def startThread (e t : Nat) (s : State) : State :=
  modThread e t (fun _ =>
    { st := .run, pc := BitVec.ofNat 9 (getF s (R.TGE_THR_CTRL_ORIGIN e t)),
      a := rawReg s (A.TGE_THR_AINIT e t), b := rawReg s (A.TGE_THR_BINIT e t),
      c0 := BitVec.ofNat 16 (getF s (R.TGE_THR_CINIT_C0_INIT e t)),
      c1 := BitVec.ofNat 16 (getF s (R.TGE_THR_CINIT_C1_INIT e t)), ready := s.now }) s

/-- The enabled threads of a group. -/
def groupThreads (s : State) (e g : Nat) : List Nat :=
  (List.range 16).filter fun t => threadEn s e t && threadGroup s e t == g

/-- R522: a group starts. -/
def startGroup (e g : Nat) (s : State) : State :=
  let s := modEngine e (fun x => { x with groups := x.groups.set g .running, startF := x.startF.set g none }) s
  forEach (groupThreads s e g) (startThread e) s

/-- R522: the threads of a group become OFF; an injection that waits for one of them ends without effect. -/
def threadsOff (e g : Nat) (st : GrpState) (s : State) : State :=
  let ts := (List.range 16).filter fun t => threadGroup s e t == g
  let s := forEach ts (fun t s => modThread e t (fun x => { x with st := .off }) s) s
  modEngine e (fun x =>
    let hit := match x.inj with
      | some (t, _) => ts.contains t
      | none => false
    { x with groups := x.groups.set g st, stopF := x.stopF.set g none,
             inj := if hit then none else x.inj, injResult := if hit then 2 else x.injResult }) s

/-- R522, R755: the STOPs and RESTARTs of the groups at the boundary that starts frame f; a start frame whose number is skipped starts
at the first boundary after it. -/
def groupsBoundary (s : State) : State :=
  let f := s.rru.f
  forEach (List.range 4) (fun e s => forEach (List.range 4) (fun g s =>
    let x := getEngine s e
    let s := if groupSt s e g = .running ∧ x.stopF.getD g none = some f then
        raise 0x0A0C [.h e, .h g, .w f] (linesIdle e (some g) (threadsOff e g .stopped s))
      else s
    if groupSt s e g = .stopped ∧ ((getEngine s e).startF.getD g none).any (fun f0 => decide (f0 ≤ f)) then
      raise 0x0A0B [.h e, .h g, .w f] (startGroup e g s)
    else s) s) s

/-- R522, R549: the engines are off; lines and pairs take SAFE, or are undriven. -/
def enginesOff (undriven : Bool) (s : State) : State :=
  let s := forEach (List.range 4) (fun e s => forEach (List.range 4) (fun g s =>
    let s := threadsOff e g .off s
    modEngine e (fun x => { x with startF := x.startF.set g none }) s) s) s
  s.onTge fun x => { x with safe := !undriven, undriven := undriven }

/-- R522, R529, R549: an applied image starts the groups that have an enabled thread, and loads the lines. -/
def startEngines (s : State) : State :=
  let s := s.onTge fun x => { x with safe := false, undriven := false, padLatch := [], lastBy := [] }
  let s := forEach (List.range 20) (fun p s =>
    let cfg := rawReg s (lineReg p)
    s.onTge fun x => { x with drive := setLine x.drive p (cfg.getLsbD 7), dirOut := setLine x.dirOut p (cfg.getLsbD 6) }) s
  forEach (List.range 4) (fun e s =>
    let s := modEngine e (fun x => { x with irq := 0, stallFrom := none, stalled := false }) s
    forEach (List.range 4) (fun g s => if (groupThreads s e g).isEmpty then s else startGroup e g s) s) s

/-- R522: a RESTART of a stopped group is admitted by its code check. -/
def restartGroup (e g f : Nat) (s : State) : Bool × State :=
  if codeCheck s e g then (true, modEngine e (fun x => { x with startF := x.startF.set g (some f) }) s)
  else (false, raise 0x0A09 [.w (4 * e + g)] s)

/-! ## Stalls (R544 to R546) -/

/-- R544: the stall condition of an engine holds. -/
def stallCond (s : State) (e : Nat) : Bool :=
  let ts := (List.range 16).filter fun t => threadEn s e t && (getThread s e t).st != .halted
  !ts.isEmpty && (getEngine s e).inj.isNone && ts.all fun t =>
    let w := threadWord s e t
    (getThread s e t).st == .wait && opOf w == 2 &&
      (operand w 7 2 == 2 || (operand w 7 2 == 1 && !(getF s (R.TGE_FLAG_EXT (operand w 0 7 / 32))).testBit (operand w 0 7 % 32)))

/-- R544, R546: the detectors follow their condition. -/
def watchStalls (s : State) : State :=
  forEach (List.range 4) (fun e s =>
    let x := getEngine s e
    if stallCond s e then
      (if x.stallFrom.isNone then modEngine e (fun x => { x with stallFrom := some s.now }) s else s)
    else if x.stallFrom.isSome || x.stalled then
      machineMoves 3 e (modEngine e (fun x => { x with stallFrom := none, stalled := false }) s)
    else s) s

/-- R545: the response of STALL_POL. -/
def stallResponse (e : Nat) (s : State) : State :=
  match getF s (R.TGE_ENG_CTRL_STALL_POL e) with
  | 1 =>
    let f := getF s (R.TGE_ENG_CTRL_FORCE_FLAG e)
    raise 0x0A02 [.h e, .h f] (threadFlag 1 f (2 * s.now + 1) s)
  | 2 =>
    let ts := (List.range 16).filter fun t => threadEn s e t && (getThread s e t).st != .off && (getThread s e t).st != .halted
    let s := modEngine e (fun x => { x with irq := 0 }) (linesIdle e none (forEach ts (startThread e) s))
    raise 0x0A03 [.h e] s
  | _ => s

/-- R545: the stall condition has held for 1,024 cycles. -/
def doStall (e : Fin 4) (s : State) : State :=
  let x := getEngine s e
  match x.stallFrom with
  | some t =>
    if !x.stalled ∧ t + 512 ≤ s.now then
      let n := ((List.range 16).filter fun t => (getThread s e t).st == .wait).length
      let s := raise 0x0A01 [.h e, .h n] (modEngine e (fun x => { x with stalled := true }) s)
      let s := declareStuck 3 e (addF (R.TGE_ENG_CNT_STALLS e) 1 s)
      respondStuck 3 e (stallResponse e s)
    else s
  | none => s

/-! ## Inputs -/

/-- R526: a level change of a line or pair has passed its filter and synchroniser. -/
def doTrgInputChange (pin : Fin 20) (level : Bool) (s : State) : State :=
  s.onTge fun x => { x with inLevel := setLine x.inLevel pin level }

/-! ## Writes and reads of block TGE -/

/-- R547: a word for a thread's TX FIFO. -/
def writeTxf (e t : Nat) (v : Word) (s : State) : WriteResult × State :=
  if (getThread s e t).txf.length < 4 then (.ok, modThread e t (fun x => { x with txf := x.txf ++ [v] }) s)
  else (.event 0x0A07, raise 0x0A07 [.h e, .h t] s)

/-- R520: a range that a group may take. -/
def rangeFree (s : State) (e g : Nat) (v : Word) : Bool :=
  let lo := (R.TGE_GRP_CODE_CODE_LO e g).get v
  let hi := (R.TGE_GRP_CODE_CODE_HI e g).get v
  decide (lo ≤ hi) && (List.range 4).all fun h =>
    h == g || !groupUsed s e h || decide (hi < getF s (R.TGE_GRP_CODE_CODE_LO e h)) || decide (getF s (R.TGE_GRP_CODE_CODE_HI e h) < lo)

/-- R527, R552: a value is in range for a line's or a pair's configuration. -/
def lineCfgOk (pin : Nat) (v : Word) : Bool :=
  v.toNat / 16 % 4 != 3 && (decide (v.toNat % 8 < 5) || (v.toNat % 8 == 5 && (pin == 14 || pin == 15)))

/-- R523: the engine that owns a line, if any, is idle. -/
def ownerIdle (s : State) (owner : Nat) : Bool := owner == 0 || decide (4 < owner) || engineIdle s (owner - 1)

/-- R523, R527: a write of a line's or pair's configuration. -/
def writeLine (pin a : Nat) (v : Word) (s : State) : WriteResult × State :=
  if !lineCfgOk pin v then rejectWrite 0x0A09 a s
  else if !ownerIdle s (lineOwner s pin) || !ownerIdle s (v.toNat % 8) then rejectWrite 0x0A08 a s
  else
    let s := plainWrite a v s
    (.ok, if (Tbl.get? s.tge.lastBy pin).isNone then lineIdle pin s else s)

/-- R523, R552: a write of an engine's own registers. -/
def writeEngine (e o a : Nat) (v : Word) (s : State) : WriteResult × State :=
  if o = 0 ∨ o = 0x10 then
    if o = 0 ∧ (R.TGE_ENG_CTRL_STALL_POL e).get v = 3 then rejectWrite 0x0A09 a s
    else if !engineIdle s e then rejectWrite 0x0A08 a s
    else (.ok, plainWrite a v s)
  else if o = 0xC then
    let s := requestInjection e v s
    if (getEngine s e).injResult = 3 then (.event 0x0A05, s) else (.ok, s)
  else if 0x20 ≤ o ∧ o < 0x30 then
    let g := (o - 0x20) / 4
    if !rangeFree s e g v then rejectWrite 0x0A09 a s
    else if !groupIdle s e g then rejectWrite 0x0A08 a s
    else (.ok, plainWrite a v s)
  else if 0x100 ≤ o ∧ o < 0x500 then
    let t := (o - 0x100) / 0x40
    let r := (o - 0x100) % 0x40
    if r = 0x18 then writeTxf e t v s
    else if r < 0x14 then
      if !groupIdle s e (threadGroup s e t) || (r == 0 && !groupIdle s e ((R.TGE_THR_CTRL_GROUP e t).get v)) then rejectWrite 0x0A08 a s
      else (.ok, plainWrite a v s)
    else (.ok, s)
  else (.ok, s)

/-- R523 to R552: a write to a register of the block. -/
def writeTge (a : Nat) (v : Word) (s : State) : WriteResult × State :=
  let o := a % 0x10000
  if o = 0 then
    (.ok, if v.getLsbD 0 then forEach (List.range 4) (fun e s => setRaw (A.TGE_ENG_CNT e) 0 (setRaw (A.TGE_ENG_DROP e) 0 s)) s else s)
  else if 0x100 ≤ o ∧ o < 0x140 then writeLine ((o - 0x100) / 4) a v s
  else if 0x150 ≤ o ∧ o < 0x160 then writeLine (16 + (o - 0x150) / 4) a v s
  else if 0x210 ≤ o ∧ o < 0x220 then (.ok, stewardFlags false (v.setWidth 128 <<< (8 * (o - 0x210))) s)
  else if 0x220 ≤ o ∧ o < 0x230 then (.ok, stewardFlags true (v.setWidth 128 <<< (8 * (o - 0x220))) s)
  else if 0x1000 ≤ o ∧ o < 0x5000 then writeEngine ((o - 0x1000) / 0x1000) (o % 0x1000) a v s
  else (.ok, plainWrite a v s)

/-- R523: a write of an instruction word. -/
def writeCode (a : Nat) (v : Word) (s : State) : WriteResult × State :=
  let e := (a - 0x38000000) / 0x800
  let i := (a - 0x38000000) % 0x800 / 4
  if (List.range 4).any fun g => groupUsed s e g && inRange s e g i && !groupIdle s e g then
    (.event 0x0A08, raise 0x0A08 [.w a] s)
  else (.ok, s.onTge fun x => { x with code := Tbl.put x.code (512 * e + i) 0 (v.extractLsb' 0 16) })

/-- R547: a read of `TGE_THR_RXF` pops a word. -/
def popRxf (e t : Nat) (s : State) : State := modThread e t (fun x => { x with rxf := x.rxf.drop 1 }) s

/-- The code of a thread's state. -/
def ThrState.code : ThrState → Nat
  | .off => 0
  | .run => 1
  | .wait => 2
  | .blocked => 3
  | .halted => 4

/-- The code of a group's state. -/
def GrpState.code : GrpState → Nat
  | .off => 0
  | .running => 1
  | .stopped => 2

/-- R526: a bit per line, from a test of its pin. -/
def lineBits (from_ n : Nat) (p : Nat → Bool) : Nat := (List.range n).foldl (fun v i => v + bit (p (from_ + i)) * 2 ^ i) 0

/-- R518 to R542: the words of an engine. -/
def readEngine (s : State) (e o a : Nat) : Option Word :=
  let x := getEngine s e
  if o = 4 then
    some (BitVec.ofNat 32 (lineBits 0 16 (threadEn s e) * 65536 + bit (stallCond s e) * 256 +
      ((List.range 4).foldl (fun v g => v + (groupSt s e g).code * 4 ^ g) 0)))
  else if o = 0x14 then some (BitVec.ofNat 32 (bit x.inj.isSome * 4 + x.injResult))
  else if o = 0x18 then some (x.irq.setWidth 32)
  else if 0x100 ≤ o ∧ o < 0x500 then
    let t := (o - 0x100) / 0x40
    let y := getThread s e t
    match (o - 0x100) % 0x40 with
    | 0x14 => some (BitVec.ofNat 32 (y.st.code * 2 ^ 29 + y.txf.length * 2 ^ 24 + y.rxf.length * 2 ^ 20 +
        (rawReg s a).toNat / 2 ^ 18 % 2 * 2 ^ 18 + y.shCount * 2 ^ 12 + y.pc.toNat))
    | 0x1C => some (y.rxf.headD 0)
    | 0x20 => some y.a
    | 0x24 => some y.b
    | _ => none
  else none

/-- R518 to R545: the words of the block that the state holds elsewhere. -/
def readTge (s : State) (a : Nat) : Option Word :=
  let o := a % 0x10000
  if o = 4 then some (BitVec.ofNat 32 (lineBits 0 4 fun e => (getEngine s e).stalled))
  else if o = 0x140 then
    some (BitVec.ofNat 32 (lineBits 0 16 (fun p => (lineOut s p).isSome) * 65536 + s.tge.inLevel.toNat % 65536))
  else if o = 0x160 then
    some (BitVec.ofNat 32 (lineBits 16 4 (fun p => (lineOut s p).isSome) * 16 + s.tge.inLevel.toNat / 65536))
  else if 0x200 ≤ o ∧ o < 0x210 then some ((sharedFlags s).extractLsb' (8 * (o - 0x200)) 32)
  else if 0x1000 ≤ o ∧ o < 0x5000 then readEngine s ((o - 0x1000) / 0x1000) (o % 0x1000) a
  else none

end Sys2Proof.Machine
end

