-- ==== Sys2Proof/Machine/Link.lean ====
section
/-! DEFINITION. Chapter 14: ports, the life of a stream, admission, the link scheduler, retention, address resolution and
PTP. -/

namespace Sys2Proof.Machine

/-! ## Settings in force -/

/-- R629: the IDs of every stream that has settings: the steward's and those of tenant contexts. -/
def streamIds (s : State) : List Nat := List.range 32 ++ s.ten.ctx.map fun p => 0x1000 + p.1

/-- R623: the payload ceiling of a port in a mode, in Mb/s; the management port is port 4. -/
def portCeiling (mode port : Nat) : Nat :=
  if port = 4 then 100 else if mode = 1 then 95000 else if port = 0 then 380000 else 0

/-- R654: bytes of a retention ring. -/
def ringBytes (c : StrCfg) : Nat := if c.retain then c.quota * 250000 else 0

/-- R650: the quota that a constant-rate stream needs at least, in Mb/s rounded up. -/
def crQuota (c : StrCfg) : Nat := if c.crPeriod = 0 then 0 else (2000 * c.crSize + c.crPeriod - 1) / c.crPeriod

/-- R650: the first limit that a list of streams breaks: its code and the amount requested. -/
def admissionBreak (mode : Nat) (l : List StrCfg) : Option (Nat × Nat) :=
  let onPort := fun p => ((l.filter fun c => c.port == p).map StrCfg.quota).sum
  match (List.range 5).find? fun p => decide (portCeiling mode p < onPort p) with
  | some p => some (p, onPort p)
  | none =>
    match l.find? fun c => c.cr && decide (c.quota * c.crPeriod < 2000 * c.crSize) with
    | some c => some (5, crQuota c)
    | none =>
      if 2097152 < (l.map StrCfg.qlim).sum then some (6, (l.map StrCfg.qlim).sum)
      else if 8589934592 < (l.map ringBytes).sum then some (7, (l.map ringBytes).sum / 2 ^ 20)
      else none

/-- R650: the settings that an admission counts: every enabled steward stream and every context in force. -/
def admittedCfgs (s : State) : List StrCfg :=
  ((List.range 32).filter fun i => flagF s (R.LNK_STR_CTRL_EN i)).map (stewardCfg s) ++
    (s.ten.ctx.filter fun p => p.2.st != .empty).map fun p => tenantCfg p.1 p.2.words

/-- R650: the amounts admitted. -/
def recordAdmission (s : State) : State :=
  let l := admittedCfgs s
  s.onLnk fun x => { x with
    load := (List.range 5).map fun p => ((l.filter fun c => c.port == p).map StrCfg.quota).sum
    memQ := (l.map StrCfg.qlim).sum
    memR := (l.map ringBytes).sum }

/-- R650: event 0x0B09. -/
def admissionReject (b : Nat × Nat) (s : State) : State := raise 0x0B09 [.h b.1, .w b.2] s

/-- R814: Q_enc, the quotas of every encrypted stream, in Mb/s. -/
def encQuota (s : State) : Nat := (((admittedCfgs s).filter StrCfg.enc).map StrCfg.quota).sum

/-- R814: the crypto lanes that the head powers. -/
def cryptoNeed (s : State) : Nat := max 1 ((encQuota s + 49999) / 50000)

/-- R815: crypto lanes that are READY. -/
def cryptoUsable (s : State) : Nat := ((List.range 8).filter fun c => Tbl.get? s.pwr.doms (296 + c) == some .ready).length

/-- R648, R815: the quota that a stream is granted, in Mb/s. -/
def grantedQuota (s : State) (c : StrCfg) : Nat :=
  let q := encQuota s
  let most := cryptoUsable s * 50000
  if c.enc && decide (most < q) then c.quota * most / q else c.quota

/-! ## Next hops (R625, R627) -/

/-- A 128-bit number from four words, the first most significant. -/
def quad (l : List Nat) : Nat := l.foldl (fun n w => n * 2 ^ 32 + w) 0

/-- The destination of a stream as a number. -/
def destOf (c : StrCfg) : Nat := if c.ipv6 then quad c.dst else c.dst.headD 0

/-- R627: a multicast destination. -/
def isMulticast (c : StrCfg) : Bool := if c.ipv6 then destOf c / 2 ^ 120 == 0xFF else destOf c / 2 ^ 28 == 0xE

/-- R700: the link-local address of the management port, by modified EUI-64 from the base MAC plus 4. -/
def linkLocal : Nat :=
  let m := (Config.baseMac + 4).toNat
  0xFE80 * 2 ^ 112 + ((m / 2 ^ 24) ^^^ 0x20000) * 2 ^ 40 + 0xFFFE * 2 ^ 24 + m % 2 ^ 24

/-- R625, R700: the port's own address of a family. -/
def portAddr (s : State) (port : Nat) (ipv6 : Bool) : Nat :=
  if port = 4 then (if ipv6 then linkLocal else getF s R.LNK_MGMT_IP4)
  else if ipv6 then quad ((List.range 4).map fun i => getF s (R.LNK_P_IP6 port i)) else getF s (R.LNK_P_IP4 port)

/-- R625: the gateway of a port. -/
def portGateway (s : State) (port : Nat) (ipv6 : Bool) : Nat :=
  if port = 4 then (if ipv6 then 0 else getF s R.LNK_MGMT_GW4)
  else if ipv6 then quad ((List.range 4).map fun i => getF s (R.LNK_P_GW6 port i)) else getF s (R.LNK_P_GW4 port)

/-- R625: the prefix length of a port. -/
def portPrefix (s : State) (port : Nat) (ipv6 : Bool) : Nat :=
  if port = 4 then (if ipv6 then 64 else getF s R.LNK_MGMT_PFX_PREFIX4)
  else if ipv6 then getF s (R.LNK_P_PFX_PREFIX6 port) else getF s (R.LNK_P_PFX_PREFIX4 port)

/-- R625: the next hop of a stream. -/
def nextHop (s : State) (c : StrCfg) : Nat :=
  let w := if c.ipv6 then 128 else 32
  let k := 2 ^ (w - portPrefix s c.port c.ipv6)
  if destOf c / k = portAddr s c.port c.ipv6 / k then destOf c else portGateway s c.port c.ipv6

/-- R625: a request of address resolution leaves a port. -/
def askNextHop (sid : Nat) (s : State) : State :=
  let c := streamCfg s sid
  if isMulticast c then modStream sid (fun x => { x with resolved := true }) s
  else (modStream sid (fun x => { x with resTb := s.now }) s).onLnk fun l => { l with control := (c.port, 1) :: l.control }

/-! ## Life of a stream (R633) -/

/-- R633: a stream is armed, by an image or a RESTART; the caller has admitted it. -/
def armStream (sid : Nat) (start : Option Nat) (s : State) : State :=
  let x := getStream s sid
  let en := isTenantStream sid || flagF s (R.LNK_STR_CTRL_EN sid)
  if x.st = .off ∨ x.st = .stopped then
    if en then
      askNextHop sid (modStream sid (fun x => { x with
        st := .armed, start := start, resolved := false, failLogged := false, keyLogged := false, bucketTb := s.now,
        bucket := max ((streamCfg s sid).quota * 250000) (4000 * (streamCfg s sid).mtu) }) s)
    else modStream sid (fun x => { x with st := .off }) s
  else s

/-- R633: an armed stream runs from a boundary on; after a STOP it reports the frames left out. -/
def runStream (sid : Nat) (s : State) : State :=
  let x := getStream s sid
  match x.st, x.start with
  | .armed, some f0 =>
    if s.rru.rpValid ∧ f0 ≤ s.rru.f then
      let f := s.rru.f
      let s := modStream sid (fun x => { x with st := .running, gapFrom := none, startTb := s.now, crNext := s.now }) s
      let lost := Tbl.get? s.flt.discarded sid
      let s := s.onFlt fun x => { x with discarded := Tbl.del x.discarded sid }
      let s := match (x.gapFrom.toList ++ lost.toList).min? with
        | some g => raiseFor sid 0x0B08 [.h sid, .w g, .h (f - g)] s
        | none => s
      raiseFor sid 0x0B0C [.h sid, .w f] s
    else s
  | _, _ => s

/-- R633: a stream stops at the frame in progress; one that is ARMED runs first (log entry 79). -/
def stopStream (sid : Nat) (s : State) : State :=
  match (getStream s sid).st with
  | .running => flushTrack sid (modStream sid (fun x => { x with st := .draining, stopF := s.rru.f, gapFrom := some s.rru.f }) s)
  | _ => s

/-- R633: units attributed before a frame are still to be produced for a stream. -/
def unitsPending (s : State) (sid : Nat) : Bool :=
  let c := streamCfg s sid
  let f := (getStream s sid).stopF
  let sets := fun n => if isTenantStream sid then (getCtx s (sid - 0x1000)).subNow n
    else (getF s (R.LNK_STR_WSM sid (n / 32))).testBit (n % 32)
  (c.raw && (s.exs.bookings.any (fun b => b.resetDone && decide (b.attr < f) && (match bookingExp s b with | some e => c.geoMask.testBit e.geo | none => false)) || s.exs.sets.any fun u => !u.closed && u.members.any fun m => decide (m.attr < f))) ||
    s.pat.sets.any fun p => sets p.1 && (p.2.ivls.any (fun i => decide (i.first < f)) || p.2.handing.any fun h => decide (h.iv.first < f))

/-- R633: draining streams whose units have all been produced and sent are STOPPED. -/
def drainStreams (s : State) : State :=
  forEach (s.lnk.streams.filter fun p => p.2.st == .draining) (fun p s =>
    let x := p.2
    if x.queue.isEmpty ∧ x.retx.isEmpty ∧ x.crDue.isEmpty ∧ x.track.isNone ∧ !unitsPending s p.1 then
      raise 0x0B0D [.h p.1, .w x.stopF] (modStream p.1 (fun x => { x with st := .stopped }) s)
    else s) s

/-- R633, R645, R659: each running stream sends a final EVENT packet and is OFF: 0 HOLD, 1 sleep, 2 power-fail. HOLD leaves no
stream ARMED or STOPPED, since its release applies the image to all (log entry 35). -/
def finishStreams (reason : Nat) (s : State) : State :=
  let runs := fun (st : StrState) => st == .running || st == .draining
  forEach (s.lnk.streams.filter fun p => runs p.2.st || (reason == 0 && p.2.st != .off)) (fun p s =>
    let s := if runs p.2.st then raiseFor p.1 0x0B10 [.h reason] (flushTrack p.1 s) else s
    modStream p.1 (fun x => { x with st := .off, start := none, stopF := 0, gapFrom := none }) s) s

/-- R895: the first frame of the oldest unit is kept of each queue that is discarded. -/
def noteDiscarded (s : State) : State :=
  forEach s.lnk.streams (fun p s => match p.2.queue, Tbl.get? s.flt.discarded p.1 with
    | q :: _, none => s.onFlt fun x => { x with discarded := Tbl.set x.discarded p.1 q.f.toNat }
    | _, _ => s) s

/-- R895: the queues are discarded; the rings stay. -/
def discardQueues (s : State) : State :=
  let s := noteDiscarded s
  s.onLnk fun l => { l with streams := l.streams.map fun p => (p.1, { p.2 with queue := [], track := none, crDue := [] }) }

/-- R659: queues and retention rings are discarded, and every stream is OFF. -/
def discardStreams (s : State) : State :=
  (noteDiscarded s).onLnk fun l => { l with streams := l.streams.filterMap fun p => if p.2.count = 0 then none else some (p.1, { count := p.2.count }) }

/-- R656: every retention ring is discarded. -/
def discardRings (s : State) : State :=
  s.onLnk fun l => { l with streams := l.streams.map fun p => (p.1, { p.2 with ring := [], retx := [] }) }

/-- R659: queues of raw rows are discarded. -/
def discardRaw (s : State) : State :=
  s.onLnk fun l => { l with streams := l.streams.map fun p => (p.1, { p.2 with queue := p.2.queue.filter fun q => q.type != .raw }) }

/-! ## The epoch (R638) -/

/-- R638: the epoch advances, and every stream counts from 0. -/
def advanceEpoch (s : State) : State :=
  let e := s.lnk.epoch
  let s := s.onLnk fun l => { l with epochDue := false }
  if e = 0xFFFFFF then s
  else
    let s := s.onLnk fun l => { l with epoch := e + 1, epochOk := false, streams := l.streams.map fun p => (p.1, { p.2 with count := 0 }) }
    let s := s.onTen fun x => { x with ctx := x.ctx.map fun p => (p.1, { p.2 with lastReq := 0 }) }
    let s := raise 0x0B05 [.w (e + 1).toNat] s
    let s := if e + 1 = 0xFFFFFF then raise 0x0B0E [] s else s
    askStore .norProgram .journal s

/-- R638: the epoch stands in the NOR journal. -/
def epochStored (s : State) : State := s.onLnk fun l => { l with epochJournal := l.epoch, epochOk := true }

/-! ## The link scheduler (R646 to R649) -/

/-- R623: a data port of the port mode. -/
def portOfMode (s : State) (port : Nat) : Bool := port == 0 || getF s R.LNK_PORT_CFG_MODE != 0

/-- R623, R812: the Ethernet lanes of a data port are READY. -/
def ethReady (s : State) (port : Nat) : Bool :=
  let ready := fun l => Tbl.get? s.pwr.doms (304 + l) == some .ready
  if getF s R.LNK_PORT_CFG_MODE = 0 then port == 0 && (List.range 4).all ready else ready port

/-- R557, R653: packets can leave a port. -/
def portOpen (s : State) (port : Nat) : Bool :=
  let p := s.lnk.ports.getD port {}
  p.up && (port == 4 || (s.lnk.txEn && s.lnk.module && ethReady s port))

/-- R648: the depth of a stream's token bucket, in 1/2,000 byte. -/
def bucketDepth (s : State) (c : StrCfg) : Nat := max (grantedQuota s c * 250000) (4000 * c.mtu)

/-- R648: what a stream's token bucket holds now. -/
def bucketNow (s : State) (sid : Nat) : Nat :=
  let x := getStream s sid
  let c := streamCfg s sid
  min (bucketDepth s c) (x.bucket + (s.now - x.bucketTb) * grantedQuota s c)

/-- R648: the packet that a stream sends next, and whether it is resent. -/
def headPacket (x : Stream) : Option (Packet × Bool) :=
  match x.retx, x.queue with
  | p :: _, _ => some (p, true)
  | [], p :: _ => some (p, false)
  | [], [] => none

/-- R632, R638, R670: a packet may leave: its epoch stands in the journal, the key of an encrypted stream is present, and
its tenant is not suspended. -/
def packetOpen (s : State) (c : StrCfg) (p : Packet) : Bool :=
  !(c.keySlot < 4096 && (getCtx s c.keySlot).st == .suspended) && (s.lnk.epochOk || p.seq.extractLsb' 40 24 != s.lnk.epoch) && (!p.enc || keyOk s c)

/-- R648, R649: the packet that a stream that is not constant-rate could send now. -/
def sendable (s : State) (port sid : Nat) : Option (Packet × Bool) :=
  let x := getStream s sid
  let c := streamCfg s sid
  match headPacket x with
  | some (p, again) =>
    if c.port == port && !c.cr && x.resolved && packetOpen s c p && decide (2000 * p.size ≤ bucketNow s sid) then some (p, again) else none
  | none => none

/-- R649: what a round adds to a stream's deficit. -/
def quantum (c : StrCfg) : Nat := max (16 * c.quota) c.mtu

/-- R649: the stream that the round robin serves next, with its deficit: the one in service, and then those after it. -/
def robin (s : State) (port : Nat) : Option (Nat × Nat) :=
  let cur := (s.lnk.ports.getD port {}).rrCur
  let ids := (streamIds s).filter fun i => (sendable s port i).isSome
  let stay := match sendable s port cur with
    | some (p, _) => decide (p.size ≤ (getStream s cur).deficit)
    | none => false
  if stay then some (cur, (getStream s cur).deficit)
  else match (ids.filter fun i => decide (cur < i)) ++ ids with
    | i :: _ => some (i, (getStream s i).deficit + quantum (streamCfg s i))
    | [] => none

/-- R654: a ring holds what fits its size, the newest packets staying. -/
def fitRing : Nat → List Retained → List Retained
  | _, [] => []
  | room, r :: l => if r.pkt.size ≤ room then r :: fitRing (room - r.pkt.size) l else []

/-- R654: a packet that leaves is retained. -/
def retain (sid : Nat) (c : StrCfg) (p : Packet) (s : State) : State :=
  if c.retain then
    modStream sid (fun x =>
      let live := x.ring.filter fun r => decide (s.now < r.tb + 2 * second)
      { x with ring := (fitRing (ringBytes c) (⟨p, s.now⟩ :: live.reverse)).reverse }) s
  else s

/-- R639: the key under which a packet leaves. -/
def keyOf (s : State) (c : StrCfg) : Nat := ((Tbl.get? s.ten.keys c.keySlot).map KeySlot.gen).getD 0

/-- R648, R649, R654: a packet of a stream leaves a port. -/
def sendPacket (port sid : Nat) (p : Packet) (again : Bool) (s : State) : State :=
  let c := streamCfg s sid
  let p := if p.enc && !again then { p with keyGen := keyOf s c } else p
  let s := if again then s else retain sid c p s
  let s := modStream sid (fun x => { x with bucket := bucketNow s sid - 2000 * p.size, bucketTb := s.now }) s
  machineMoves 2 port ((takeLease 1 0xB s).onLnk fun l => { l with
    ports := l.ports.modify port fun q => { q with txBytes := q.txBytes + BitVec.ofNat 64 p.size, readyTb := none }
    sent := (port, p) :: l.sent })

/-- R646, R649: the TB at which the oldest waiting packet of a constant-rate stream was due. -/
def crDueTb (s : State) (i : Nat) : Nat := (getStream s i).crNext - (getStream s i).crDue.length * (streamCfg s i).crPeriod

/-- R649: the constant-rate packet that waits on a port, by its scheduled TB. -/
def crWaiting (s : State) (port : Nat) : Option (Nat × Packet) :=
  let l := (streamIds s).filterMap fun i =>
    let c := streamCfg s i
    match (getStream s i).crDue with
    | p :: _ => if c.port == port && (getStream s i).resolved && packetOpen s c p then some (i, p) else none
    | [] => none
  (sortBy (fun a b => decide (crDueTb s a.1 ≤ crDueTb s b.1)) l).head?

/-- R649, R890: a port is free to send. -/
def doLinkTransmit (port : Fin 5) (s : State) : State :=
  if !portOpen s port then s
  else if !leaseOpen s 1 0xB then (if (crWaiting s port).isSome || (robin s port).isSome then refusedHolder 1 0xB s else s)
  else match crWaiting s port with
    | some (i, p) =>
      let kept := (getStream s i).ring.any fun r => r.pkt.seq == p.seq
      sendPacket port i p kept (modStream i (fun x => { x with crDue := x.crDue.drop 1 }) s)
    | none =>
      match robin s port with
      | none => s
      | some (i, d) =>
        match sendable s port i with
        | none => s
        | some (p, again) =>
          let s := sendPacket port i p again s
          let s := modStream i (fun x =>
            let x := if again then { x with retx := x.retx.drop 1 } else { x with queue := x.queue.drop 1 }
            { x with deficit := if x.retx.isEmpty && x.queue.isEmpty then 0 else d - p.size }) s
          s.onLnk fun l => { l with ports := l.ports.modify port fun q => { q with rrCur := i } }

/-- R646, R647: a constant-rate stream's period ends, and one sealed packet is built. -/
def doCrSlotDue (sid : Nat) (s : State) : State :=
  let x := getStream s sid
  let c := streamCfg s sid
  if !c.cr ∨ (!(x.st == .running || x.st == .draining) ∧ (headPacket x).isNone) ∨ s.now < x.crNext ∨ !keyOk s c then s
  else
    let s := modStream sid (fun x => { x with crNext := x.crNext + max 1 c.crPeriod }) s
    match headPacket x with
    | some (p, true) => modStream sid (fun x => { x with retx := x.retx.drop 1, crDue := x.crDue ++ [p] }) s
    | some (p, false) => modStream sid (fun x => { x with queue := x.queue.drop 1, crDue := x.crDue ++ [p] }) s
    | none =>
      let s := pushPacket sid (blankPacket s .event) s
      modStream sid (fun x => { x with queue := [], crDue := x.crDue ++ x.queue }) s

/-- R858: a port is ready since a TB, or is not. -/
def watchPorts (s : State) : State :=
  forEach (List.range 5) (fun p s =>
    let ready := portOpen s p && ((streamIds s).any fun i => (sendable s p i).isSome)
    let old := (s.lnk.ports.getD p {}).readyTb
    if ready then
      (if old.isNone then s.onLnk fun l => { l with ports := l.ports.modify p fun q => { q with readyTb := some s.now } } else s)
    else if old.isSome then s.onLnk fun l => { l with ports := l.ports.modify p fun q => { q with readyTb := none } }
    else s) s

/-- R858: no packet has left a ready port for 1 ms: deficits are cleared and buckets filled. -/
def doLinkSchedulerStuck (port : Fin 5) (s : State) : State :=
  match (s.lnk.ports.getD port {}).readyTb with
  | some t =>
    if t + milli ≤ s.now then
      let s := declareStuck 2 port (s.onLnk fun l => { l with ports := l.ports.modify port fun q => { q with readyTb := some s.now } })
      let s := forEach (s.lnk.streams.map Prod.fst) (fun i s =>
        modStream i (fun x => { x with deficit := 0, bucket := bucketDepth s (streamCfg s i), bucketTb := s.now }) s) s
      respondStuck 2 port s
    else s
  | none => s

/-! ## Retransmission (R655) -/

/-- R655: retained packets of a range of SEQ are resent unchanged, and the others are counted. -/
def retransmit (sid first count : Nat) (s : State) : State :=
  let live := (getStream s sid).ring.filter fun r => decide (s.now < r.tb + 2 * second)
  let hits := live.filter fun r => decide (first ≤ r.pkt.seq.toNat) && decide (r.pkt.seq.toNat < first + count)
  let n := count - hits.length
  let s := modStream sid (fun x => { x with retx := x.retx ++ hits.map Retained.pkt }) s
  if n = 0 then s
  else
    let s := if isTenantStream sid then
        modCtx (sid - 0x1000) (fun c => { c with retxRefused := satAdd 32 c.retxRefused n }) s
      else addF (R.LNK_STR_DROPS_RETX_REFUSED sid) n s
    raise 0x0B04 [.h sid, .w first, .h n] s

/-! ## Ports, frames and PTP -/

/-- R653: a port's link comes up. -/
def doPortUp (port : Fin 5) (s : State) : State :=
  if (s.lnk.ports.getD port {}).up then s
  else
    let s := s.onLnk fun l => { l with ports := l.ports.modify port fun q => { q with up := true } }
    if port.val < 4 then raise 0x0B01 [.h port] s else s

/-- R653: a port's link goes down. -/
def doPortDown (port : Fin 5) (s : State) : State :=
  if (s.lnk.ports.getD port {}).up then
    let s := s.onLnk fun l => { l with ports := l.ports.modify port fun q => { q with up := false } }
    if port.val < 4 then raise 0x0B02 [.h port] s else s
  else s

/-- R926: a QSFP-DD module is inserted or removed; it is accepted when its media code and its power class are. -/
def doQsfpModuleChange (present mediaOk powerOk : Bool) (s : State) : State :=
  let ok := present && mediaOk && powerOk
  let s := s.onLnk fun l => { l with module := ok }
  if ok then s else raise 0x0B0F [] s

/-- R624 to R626: a frame arrives on a port. -/
def doEthFrameReceived (port : Fin 5) (frame : EthFrame) (s : State) : State :=
  match frame with
  | .badFcs | .tooLong => if port.val < 4 then addF (R.LNK_P_STAT_RX_DROP port) 1 s else s
  | .fragment | .overrun | .other => s
  | .solicit v6 addr =>
    if s.head.fwReady && !s.head.coreRestart && addr == portAddr s port v6 && addr != 0 then
      s.onLnk fun l => { l with control := (port.val, 0) :: l.control }
    else s
  | .resolved v6 addr =>
    if s.head.fwReady && !s.head.coreRestart then
      forEach (streamIds s) (fun i s =>
        let c := streamCfg s i
        let x := getStream s i
        if x.st != .off && !x.resolved && c.port == port.val && c.ipv6 == v6 && nextHop s c == addr then
          modStream i (fun x => { x with resolved := true }) s
        else s) s
    else s

/-- R625: a stream's next hop is still not resolved after 1 s. -/
def doResolveRetry (sid : Nat) (s : State) : State :=
  let x := getStream s sid
  if x.st = .off ∨ x.resolved ∨ s.now < x.resTb + second ∨ !s.head.fwReady ∨ s.head.coreRestart then s
  else
    let s := askNextHop sid s
    if x.failLogged then s else raiseFor sid 0x0B07 [.h sid] (modStream sid (fun x => { x with failLogged := true }) s)

/-- R658: a time in 1/16 TB as TOD in 1/4 ns. -/
def todAt (s : State) (t : Nat) : Int :=
  (s.tmb.todSec.toNat * 1000000000 + s.tmb.todNs : Nat) * 4 - ((16 * s.now : Nat) - (t : Int))

/-- R657: the dataset comparison of the standard. -/
def betterClock : List Nat → List Nat → Bool
  | a :: l, b :: m => decide (a < b) || (a == b && betterClock l m)
  | _, _ => false

/-- R657, R107: an offset from the master, once both directions are known. -/
def ptpOffset (s : State) : State :=
  let p := s.lnk.ptp
  match p.t1, p.t2, p.delay with
  | some t1, some t2, some d => if flagF s R.TMB_TOD_CTRL_SERVO_EN then servoOffset ((t2 - t1 - d) / 4) s else s
  | _, _, _ => s

/-- R657: the clock runs: PTP is enabled, and the head is not a member of a mosaic (R109). -/
def ptpRuns (s : State) (port : Nat) : Bool :=
  flagF s R.LNK_PTP_EN && getF s R.LNK_PTP_PORT == port && s.head.fwReady && !s.head.coreRestart &&
    (s.mos.st == .solo || s.mos.st == .root)

/-- R657, R658: a PTP message arrives from a clock. -/
def doPtpMessageReceived (port : Fin 5) (clock : Nat) (msg : PtpMsg) (s : State) : State :=
  if !ptpRuns s port then s
  else
    let fromMaster := match s.lnk.ptp.master with
      | some d => d.getLast? == some clock
      | none => false
    match msg with
    | .announce d =>
      let d := d ++ [clock]
      let take := match s.lnk.ptp.master with
        | none => true
        | some m => betterClock d m
      if fromMaster then s.onLnk fun l => { l with ptp := { l.ptp with master := some d } }
      else if take then s.onLnk fun l => { l with ptp := { master := some d, reqTb := l.ptp.reqTb } } else s
    | .sync origin arrival =>
      if !fromMaster then s
      else
        let s := s.onLnk fun l => { l with ptp := { l.ptp with t1 := origin, t2 := some (todAt s arrival) } }
        if origin.isSome then ptpOffset s else s
    | .followUp origin =>
      if !fromMaster ∨ s.lnk.ptp.t2.isNone then s
      else ptpOffset (s.onLnk fun l => { l with ptp := { l.ptp with t1 := some origin } })
    | .delayResp receipt =>
      if !fromMaster then s
      else match s.lnk.ptp.t1, s.lnk.ptp.t2, s.lnk.ptp.t3 with
        | some t1, some t2, some t3 =>
          let first := s.lnk.ptp.delay.isNone
          let s := s.onLnk fun l => { l with ptp := { l.ptp with t4 := some receipt, delay := some (((t2 - t1) + (receipt - t3)) / 2) } }
          if first then ptpOffset s else s
        | _, _, _ => s

/-- R660: the period of Delay_Req in TB, 2 to the power of DELAY_REQ_LOG seconds. -/
def delayReqPeriod (s : State) : Nat :=
  let v := getF s R.LNK_PTP_DELAY_REQ_LOG
  if v < 128 then second * 2 ^ v else second / 2 ^ (256 - v)

/-- R657: the Delay_Req period ends. -/
def doPtpDelayReqTimer (s : State) : State :=
  let port := getF s R.LNK_PTP_PORT
  if ptpRuns s port && s.lnk.ptp.master.isSome && decide (s.lnk.ptp.reqTb + delayReqPeriod s ≤ s.now) then
    s.onLnk fun l => { l with ptp := { l.ptp with t3 := some (todAt s (16 * s.now)), reqTb := s.now }, control := (port, 2) :: l.control }
  else s

/-! ## Writes and reads of block LNK -/

/-- R623, R628: a port that a stream may name, with the packet types that it may carry there. -/
def portTypesOk (s : State) (port types : Nat) : Bool :=
  if port = 4 then types % 4 == 0 else decide (port < 4) && (getF s R.LNK_PORT_CFG_MODE == 1 || port == 0)

/-- R660: a value is in range for a register of steward stream i. -/
def strRangeOk (s : State) (i o : Nat) (v : Word) : Bool :=
  let n := v.toNat
  match o with
  | 0x00 => portTypesOk s ((R.LNK_STR_CTRL_PORT i).get v) ((R.LNK_STR_CTRL_TYPES i).get v) && !(v.getLsbD 24 && !v.getLsbD 25)
  | 0x08 => decide (1280 ≤ n % 2 ^ 14) && decide (n % 2 ^ 14 ≤ 9000)
  | 0x0C => decide (1 ≤ n % 2 ^ 19) && decide (n % 2 ^ 19 ≤ 380000)
  | 0x10 => decide (64 ≤ n % 2 ^ 22) && decide (n % 2 ^ 22 ≤ 2097152)
  | 0x14 => n % 2 ^ 14 == 0 || (decide (128 ≤ n % 2 ^ 14) && decide (n % 2 ^ 14 ≤ 8952))
  | 0x18 => n == 0 || (decide (250 ≤ n) && decide (n ≤ 250000000))
  | _ => true

/-- R660: a value is in range for a register of the block. -/
def lnkRangeOk (s : State) (a : Nat) (v : Word) : Bool :=
  let o := a % 0x10000
  if o = 0x14 then
    let d := R.LNK_PTP_DELAY_REQ_LOG.get v
    let p := R.LNK_PTP_PORT.get v
    (decide (d ≤ 4) || decide (249 ≤ d)) && decide (R.LNK_PTP_DOMAIN.get v ≤ 127) && decide (p ≤ 4) &&
      (p == 4 || p == 0 || getF s R.LNK_PORT_CFG_MODE == 1)
  else if o = 0x78 then decide (v.toNat % 256 ≤ 32)
  else if 0x100 ≤ o ∧ o < 0x200 ∧ o % 0x40 = 8 then decide (v.toNat / 256 % 256 ≤ 128) && decide (v.toNat % 256 ≤ 32)
  else if 0x1000 ≤ o ∧ o < 0x2000 then strRangeOk s ((o - 0x1000) / 0x80) (o % 0x80) v
  else true

/-- `LNK_CTRL.CNT_CLR`: every counter of the block is cleared. -/
def clearLnkCounters (s : State) : State :=
  let s := forEach (List.range 4) (fun p s => setRaw (A.LNK_P_STAT p) 0 s) s
  let s := forEach (List.range 32) (fun i s => setRaw (A.LNK_STR_DROPS i) 0 s) s
  s.onLnk fun l => { l with ports := l.ports.map fun p => { p with txBytes := 0 } }

/-- R660: the size and the period of a constant-rate stream, of which only a record may state 0 (R661). -/
def crZero (o : Nat) (v : Word) : Bool := decide (0x1000 ≤ o) &&
  ((o % 0x80 == 0x14 && v.toNat % 2 ^ 14 == 0) || (o % 0x80 == 0x18 && v == 0))

/-- R634, R660: a write to a register of the block. -/
def writeLnk (a : Nat) (v : Word) (s : State) : WriteResult × State :=
  let o := a % 0x10000
  if o = 0 then (.ok, if v.getLsbD 1 then clearLnkCounters s else s)
  else if !lnkRangeOk s a v || crZero o v then rejectWrite 0x0B0B a s
  else if 0x1000 ≤ o ∧ o < 0x2000 then
    let st := (getStream s ((o - 0x1000) / 0x80)).st
    if st == .off || st == .stopped then (.ok, plainWrite a v s) else rejectWrite 0x0B0A a s
  else (.ok, plainWrite a v s)

/-- The code of a stream's state. -/
def StrState.code : StrState → Nat
  | .off => 0
  | .armed => 1
  | .running => 2
  | .draining => 3
  | .stopped => 4

/-- R637: the next SEQ of a stream. -/
def nextSeq (s : State) (sid : Nat) : BitVec 64 := s.lnk.epoch ++ BitVec.ofNat 40 (getStream s sid).count

/-- R623 to R654: the words of the block that the state holds elsewhere. -/
def readLnk (s : State) (a : Nat) : Option Word :=
  let o := a % 0x10000
  let l := s.lnk
  let up := fun p => (l.ports.getD p {}).up
  if o = 4 then
    some (BitVec.ofNat 32 (((List.range 4).foldl (fun n p => n + bit (up p) * 2 ^ p) 0) * 2 ^ 28 + bit (up 4) * 2 ^ 27 +
      bit l.module * 2 ^ 26 + bit l.txEn * 2 ^ 25))
  else if o = 0xC then some (l.epoch.setWidth 32)
  else if o = 0x20 then some (Config.baseMac.extractLsb' 0 32)
  else if o = 0x24 then some ((Config.baseMac.extractLsb' 32 16).setWidth 32)
  else if 0x40 ≤ o ∧ o < 0x54 then some (BitVec.ofNat 32 (l.load.getD ((o - 0x40) / 4) 0))
  else if o = 0x60 then some (BitVec.ofNat 32 ((l.memR + 2 ^ 20 - 1) / 2 ^ 20 * 65536 + (l.memQ + 1023) / 1024))
  else if 0x100 ≤ o ∧ o < 0x200 ∧ o % 0x40 = 0x34 then some ((l.ports.getD ((o - 0x100) / 0x40) {}).txBytes.extractLsb' 0 32)
  else if 0x100 ≤ o ∧ o < 0x200 ∧ o % 0x40 = 0x38 then some ((l.ports.getD ((o - 0x100) / 0x40) {}).txBytes.extractLsb' 32 32)
  else if 0x1000 ≤ o ∧ o < 0x2000 then
    let i := (o - 0x1000) / 0x80
    let x := getStream s i
    match o % 0x80 with
    | 0x60 => some (BitVec.ofNat 32 (x.st.code * 2 ^ 29 + bit (keyOk s (stewardCfg s i)) * 2 ^ 28 + bit x.resolved * 2 ^ 27))
    | 0x64 => some ((nextSeq s i).extractLsb' 0 32)
    | 0x68 => some ((nextSeq s i).extractLsb' 32 32)
    | 0x70 => some (BitVec.ofNat 32 (queuedBytes s i))
    | _ => none
  else none

end Sys2Proof.Machine
end

