-- ==== Sys2Proof/Machine/Tenant.lean ====
section
/-! DEFINITION. Chapter 15: tenant contexts, commits, the key store, tenant requests and tenant windows. -/

namespace Sys2Proof.Machine

/-! ## Limits and settings -/

/-- R664: the tenant limit of the head. -/
def tenantLimit (s : State) : Nat :=
  match s.fus.wires.tenClass with
  | .full => 4096
  | .single => 64
  | .stewardOnly => 0

/-- R645: raises an event of a tenant's own stream, windows or requests. -/
def raiseTenant (t code : Nat) (fs : List DetailField) (s : State) : State := raiseFor (0x1000 + t) code fs s

/-- R681: an event that is logged at most once a second is due. -/
def secondDue (s : State) (last : Option Nat) : Bool :=
  match last with
  | some t => decide (t + second ≤ s.now)
  | none => true

/-- R871: an event that its rate limit suppresses. -/
def suppress (code : Nat) (s : State) : State := addF R.FLT_CNT2_SUPPRESSED 1 (raiseF (evtField code) 1 s)

/-- R666: the RWS bits of a word of a context. -/
def ctxMask (o : Nat) : Word :=
  if o = 0 then 0xFF1F0000
  else if o = 8 then 0x003F3FFF
  else if o = 0xC then 0xFFFFFFFF
  else if 0x10 ≤ o ∧ o < 0x20 then 0xFFFFFFFF
  else if o = 0x20 ∨ o = 0x24 then 0x3FFF7FFF
  else if o = 0x28 then 0xFFFF
  else if o = 0x2C then 0x7FFFF
  else if o = 0x30 then 0x3FFFFF
  else if o = 0x34 then 0x3FFF
  else if o = 0x38 then 0xFFFFFFFF
  else if 0x40 ≤ o ∧ o < 0x60 then 0xFFFFFFFF
  else 0

/-- R666: the RWS word of a context at an offset. -/
def CtxWords.get (w : CtxWords) (o : Nat) : Word :=
  if o = 0 then w.ctrl
  else if o = 8 then w.ip
  else if o = 0xC then w.udp
  else if 0x10 ≤ o ∧ o < 0x20 then w.dst.getD ((o - 0x10) / 4) 0
  else if o = 0x20 then w.y0x0
  else if o = 0x24 then w.y1x1
  else if o = 0x28 then w.geo
  else if o = 0x2C then w.quota
  else if o = 0x30 then w.qlim
  else if o = 0x34 then w.crSize
  else if o = 0x38 then w.crPeriod
  else if 0x40 ≤ o ∧ o < 0x60 then w.grant.getD ((o - 0x40) / 4) 0
  else 0

/-- R666: a context's words with one of them replaced. -/
def CtxWords.put (w : CtxWords) (o : Nat) (v : Word) : CtxWords :=
  let v := v &&& ctxMask o
  if o = 0 then { w with ctrl := v }
  else if o = 8 then { w with ip := v }
  else if o = 0xC then { w with udp := v }
  else if 0x10 ≤ o ∧ o < 0x20 then { w with dst := w.dst.set ((o - 0x10) / 4) v }
  else if o = 0x20 then { w with y0x0 := v }
  else if o = 0x24 then { w with y1x1 := v }
  else if o = 0x28 then { w with geo := v }
  else if o = 0x2C then { w with quota := v }
  else if o = 0x30 then { w with qlim := v }
  else if o = 0x34 then { w with crSize := v }
  else if o = 0x38 then { w with crPeriod := v }
  else if 0x40 ≤ o ∧ o < 0x60 then { w with grant := w.grant.set ((o - 0x40) / 4) v }
  else w

/-- R666: the value of one word is within its range. -/
def ctxWordOk (mode o : Nat) (v : Word) : Bool :=
  let n := v.toNat
  if o = 0 then decide (n / 2 ^ 24 % 8 < 4) && decide (n / 2 ^ 16 % 32 ≤ 16)
  else if o = 8 then decide (1280 ≤ n % 2 ^ 14) && decide (n % 2 ^ 14 ≤ 9000)
  else if o = 0xC then n / 65536 != 0 && n % 65536 != 0 && n / 65536 != 7426
  else if o = 0x20 ∨ o = 0x24 then decide (n % 2 ^ 15 ≤ 20479) && decide (n / 2 ^ 16 % 2 ^ 14 ≤ 12287)
  else if o = 0x2C then decide (1 ≤ n % 2 ^ 19) && decide (n % 2 ^ 19 ≤ if mode = 1 then 95000 else 380000)
  else if o = 0x30 then decide (64 ≤ n % 2 ^ 22) && decide (n % 2 ^ 22 ≤ 2097152)
  else if o = 0x34 then n % 2 ^ 14 == 0 || (decide (128 ≤ n % 2 ^ 14) && decide (n % 2 ^ 14 ≤ 8952))
  else if o = 0x38 then n == 0 || (decide (250 ≤ n) && decide (n ≤ 250000000))
  else true

/-- R666: the offsets of the RWS words. -/
def ctxOffsets : List Nat := [0, 8, 0xC, 0x20, 0x24, 0x28, 0x2C, 0x30, 0x34, 0x38]

/-- R666: the bounds of a granted region. -/
def CtxWords.region (w : CtxWords) : Nat × Nat × Nat × Nat :=
  (w.y0x0.toNat % 2 ^ 15, w.y1x1.toNat % 2 ^ 15, w.y0x0.toNat / 2 ^ 16 % 2 ^ 14, w.y1x1.toNat / 2 ^ 16 % 2 ^ 14)

/-- R666, R627: every field of a context is within its range. -/
def ctxRangeOk (mode t : Nat) (w : CtxWords) : Bool :=
  let c := tenantCfg t w
  let (x0, x1, y0, y1) := w.region
  ctxOffsets.all (fun o => ctxWordOk mode o (w.get o)) && decide (x0 ≤ x1) && decide (y0 ≤ y1) &&
    (c.ipv6 || (w.dst.drop 1).all (· == 0)) && !isMulticast c &&
    (if c.cr then c.crSize != 0 && c.crPeriod != 0 else c.crSize == 0 && c.crPeriod == 0)

/-- R669: PORT is a data port of the port mode. -/
def ctxPortOk (mode : Nat) (w : CtxWords) : Bool := mode == 1 || w.ctrl.toNat / 2 ^ 24 % 8 == 0

/-- R666: VALID and SUSPEND. -/
def CtxWords.valid (w : CtxWords) : Bool := w.ctrl.getLsbD 31
def CtxWords.suspend (w : CtxWords) : Bool := w.ctrl.getLsbD 27

/-- R666: MAXWIN. -/
def CtxWords.maxWin (w : CtxWords) : Nat := w.ctrl.toNat / 2 ^ 16 % 32

/-- R666: a set is granted. -/
def CtxWords.grants (w : CtxWords) (set : Nat) : Bool := (w.grant.getD (set / 32) 0).getLsbD (set % 32)

/-! ## Tenant windows (R386 to R390, R671) -/

/-- R387: a rectangle clipped to a region; none when it is empty. -/
def clipTo (r : Nat × Nat × Nat × Nat) (w : Window) : Option Window :=
  let (x0, x1, y0, y1) := r
  let v := { w with x0 := max w.x0 x0, x1 := min w.x1 x1, y0 := max w.y0 y0, y1 := min w.y1 y1 }
  if v.x0 ≤ v.x1 ∧ v.y0 ≤ v.y1 then some v else none

/-- R389: the change of a window that waits. -/
def pendingOf (s : State) (win : Nat) : Option TwPending := s.pat.twPending.find? fun p => p.win == win

/-- R389: a window's change waits for a boundary; an earlier change of it is replaced. -/
def bookWindow (p : TwPending) (s : State) : State :=
  let fresh := match pendingOf s p.win with
    | some q => q.fresh
    | none => p.fresh
  s.onPat fun x => { x with twPending := (x.twPending.filter fun q => q.win != p.win) ++ [{ p with fresh := fresh }] }

/-- R671: a commit removes a window at its set's next interval boundary. -/
def dropWindow (t win : Nat) (s : State) : State :=
  bookWindow ⟨false, win, t, (getWindow s win).set, none, 0, true⟩ s

/-- R671: the effect of a commit on the windows of its tenant. -/
def recheckWindows (t : Nat) (old new : CtxWords) (s : State) : State :=
  let gone := fun (s : State) (win : Nat) => (pendingOf s win).any fun p => p.rect.isNone
  let s := forEach (getCtx s t).wins (fun q s =>
    if !gone s q.2 && !new.grants (getWindow s q.2).set then dropWindow t q.2 s else s) s
  let s := if old.region = new.region then s
    else forEach (getCtx s t).wins (fun q s =>
      if gone s q.2 then s
      else
        let cur := ((pendingOf s q.2).bind TwPending.rect).getD (getWindow s q.2)
        match clipTo new.region cur with
        | none => dropWindow t q.2 s
        | some v => if v = cur then s else bookWindow ⟨false, q.2, t, cur.set, some v, 0, false⟩ s) s
  let kept := (getCtx s t).wins.filter fun q => !gone s q.2
  forEach (kept.drop new.maxWin) (fun q s => dropWindow t q.2 s) s

/-- R670: every window of a tenant is removed. -/
def removeWindows (t : Nat) (s : State) : State :=
  let wins := (getCtx s t).wins.map Prod.snd
  let s := forEach wins clearWindow s
  let s := s.onPat fun x => { x with twPending := x.twPending.filter fun p => !wins.contains p.win }
  modCtx t (fun c => { c with wins := [] }) s

/-- R390: a level-2 restart and HOLD remove every tenant window; both discard the queues, so each owner hears of it when its stream
runs again (log entry 75). -/
def removeTenantWindows (s : State) : State :=
  let owners := s.ten.ctx.filter fun p => !p.2.wins.isEmpty
  let n := (owners.map fun p => p.2.wins.length).sum
  if n = 0 then s
  else
    let s := raise 0x060B [.h n] s
    forEach owners (fun p s =>
      modCtx p.1 (fun c => { c with lostWins := c.lostWins + p.2.wins.length }) (removeWindows p.1 s)) s

/-! ## Life of a context (R670) -/

/-- R667: the counters of a context are cleared. -/
def Ctx.clearCounters (c : Ctx) : Ctx :=
  { c with reqOk := 0, reqRefused := 0, rateDrops := 0, authFail := 0, resultsDropped := 0, retxRefused := 0 }

/-- R670: a context becomes ARMED. -/
def armContext (t : Nat) (s : State) : State :=
  let s := modCtx t (fun c => { c.clearCounters with st := .armed, sub := [], rawSub := false, subNext := [], rawNext := none }) s
  armStream (0x1000 + t) none s

/-- R670: a context becomes ACTIVE, and its stream runs. -/
def activateContext (t : Nat) (s : State) : State :=
  let sid := 0x1000 + t
  let s := modCtx t (fun c => { c with st := .active }) s
  let s := if (getStream s sid).st = .armed then runStream sid (modStream sid (fun x => { x with start := some s.rru.f }) s) else s
  let s := raiseTenant t 0x0C01 [.h t, .w s.rru.f] s
  let k := (getCtx s t).lostWins
  if k = 0 then s
  else modCtx t (fun c => { c with lostWins := 0 })
    (pushEvent (makeEntry s 0x060B (severityOf 0x060B) 0 (packDetail [.h k])) sid s)

/-- R670: a context becomes EMPTY; its final EVENT stays queued. -/
def emptyContext (t : Nat) (s : State) : State :=
  let sid := 0x1000 + t
  let s := modStream sid (fun x => { x with queue := [], retx := [], ring := [], track := none, crDue := [] }) s
  let s := raise 0x0C02 [.h t, .w s.rru.f] s
  let s := pushEvent (makeEntry s 0x0C02 (severityOf 0x0C02) 0 (packDetail [.h t, .w s.rru.f])) sid s
  let s := removeWindows t (modStream sid (fun x => { x with st := .off, start := none, stopF := 0, gapFrom := none }) s)
  modCtx t (fun c => { c with st := .empty, sub := [], rawSub := false, subNext := [], rawNext := none, queue := [] }) s

/-- R670: a context is suspended: its stream enqueues nothing. -/
def suspendContext (t : Nat) (s : State) : State :=
  let s := flushTrack (0x1000 + t) s
  let s := modStream (0x1000 + t) (fun x => { x with st := .stopped }) s
  modCtx t (fun c => { c with st := .suspended, suspendedFrom := s.rru.f }) s

/-- R670: a context is resumed. -/
def resumeContext (t : Nat) (s : State) : State :=
  let from0 := (getCtx s t).suspendedFrom
  let s := modStream (0x1000 + t) (fun x => { x with st := .running }) s
  let s := modCtx t (fun c => { c with st := .active }) s
  raiseTenant t 0x0B08 [.h (0x1000 + t), .w from0, .h (s.rru.f - from0)] s

/-- R671, R672: what a commit takes from a context that stays. -/
def narrowContext (t : Nat) (old new : CtxWords) (s : State) : State :=
  let s := modCtx t (fun c => { c with
    sub := c.sub.filter fun p => new.grants p.set, subNext := c.subNext.filter fun p => new.grants p.1 }) s
  let s := recheckWindows t old new s
  if old.quota = new.quota then s else modStream (0x1000 + t) (fun x => { x with ring := [] }) s

/-- R670: a commit is applied. -/
def applyCommit (t : Nat) (new : CtxWords) (s : State) : State :=
  let c := getCtx s t
  let old := c.words
  let put := modCtx t fun c => { c with words := new, shadow := if c.shadow = some new then none else c.shadow }
  let s := match c.st, new.valid with
    | .empty, true => armContext t (put s)
    | .empty, false => put s
    | _, false => put (emptyContext t s)
    | st, true =>
      let s := narrowContext t old new (put s)
      match st, new.suspend with
      | .active, true => suspendContext t s
      | .suspended, false => resumeContext t s
      | .active, false => raiseTenant t 0x0C10 [.h t, .w s.rru.f] s
      | _, _ => s
  let s := s.onTen fun x => { x with pending := none, commit := .applied, commitReason := 0, commitTenant := t,
                                     copy := Tbl.put x.copy t {} new }
  recordAdmission s

/-! ## Commits (R669) -/

/-- R669, R665: why a commit of a shadow is refused: 1 range, 2 limit, 3 port, 4 admission. -/
def commitRefusal (s : State) (t : Nat) (w : CtxWords) : Option (Nat × Option (Nat × Nat)) :=
  let mode := getF s R.LNK_PORT_CFG_MODE
  let others := ((List.range 32).filter fun i => flagF s (R.LNK_STR_CTRL_EN i)).map (stewardCfg s) ++
    (s.ten.ctx.filter fun p => p.2.st != .empty && p.1 != t).map fun p => tenantCfg p.1 p.2.words
  if !ctxRangeOk mode t w then some (1, none)
  else if w.valid && decide (tenantLimit s ≤ t) then some (2, none)
  else if !ctxPortOk mode w then some (3, none)
  else match admissionBreak mode (if w.valid then others ++ [tenantCfg t w] else others) with
    | some b => some (4, some b)
    | none => none

/-- R669: a commit is refused. -/
def refuseCommit (t reason : Nat) (s : State) : State :=
  raise 0x0C03 [.h t, .h reason] (s.onTen fun x => { x with commit := .refused, commitReason := reason, commitTenant := t })

/-- R669: a write of GO commits a context. -/
def commitContext (t : Nat) (s : State) : WriteResult × State :=
  if s.ten.pending.isSome then (.event 0x0C03, refuseCommit t 5 s)
  else
    let c := getCtx s t
    let w := c.shadow.getD c.words
    match commitRefusal s t w with
    | some (r, b) =>
      let s := match b with
        | some b => admissionReject b s
        | none => s
      let s := if r = 2 then raise 0x0C0C [.h t, .h (tenantLimit s)] s else s
      (.event 0x0C03, refuseCommit t r s)
    | none =>
      let s := s.onTen fun x => { x with pending := some (t, (w, s.now)), commit := .pending, commitReason := 0, commitTenant := t }
      (.ok, if s.rru.rpValid then s else applyCommit t w s)

/-- R669: a pending commit takes effect at once while RP_VALID = 0. -/
def commitTick (s : State) : State :=
  match s.ten.pending with
  | some (t, (w, _)) => if s.rru.rpValid then s else applyCommit t w s
  | none => s

/-! ## Frame boundaries -/

/-- R675: the keys commanded take effect. -/
def applyKeys (s : State) : State :=
  let keys := s.ten.keyNext.foldl (fun k p => match p.2 with
    | some v => Tbl.set k p.1 v
    | none => Tbl.del k p.1) s.ten.keys
  let s' := s.onTen fun x => { x with keyNext := [], keys := keys }
  forEach s.ten.keyNext (fun p s =>
    let sid := if p.1 < 4096 then 0x1000 + p.1 else p.1 - 4096
    let s := modStream sid (fun x => { x with keyLogged := false }) s
    if p.2.isNone ∧ p.1 < 4096 ∧ (getCtx s p.1).st = .active then modCtx p.1 (fun c => { c with st := .armed }) s else s) s'

/-- R670, R685: what a frame boundary does to the contexts. -/
def tenantBoundary (s : State) : State :=
  let armed := (s.ten.ctx.filter fun p => p.2.st == .armed).map Prod.fst
  let s := match s.ten.pending with
    | some (t, (w, at0)) => if at0 + milli ≤ s.now then applyCommit t w s else s
    | none => s
  let s := forEach armed (fun t s =>
    if (getCtx s t).st ≠ .armed then s
    else if (Tbl.get? s.ten.keys t).isSome then activateContext t s
    else noteKeyMissing (0x1000 + t) s) (applyKeys s)
  forEach (s.ten.ctx.map Prod.fst) (fun t s =>
    match (getCtx s t).rawNext with
    | some (on, at0) => if at0 + milli ≤ s.now then modCtx t (fun c => { c with rawSub := on, rawNext := none }) s else s
    | none => s) s

/-! ## The key store (R673 to R678) -/

/-- R796: the head's serial number, words 0 and 1 of the fuse array. -/
def serialNo (s : State) : BitVec 64 := fuseWord s 1 ++ fuseWord s 0

/-- R677: bytes of a copy of the key store, and of one write command. -/
def keyStoreBytes : Nat := 264320
def keyStoreStep : Nat := 131072

/-- R675, R677: the slots as the last command left them. -/
def keysCommanded (s : State) : List (Nat × KeySlot) :=
  s.ten.keyNext.foldl (fun k p => match p.2 with
    | some v => Tbl.set k p.1 v
    | none => Tbl.del k p.1) s.ten.keys

/-- R677, R678: a copy may be loaded. -/
def KeyCopy.good (s : State) (c : KeyCopy) : Bool := c.ok && c.serial == serialNo s

/-- R433, R678: the newer of the copies that pass. -/
def newestKeys (s : State) : Option (Nat × KeyCopy) :=
  let a := (s.ten.copies.getD 0 none).filter (KeyCopy.good s)
  let b := (s.ten.copies.getD 1 none).filter (KeyCopy.good s)
  match a, b with
  | some x, some y => if newerGen (BitVec.ofNat 32 y.generation) (BitVec.ofNat 32 x.generation) then some (1, y) else some (0, x)
  | some x, none => some (0, x)
  | none, some y => some (1, y)
  | none, none => none

/-- R677: the whole store is to be written to the other copy; a change during a store is stored after it. -/
def storeKeys (s : State) : State :=
  if s.ten.store.isSome then s.onTen fun x => { x with storeDue := true }
  else
    let copy := match newestKeys s with
      | some (k, _) => 1 - k
      | none => 0
    s.onTen fun x => { x with store := some ⟨copy, 0, false, false⟩, storeDue := false,
                              generation := (x.generation + 1) % 2 ^ 32, copies := x.copies.set copy none }

/-- R677: the next write command of a store is asked for while the eMMC is free. -/
def pumpKeyStore (s : State) : State :=
  if s.ten.store.isSome ∧ !storeRuns s .keyStore ∧ !storeAsked s .keyStore ∧ leaseOpen s 5 0xC ∧ s.pwr.pf = .normal ∧
      !s.sup.coreDown then
    askStore .emmcWrite .keyStore (takeLease 5 0xC s)
  else s

/-- R677: a store ends early: 0 energy, 1 power-fail, 2 eMMC error. -/
def failKeyStore (cause : Nat) (s : State) : State :=
  match s.ten.store with
  | some t =>
    let s := dropStore .keyStore (addF R.TEN_CNT_STORE_FAIL 1 s)
    freeLease 5 (raise 0x0C0A [.h t.copy, .h cause] (s.onTen fun x => { x with store := none, storeDue := false }))
  | none => s

/-- R677: a write command of a store ends. -/
def keyCommandDone (ok : Bool) (s : State) : State :=
  let s := endStore .keyStore s
  match s.ten.store with
  | none => leaveLease 5 0xC s
  | some t =>
    if !ok then failKeyStore 2 s
    else if keyStoreBytes ≤ t.done + keyStoreStep then
      let c : KeyCopy := ⟨s.ten.generation, serialNo s, keysCommanded s, true⟩
      let s := freeLease 5 (s.onTen fun x => { x with store := none, copies := x.copies.set t.copy (some c), src := t.copy })
      if s.ten.storeDue then storeKeys s else s
    else takeLease 5 0xC (s.onTen fun x => { x with store := some { t with done := t.done + keyStoreStep } })

/-- R674: the staging words of a key command are cleared. -/
def clearKeyData : State → State := State.onTen fun x => { x with keyData := List.replicate 8 0, keySalt := 0 }

/-- R674: the key that the staging words hold, word 0 first. -/
def stagedKey (s : State) : BitVec 256 := BitVec.ofNat 256 (quad (s.ten.keyData.map BitVec.toNat))

/-- R674, R675: a key and its salt are installed in the slot named. -/
def installKey (s : State) : State :=
  let slot := getF s R.TEN_KEY_SLOT
  let k : KeySlot := ⟨stagedKey s, s.ten.keySalt, s.ten.keyGen + 1⟩
  let s := s.onTen fun x => { x with keyGen := x.keyGen + 1, keyNext := Tbl.set x.keyNext slot (some k) }
  storeKeys (clearKeyData (raise 0x0C08 [.h slot] s))

/-- R674, R675: the slot named is erased. -/
def eraseKey (s : State) : State :=
  let slot := getF s R.TEN_KEY_SLOT
  let s := s.onTen fun x => { x with keyNext := Tbl.set x.keyNext slot none }
  storeKeys (clearKeyData (raise 0x0C09 [.h slot] s))

/-- R678: the key store is loaded at a start. -/
def loadKeys (s : State) : State :=
  let load := fun (k : List (Nat × KeySlot)) (s : State) => s.onTen fun x => { x with keys := k, keyNext := [] }
  if s.fus.lc = .retired ∧ !s.fus.fail.getLsbD 0 then
    raise 0x0C0F [] (load [] (s.onTen fun x => { x with copies := [none, none] }))
  else match newestKeys s with
    | some (k, c) => load c.slots (s.onTen fun x => { x with generation := c.generation, src := k })
    | none => raise 0x0C0B [.h ((s.ten.copies.filter Option.isSome).length)] (load [] s)

/-! ## Requests (R680 to R686) -/

/-- R710, R711: the answer to a request: status, detail and the words of the reply. -/
structure Answer where
  status : Nat
  detail : Nat
  body : List Word
  deriving DecidableEq, Repr

def Answer.ok : Answer := ⟨0, 0, []⟩

/-- R684: a request outside a tenant's scope. -/
def denyTenant (t op detail : Nat) (s : State) : Answer × State :=
  (⟨8, detail, []⟩, raiseTenant t 0x0C07 [.h t, .h op] s)

/-- R718: the words of SUB. -/
def subWords (sets : Nat → Bool) : List Word :=
  (List.range 8).map fun i => BitVec.ofNat 32 ((List.range 32).foldl (fun n b => n + bit (sets (32 * i + b)) * 2 ^ b) 0)

/-- R685, R718: a tenant replaces its subscription. -/
def subscribeTenant (t : Nat) (rawSub rawSet : Bool) (sets : List Nat) (s : State) : Answer × State :=
  let c := getCtx s t
  match (List.range 256).find? fun n => sets.contains n && !c.words.grants n with
  | some n => denyTenant t 0x40 n s
  | none =>
    let next := (List.range 256).foldl (fun l n =>
      let want := sets.contains n
      if want == c.subNow n then Tbl.del l n
      else match Tbl.get? l n with
        | some (w, _) => if w == want then l else Tbl.set l n (want, s.now)
        | none => Tbl.set l n (want, s.now)) c.subNext
    let raw := if !rawSet then c.rawNext else if rawSub = c.rawSub then none else some (rawSub, s.now)
    (⟨0, 0, subWords fun n => sets.contains n⟩, modCtx t (fun c => { c with subNext := next, rawNext := raw }) s)

/-- R388, R718: a tenant window request is refused. -/
def refuseWindow (t reason : Nat) (s : State) : Answer × State :=
  (⟨0x10, reason, []⟩, raiseTenant t 0x0609 [.h t, .h reason] s)

/-- R351, R664: the free entries of the tenant pool. -/
def freePool (s : State) : List Nat :=
  let used := windowIds s
  if s.fus.wires.tenClass = .stewardOnly then [] else (List.range 16384).filterMap fun i =>
    if used.contains (poolBase + i) then none else some (poolBase + i)

/-- R357, R389: the state with every pending tenant window change made, for the plan of a request. -/
def planAhead (s : State) : State :=
  forEach s.pat.twPending (fun p t => match p.rect with
    | some w => putWindow w t
    | none => clearWindow p.win t) s

/-- R718: the words of a window's reply. -/
def windowWords (w : Window) : List Word :=
  [BitVec.ofNat 32 (w.id * 65536 + w.x0), BitVec.ofNat 32 (w.x1 * 65536 + w.y0), BitVec.ofNat 32 (w.y1 * 65536)]

/-- R388, R620, R718: a reason that refuses any tenant window request. -/
def windowRefusal (s : State) (t twin set : Nat) : Option Nat :=
  let c := getCtx s t
  let st := (getSet s set).st
  if !c.words.grants set then some 1
  else if st == .stopping || st == .stopped then some 6
  else if c.words.maxWin ≤ twin then some 7
  else none

/-- R386 to R389: a tenant defines or moves a window. -/
def setTenantWindow (t twin set x0 x1 y0 y1 : Nat) (s : State) : Answer × State :=
  let c := getCtx s t
  let held := (c.wins.find? fun q => q.1 == twin).map Prod.snd
  match windowRefusal s t twin set with
  | some r => refuseWindow t r s
  | none =>
    match clipTo c.words.region ⟨0, set, some t, x0, x1, y0, y1⟩ with
    | none => refuseWindow t 2 s
    | some w =>
      if held.isNone ∧ c.words.maxWin ≤ c.wins.length then refuseWindow t 3 s
      else
        let pool := freePool s
        if held.isNone ∧ pool.isEmpty then refuseWindow t 4 s
        else
          let (free, s') := if held.isSome then ((0 : BitVec 256), s) else takeFree s
          let id := held.getD (pool.getD (free.toNat % pool.length) poolBase)
          let w := { w with id := id }
          match planBreak (planWindows (putWindow w (planAhead s)) []) with
          | some _ => refuseWindow t 5 s
          | none =>
            let fresh := held.isNone || (pendingOf s id).any TwPending.fresh
            let old := if fresh then set else (getWindow s id).set
            let s := if fresh then putWindow w s' else s'
            let s := bookWindow ⟨fresh, id, t, old, some w, s.now, false⟩ s
            let s := if held.isSome then s else modCtx t (fun c => { c with wins := c.wins ++ [(twin, id)] }) s
            (⟨0, 0, windowWords w⟩, s)

/-- R389: a tenant removes a window. -/
def removeTenantWindow (t twin set : Nat) (s : State) : Answer × State :=
  match windowRefusal s t twin set with
  | some r => refuseWindow t r s
  | none =>
    match (getCtx s t).wins.find? fun q => q.1 == twin with
    | none => (⟨0, 0, [0, 0, 0]⟩, s)
    | some (_, id) => (⟨0, 0, windowWords (getWindow s id)⟩, bookWindow ⟨false, id, t, (getWindow s id).set, none, s.now, false⟩ s)

/-- R655, R684, R718: a party asks for packets of a stream; a tenant has its own stream only. -/
def askRetransmit (tenant : Option Nat) (sid count first : Nat) (s : State) : Answer × State :=
  match tenant with
  | some t => if sid = 0x1000 + t then done s else denyTenant t 0x42 0 s
  | none => if sid < 32 ∨ isTenantStream sid then done s else (⟨3, 0, []⟩, s)
where
  /-- RESENT and NOT_RETAINED. -/
  done (s : State) : Answer × State :=
    let n := (getStream s sid).retx.length
    let s' := retransmit sid first count s
    let sent := (getStream s' sid).retx.length - n
    (⟨0, 0, [BitVec.ofNat 32 (sent * 65536 + (count - sent)), 0]⟩, s')

/-- R681: what the bucket of a tenant holds. -/
def bucketOf (s : State) (c : Ctx) : Nat := min 50000000 (c.bucket + (s.now - c.bucketTb))

/-- R681: a request for no valid tenant is dropped. -/
def dropUnknown (s : State) : State :=
  let s := addF R.TEN_CNT_UNKNOWN 1 (s.onTen fun x => { x with unknownCount := x.unknownCount + 1 })
  if secondDue s s.ten.unknownTb then
    raise 0x0C0E [.w s.ten.unknownCount] (s.onTen fun x => { x with unknownTb := some s.now, unknownCount := 0 })
  else suppress 0x0C0E s

/-- R681: a request that fails authentication is dropped. -/
def dropUnauthentic (t : Nat) (s : State) : State :=
  let s := modCtx t (fun c => { c with authFail := satAdd 32 c.authFail 1 }) s
  let s := s.onTen fun x => { x with authCount := x.authCount + 1 }
  if secondDue s s.ten.authTb then
    raiseTenant t 0x0C04 [.h t, .w s.ten.authCount] (s.onTen fun x => { x with authTb := some s.now, authCount := 0 })
  else suppress 0x0C04 s

/-- R681: a request that finds the bucket empty or the queue full is dropped. -/
def dropRate (t : Nat) (s : State) : State :=
  let s := modCtx t (fun c => { c with rateDrops := satAdd 32 c.rateDrops 1, rateCount := c.rateCount + 1 }) s
  let c := getCtx s t
  if secondDue s c.rateTb then
    raiseTenant t 0x0C06 [.h t, .w c.rateCount] (modCtx t (fun c => { c with rateTb := some s.now, rateCount := 0 }) s)
  else suppress 0x0C06 s

/-- R694, R727: the states in which tenants are heard at all. -/
def tenantsHeard (s : State) : Bool :=
  s.head.applied && s.pwr.pf == .normal && !s.sup.dieDown &&
    (s.head.st == .acquiring || s.head.st == .running || s.head.st == .hold)

/-- R680, R681: a tenant request arrives; `auth` says whether its tag matches under the tenant's key. -/
def doTenantReq (t : Nat) (auth : Bool) (req : BitVec 64) (op : LcpOp) (s : State) : State :=
  if s.head.st = .off ∨ s.head.st = .sleep ∨ s.pwr.pf ≠ .normal then s
  else
    let c := getCtx s t
    if !tenantsHeard s ∨ tenantLimit s ≤ t ∨ c.st = .empty then dropUnknown s
    else if !auth ∨ (Tbl.get? s.ten.keys t).isNone then dropUnauthentic t s
    else if req.extractLsb' 40 24 ≠ s.lnk.epoch ∨ req.extractLsb' 0 40 ≤ c.lastReq.extractLsb' 0 40 then
      raiseTenant t 0x0C05 [.h t, .w req.toNat] (modCtx t (fun c => { c with authFail := satAdd 32 c.authFail 1 }) s)
    else
      let b := bucketOf s c
      if b < 2500000 ∨ 4 ≤ c.queue.length then dropRate t s
      else modCtx t (fun c => { c with
        bucket := b - 2500000, bucketTb := s.now, lastReq := req, reqOk := satAdd 32 c.reqOk 1, queue := c.queue ++ [⟨req, op⟩] }) s

/-- R682, R683: the tenant whose request is taken next. -/
def nextTenant (s : State) : Option Nat :=
  let held := s.ten.pending.map Prod.fst
  let ids := (s.ten.ctx.filter fun p => !p.2.queue.isEmpty && held != some p.1).map Prod.fst
  ((ids.filter fun t => decide (s.ten.rr ≤ t)) ++ ids).head?

/-! ## Head states (R694) -/

/-- R573, R665: the contexts of an applied table. -/
def applyTenantTable (l : List (Nat × CtxWords)) (s : State) : State :=
  let s := s.onTen fun x => { x with
    ctx := x.ctx.filterMap (fun p => if p.2.lostWins = 0 then none else some (p.1, { lostWins := p.2.lostWins })), copy := [] }
  forEach l (fun p s =>
    if tenantLimit s ≤ p.1 then raise 0x0C0C [.h p.1, .h (tenantLimit s)] s
    else
      let s := modCtx p.1 (fun c => { c with words := p.2 }) s
      armContext p.1 (s.onTen fun x => { x with copy := Tbl.put x.copy p.1 {} p.2 })) s

/-- R694: after a level-2 restart, the committed table from the frame store, or else the image's. -/
def restoreTenants (image committed : List (Nat × CtxWords)) (ok : Bool) (s : State) : State :=
  if ok then applyTenantTable (committed.filter fun p => p.2.valid) s
  else raise 0x0C11 [] (applyTenantTable image s)

/-- R694: a power-fail warning abandons a pending commit. -/
def abandonCommit : State → State := State.onTen fun x => { x with pending := none, commit := if x.pending.isSome then .idle else x.commit }

/-! ## Writes and reads of block TEN and of the contexts -/

/-- R668: a write to a word of a context goes to its shadow. -/
def writeCtx (a : Nat) (v : Word) (s : State) : WriteResult × State :=
  let t := (a - 0x20000000) / 256
  let o := a % 256
  if ctxMask o = 0 then (.ok, s)
  else if !ctxWordOk (getF s R.LNK_PORT_CFG_MODE) o v then (.event 0x0C0D, raise 0x0C0D [.w a] s)
  else (.ok, modCtx t (fun c => { c with shadow := some ((c.shadow.getD c.words).put o v) }) s)

/-- R670: the code of a context's state. -/
def CtxState.code : CtxState → Nat
  | .empty => 0
  | .armed => 1
  | .active => 2
  | .suspended => 3

/-- R666, R668: a word of a context. -/
def readCtx (s : State) (a : Nat) : Word :=
  let t := (a - 0x20000000) / 256
  let o := a % 256
  let c := getCtx s t
  let sid := 0x1000 + t
  let w := (c.shadow.getD c.words).get o
  if o = 0 then w ||| BitVec.ofNat 32 t
  else if o = 4 then ((Tbl.get? s.ten.keys t).map KeySlot.salt).getD 0
  else if ctxMask o ≠ 0 then w
  else if 0x60 ≤ o ∧ o < 0x80 then (subWords c.subNow).getD ((o - 0x60) / 4) 0
  else if o = 0x80 then BitVec.ofNat 32 (c.st.code * 2 ^ 29 + bit (Tbl.get? s.ten.keys t).isSome * 2 ^ 28 +
    bit c.rawSub * 2 ^ 27 + bit (getStream s sid).resolved * 2 ^ 26 + c.wins.length * 65536)
  else if o = 0x84 then c.lastReq.extractLsb' 0 32
  else if o = 0x88 then c.lastReq.extractLsb' 32 32
  else if o = 0x8C then BitVec.ofNat 32 c.reqOk
  else if o = 0x90 then BitVec.ofNat 32 c.reqRefused
  else if o = 0x94 then BitVec.ofNat 32 c.rateDrops
  else if o = 0x98 then BitVec.ofNat 32 c.authFail
  else if o = 0x9C then BitVec.ofNat 32 c.resultsDropped
  else if o = 0xA0 then BitVec.ofNat 32 c.retxRefused
  else if o = 0xA4 then (nextSeq s sid).extractLsb' 0 32
  else if o = 0xA8 then (nextSeq s sid).extractLsb' 32 32
  else if o = 0xAC then BitVec.ofNat 32 (queuedBytes s sid)
  else 0

/-- R667: `TEN_CTRL.CNT_CLR`. -/
def clearTenCounters (s : State) : State :=
  setRaw A.TEN_CNT 0 (s.onTen fun x => { x with ctx := x.ctx.map fun p => (p.1, p.2.clearCounters) })

/-- R669, R674, R696: a write to a register of the block. -/
def writeTen (a : Nat) (v : Word) (s : State) : WriteResult × State :=
  let o := a % 0x10000
  let n := v.toNat
  if o = 0 then (.ok, if v.getLsbD 0 then clearTenCounters s else s)
  else if o = 0xC then (if v.getLsbD 31 then commitContext (n % 4096) s else (.ok, s))
  else if o = 0x20 then (if 4127 < n % 2 ^ 13 then rejectWrite 0x0C0D a s else (.ok, plainWrite a v s))
  else if o = 0x24 then (.ok, s.onTen fun x => { x with keySalt := v })
  else if o = 0x28 then (.ok, if n % 4 = 1 then installKey s else if n % 4 = 2 then eraseKey s else s)
  else if 0x40 ≤ o ∧ o < 0x60 then (.ok, s.onTen fun x => { x with keyData := x.keyData.set ((o - 0x40) / 4) v })
  else (.ok, plainWrite a v s)

/-- The code of a commit's outcome. -/
def CommitState.code : CommitState → Nat
  | .idle => 0
  | .pending => 1
  | .applied => 2
  | .refused => 3

/-- R781: the code of a tenant class. -/
def TenClass.code : TenClass → Nat
  | .full => 0
  | .single => 1
  | .stewardOnly => 2

/-- R664, R669, R674: the words of the block that the state holds elsewhere. -/
def readTen (s : State) (a : Nat) : Option Word :=
  let o := a % 0x10000
  let x := s.ten
  if o = 4 then some (BitVec.ofNat 32 (s.fus.wires.tenClass.code * 2 ^ 30 + bit x.store.isSome * 2 ^ 29 + x.src * 2 ^ 28 +
    ((x.ctx.filter fun p => p.2.st == .active).length) * 2 ^ 13 + tenantLimit s))
  else if o = 0x10 then some (BitVec.ofNat 32 (x.commit.code * 2 ^ 30 + x.commitReason * 2 ^ 12 + x.commitTenant))
  else if o = 0x2C then some (BitVec.ofNat 32 (bit (Tbl.get? x.keys (getF s R.TEN_KEY_SLOT)).isSome * 2 ^ 31))
  else none

end Sys2Proof.Machine
end

