-- ==== Sys2Proof/Machine/Mosaic.lean ====
section
/-! DEFINITION. Chapter 17: Ulunta cells, hop delay, the view and the election, raster and time from the root, frame
reconciliation, agreement between heads. Barriers stand in Barrier.lean. -/

namespace Sys2Proof.Machine

/-! ## Settings -/

/-- R733: the head's own mosaic ID. -/
def mosaicId (s : State) : Nat := getF s R.MOS_CFG_MOSAIC_ID

/-- R731, R732: the head may take part in no mosaic. -/
def mosaicBarred (s : State) : Bool := s.fus.wires.rmMosaic || s.fus.order == 1

/-- R747: the code of a mosaic state. -/
def MosState.code : MosState → Nat
  | .solo => 0
  | .joining => 1
  | .root => 2
  | .member => 3
  | .interimRoot => 4
  | .partitioned => 5
  | .refused => 6

/-- R749: the head distributes its raster. -/
def distributes (s : State) : Bool := s.mos.st == .root || s.mos.st == .interimRoot

/-- One port. -/
def getPort (s : State) (p : Nat) : MosPort := s.mos.ports.getD p {}

/-- Changes one port. -/
def modPort (p : Nat) (f : MosPort → MosPort) : State → State := State.onMos fun m => { m with ports := m.ports.modify p f }

/-- R743: heads in the view, this one included. -/
def viewHeads (s : State) : Nat := if s.mos.st = .solo then 0 else s.mos.view.length + 1

/-! ## Cells -/

/-- R737: the code of a cell type. -/
inductive CellType where
  | idle | hello | delayReq | delayResp | raster | time | barrier | state | report
  deriving DecidableEq, Repr

def CellType.code : CellType → Nat
  | .idle => 0
  | .hello => 1
  | .delayReq => 2
  | .delayResp => 3
  | .raster => 4
  | .time => 5
  | .barrier => 6
  | .state => 7
  | .report => 8

/-- R736: a cell of this head leaves on a port; port 2 stands for both. -/
def sendCell (t : CellType) (port : Nat) (delay : Nat) (body : List Nat) (s : State) : State :=
  if !s.mos.txOn then s
  else
    let n := s.mos.seqs.getD t.code 0
    s.onMos fun m => { m with seqs := m.seqs.set t.code ((n + 1) % 65536)
                              sent := ⟨t.code, mosaicId s, port, 0, n, delay, body⟩ :: m.sent }

/-- R738, R739: a cell received on one port leaves on the other. -/
def forwardCell (t : CellType) (c : CellHead) (body : List Nat) (s : State) : State :=
  if !s.mos.txOn then s
  else
    let d := (c.delayAcc + (getPort s c.port).delay.toNat + c.residence) % 2 ^ 32
    s.onMos fun m => { m with sent := ⟨t.code, c.origin, 1 - c.port.val, c.hops + 1, c.seq, d, body⟩ :: m.sent }

/-- R741: a port whose link is up; one with a delay fault is treated as down. -/
def portUp (s : State) (p : Nat) : Bool :=
  match (getPort s p).link with
  | .measuring | .up => true
  | .down | .delayFault => false

/-- R731, R734: a cell reaches the head. -/
def cellHeard (s : State) (c : CellHead) : Bool := s.mos.record && s.mos.txOn && portUp s c.port

/-- R738: a cell whose CRC fails is counted and discarded. -/
def countCrc (port : Nat) (s : State) : State := addF (R.MOS_PORT_CNT_CRC_ERR port) 1 s

/-- R738: the processing of a received cell: `use` says what the head does with it beside forwarding it. -/
def receiveCell (t : CellType) (c : CellHead) (body : List Nat) (use : State → State) (s : State) : State :=
  if !cellHeard s c then s
  else if !c.crcOk then countCrc c.port s
  else if c.origin = mosaicId s ∨ 511 ≤ c.hops then s
  else use (forwardCell t c body s)

/-! ## Hop delay (R740, R741) -/

/-- R740: a DELAY_REQ is answered; t1 to t3 are TB values in 1/16 TB. -/
def doDelayReq (port : Fin 2) (crcOk : Bool) (t1 t2 t3 : Nat) (s : State) : State :=
  if !(s.mos.record && s.mos.txOn && portUp s port) then s
  else if !crcOk then countCrc port s
  else sendCell .delayResp port 0 [t1, t2, t3] s

/-- R740: every 1 ms a DELAY_REQ leaves on each port. -/
def doDelayReqTimer (s : State) : State :=
  if !s.mos.record then s
  else sendCell .delayReq 1 0 [16 * s.now] (sendCell .delayReq 0 0 [16 * s.now] s)

/-! ## The view and the election (R743 to R747) -/

/-- R743: the heads of the view change. -/
def viewChanged (s : State) : State := s.onMos fun m => { m with viewTb := s.now }

/-- R746: this head's ID is used by a head with a lower serial number. -/
def duplicateOf (s : State) : Option Hello :=
  s.mos.view.find? fun h => h.id == mosaicId s && decide (h.serial.toNat < (serialNo s).toNat)

/-- R744: the heads of the segment that claim the root, by ID. -/
def claimants (s : State) : List Nat :=
  let own := if flagF s R.MOS_CFG_ROOT_CLAIM then [mosaicId s] else []
  own ++ (s.mos.view.filter Hello.claim).map Hello.id

/-- The lowest number of a list. -/
def lowest : List Nat → Option Nat
  | [] => none
  | x :: l => some (l.foldl min x)

/-- R745: the claimant that holds the root role as the others announce it, or as this head holds it. -/
def holders (s : State) : List Nat :=
  let own := if s.mos.st = .root then [mosaicId s] else []
  own ++ (s.mos.view.filter fun h => h.claim && h.state == 2).map Hello.id

/-- R745: the own highest-ranked source has stayed qualified for ROOT_HOLD frames. -/
def holdDone (s : State) : Bool := decide (getF s R.MOS_TIMING_ROOT_HOLD ≤ s.mos.holdFrames)

/-- R744, R745: the root of the segment; none in a partition. -/
def electedRoot (s : State) : Option Nat :=
  match lowest (claimants s), lowest (holders s) with
  | some low, some cur =>
    if low < cur then (if low = mosaicId s ∧ holdDone s then some low else some cur) else some cur
  | some low, none => some low
  | none, _ => none

/-- R744: the interim root of a partition. -/
def electedInterim (s : State) : Nat := (lowest (mosaicId s :: s.mos.view.map Hello.id)).getD (mosaicId s)

/-- R746: the head may not join: an event of its own and its details. -/
def joinRefusal (s : State) : Option (Nat × List DetailField) :=
  match duplicateOf s with
  | some h => some (0x0D0B, [.h h.id, .q h.serial.toNat])
  | none =>
    match electedRoot s with
    | some r =>
      match s.mos.view.find? fun h => h.id == r && h.major != 1 with
      | some h => some (0x0D0A, [.h h.major])
      | none => none
    | none => none

/-- R755: the raster of a root that has not been followed yet is to be reconciled; its line events start anew. -/
def followAnew (s : State) : State :=
  let s := modMon 5 (fun _ => {}) s
  let s := s.onMos fun m => { m with reconcile := true, lastRaster := none, spare := none, offSum := 0, offN := 0, mismatch := 0
                                     joinCheck := true, ports := m.ports.map fun p => { p with primary := false, cellTb := none } }
  if s.rru.active = .mosaic ∧ (s.rru.pll = .locked ∨ s.rru.pll = .pull ∨ s.rru.pll = .search) then loseActive 0 s else s

/-- R747: the mosaic state and the root change; the raster sources of the new role are monitored (R33, R748). -/
def enterMosaic (st : MosState) (root : Option Nat) (s : State) : State :=
  let old := effList s
  let seen := watched s
  let hops := match root with
    | some r => if r = mosaicId s then 0 else ((s.mos.view.find? fun h => h.id == r).map fun h => h.hops + 1).getD 0
    | none => 0
  let s := s.onMos fun m => { m with st := st, rootId := root, rootHops := hops, holdFrames := 0 }
  tryAcquire (listChanged old seen s)

/-- R747: the head becomes the root. -/
def becomeRoot (s : State) : State :=
  let s := enterMosaic .root (some (mosaicId s)) s
  raise 0x0D02 [.h (mosaicId s)] (s.onMos fun m => { m with reconcile := false, unreconciled := false, reconWait := false })

/-- R747, R755: the head follows a root. -/
def becomeMember (root : Nat) (s : State) : State := followAnew (enterMosaic .member (some root) s)

/-- R747, R770: the head enters a partition, or its interim root changes. -/
def enterPartition (log : Bool) (s : State) : State :=
  let r := electedInterim s
  let st := if r = mosaicId s then MosState.interimRoot else .partitioned
  let s := enterMosaic st (some r) s
  let s := s.onMos fun m => { m with unreconciled := true, reconcile := false }
  let s := if st = .partitioned then (followAnew s).onMos fun m => { m with reconcile := false } else s
  if log then raise 0x0D06 [.h r] s else s

/-- R746, R747: the head is refused. -/
def becomeRefused (e : Nat × List DetailField) (s : State) : State :=
  raise e.1 e.2 ((enterMosaic .refused none s).onMos fun m => { m with unreconciled := true, reconcile := false })

/-- R775: event 0x0D10 for a settled view that the record does not expect. -/
def checkTopology (s : State) : State :=
  let heads := viewHeads s
  let ring := bit s.mos.ring
  let bad := decide (heads < s.mos.expected) || ring != s.mos.topology
  if !bad then s.onMos fun m => { m with topoLogged := false }
  else if s.mos.topoLogged then s
  else
    let s := s.onMos fun m => { m with topoLogged := true }
    if heads < s.mos.expected then raise 0x0D10 [.h s.mos.expected, .h heads, .h heads] s
    else raise 0x0D10 [.h s.mos.topology, .h ring, .h heads] s

/-- R747: the mosaic state moves; `settled` says that the view has settled. -/
def moveMosaic (settled : Bool) (s : State) : State :=
  let me := mosaicId s
  match s.mos.st with
  | .solo => s
  | .refused => if settled ∧ (joinRefusal s).isNone then enterMosaic .joining none s else s
  | .joining =>
    if !settled then s
    else match joinRefusal s with
      | some e => becomeRefused e s
      | none =>
        match electedRoot s with
        | some r => if r = me then becomeRoot s else raise 0x0D01 [.h r] (becomeMember r s)
        | none => enterPartition true s
  | .member =>
    match (if settled then joinRefusal s else none) with
    | some e => becomeRefused e s
    | none =>
      match electedRoot s with
      | some r =>
        if r = me then becomeRoot s
        else if s.mos.rootId = some r then s
        else raise 0x0D02 [.h r] (becomeMember r s)
      | none => if settled then enterPartition true s else s
  | .root =>
    match electedRoot s with
    | some r => if r = me then s else becomeMember r s
    | none => s
  | .interimRoot | .partitioned =>
    match (if settled then electedRoot s else none) with
    | some r => if r = me then becomeRoot s else becomeMember r s
    | none => if s.mos.rootId = some (electedInterim s) then s else enterPartition false s

/-- R743, R744: the view has settled. -/
def doViewSettled (s : State) : State :=
  if s.mos.st = .solo ∨ s.now < s.mos.viewTb + 5 * milli then s
  else checkTopology (moveMosaic true s)

/-- R743: heads whose last HELLO on every port is gone leave the view. -/
def pruneView (s : State) : State :=
  let keep := s.mos.view.filter fun h => h.east.isSome || h.west.isSome
  if keep.length = s.mos.view.length then s
  else moveMosaic false (viewChanged (s.onMos fun m => { m with view := keep }))

/-- R733, R743: no HELLO from a head for 10 ms; RING goes when the head's own HELLO cells stay away as long (log entry 43). -/
def doViewHeadTimeout (s : State) : State :=
  let s := if s.mos.ringTb + 10 * milli ≤ s.now then s.onMos fun m => { m with ring := false } else s
  let live := fun (t : Option Nat) => t.filter fun t => decide (s.now < t + 10 * milli)
  pruneView (s.onMos fun m => { m with view := m.view.map fun h => { h with east := live h.east, west := live h.west } })

/-- R733: this head's own HELLO cells come back. -/
def noteRing (on : Bool) (s : State) : State := s.onMos fun m => { m with ring := on, ringTb := s.now }

/-- R743: what a HELLO cell says of its head. -/
def helloOf (s : State) (c : CellHead) (serial : BitVec 64) (flags state rootId rootHops bseq : Nat) (old : Option Hello) : Hello :=
  let east := if c.port = 0 then some s.now else old.bind Hello.east
  let west := if c.port = 1 then some s.now else old.bind Hello.west
  { id := c.origin, serial := serial, claim := flags.testBit 0, discordant := flags.testBit 1, hold := flags.testBit 2,
    refused := flags.testBit 3, state := state, rootId := rootId, rootHops := rootHops, bseq := bseq, major := c.major,
    minor := c.minor, hops := c.hops, east := east, west := west }

/-- R743: a HELLO cell updates the view. -/
def takeHello (c : CellHead) (serial : BitVec 64) (flags state rootId rootHops bseq : Nat) (s : State) : State :=
  let same := fun (h : Hello) => h.id == c.origin && h.serial == serial
  let old := s.mos.view.find? same
  let new := helloOf s c serial flags state rootId rootHops bseq old
  let fresh := match old with
    | some h => h.claim != new.claim || h.major != new.major
    | none => true
  let s := s.onMos fun m => { m with view := (m.view.filter fun h => !same h) ++ [new] }
  let s := if c.hops = 0 then modPort c.port (fun p => { p with neighbour := c.origin }) s else s
  let s := if s.mos.rootId = some c.origin then s.onMos fun m => { m with rootHops := c.hops + 1 } else s
  moveMosaic false (if fresh then viewChanged s else s)

/-- R743: a HELLO cell is received. -/
def doHello (c : CellHead) (serial : BitVec 64) (flags state rootId rootHops bseq : Nat) (s : State) : State :=
  if !cellHeard s c then s
  else if !c.crcOk then countCrc c.port s
  else if c.origin = mosaicId s then
    if serial = serialNo s then noteRing true s else takeHello c serial flags state rootId rootHops bseq s
  else if 511 ≤ c.hops then s
  else takeHello c serial flags state rootId rootHops bseq
    (forwardCell .hello c [serial.toNat, flags, state, rootId, rootHops, bseq] s)

/-- R737: every 1 ms a HELLO cell leaves on each port. -/
def doHelloTimer (s : State) : State :=
  if !s.mos.record then s
  else
    let m := s.mos
    let flags := bit (flagF s R.MOS_CFG_ROOT_CLAIM) + bit m.discordant * 2 + bit (s.head.st == .hold) * 4 + bit (m.st == .refused) * 8
    let body := [(serialNo s).toNat, flags, m.st.code, m.rootId.getD 0, m.rootHops, m.received]
    sendCell .hello 1 0 body (sendCell .hello 0 0 body s)

/-! ## Ports -/

/-- R751, R769: root cells are taken from another port. -/
def setPrimary (p : Nat) (s : State) : State :=
  let had := s.mos.ports.any MosPort.primary
  if (getPort s p).primary then s
  else
    let s := s.onMos fun m => { m with ports := m.ports.mapIdx fun i q => { q with primary := decide (i = p) } }
    if had then raise 0x0D05 [.h p] (addF R.MOS_CNT_REROUTES 1 s) else s

/-- R743, R769: what was known through a port is gone. -/
def portGone (p : Nat) (s : State) : State :=
  let other := 1 - p
  let s := if (getPort s p).primary && (getPort s other).cellTb.isSome then setPrimary other s else s
  let s := modPort p (fun q => { q with exch := [], cellTb := none, hops := 0 }) (noteRing false s)
  pruneView (s.onMos fun m => { m with view := m.view.map fun h => if p = 0 then { h with east := none } else { h with west := none } })

/-- R741, R743: a port's link goes up or down. -/
def doMosaicPortLinkChange (port : Fin 2) (up : Bool) (s : State) : State :=
  if !s.mos.record then s
  else if up then
    if (getPort s port).link = .down then
      raise 0x0D04 [.h port] (modPort port (fun q => { q with link := .measuring, exch := [] }) s)
    else s
  else if (getPort s port).link = .down then s
  else
    let s := modPort port (fun q => { q with link := .down, delay := 0, neighbour := 0 }) s
    portGone port (raise 0x0D03 [.h port] (addF (R.MOS_PORT_CNT_LINK_DOWN port) 1 s))

/-- R740, R741: a DELAY_RESP gives one exchange; times are TB values in 1/16 TB. -/
def doDelayResp (port : Fin 2) (crcOk : Bool) (t1 t2 t3 t4 : Nat) (s : State) : State :=
  let p := getPort s port
  if !(s.mos.record && s.mos.txOn && portUp s port) then s
  else if !crcOk then countCrc port s
  else
    let exch := ((((t4 : Int) - t1) - ((t3 : Int) - t2)) :: p.exch).take 16
    let s := modPort port (fun q => { q with exch := exch }) s
    if exch.length < 16 then s
    else
      let delay := 2 * exch.foldl (· + ·) 0 + (rawReg s (A.MOS_PORT_ASYM port)).toInt
      if 512000 < delay then
        portGone port (raise 0x0D13 [.h port, .w (signed32 delay)] (modPort port (fun q => { q with link := .delayFault, delay := delay }) s))
      else modPort port (fun q => { q with link := .up, delay := delay }) s

/-! ## Raster and time from the root (R749 to R754) -/

/-- R749, R907: the root sends a RASTER cell at a line event of its raster; the departure is the port's own. -/
def sendRaster (s : State) : State :=
  if !distributes s ∨ !s.rru.rpValid then s
  else
    let (d, s) := takeFree s
    let flags := bit (s.rru.l == 0) + bit (coasting s) * 2 + bit (s.mos.st == .interimRoot) * 4
    sendCell .raster 2 (d.toNat % 2 ^ 32) [s.rru.f, s.rru.l, flags, s.rru.lastTl, srcCode s.rru.active] s

/-- R71, R75: the pulses of OUT7 send the RASTER cells. -/
def rasterOut (s : State) : State := if s.rru.outPulse.getLsbD 7 then sendRaster s else s

/-- R753: the root sends its TOD. -/
def doTimeCellTimer (s : State) : State :=
  if distributes s then
    sendCell .time 2 0 [s.tmb.todSec.toNat, s.tmb.todNs, match s.tmb.todState with
      | .free => 0
      | .acquiring => 1
      | .locked => 2
      | .holdover => 3] s
  else s

/-- R754: the offset of a line event from the root's counts towards the mean of 16. -/
def takeOffset (ofs : Int) (s : State) : State :=
  let sum := s.mos.offSum + ofs
  let n := s.mos.offN + 1
  if n < 16 then s.onMos fun m => { m with offSum := sum, offN := n }
  else
    let mean := sum / 16
    let s := s.onMos fun m => { m with offSum := 0, offN := 0, offset := mean }
    if 5120 < mean.natAbs ∧ s.rru.pll = .locked ∧ s.mos.st = .member then
      beginCoast (raise 0x0D0C [.w (signed32 mean)] (addF R.MOS_CNT2_RESYNCS 1 s))
    else s

/-- R750: a line event, and with line 0 a vertical event, of MOSAIC. The parity of the root's field is in no cell. -/
def mosaicEvent (r : RasterCell) (s : State) : State :=
  let s := s.onMos fun m => { m with lastRaster := some r, spare := none
                                     coastCells := (m.coastCells && !r.flags.testBit 0) || r.flags.testBit 1 }
  let t := (r.time * 256).toNat
  let s := doSourceLineEvent .mosaic t r.err 0 0 0 s
  let s := if s.rru.active = .mosaic then takeOffset r.ofs s else s
  if r.flags.testBit 0 ∧ monitored s 5 ∧ s.rru.pll ≠ .off then
    let (v, s) := if flagF s R.RRU_GEOM_INTERLACE then takeFree s else ((0 : BitVec 256), s)
    verticalEvent 5 t (v.getLsbD 0) s
  else s

/-- R751: the port from which root cells are taken. -/
def choosePort (p : Nat) (s : State) : Nat :=
  let q := 1 - p
  let alive := (getPort s q).link == .up && (match (getPort s q).cellTb with | some t => decide (s.now < t + 2 * milli) | none => false)
  if !alive then p
  else if (getPort s p).hops = (getPort s q).hops then 0
  else if (getPort s p).hops < (getPort s q).hops then p else q

/-- R751: the two corrected times of a line event differ by more than 8 ns. -/
def comparePaths (a b : RasterCell) (s : State) : State :=
  let d := a.time - b.time
  if d.natAbs ≤ 2048 then s.onMos fun m => { m with mismatch := 0 }
  else
    let n := min 17 (s.mos.mismatch + 1)
    let s := s.onMos fun m => { m with mismatch := n }
    if n = 16 then raise 0x0D0F [.w (signed32 d)] s else s

/-- R750, R751: a RASTER cell of the current root is taken, or kept as the spare of the other port. -/
def takeRaster (c : CellHead) (r : RasterCell) (s : State) : State :=
  let s := modPort c.port (fun q => { q with hops := c.hops, cellTb := some s.now }) s
  let best := choosePort c.port s
  let s := setPrimary best s
  if best = c.port.val then
    let s := match s.mos.spare with
      | some q => if q.f = r.f ∧ q.l = r.l then comparePaths r q s else s
      | none => s
    mosaicEvent r s
  else
    let s := match s.mos.lastRaster with
      | some q => if q.f = r.f ∧ q.l = r.l then comparePaths q r s else s
      | none => s
    let done := s.mos.lastRaster.any fun q => q.f == r.f && q.l == r.l
    if done then s else s.onMos fun m => { m with spare := some r }

/-- R750: a RASTER cell is received. -/
def doRasterCell (c : CellHead) (f l flags lastTl src : Nat) (err ofs : Int) (s : State) : State :=
  receiveCell .raster c [f, l, flags, lastTl, src] (fun s =>
    if s.mos.rootId = some c.origin ∧ !distributes s ∧ (getPort s c.port).link = .up then
      let time : Int := c.arrival - (c.delayAcc + (getPort s c.port).delay)
      takeRaster c ⟨f, l, flags, time, err, ofs⟩ s
    else s) s

/-- R46, R751, R754: no event of MOSAIC came in its window from the primary port; the other port's is taken if it has come. -/
def mosaicMissing (s : State) : State :=
  match s.mos.spare with
  | some r => mosaicEvent r s
  | none => doLineEventMissing .mosaic (s.onMos fun m => { m with offSum := 0, offN := 0 })

/-- R753: a TIME cell is received. -/
def doTime (c : CellHead) (sec ns todState : Nat) (s : State) : State :=
  receiveCell .time c [sec, ns, todState] (fun s =>
    if s.mos.rootId = some c.origin ∧ !distributes s ∧ (getPort s c.port).link = .up ∧ flagF s R.TMB_TOD_CTRL_SERVO_EN then
      let delay : Int := c.delayAcc + (getPort s c.port).delay
      let root : Int := (sec * 1000000000 + ns : Nat) * 4 + delay / 64
      servoOffset ((todAt s (c.arrival / 64) - root) / 4) s
    else s) s

/-! ## Frame reconciliation (R755, R756) -/

/-- R755: frames F_h + 1 to f − 1 are skipped: their sets and streams report them. -/
def skipFrames (f : Nat) (s : State) : State :=
  let h := s.rru.f
  if f ≤ h + 1 then s
  else
    let s := forEach (liveSets s) (fun n s =>
      if (getSet s n).st ≠ .running then s
      else
        let s := forEach ((getSet s n).ivls.filter fun i => decide (h + 1 < i.first + i.frames)) (fun iv s =>
          closeInterval n { iv with frames := max 1 (min iv.frames (h + 1 - iv.first)) } flagTruncated false s) s
        modSet n (fun x => { x with nextFirst := f }) (sendGap n (h + 1) f s)) s
    forEach ((s.lnk.streams.filter fun p => p.2.st == .running).map Prod.fst) (fun sid s =>
      raiseFor sid 0x0B08 [.h sid, .w (h + 1), .h (f - h - 1)] s) s

/-- R755: what a boundary of the followed raster does while the frame number is to be reconciled. -/
inductive Recon where
  | none | wait | go (f : Nat)
  deriving DecidableEq, Repr

/-- R755, R757: the case of R755 at a boundary. -/
def reconCase (s : State) : Recon :=
  if s.mos.reconcile ∧ s.rru.active = .mosaic ∧ (s.rru.pll = .pull ∨ s.rru.pll = .locked) then
    match s.mos.lastRaster with
    | some r => if !s.rru.fUsed ∨ s.rru.f + 1 ≤ r.f then .go r.f else .wait
    | none => .none
  else .none

/-- R755: the head waits for the root's number to pass its own. -/
def reconWaits (s : State) : State :=
  let s := s.onMos fun m => { m with reconWait := true }
  stopOutputs (s.onRru fun r => { r with rpValid := false, boundaryDue := false, alignDue := true, acqGap := true })

/-- R755, R747: the head goes on with the root's frame. -/
def reconDone (f : Nat) (s : State) : State :=
  let skipped := if s.rru.fUsed then f - (s.rru.f + 1) else 0
  let s := if s.rru.fUsed ∧ s.rru.rpValid then skipFrames f s else s
  let s := addF R.MOS_CNT2_RECONCILED 1 s
  let left := s.mos.unreconciled
  let s := s.onMos fun m => { m with reconcile := false, reconWait := false, unreconciled := false }
  if left then raise 0x0D07 [.h (s.mos.rootId.getD 0), .w f, .w skipped] s else s

/-! ## Agreement (R765 to R767) -/

/-- R765: bytes 16 to 31 of the MOSAIC record. -/
def mosaicCommon (s : State) : List Byte :=
  beBytes 2 s.mos.expected ++ [BitVec.ofNat 8 s.mos.topology, 0] ++ beBytes 8 s.mos.tag.toNat ++ [0, 0, 0, 0]

/-- R765: the values of the RASTER and PLL payloads that enter the digest. -/
def rasterCommon (s : State) : List Byte :=
  let il := flagF s R.RRU_GEOM_INTERLACE
  let vr := flagF s R.RRU_GEOM_VRR_EN
  [BitVec.ofNat 8 (bit il + bit vr * 2)] ++ beBytes 2 (getF s R.RRU_TL_TL) ++ beBytes 2 (getF s R.RRU_TL_TL_ALT) ++
    beBytes 2 (getF s R.RRU_TL_VRR_TL_MIN) ++ beBytes 2 (getF s R.RRU_TL_VRR_TL_MAX) ++ beBytes 6 (linePeriod s) ++
    beBytes 2 (getF s R.RRU_PLL_LOCK_LOCK_THR) ++ beBytes 2 (getF s R.RRU_PLL_LOCK_EVENT_WIN)

/-- R765: the mosaic digest of the head. -/
def mosaicDigest (s : State) : List Byte := sha256 (mosaicCommon s ++ rasterCommon s)

/-- R766: the digests are compared. -/
def compareDigests (s : State) : State :=
  if mosaicDigest s = s.mos.rootDigest then
    if s.mos.discordant then raise 0x0D09 [] (s.onMos fun m => { m with discordant := false }) else s
  else if s.mos.discordant then s
  else raise 0x0D08 [.w (beNat (s.mos.rootDigest.take 8))] (s.onMos fun m => { m with discordant := true })

/-- R767: a discordant head with HALT stops its lanes and sets at a boundary, and restarts them once it has caught up. -/
def haltBoundary (caughtUp : Bool) (s : State) : State :=
  if s.mos.discordant ∧ flagF s R.MOS_CFG_HALT then
    let s := forEach (List.range 4) (fun m s => stopLane m s) s
    let s := forEach (liveSets s) (fun n s => modSet n (fun x => { x with gapFlags := x.gapFlags ||| flagDiscordant }) (stopSet n s)) s
    s.onMos fun m => { m with halted := true }
  else if s.mos.halted ∧ !s.mos.discordant ∧ caughtUp then
    let s := s.onMos fun m => { m with halted := false }
    let s := forEach ((List.range 4).filter fun m => !s.chg.fns.contains m) (fun m s => startLane m (some s.rru.f) s) s
    forEach ((liveSets s).filter fun n => !s.chg.fns.contains (0x1000 + n)) (fun n s => startSet n (some s.rru.f) s) s
  else s

/-- R752, R768: flags of the head's mosaic state in the results acquired now. -/
def mosaicFlags (s : State) : Nat :=
  let m := s.mos
  let part := m.st == .interimRoot || m.st == .partitioned || m.st == .refused || m.unreconciled
  (if part then flagPartition ||| flagCoast else 0) ||| (if m.st == .member && m.coastCells then flagCoast else 0) |||
    (if m.discordant then flagDiscordant else 0)

/-- R745: the frames for which the own highest-ranked source has stayed qualified. -/
def holdBoundary (s : State) : State :=
  match claimSource s with
  | none => s
  | some c =>
    let n := if isQualified s c then s.mos.holdFrames + 1 else 0
    moveMosaic false (s.onMos fun m => { m with holdFrames := n })

/-! ## Head states (R731, R773) -/

/-- R731, R732, R775: an applied image holds a MOSAIC record, by its bytes 16 to 31; its other bytes are in the registers. -/
def startMosaic (rec : Option (Nat × Nat × BitVec 64)) (s : State) : State :=
  match rec with
  | none => s.onMos fun m => { removedLogged := m.removedLogged, seqs := m.seqs }
  | some (expected, topology, tag) =>
    if mosaicBarred s then
      let s := if s.mos.removedLogged then s else raise 0x0D11 [.h 0] s
      s.onMos fun m => { removedLogged := true, seqs := m.seqs }
    else s.onMos fun m => { st := .joining, record := true, expected := expected, topology := topology, tag := tag, txOn := true,
                            viewTb := s.now, seqs := m.seqs, unreconciled := m.unreconciled }

/-- R773: the ports go down, in SLEEP or with the die. -/
def stopMosaic : State → State := State.onMos fun m => { removedLogged := m.removedLogged, seqs := m.seqs }

/-! ## Writes and reads of block MOS -/

/-- R774: a value is in range for a register of the block. -/
def mosRangeOk (a : Nat) (v : Word) : Bool :=
  let o := a % 0x10000
  if o = 0x10 then decide (2 ≤ v.toNat / 256 % 256) && decide (1 ≤ v.toNat % 256)
  else if o = 0x108 ∨ o = 0x128 then decide (-4096 ≤ v.toInt) && decide (v.toInt ≤ 4096)
  else true

/-- `MOS_CTRL.CNT_CLR`. -/
def clearMosCounters (s : State) : State :=
  forEach [A.MOS_CNT, A.MOS_CNT2, A.MOS_PORT_CNT 0, A.MOS_PORT_CNT 1] (fun a => setRaw a 0) s

/-- The code of `MOS_PORT_STATUS.LINK`. -/
def LinkState.code : LinkState → Nat
  | .down => 0
  | .measuring => 1
  | .up => 2
  | .delayFault => 3

/-- R747 to R766: the words of the block that the state holds elsewhere. -/
def readMos (s : State) (a : Nat) : Option Word :=
  let o := a % 0x10000
  let m := s.mos
  if o = 4 then some (BitVec.ofNat 32 (m.st.code * 2 ^ 29 + bit m.discordant * 2 ^ 28 + bit m.halted * 2 ^ 27 + bit m.ring * 2 ^ 26 +
    bit (portUp s 0) * 2 ^ 25 + bit (portUp s 1) * 2 ^ 24 + m.minor % 16 * 2 ^ 20 + m.rootId.getD 0 % 512 * 2 ^ 9 + mosaicId s))
  else if o = 0x14 then some (BitVec.ofNat 32 (viewHeads s * 65536 + m.rootHops))
  else if o = 0x18 then some (BitVec.ofInt 32 m.offset)
  else if o = 0x1C then some (BitVec.ofNat 32 (m.applied % 65536 * 65536 + m.received % 65536))
  else if 0x20 ≤ o ∧ o < 0x40 then some (BitVec.ofNat 32 (fieldAt (mosaicDigest s) (o - 0x20) 4))
  else if 0x40 ≤ o ∧ o < 0x60 then some (BitVec.ofNat 32 (fieldAt m.rootDigest (o - 0x40) 4))
  else if o = 0x100 ∨ o = 0x120 then
    let p := getPort s ((o - 0x100) / 0x20)
    some (BitVec.ofNat 32 (p.link.code * 2 ^ 30 + bit p.primary * 2 ^ 29 + p.neighbour % 512 * 65536))
  else if o = 0x104 ∨ o = 0x124 then some (BitVec.ofInt 32 (getPort s ((o - 0x104) / 0x20)).delay)
  else none

end Sys2Proof.Machine
end

