-- ==== Sys2Proof/Machine/Reply.lean ====
section
/-! DEFINITION. Chapter 16, replies: how an answer leaves to the party that asked. -/

namespace Sys2Proof.Machine

/-- R704: one steward session. -/
def getSession (s : State) (n : Nat) : Session := s.lcp.sessions.getD n {}

/-- Changes one steward session. -/
def modSession (n : Nat) (f : Session → Session) : State → State := State.onLcp fun l => { l with sessions := l.sessions.modify n f }

/-- R708, R711: an answer leaves to a steward session, which keeps it with the request that it answers. -/
def answerSession (n : Nat) (req : BitVec 64) (a : Answer) (s : State) : State :=
  if !(getSession s n).opened then s
  else
    let r : Reply := ⟨false, n, req, a.status, a.detail, a.body⟩
    let s := modSession n (fun x => { x with
      cache := x.cache.map fun c => if c.1 = req ∧ c.2.2.isNone then (c.1, c.2.1, some r) else c }) s
    s.onLcp fun l => { l with replies := r :: l.replies }

/-- R716: an answer that an operation decides leaves, and the session goes on. -/
def answerLate (n : Nat) (req : BitVec 64) (a : Answer) (s : State) : State :=
  answerSession n req a (modSession n (fun x => if x.busy = some req then { x with busy := none } else x) s)

/-- R726: the session waits for the answer of the request in execution. -/
def deferAnswer (n : Nat) (s : State) : State := modSession n (fun x => { x with busy := some x.cur }) s

/-- R710: the one reply to a tenant's request; a refusal is counted. -/
def answerTenant (t : Nat) (req : BitVec 64) (a : Answer) (s : State) : State :=
  let s := if a.status = 0 then s else modCtx t (fun c => { c with reqRefused := satAdd 32 c.reqRefused 1 }) s
  s.onLcp fun l => { l with replies := ⟨true, t, req, a.status, a.detail, a.body⟩ :: l.replies }

/-- R711: the session and REQ of the request that a session has in execution. -/
def currentReq (s : State) (n : Nat) : Nat × BitVec 64 := (n, (getSession s n).cur)

/-- A write's initiator as the detail of an event: 0 JTAG, 1 management core, 2 LCP engine, or the tenant's ID. -/
def initiatorCode : Initiator → Nat
  | .jtag => 0
  | .core => 1
  | .lcp _ => 2
  | .tenant t => t

end Sys2Proof.Machine
end

