-- ==== Sys2Proof/Machine/Fuse.lean ====
section
/-! DEFINITION. Chapter 18: the fuse array, its sense and checks, the life cycle and programming. -/

namespace Sys2Proof.Machine

/-! ## Units and digests -/

/-- R779: the first word and the number of words of a unit. -/
def unitSpan : Nat → Nat × Nat
  | 0 => (0, 8)
  | 1 => (8, 4)
  | 2 => (12, 32)
  | 3 => (44, 8)
  | 4 => (52, 8)
  | _ => (76, 4)

/-- R779: a word of a unit is digested. -/
def digested (u w : Nat) : Bool := !(u == 0 && w == 3) && !(u == 1 && w != 8)

/-- R787: the first 8 bytes of the SHA-256 over a unit's words. -/
def unitDigest (s : State) (u : Nat) : List Byte :=
  let (w0, n) := unitSpan u
  (sha256 ((List.range n).flatMap fun i => wordBytes (if digested u (w0 + i) then fuseWord s (w0 + i) else 0))).take 8

/-- R787: the stored digest of a unit. -/
def storedDigest (s : State) (u : Nat) : List Byte := wordBytes (fuseWord s (112 + 2 * u)) ++ wordBytes (fuseWord s (113 + 2 * u))

/-- R788: a unit is final. -/
def unitFinal (s : State) (u : Nat) : Bool := (fuseWord s 124).getLsbD u

/-- R788: a unit fails its check. -/
def unitFails (s : State) (u : Nat) : Bool := unitFinal s u && unitDigest s u != storedDigest s u

/-- R779: the unit of a word; none for a word of no unit. -/
def unitOf (w : Nat) : Option Nat := (List.range 6).find? fun u => decide ((unitSpan u).1 ≤ w) && decide (w < (unitSpan u).1 + (unitSpan u).2)

/-! ## The life cycle -/

/-- R782: the state that a thermometer code stands for. -/
def lcOf (n : Nat) : LcState :=
  if n.testBit 3 then .retired else if n.testBit 2 then .deployed else if n.testBit 1 then .provisioned
  else if n.testBit 0 then .factory else .blank

/-- R791: the code of a state. -/
def LcState.code : LcState → Nat
  | .blank => 0
  | .factory => 1
  | .provisioned => 2
  | .deployed => 3
  | .retired => 4

/-- R791: the state after a step, the LC bit that it programs and the units that it finalises. -/
def LcState.next : LcState → Option (LcState × Nat × List Nat)
  | .blank => some (.factory, 0, [])
  | .factory => some (.provisioned, 1, [0, 1, 2, 3, 5])
  | .provisioned => some (.deployed, 2, [4])
  | .deployed => some (.retired, 3, [])
  | .retired => none

/-! ## Sensing (R784 to R789) -/

/-- R789: a unit fails; it is shown and logged. -/
def failUnit (u : Nat) (s : State) : State :=
  if s.fus.fail.getLsbD u then s
  else raise 0x0E01 [.h u] (s.onFus fun f => { f with fail := f.fail ||| BitVec.ofNat 6 (2 ^ u) })

/-- R784, R781, R789: the critical wires. -/
def wiresOf (s : State) : Wires :=
  let rm := if s.fus.fail.getLsbD 1 then 31 else ((fuseWord s 8 ||| fuseWord s 9).toNat % 32)
  let w := if s.fus.fail.getLsbD 5 then 7 else (fuseWord s 76).toNat % 8
  { lc := BitVec.ofNat 4 (fuseWord s 3).toNat, rmMosaic := rm.testBit 0, rmRaw := rm.testBit 1,
    tenClass := if rm.testBit 3 then .stewardOnly else if rm.testBit 2 then .single else .full,
    rmJtag := rm.testBit 4, hwStart := w.testBit 0, window := BitVec.ofNat 2 (w / 2),
    ladder := if s.fus.fail.getLsbD 5 then 1 else max 1 (7 - (fuseWord s 76).toNat / 8 % 8) }

/-- R786: words whose copies differ. -/
def weakWords (s : State) : List (Nat × Word) :=
  (List.range 128).filterMap fun w =>
    let d := Tbl.getD s.fus.a w 0 ^^^ Tbl.getD s.fus.b w 0
    if d = 0 then none else some (w, d)

/-- The number of bits set in a word. -/
def popCount (v : Word) : Nat := ((List.range 32).filter v.getLsbD).length

/-- R784, R786: the fuse sense at a power-on of the always-on domain. -/
def senseFuses (s : State) : State :=
  let s := s.onFus fun f => { f with fail := 0, order := (fuseWord s 2).toNat % 4, fin := BitVec.ofNat 6 (fuseWord s 124).toNat, unlocked := false, cmd := none, result := 0, detail := 0 }
  let s := forEach ([0, 1, 5].filter (unitFails s)) failUnit s
  let s := s.onFus fun f => { f with sensed := true, wires := wiresOf s,
                                     lc := if f.fail.getLsbD 0 then .retired else lcOf (fuseWord s 3).toNat }
  forEach (weakWords s) (fun p s => raise 0x0E02 [.h p.1, .w p.2.toNat] (addF R.FUS_CNT_WEAK (popCount p.2) s)) s

/-- R171, R789: the bias trims, or their typical values: VRST, VPIX, VTX_LO, TX_PW, RST_PW. -/
def biasOf (s : State) : List Nat :=
  if s.fus.fail.getLsbD 2 then [3000, 3300, 65536 - 600, 20, 15] else Config.biasTrims (trimWords s)

/-- R171, R176: the bias fields are loaded from the trims. -/
def loadBias (s : State) : State :=
  let b := biasOf s
  let s := setF R.SNS_BIAS_PIX_VRST (b.getD 0 0) (setF R.SNS_BIAS_PIX_VPIX (b.getD 1 0) s)
  setF R.SNS_BIAS_TX_VTX_LO (b.getD 2 0) (setF R.SNS_ROWDRV_TX_PW (b.getD 3 0) (setF R.SNS_ROWDRV_RST_PW (b.getD 4 0) s))

/-- R788: the boot ROM checks units 2, 3 and 4. -/
def bootChecks (s : State) : State := loadBias (forEach ([2, 3, 4].filter (unitFails s)) failUnit s)

/-! ## Programming (R792 to R804) -/

/-- The codes of `FUS_PROG_STATUS.RESULT`: 1 done, 2 LIFECYCLE, 3 ENERGY, 4 BUSY, 5 refused; as LCP statuses. -/
def fuseStatus : Nat → Nat
  | 2 => 0x11
  | 3 => 0x12
  | 4 => 1
  | 5 => 0x10
  | _ => 0

/-- R803: the reply to a FUSE_PROGRAM on a word. -/
def fuseAnswer (s : State) (result detail w : Nat) : Answer :=
  if result = 1 then
    ⟨0, 0, [fuseWord s w, Tbl.getD s.fus.a w 0 ^^^ Tbl.getD s.fus.b w 0, BitVec.ofNat 32 (s.fus.lc.code * 2 ^ 24)]⟩
  else ⟨fuseStatus result, detail, []⟩

/-- The initiator of a fuse command as the detail of an event. -/
def fuseInitCode : FuseInit → Nat
  | .jtag => 0
  | .core => 1

/-- R803: the answer leaves, if the command came from a session. -/
def fuseReply (asker : Option (Nat × BitVec 64)) (a : Answer) (s : State) : State :=
  match asker with
  | some (n, req) => answerLate n req a s
  | none => s

/-- R797, R798: a command is refused. -/
def refuseFuse (init : FuseInit) (w result detail : Nat) (asker : Option (Nat × BitVec 64)) (s : State) : State :=
  let s := s.onFus fun f => { f with result := result, detail := detail }
  fuseReply asker ⟨fuseStatus result, detail, []⟩ (raise 0x0E06 [.h (fuseInitCode init), .h w, .h result] s)

/-- R798: the command in progress ends. -/
def endFuse (result detail : Nat) (s : State) : State :=
  match s.fus.cmd with
  | none => s
  | some c =>
    let s := dropStore .fuse (s.onFus fun f => { f with cmd := none, result := result, detail := detail })
    let w := if c.op = 2 then 3 else getF s R.FUS_PROG_WORD_WORD
    fuseReply c.reply (fuseAnswer s result detail w) s

/-- R791: an initiator may program at all in the state. -/
def fusePath (s : State) (init : FuseInit) : Bool :=
  match init, s.fus.lc with
  | .jtag, .blank | .jtag, .factory | .jtag, .provisioned => !s.fus.wires.rmJtag
  | .core, .provisioned => (List.range 8).any fun i => fuseWord s (52 + i) != 0
  | .core, .deployed => true
  | _, _ => false

/-- R791, R792: a word may be programmed. -/
def fuseWordOk (s : State) (w : Nat) : Bool :=
  match s.fus.lc, unitOf w with
  | .blank, some u | .factory, some u => !unitFinal s u || w == 9
  | .provisioned, some u => w == 9 || (u == 4 && !unitFinal s 4)
  | .deployed, some _ => w == 9
  | _, _ => false

/-- R783: the factory removal bits that an ordering code requires; none for the invalid code. -/
def orderBits : Nat → Option Nat
  | 0 => some 0
  | 1 => some 5
  | 2 => some 2
  | _ => none

/-- R783: the step to PROVISIONED is refused. -/
def orderMismatch (s : State) : Bool :=
  match orderBits ((fuseWord s 2).toNat % 4) with
  | some b => (fuseWord s 8).toNat &&& b != b
  | none => true

/-- R793: words that finalise units: digests and FINAL bits. -/
def finalWords (s : State) (units : List Nat) : List (Nat × Word) :=
  (units.filter fun u => !unitFinal s u).flatMap fun u =>
    let d := unitDigest s u
    let le := fun (l : List Byte) => BitVec.ofNat 32 (beNat l.reverse)
    [(112 + 2 * u, le (d.take 4)), (113 + 2 * u, le (d.drop 4)), (124, BitVec.ofNat 32 (2 ^ u))]

/-- R793, R794: the next part of a command whose words are programmed. -/
def fuseNext (s : State) : State :=
  match s.fus.cmd with
  | none => s
  | some c =>
    if !c.todo.isEmpty then s
    else match c.step with
      | none => endFuse 1 0 s
      | some st =>
        if c.last then endFuse 1 0 (raise 0x0E05 [.h st.code] s)
        else if (List.range 6).any (unitFails s) then endFuse 5 4 (raise 0x0E06 [.h (fuseInitCode c.init), .h 3, .h 5] s)
        else
          let b := ((s.fus.lc.next).map fun n => n.2.1).getD 0
          s.onFus fun f => { f with cmd := some { c with todo := [(3, BitVec.ofNat 32 (2 ^ b))], last := true } }

/-- R800, R802: the energy rule is asked for the next word, unless a power-fail warning is in force. -/
def pumpFuse (s : State) : State :=
  match s.fus.cmd with
  | none => s
  | some c =>
    if c.cur.isSome ∨ c.todo.isEmpty then s
    else if s.pwr.pf ≠ .normal then endFuse 3 0 s
    else
      let t0 := c.waitTb.getD s.now
      if t0 + second ≤ s.now ∧ c.waitLogged then endFuse 3 0 s
      else askStore .fuseWord .fuse (s.onFus fun f => { f with cmd := some { c with waitTb := some t0 } })

/-- R800: the energy rule passes, and the word starts. -/
def fuseStarts (s : State) : State :=
  match s.fus.cmd with
  | some c =>
    match c.todo with
    | x :: l => s.onFus fun f => { f with cmd := some { c with cur := some x, todo := l, waitTb := none, waitLogged := false } }
    | [] => s
  | none => s

/-- R800: the energy rule fails. -/
def fuseWaits (s : State) : State :=
  match s.fus.cmd with
  | some c =>
    if c.waitLogged then s
    else raise 0x0E07 [.h ((c.todo.map Prod.fst).headD 0)] (s.onFus fun f => { f with cmd := some { c with waitLogged := true } })
  | none => s

/-- R798: a command begins. -/
def beginFuse (c : FuseCmd) (s : State) : State := fuseNext (s.onFus fun f => { f with cmd := some c, result := 0, detail := 0 })

/-- R798: a PROGRAM command. -/
def programFuse (init : FuseInit) (w : Nat) (v : Word) (asker : Option (Nat × BitVec 64)) (s : State) : State :=
  let s := setF R.FUS_PROG_WORD_WORD w (setF R.FUS_PROG_VALUE_VALUE v.toNat s)
  if s.fus.cmd.isSome then refuseFuse init w 4 0 asker s
  else if !fusePath s init || !fuseWordOk s w then refuseFuse init w 2 0 asker s
  else beginFuse ⟨init, 1, [(w, v)], none, none, false, asker, none, false⟩ s

/-- R793: an ADVANCE command. -/
def advanceFuse (init : FuseInit) (asker : Option (Nat × BitVec 64)) (s : State) : State :=
  if s.fus.cmd.isSome then refuseFuse init 3 4 0 asker s
  else if !fusePath s init then refuseFuse init 3 2 0 asker s
  else match s.fus.lc.next with
    | none => refuseFuse init 3 2 0 asker s
    | some (st, _, units) =>
      if st = .provisioned ∧ orderMismatch s then
        refuseFuse init 3 5 2 asker (raise 0x0E09 [.h ((fuseWord s 2).toNat % 4), .h ((fuseWord s 8).toNat % 32)] s)
      else if st = .deployed ∧ (List.range 8).all (fun i => fuseWord s (52 + i) == 0) then refuseFuse init 3 5 3 asker s
      else beginFuse ⟨init, 2, finalWords s units, none, some st, false, asker, none, false⟩ s

/-- R799: a JTAG_UNLOCK command. -/
def unlockJtag (init : FuseInit) (asker : Option (Nat × BitVec 64)) (s : State) : State :=
  if s.fus.cmd.isSome then refuseFuse init 0 4 0 asker s
  else if s.fus.lc ≠ .deployed ∨ init = .jtag then refuseFuse init 0 2 0 asker s
  else if s.fus.wires.rmJtag then refuseFuse init 0 5 5 asker s
  else
    let s := raise 0x0E08 [] (s.onFus fun f => { f with unlocked := true, result := 1, detail := 0 })
    fuseReply asker (fuseAnswer s 1 0 0) s

/-- R798: a word's programming ends; `readA` and `readB` are the bits of it that the copies read back as 1. -/
def doFuseWordComplete (readA readB : Word) (s : State) : State :=
  match s.fus.cmd with
  | none => s
  | some c =>
    match c.cur with
    | none => s
    | some (w, v) =>
      let s := endStore .fuse s
      let s := s.onFus fun f => { f with a := Tbl.put f.a w 0 (Tbl.getD f.a w 0 ||| (readA &&& v)), b := Tbl.put f.b w 0 (Tbl.getD f.b w 0 ||| (readB &&& v)),
                                         cmd := some { c with cur := none } }
      let bad := v &&& ~~~fuseWord s w
      if bad ≠ 0 then endFuse 5 1 (raise 0x0E04 [.h w, .w bad.toNat] (addF R.FUS_CNT_PROG_FAIL 1 s))
      else fuseNext (raise 0x0E03 [.h w, .w v.toNat] s)

/-- R801: a level-2 restart ends the command at a word boundary. -/
def cutFuse (s : State) : State :=
  if (s.fus.cmd.bind FuseCmd.cur).isSome then s else endFuse 0 0 s

/-! ## Writes and reads of block FUS -/

/-- R797: a write of an initiator to a register of the block. -/
def writeFus (init : FuseInit) (a : Nat) (v : Word) (s : State) : WriteResult × State :=
  let o := a % 0x10000
  if o = 0 then (.ok, if v.getLsbD 0 then setRaw A.FUS_CNT 0 s else s)
  else if o = 0x18 then
    let w := getF s R.FUS_PROG_WORD_WORD
    match v.toNat % 4 with
    | 1 => (.ok, programFuse init w (rawReg s A.FUS_PROG_VALUE) none s)
    | 2 => (.ok, advanceFuse init none s)
    | 3 => (.ok, unlockJtag init none s)
    | _ => (.ok, s)
  else (.ok, plainWrite a v s)

/-- R784 to R803: the words of the block that the state holds elsewhere. -/
def readFus (s : State) (a : Nat) : Option Word :=
  let o := a % 0x10000
  let f := s.fus
  let w := f.wires
  if o = 4 then some (BitVec.ofNat 32 (f.lc.code * 2 ^ 29 + bit f.sensed * 2 ^ 28 + bit (jtagEnabled s) * 2 ^ 27 + bit f.cmd.isSome * 2 ^ 26 +
    f.fail.toNat * 2 ^ 16 + f.fin.toNat * 2 ^ 8))
  else if o = 0xC then some (BitVec.ofNat 32 (w.window.toNat * 2 ^ 10 + bit w.hwStart * 2 ^ 9 + w.tenClass.code * 2 ^ 7 + bit w.rmJtag * 2 ^ 6 +
    bit w.rmRaw * 2 ^ 5 + bit w.rmMosaic * 2 ^ 4 + w.lc.toNat))
  else if o = 0x1C then some (BitVec.ofNat 32 (f.result * 2 ^ 28 + f.detail * 2 ^ 24))
  else if 0x100 ≤ o ∧ o < 0x300 then some (fuseWord s ((o - 0x100) / 4))
  else none

end Sys2Proof.Machine
end

