-- ==== Sys2Proof/Machine/Power.lean ====
section
/-! DEFINITION. Chapter 19: the switched domains 280 to 314, the rails and the mains input. The power-fail sequence and
sleep stand in Restart.lean. -/

namespace Sys2Proof.Machine

/-! ## Domains (R811 to R815) -/

/-- R811: the head measures: ACQUIRING or RUNNING with an image applied. -/
def measuring (s : State) : Bool := s.head.applied && (s.head.st == .acquiring || s.head.st == .running)

/-- R811: the image has been applied, HOLD included. -/
def configured (s : State) : Bool := s.head.applied && (s.head.st == .acquiring || s.head.st == .running || s.head.st == .hold)

/-- R811: a data port has an address, a stream or a tenant. -/
def portUsed (s : State) (p : Nat) : Bool :=
  portAddr s p false != 0 || portAddr s p true != 0 ||
    ((List.range 32).any fun i => flagF s (R.LNK_STR_CTRL_EN i) && getF s (R.LNK_STR_CTRL_PORT i) == p) ||
    s.ten.ctx.any fun x => x.2.st != .empty && x.2.words.ctrl.toNat / 2 ^ 24 % 8 == p

/-- R811: an engine has an enabled thread, or owns a line or a pair. -/
def engineUsed (s : State) (e : Nat) : Bool :=
  (List.range 16).any (threadEn s e) || (List.range 20).any fun pin => lineOwner s pin == e + 1

/-- R811: a domain from 280 to 314 is needed. -/
def domNeeded (s : State) (d : Nat) : Bool :=
  if d < 296 then measuring s
  else if d < 304 then measuring s && decide (d - 296 < cryptoNeed s)
  else if d < 308 then configured s && (getF s R.LNK_PORT_CFG_MODE == 0 || portUsed s (d - 304))
  else if d < 310 then configured s && s.mos.record && s.mos.st != .solo
  else if d < 314 then configured s && engineUsed s (d - 310)
  else d == 314 && s.head.fwReady && !asleep s

/-- R812: the state of a domain. -/
def getDom (s : State) (d : Nat) : DomState := Tbl.getD s.pwr.doms d .off

/-- R812: sets the state of a domain. -/
def setDom (d : Nat) (x : DomState) : State → State := State.onPwr fun p => { p with doms := Tbl.put p.doms d .off x }

/-- R834: power control acts: the main converters are on, and no restart of the die is in progress. -/
def domainsMove (s : State) : Bool :=
  s.head.st != .off && !asleep s && !s.sup.dieDown && !s.pwr.parked && s.pwr.aon

/-- R812, R834: switches close for domains that are needed and open for those that are not; after a level-2 restart none opens before
the image is applied again. -/
def settleDomains (s : State) : State :=
  if !domainsMove s then s
  else forEach ((List.range 35).map (280 + ·)) (fun d s =>
    match getDom s d, domNeeded s d with
    | .off, true => setDom d .ramp s
    | .ramp, false | .ready, false => if switchesMayOpen s then setDom d .off s else s
    | _, _ => s) s

/-- R831: every switched domain from 280 to 314 is off; FAULT stays. -/
def domainsOff : State → State := State.onPwr fun p => { p with doms := p.doms.filter fun x => x.2 == .fault }

/-- R812: 100 µs after its switch closed, a domain is READY. -/
def doDomainReady (d : Fin 316) (s : State) : State :=
  if 280 ≤ d.val ∧ getDom s d = .ramp then setDom d .ready s else s

/-- R884: the block that a domain serves. -/
def domBlock (d : Nat) : Nat :=
  if d < 296 then 6 else if d < 308 then 0xB else if d < 310 then 0xD else if d < 314 then 0xA else 9

/-- R812, R813: an overcurrent opens the switch of a domain. -/
def doDomainOvercurrent (d : Fin 316) (s : State) : State :=
  if 280 ≤ d.val ∧ d.val < 315 ∧ (getDom s d = .ramp ∨ getDom s d = .ready) then
    let s := raise 0x0F07 [.h d] (setDom d .fault s)
    let s := openWindow 0 0x0F07 [domBlock d] s
    if d.val < 296 then declareStuck 1 (d - 280) s else s
  else s

/-- R812: a write of `PWR_DOM_FCLR` clears the FAULT of domains. -/
def clearDomFaults (w : Nat) (v : Word) (s : State) : State :=
  forEach ((List.range 32).filter fun b => v.getLsbD b && decide (280 ≤ 32 * w + b) && decide (32 * w + b < 315)) (fun b s =>
    let d := 32 * w + b
    if getDom s d = .fault then (if d < 296 then machineMoves 1 (d - 280) (setDom d .off s) else setDom d .off s) else s) s

/-- R815: event 0x0F0B when the usable crypto lanes do not carry the admitted quotas. -/
def watchCrypto (s : State) : State :=
  let u := cryptoUsable s
  let ramping := (List.range 8).any fun c => getDom s (296 + c) == .ramp
  if !measuring s ∨ ramping then s
  else if encQuota s ≤ u * 50000 then (if s.pwr.cryptoLogged.isNone then s else s.onPwr fun p => { p with cryptoLogged := none })
  else if s.pwr.cryptoLogged = some u then s
  else raise 0x0F0B [.h u] (s.onPwr fun p => { p with cryptoLogged := some u })

/-! ## Rails and mains (R806 to R808) -/

/-- R807: the nominal voltage of a rail in 0.1 mV. -/
def railNominal (r : Nat) : Nat := [120000, 8000, 33000, 18000, 10500].getD r 0

/-- R808: a mean lies outside a window of a number of percent. -/
def railOutside (r mean pct : Nat) : Bool :=
  let n := railNominal r
  decide (mean * 100 < n * (100 - pct)) || decide (n * (100 + pct) < mean * 100)

/-- R808: the 10 ms mean of a rail is judged. -/
def judgeRail (r mean : Nat) (s : State) : State :=
  let s := s.onPwr fun p => { p with rails := p.rails.set r (BitVec.ofNat 20 mean) }
  let warn := railOutside r mean 5
  let s := if warn ∧ !(s.pwr.railOut.getD r false) then raise 0x0F05 [.h r, .w mean] s else s
  let s := s.onPwr fun p => { p with railOut := p.railOut.set r warn }
  if railOutside r mean 10 ∧ s.pwr.pf = .normal then
    raiseLadder 0x0F06 [.h r, .w mean] false s
  else s

/-- R806: the mains input leaves its range; v in 0.01 V, f in 0.001 Hz. -/
def doMainsOutOfRange (v f : BitVec 16) (s : State) : State :=
  if s.head.st = .off then s
  else
    let s := s.onPwr fun p => { p with mainsV := v, mainsF := f }
    let ok := decide (8500 ≤ v.toNat) && decide (v.toNat ≤ 26500) && decide (47000 ≤ f.toNat) && decide (f.toNat ≤ 63000)
    if ok then s else raiseLimited 0 (60 * second) 0x0F08 [.h v.toNat, .h f.toNat] s

/-! ## Writes and reads of block PWR -/

/-- R835: a value is in range for a register of the block. -/
def pwrRangeOk (a : Nat) (v : Word) : Bool :=
  if a = A.PWR_POLICY then
    let hold := v.toNat / 256 % 256
    let cap := v.toNat % 256
    decide (1 ≤ hold) && decide (hold ≤ 50) && decide (10 ≤ cap) && decide (cap ≤ 45)
  else true

/-- R812, R835: a write to a register of the block. -/
def writePwr (a : Nat) (v : Word) (s : State) : WriteResult × State :=
  let o := a % 0x10000
  if o = 0 then (.ok, if v.getLsbD 1 then setRaw A.PWR_CNT 0 s else s)
  else if !pwrRangeOk a v then rejectWrite 0x0F0C a s
  else if 0x180 ≤ o ∧ o < 0x1A8 then (.ok, clearDomFaults ((o - 0x180) / 4) v s)
  else (.ok, plainWrite a v s)

/-- R823: the code of a power-fail state. -/
def PfState.code : PfState → Nat
  | .normal => 0
  | .emergency => 1
  | .parking => 2

/-- R811: a domain is powered, and a domain is in FAULT; tiles and sub-banks have their own states. -/
def domOn (s : State) (d : Nat) : Bool :=
  if d < 240 then (match (getTile s d).st with | .ramp | .flush | .ready => true | _ => false)
  else if d < 280 then (match (getSb s (d - 240)).st with | .ramp | .trim | .ready => true | _ => false)
  else if d = 315 then s.pwr.aon
  else getDom s d == .ramp || getDom s d == .ready

def domFault (s : State) (d : Nat) : Bool :=
  if d < 240 then (getTile s d).st == .fault
  else if d < 280 then (getSb s (d - 240)).st == .fault
  else getDom s d == .fault

/-- A word of domains: bit b of word w for domain 32w + b. -/
def domWord (w : Nat) (p : Nat → Bool) : Word :=
  BitVec.ofNat 32 ((List.range 32).foldl (fun n b => n + bit (decide (32 * w + b < 316) && p (32 * w + b)) * 2 ^ b) 0)

/-- R806 to R823: the words of the block that the state holds elsewhere. -/
def readPwr (s : State) (a : Nat) : Option Word :=
  let o := a % 0x10000
  let p := s.pwr
  if o = 4 then some (BitVec.ofNat 32 (p.pf.code * 2 ^ 30 + bit p.mainsOk * 2 ^ 29 + bit (!p.waiting.isEmpty) * 2 ^ 28 +
    min 15 p.running.length * 2 ^ 24 + p.eAvail % 2 ^ 20))
  else if o = 0xC then some (BitVec.ofNat 32 (p.bulk % 65536))
  else if o = 0x10 then some (p.mainsV ++ p.mainsF)
  else if o = 0x14 then some (p.input.setWidth 32)
  else if o = 0x18 then some (BitVec.ofNat 32 (cBulk s % 65536))
  else if 0x20 ≤ o ∧ o < 0x34 then
    some (BitVec.ofNat 32 (([StoreOp.norErase, .norProgram, .emmcWrite, .fuseWord, .checkpoint].getD ((o - 0x20) / 4) .norErase).energy))
  else if o = 0x34 then some (BitVec.ofNat 32 (eRes s))
  else if 0x100 ≤ o ∧ o < 0x128 then some (domWord ((o - 0x100) / 4) (domOn s))
  else if 0x140 ≤ o ∧ o < 0x168 then some (domWord ((o - 0x140) / 4) (domFault s))
  else if 0x200 ≤ o ∧ o < 0x214 then some ((p.rails.getD ((o - 0x200) / 4) 0).setWidth 32)
  else none

end Sys2Proof.Machine
end

