-- ==== Sys2Proof/Machine/Fault.lean ====
section
/-! DEFINITION. Chapter 21: acknowledgement, the long log, handling windows, availability, and the registers of the block. -/

namespace Sys2Proof.Machine

/-! ## Acknowledgement (R877, R878) -/

/-- R878: the steward acknowledges the unacknowledged CRITICAL entries that a test selects; the detail names the SEQ. -/
def acknowledge (p : LogEntry → Bool) (named : Nat) (s : State) : State :=
  if s.flt.ring.any fun e => e.unackCritical && p e then
    let s := s.onFlt fun f => { f with ring := f.ring.map fun e => if e.unackCritical && p e then { e with acked := true } else e }
    let s := raise 0x1107 [.w named] s
    let lost := s.flt.lostSince
    if 0 < lost then raise 0x1101 [.w lost] (s.onFlt fun f => { f with lostSince := 0 }) else s
  else s

/-- R878: a write of a SEQ to `FLT_ACK`. -/
def ackSeq (v : Word) (s : State) : State := acknowledge (fun e => e.seq == v) v.toNat s

/-- R878: ACK_ALL. -/
def ackAll (s : State) : State := acknowledge (fun _ => true) 0xFFFF s

/-! ## The long log (R880) -/

/-- R880: the eMMC controller's owner token of the long log is its block number. -/
def longLogOwner : Nat := 0x11

/-- R880: a 512-byte block holds 16 entries; a block of the pending entries is written when the controller is free. -/
def doLongLogAppend (s : State) : State :=
  if s.flt.pendingLong ≠ [] ∧ !storeRuns s .longLog ∧ !storeAsked s .longLog ∧ leaseOpen s 5 longLogOwner ∧ s.pwr.pf = .normal ∧
      s.head.fwReady then
    askStore .emmcWrite .longLog (takeLease 5 longLogOwner s)
  else s

/-- R880: the block write starts with the entries that are pending then. -/
def longLogStarts (s : State) : State := s.onFlt fun f => { f with blockLen := min 16 f.pendingLong.length }

/-- R880: the oldest pending entries are dropped. -/
def dropLong (cause n : Nat) (s : State) : State :=
  let k := min n s.flt.pendingLong.length
  if k = 0 then s
  else
    let s := s.onFlt fun f => { f with pendingLong := f.pendingLong.drop k, blockLen := 0 }
    raise 0x1104 [.h cause, .h k] s

/-- R880: the block write ends. -/
def longLogDone (ok : Bool) (s : State) : State :=
  let n := s.flt.blockLen
  let s := freeLease 5 (endStore .longLog s)
  if ok then
    s.onFlt fun f => { f with longLog := ((f.pendingLong.take n).reverse ++ f.longLog).take 8388608
                              longCount := f.longCount + n, pendingLong := f.pendingLong.drop n, blockLen := 0 }
  else dropLong 1 n s

/-- R880: the limit of pending entries; a block that is being written is kept. -/
def trimLong (s : State) : State :=
  if 1024 ≤ s.flt.pendingLong.length && s.flt.blockLen = 0 then
    dropLong 0 ((s.flt.pendingLong.length - 1024) / 16 * 16 + 16) (freeLease 5 (dropStore .longLog s)) else s

/-! ## The mirror (R881) -/

/-- R881: the ring is mirrored to the NOR. -/
def mirrorRing (s : State) : State :=
  s.onFlt fun f => { f with
    mirror := some (f.ring, f.nextSeq), mirrorOk := true
    mirrorAv := [f.avSched.toNat, f.avSilent.toNat, f.avGap.toNat, f.avExcl.toNat] }

/-- R898: the figures of availability take values. -/
def setFigures (l : List Nat) : State → State := State.onFlt fun f => { f with
  avSched := BitVec.ofNat 64 (l.getD 0 0), avSilent := BitVec.ofNat 32 (l.getD 1 0), avGap := BitVec.ofNat 32 (l.getD 2 0)
  avExcl := BitVec.ofNat 32 (l.getD 3 0), avRun := false, avSchedMs := 0, avExclMs := 0, avQuiet := false }

/-- R881, R898: the ring and the figures of availability at a power-on of the always-on domain. -/
def restoreRing (s : State) : State :=
  let s := setFigures (if s.flt.mirrorOk then s.flt.mirrorAv else []) s
  match s.flt.mirror, s.flt.mirrorOk with
  | some (ring, next), true =>
    raise 0x1105 [.h ring.length] (s.onFlt fun f => { f with ring := ring, nextSeq := next })
  | _, _ => raise 0x1106 [] (s.onFlt fun f => { f with ring := [], nextSeq := 0 })

/-! ## Handling windows (R882) -/

/-- R882: a level-0 window closes 1 s after its last error. -/
def doHandlingWindowClose (s : State) : State :=
  s.onFlt fun f => { f with windows := f.windows.filter fun w => !(w.level == 0 && decide (w.lastTb + second ≤ s.now)) }

/-- R882: a level-2 window closes at the first frame in which every enabled lane is RUNNING. -/
def closeLevel2 (s : State) : State :=
  let lanes := (List.range 4).filter fun m => flagF s (R.EXS_LANE_CTRL_EN m)
  if s.head.st == .running && lanes.all fun m => (getLane s m).st == .running then closeLevel 2 s else s

/-! ## Availability (R894 to R898) -/

/-- R894: the applied image holds an enabled lane, and the head has been RUNNING since the apply. -/
def avScheduled (s : State) : Bool :=
  s.flt.avRun && (List.range 4).any fun m => flagF s (R.EXS_LANE_CTRL_EN m)

/-- R896: a stop that the steward planned, or a gate closed by expiry. -/
def avExcluded (s : State) : Bool :=
  s.head.st == .sleep || s.head.st == .unconfigured || s.rru.acqPlanned || s.cal.phase != .idle || s.ctg.moving || s.ctg.settling ||
    s.ctg.stopClosed || s.chg.st == .stopped || s.chg.st == .armed

/-- R898: one millisecond of the figures of availability. -/
def avTick (s : State) : State :=
  let s := when (s.head.st == .running) (State.onFlt fun f => { f with avRun := true, avQuiet := false }) s
  if !avScheduled s then s
  else if avExcluded s then
    s.onFlt fun f => if f.avExclMs = 999 then { f with avExclMs := 0, avExcl := BitVec.ofNat 32 (satAdd 32 f.avExcl.toNat 1) }
      else { f with avExclMs := f.avExclMs + 1 }
  else
    let s := s.onFlt fun f => if f.avSchedMs = 999 then { f with avSchedMs := 0, avSched := BitVec.ofNat 64 (satAdd 64 f.avSched.toNat 1) }
      else { f with avSchedMs := f.avSchedMs + 1 }
    if s.flt.avQuiet then s.onFlt fun f => { f with avSilent := BitVec.ofNat 32 (satAdd 32 f.avSilent.toNat 1) }
    else if s.head.st != .running then s.onFlt fun f => { f with avGap := BitVec.ofNat 32 (satAdd 32 f.avGap.toNat 1) }
    else s

/-- R897, R898: the milliseconds of a park, which nothing announces. -/
def avParked (ms : Nat) (s : State) : State :=
  if avScheduled s then
    s.onFlt fun f =>
      { f with avSilent := BitVec.ofNat 32 (satAdd 32 f.avSilent.toNat ms), avSchedMs := (f.avSchedMs + ms) % 1000
               avSched := BitVec.ofNat 64 (satAdd 64 f.avSched.toNat ((f.avSchedMs + ms) / 1000)) }
  else s

/-! ## Registers (block 0x11) -/

/-- R887: the code of a lease's state. -/
def LeaseState.code : LeaseState → Nat
  | .free => 0
  | .held => 1
  | .revoking => 2

/-- `FLT_LEASE[r]`: state, owner and time left in ms. -/
def leaseWord (s : State) (r : Nat) : Word :=
  let l := getLease s r
  BitVec.ofNat 32 (l.st.code * 2 ^ 30 + l.owner % 256 * 2 ^ 20 + (if l.st == .held then min 0xFFFFF ((l.expires - s.now) / milli) else 0))

/-- R882: the highest open handling level + 1. -/
def openLevel (s : State) : Nat := s.flt.windows.foldl (fun m w => max m (w.level + 1)) 0

/-- R879: word j of the entry that `FLT_SEL` selects; an empty entry reads 0. -/
def entryWord (s : State) (j : Nat) : Word :=
  match s.flt.ring.drop (getF s R.FLT_SEL_INDEX) with
  | e :: _ => e.word j
  | [] => 0

/-- R15: a read of a register of the block that shows state; the latched words of `FLT_ENTRY` are the bus's. -/
def readFlt (s : State) (a : Nat) : Option Word :=
  let f := s.flt
  if a = A.FLT_STATUS then
    some (BitVec.ofNat 32 ((f.ring.filter LogEntry.unackCritical).length * 2 ^ 16 + openLevel s * 2 ^ 10 +
      bit (f.pendingLong != []) * 2 ^ 9 + f.ring.length))
  else if a = A.FLT_SEQ then some ((f.ring.head?.map LogEntry.seq).getD 0)
  else if A.FLT_ENTRY 0 ≤ a ∧ a ≤ A.FLT_ENTRY 7 then some (entryWord s ((a - A.FLT_ENTRY 0) / 4))
  else if A.FLT_LEASE 0 ≤ a ∧ a ≤ A.FLT_LEASE 7 then some (leaseWord s ((a - A.FLT_LEASE 0) / 4))
  else if a = A.FLT_AV_SCHED_LO then some (f.avSched.extractLsb' 0 32)
  else if a = A.FLT_AV_SCHED_HI then some (f.avSched.extractLsb' 32 32)
  else if a = A.FLT_AV_SILENT then some f.avSilent
  else if a = A.FLT_AV_GAP then some f.avGap
  else if a = A.FLT_AV_EXCL then some f.avExcl
  else none

/-- R878, R901: a write to a register of the block; only a steward session acknowledges. -/
def writeFlt (steward : Bool) (a : Nat) (v : Word) (s : State) : WriteResult × State :=
  if a = A.FLT_CTRL then
    let s := when (R.FLT_CTRL_CNT_CLR.get v == 1) (fun t => setRaw A.FLT_CNT 0 (setRaw A.FLT_CNT2 0 t)) s
    (.ok, when (steward && R.FLT_CTRL_ACK_ALL.get v == 1) ackAll s)
  else if a = A.FLT_ACK then (.ok, when steward (ackSeq v) s)
  else (.ok, plainWrite a v s)

end Sys2Proof.Machine
end

