-- ==== Sys2Proof/Machine/Supervision.lean ====
section
/-! DEFINITION. Chapter 20: the watchdog, the clock monitor, the level of a ladder event and the registers of the block. -/

namespace Sys2Proof.Machine

/-! ## The watchdog (R838 to R845) -/

/-- R842, R843: the period in force in ms. -/
def wdgPeriod (s : State) : Nat := if s.sup.bootPer then 4000 else s.sup.periodInForce

/-- R838: the period in force in cycles of the oscillator. -/
def wdgCycles (s : State) : Nat := wdgPeriod s * 4000

/-- R847: the period in force in ticks of the slow clock, rounded up. -/
def wdgSlow (s : State) : Nat := (wdgPeriod s * 32768 + 999) / 1000

/-- R838, R847: four times the count since the last service and the period, in the clock that counts the period. -/
def wdgCount (s : State) : Nat × Nat :=
  if s.sup.fallback then (4 * (s.sup.elapsed * 128 / 15625), wdgSlow s) else (4 * s.sup.elapsed, wdgCycles s)

/-- R840: the service window is open. -/
def wdgOpen (s : State) : Bool :=
  let (n, p) := wdgCount s
  asleep s || decide (s.fus.wires.window.toNat * p ≤ n)

/-- R842: the count restarts with the boot period. -/
def bootPeriod : State → State := State.onSup fun x => { x with elapsed := 0, elapsedPart := 0, bootPer := true }

/-- R838, R848, R864: an expiry with a cause: its event and its ladder event. -/
def expire (cause : Nat) (s : State) : State :=
  let s := s.onSup fun x => { x with wdgTotal := satAdd 32 x.wdgTotal 1 }
  let s := raiseLadder 0x1001 [.h cause, .w s.sup.elapsed] true s
  s.onSup fun x => { x with elapsed := 0, elapsedPart := 0 }

/-- R840, R842, R843, R882: an accepted service. -/
def acceptService (s : State) : State :=
  let p := getF s R.SUP_WDG_CTRL_PERIOD
  let s := when s.sup.wdgRun (State.onSup fun x => { x with elapsed := 0, elapsedPart := 0, bootPer := false, periodInForce := p }) s
  closeLevel 1 s

/-- R839, R840: a write to `SUP_WDG_SVC`. -/
def serviceWrite (who : Initiator) (v : Word) (s : State) : State :=
  match who with
  | .lcp _ | .tenant _ => raise 0x100D [.h (initiatorCode who)] s
  | .core | .jtag =>
    if v != 0xC35A then when s.sup.wdgRun (expire 2) s
    else if s.sup.wdgRun && !wdgOpen s then expire 1 s
    else acceptService s

/-- R838: the count reaches the period in force without a service. -/
def doWdgExpiry (s : State) : State :=
  if s.sup.wdgRun && !asleep s && s.head.st != .off && !s.head.romServes then
    let n := if s.sup.fallback then s.sup.elapsed else wdgCycles s
    expire 0 (s.onSup fun x => { x with elapsed := n })
  else s

/-- R841: `SUP_WDG_CTRL.EN` starts the watchdog. -/
def startWatchdog (s : State) : State :=
  if s.sup.wdgRun then s
  else
    let s := s.onSup fun x => { x with wdgRun := true, elapsed := 0, elapsedPart := 0, periodInForce := getF s R.SUP_WDG_CTRL_PERIOD }
    raise 0x100B [.h (getF s R.SUP_WDG_CTRL_PERIOD)] s

/-! ## The clock monitor (R846, R847) -/

/-- R846: the window is one of slow-clock ticks. -/
def slowWindow (s : State) : Bool := !s.tmb.run || s.rru.sysPll != .locked

/-- R846: a count lies outside ±25 % of the nominal value. -/
def clockTrips (s : State) (count : Nat) : Bool :=
  if slowWindow s then decide (count < 2930) || decide (4882 < count) else decide (count < 3000) || decide (5000 < count)

/-- R846, R847: a window ends with a count; a trip is an expiry and puts the fallback in force. -/
def clockWindow (count : Nat) (s : State) : State :=
  if s.head.st = .off then s
  else
    let s := s.onSup fun x => { x with monCount := min 0xFFFF count }
    if clockTrips s count ∧ !s.sup.fallback then
      expire 3 (raise 0x100A [.h (min 0xFFFF count)] (s.onSup fun x => { x with fallback := true }))
    else s

/-! ## The ladder (R848, R849, R864) -/

/-- R848: the events of one tick combine: the highest level, and the event with the lowest code. -/
def combine (s : State) : List LadderEvent → Option (Nat × LadderEvent)
  | [] => none
  | e :: l => match combine s l with
    | none => some (ladderLevel s e, e)
    | some (n, d) => some (max n (ladderLevel s e), if d.code < e.code then d else e)

/-- R849 row 2: the expiry of this tick counts for the next one. -/
def noteExpiry (l : List LadderEvent) (s : State) : State :=
  when (l.any LadderEvent.expiry) (State.onSup fun x => { x with lastExpiry := some s.now }) s

/-- R864: a cause entry. -/
def recordCause (level : Nat) (e : LadderEvent) (s : State) : State :=
  let rp := s.rru.rpValid
  let c : Cause := ⟨s.tmb.tb, if rp then BitVec.ofNat 40 s.rru.f else 0, if rp then BitVec.ofNat 16 s.rru.l else 0, level,
    BitVec.ofNat 16 e.code, e.detail⟩
  s.onSup fun x => { x with causes := (c :: x.causes).take 16, lastLevel := level, commitDue := true }

/-- R851: a level-2 restart counts in the HOUR window from this tick. -/
def countL2 (s : State) : State :=
  let l := recentL2 s
  s.onSup fun x => { x with l2Win := (s.now :: l).take 7 }

/-- R864: the record as it is committed. -/
def supRecord (s : State) : SupRecord :=
  let x := s.sup
  ⟨x.l1, x.l2, x.l3, x.wdgTotal, x.powerOn, x.causes⟩

/-- R865, R968: the record at a power-on of the always-on domain. -/
def restoreRecord (s : State) : State :=
  let held := s.sup.hold
  let s := match s.sup.journal with
    | some r => s.onSup fun x => { x with l1 := r.l1, l2 := r.l2, l3 := r.l3, wdgTotal := r.wdgTotal, powerOn := r.powerOn, causes := r.causes }
    | none => raise 0x100F [] (s.onSup fun x => { x with l1 := 0, l2 := 0, l3 := 0, wdgTotal := 0, powerOn := 0, causes := [] })
  let s := s.onSup fun x => { x with hold := false, l2Win := [], lastExpiry := none, monWin := [[], [], [], [], []], stuck := [] }
  when held (raise 0x1005 [.h 1]) s

/-! ## Registers (block 0x10) -/

/-- R868: a word is in range for a register of the block. -/
def supRangeOk (a : Nat) (v : Word) : Bool :=
  let inR (n lo hi : Nat) : Bool := decide (lo ≤ n) && decide (n ≤ hi)
  if a = A.SUP_WDG_CTRL then inR (R.SUP_WDG_CTRL_PERIOD.get v) 1 16000
  else if a = A.SUP_LADDER then inR (R.SUP_LADDER_REARM.get v) 10 6000 && inR (R.SUP_LADDER_HOUR.get v) 1 1440
  else if a = A.SUP_MON_CFG then decide (R.SUP_MON_CFG_STUCK_MAX.get v ≠ 0)
  else if a = A.SUP_SLEEP_PER then decide (R.SUP_SLEEP_PER.get v ≠ 0)
  else true

/-- R839, R841, R868: a write to a register of the block. -/
def writeSup (who : Initiator) (a : Nat) (v : Word) (s : State) : WriteResult × State :=
  if a = A.SUP_WDG_SVC then
    match who with
    | .lcp _ | .tenant _ => (.event 0x100D, serviceWrite who v s)
    | .core | .jtag => (.ok, serviceWrite who v s)
  else if !supRangeOk a v then rejectWrite 0x100D a s
  else if a = A.SUP_CTRL then
    (.ok, when (R.SUP_CTRL_CNT_CLR.get v == 1) (fun t => forEach (List.range 5) (fun m t => setF (R.SUP_MON_CNT_TOTAL m) 0 t) t) s)
  else if a = A.SUP_WDG_CTRL then
    let s := plainWrite a v s
    (.ok, when (R.SUP_WDG_CTRL_EN.get v == 1) startWatchdog s)
  else (.ok, plainWrite a v s)

/-- R864: word j of a cause entry. -/
def Cause.word (c : Cause) (j : Nat) : Word :=
  if j = 0 then c.tb.extractLsb' 0 32
  else if j = 1 then c.tb.extractLsb' 32 32
  else if j = 2 then c.f.extractLsb' 0 32
  else if j = 3 then c.f.extractLsb' 32 8 ++ c.l ++ BitVec.ofNat 8 c.level
  else if j = 4 then c.code ++ c.detail.extractLsb' 32 16
  else c.detail.extractLsb' 0 32

/-- `SUP_STATUS`. -/
def supStatus (s : State) : Word :=
  let x := s.sup
  let w := s.fus.wires
  let stuck := (List.range 5).foldl (fun n m => n + bit (x.stuck.any fun p => p.1 == m) * 2 ^ m) 0
  BitVec.ofNat 32 (bit x.wdgRun * 2 ^ 31 + bit w.hwStart * 2 ^ 30 + w.window.toNat * 2 ^ 28 + w.ladder * 2 ^ 25 + bit x.bootPer * 2 ^ 24 +
    bit x.fallback * 2 ^ 23 + bit x.deferred.isSome * 2 ^ 22 + bit x.hold * 2 ^ 21 + min 7 (recentL2 s).length * 2 ^ 18 +
    x.lastLevel * 2 ^ 16 + stuck)

/-- R15: a read of a register of the block that shows state. -/
def readSup (s : State) (a : Nat) : Option Word :=
  let x := s.sup
  if a = A.SUP_STATUS then some (supStatus s)
  else if a = A.SUP_WDG_CTRL then some (R.SUP_WDG_CTRL_EN.put (rawReg s a) (bit x.wdgRun))
  else if a = A.SUP_WDG_ELAPSED then some (BitVec.ofNat 32 x.elapsed)
  else if a = A.SUP_WDG_MON then some (BitVec.ofNat 32 x.monCount)
  else if a = A.SUP_L1_COUNT then some (BitVec.ofNat 32 x.l1)
  else if a = A.SUP_L2_COUNT then some (BitVec.ofNat 32 x.l2)
  else if a = A.SUP_L3_COUNT then some (BitVec.ofNat 32 x.l3)
  else if a = A.SUP_WDG_TOTAL then some (BitVec.ofNat 32 x.wdgTotal)
  else if A.SUP_CAUSE 0 ≤ a ∧ a ≤ A.SUP_CAUSE 5 then
    some (match x.causes.drop (getF s R.SUP_CAUSE_SEL) with
      | c :: _ => c.word ((a - A.SUP_CAUSE 0) / 4)
      | [] => 0)
  else if A.SUP_MON_CNT 0 ≤ a ∧ a ≤ A.SUP_MON_CNT 4 then
    let m := (a - A.SUP_MON_CNT 0) / 4
    some ((R.SUP_MON_CNT_WIN m).put (rawReg s a) (min 15 (recentDeclared s m).length))
  else none

end Sys2Proof.Machine
end

