-- ==== Sys2Proof/Machine/Records.lean ====
section
/-! DEFINITION. Chapter 12, the records of a Treorn image and of a change set: their layouts, their ranges, and the loading of
their settings into a staged configuration (R568 to R572, R600, R601). -/

namespace Sys2Proof.Machine

/-- R568: the known types, by TYPE[14:0]; the constructor order is the code less 1. -/
inductive RecType where
  | raster | pll | rowMap | geometry | program | windowSet | tenants | trigger | tracker | stream | mosaic | calibration
  | cartridge | supervision | power | patch
  deriving DecidableEq, Repr

/-- R568: the type that TYPE[14:0] identifies. -/
def recType (code : Nat) : Option RecType :=
  match code % 2 ^ 15 with
  | 1 => some .raster
  | 2 => some .pll
  | 3 => some .rowMap
  | 4 => some .geometry
  | 5 => some .program
  | 6 => some .windowSet
  | 7 => some .tenants
  | 8 => some .trigger
  | 9 => some .tracker
  | 10 => some .stream
  | 11 => some .mosaic
  | 12 => some .calibration
  | 13 => some .cartridge
  | 14 => some .supervision
  | 15 => some .power
  | 16 => some .patch
  | _ => none

/-- R568: the least and the largest number of records of a type in an image. -/
def RecType.counts : RecType → Nat × Nat
  | .raster => (1, 1)
  | .pll => (1, 1)
  | .rowMap => (0, 4)
  | .geometry => (0, 16)
  | .program => (0, 64)
  | .windowSet => (0, 256)
  | .tenants => (0, 1)
  | .trigger => (0, 5)
  | .tracker => (0, 1)
  | .stream => (0, 33)
  | .mosaic => (0, 1)
  | .calibration => (0, 1)
  | .cartridge => (0, 1)
  | .supervision => (0, 1)
  | .power => (0, 1)
  | .patch => (0, 65535)

/-- R567: a record of an image: its index, its TYPE, the offset of its payload in the image, and the payload. -/
structure Record where
  index : Nat
  code : Nat
  base : Nat
  data : List Byte
  deriving DecidableEq, Repr

/-- R568, R88, R240, R302, R303, R403, R444, R481, R514, R553, R569, R661, R697, R775, R836, R869: the payload length that a
record's own layout requires. -/
def recLength (t : RecType) (p : List Byte) : Nat :=
  match t with
  | .raster | .pll => 48
  | .rowMap => 6148
  | .geometry => 208
  | .program => 224 + 56 * (fieldAt p 2 1 % 8 + 1)
  | .windowSet => 16 + 12 * fieldAt p 4 2
  | .tenants => 4 + 96 * (fieldAt p 0 2 + 1)
  | .trigger => if fieldAt p 0 1 = 0xFF then 120 else 416 + 2 * (fieldAt p 10 2 + 1)
  | .tracker => 304 + 12 * (fieldAt p 10 2 + fieldAt p 12 1)
  | .stream => if fieldAt p 0 1 = 0xFF then 208 else 80
  | .mosaic => 32
  | .calibration => 36
  | .cartridge => 8
  | .supervision => 16
  | .power => 8
  | .patch => 4 + 12 * (fieldAt p 0 2 + 1)

/-- R573: the step of the order in which a type's settings are written. -/
def RecType.rank : RecType → Nat
  | .power | .supervision => 1
  | .raster | .pll => 2
  | .geometry | .rowMap | .program => 3
  | .windowSet | .calibration | .cartridge => 4
  | .tracker => 5
  | .trigger => 6
  | .tenants | .stream | .mosaic => 7
  | .patch => 8

/-- R568: the largest payload of a type. -/
def RecType.maxLength : RecType → Nat
  | .program => 672
  | .windowSet => 589840
  | .trigger => 1440
  | .tracker => 3976
  | .stream => 208
  | .tenants => 393220
  | .patch => 49156
  | .rowMap => 6148
  | .geometry => 208
  | .raster | .pll => 48
  | .mosaic => 32
  | .calibration => 36
  | .supervision => 16
  | .cartridge | .power => 8

/-- R571, reason 10: the length of a payload. -/
def recLengthOk (t : RecType) (p : List Byte) : Bool :=
  decide (p.length ≤ t.maxLength) && p.length == recLength t p

/-! ## Fields, reserved bytes and rules -/

/-- A register field that a record sets, with the field's offset in the payload. -/
structure RecField where
  ofs : Nat
  fld : Fld
  val : Nat
  deriving DecidableEq, Repr

/-- The items of a list of (offset, size, field) of a payload. -/
def recItems (p : List Byte) (l : List (Nat × Nat × Fld)) : List RecField := l.map fun x => ⟨x.1, x.2.2, fieldAt p x.1 x.2.1⟩

/-- A whole register that a record sets. -/
def wholeReg (a : Nat) : Fld := ⟨a, 0, 32⟩

/-- A bitmap of 1,536 bits or 256 bits in a payload, as words of 32 bits (byte k, bit i is bit 8k + i). -/
def bitmapItems (p : List Byte) (ofs words : Nat) (a : Nat → Nat) : List RecField :=
  (List.range words).map fun w => ⟨ofs + 4 * w, wholeReg (a w), beNat (((p.drop (ofs + 4 * w)).take 4).reverse)⟩

/-- Bit b of the byte at an offset, as a field. -/
def flagItem (p : List Byte) (ofs b : Nat) (f : Fld) : RecField := ⟨ofs, f, bit ((fieldAt p ofs 1).testBit b)⟩

/-- R88: PRIO0 to PRIO5 and COUNT_M1. -/
def prioFields (p : List Byte) : List RecField :=
  let n := fieldAt p 0 1
  ⟨0, R.RRU_SRC_PRIO_COUNT_M1, n⟩ ::
    [(0, R.RRU_SRC_PRIO_PRIO0), (1, R.RRU_SRC_PRIO_PRIO1), (2, R.RRU_SRC_PRIO_PRIO2), (3, R.RRU_SRC_PRIO_PRIO3),
     (4, R.RRU_SRC_PRIO_PRIO4), (5, R.RRU_SRC_PRIO_PRIO5)].map fun x =>
      ⟨1 + x.1, x.2, if x.1 ≤ n then fieldAt p (1 + x.1) 1 else 0⟩

/-- R88: the fields of RASTER. -/
def rasterFields (p : List Byte) : List RecField :=
  prioFields p ++
  [flagItem p 7 7 R.RRU_GEOM_USE_DE, flagItem p 7 6 R.RRU_GEOM_DE_POL, flagItem p 7 5 R.RRU_GEOM_VS_POL,
   flagItem p 7 4 R.RRU_GEOM_HS_POL, flagItem p 7 3 R.RRU_GEOM_TERM, flagItem p 7 2 R.RRU_GEOM_SYNC_BILEVEL,
   flagItem p 7 1 R.RRU_GEOM_VRR_EN, flagItem p 7 0 R.RRU_GEOM_INTERLACE] ++
  recItems p
    [(8, 2, R.RRU_TL_TL), (10, 2, R.RRU_TL_TL_ALT), (12, 2, R.RRU_TL_VRR_TL_MIN), (14, 2, R.RRU_TL_VRR_TL_MAX),
     (16, 2, R.RRU_LPER_HI_LINE_PERIOD_HI), (18, 4, R.RRU_LPER_LO_LINE_PERIOD_LO), (22, 2, R.RRU_LPER_HI_LINE_TOL),
     (24, 2, R.RRU_FAILOVER_REVERT_HOLD), (26, 2, R.RRU_FAILOVER_COAST_MAX), (28, 2, R.RRU_EPOCH_SEC_HI),
     (30, 4, R.RRU_EPOCH_SEC_LO), (34, 4, R.RRU_EPOCH_NS), (38, 1, R.RRU_OPT_OPT_MINSEG_M1)]

/-- R88: the fields of PLL. -/
def pllFields (p : List Byte) : List RecField :=
  recItems p
    [(0, 4, R.RRU_PLL_NDIV_N), (4, 1, R.RRU_PLL_CTRL_BAND_AUTO), (5, 1, R.RRU_PLL_CTRL_BAND_MAN), (6, 1, R.RRU_PLL_CTRL_BW),
     (8, 2, R.RRU_PLL_LOCK_LOCK_THR), (10, 2, R.RRU_PLL_LOCK_EVENT_WIN), (44, 1, R.RRU_SYS_CTRL_SRC),
     (45, 1, R.RRU_SYS_CTRL_FAILOVER_EN)] ++
  (List.range 8).map fun n => ⟨12 + 4 * n, wholeReg (A.RRU_OUT_CFG n), fieldAt p (12 + 4 * n) 4⟩

/-- R240: the fields of GEOMETRY. -/
def geometryFields (p : List Byte) : List RecField :=
  let n := fieldAt p 0 1 % 16
  ⟨0, R.CRO_GEO_CTRL_VALID n, 1⟩ ::
  recItems p
    [(1, 1, R.CRO_GEO_CTRL_BIN n), (2, 1, R.CRO_GEO_CTRL_FMT n), (4, 4, R.CRO_GEO_CTRL_SB_EN n), (8, 2, R.CRO_GEO_COLS_COL_START16 n),
     (10, 2, R.CRO_GEO_COLS_COL_END16 n)] ++
  bitmapItems p 16 48 (A.CRO_GEO_RGB n)

/-- R303: the register fields of EXPOSURE_PROGRAM: those of its lane. -/
def programFields (p : List Byte) : List RecField :=
  let m := fieldAt p 1 1
  if m < 4 then
    ⟨1, R.EXS_LANE_CTRL_EN m, 1⟩ :: ⟨0, R.EXS_LANE_CTRL_PROG m, fieldAt p 0 1⟩ :: bitmapItems p 32 48 (A.EXS_LANE_RGB m)
  else []

/-- R403: the register fields of WINDOW_SET. -/
def setFields (p : List Byte) : List RecField :=
  let n := fieldAt p 0 1
  [⟨0, R.PAT_SET_CTRL_EN n, 1⟩, ⟨2, R.PAT_SET_CTRL_K_M1 n, fieldAt p 2 2⟩]

/-- R444: the fields of CALIBRATION_POLICY. -/
def calibrationFields (p : List Byte) : List RecField :=
  recItems p
    [(0, 1, R.CAL_SLOT_MODE), (1, 1, R.CAL_SLOT_FLAG_IDX), (2, 2, R.CAL_SLOT_SLOT_LEN_M1), (4, 4, R.CAL_PERIOD_PERIOD_M1),
     (8, 4, R.CAL_PHASE_PHASE), (12, 2, R.CAL_TRIG_TEMP_DELTA), (14, 2, R.CAL_TRIG_MAX_AGE), (16, 2, R.CAL_STALE_MAX),
     (18, 1, R.CAL_DARK_N_DARK_M1), (20, 2, R.CAL_LEN_OFS), (22, 2, R.CAL_DARK_LEN_RATE), (24, 1, R.CAL_LIGHT_LIGHT_DN),
     (25, 1, R.CAL_LIGHT_ABORT_LIMIT), (26, 1, R.CAL_LIGHT_FLK_ACC0), (27, 1, R.CAL_LIGHT_FLK_ACC1), (28, 2, R.CAL_FLK_FLK_LIMIT),
     (30, 2, R.CAL_FLK_DRIFT_DN)] ++
  [flagItem p 19 2 R.CAL_CTRL_DRIFT_EN, flagItem p 19 1 R.CAL_DARK_DRATE_EN, flagItem p 19 0 R.CAL_CTRL_AUTO_EN]

/-- R514: the fields of TRACKER_SEQUENCE. -/
def trackerFields (p : List Byte) : List RecField :=
  let accs := fieldAt p 10 2
  let trks := fieldAt p 12 1
  [⟨0, R.TRC_CTRL_REF_SEL, fieldAt p 0 1⟩, ⟨1, R.TRC_REG_CTRL_REG_COUNT_M1, fieldAt p 1 1⟩, ⟨2, R.TRC_INJ_CTRL_INJ_COUNT_M1, fieldAt p 2 1⟩,
   flagItem p 3 2 R.TRC_INJ_CTRL_RASTER_EN, flagItem p 3 1 R.TRC_INJ_CTRL_TGE_EN, flagItem p 3 0 R.TRC_INJ_CTRL_TIMER_EN,
   ⟨4, R.TRC_INJ_CTRL_TIMER_CH, fieldAt p 4 1⟩, ⟨5, R.TRC_INJ_CTRL_TGE_MASK, fieldAt p 5 1⟩, ⟨6, R.TRC_INJ_RP_L, fieldAt p 6 2⟩,
   ⟨8, R.TRC_INJ_RP_PHI, fieldAt p 8 2⟩] ++
  (List.range 29).map (fun i => ⟨28 + 4 * i, wholeReg (A.TRC_STEP_REG (3 + i)), fieldAt p (28 + 4 * i) 4⟩) ++
  (List.range 8).map (fun i => ⟨144 + 4 * i, wholeReg (A.TRC_STEP_INJ i), fieldAt p (144 + 4 * i) 4 + (if i = 0 then 40 else 0)⟩) ++
  (List.range 32).map (fun i => ⟨176 + 4 * i, wholeReg (A.TRC_SEG_LINE i), fieldAt p (176 + 4 * i) 4⟩) ++
  (List.range accs).flatMap (fun j =>
    let o := 304 + 12 * j
    let a := fieldAt p o 1
    [⟨o + 4, wholeReg (A.TRC_ACC_CFG a), fieldAt p (o + 4) 4⟩, ⟨o + 8, wholeReg (A.TRC_ACC_LEN a), fieldAt p (o + 8) 4⟩]) ++
  (List.range trks).flatMap fun j =>
    let o := 304 + 12 * (accs + j)
    let k := fieldAt p o 1 % 64
    [⟨o + 4, wholeReg (A.TRC_TRK_CFG k), fieldAt p (o + 4) 4⟩, ⟨o + 8, wholeReg (A.TRC_TRK_THR k), fieldAt p (o + 8) 4⟩]

/-- R553: a tracker of XING0 to XING3. -/
def xingFields (p : List Byte) (e : Nat) : List RecField :=
  [(0, R.TGE_ENG_XING_EN0 e, R.TGE_ENG_XING_TRK0 e), (1, R.TGE_ENG_XING_EN1 e, R.TGE_ENG_XING_TRK1 e),
   (2, R.TGE_ENG_XING_EN2 e, R.TGE_ENG_XING_TRK2 e), (3, R.TGE_ENG_XING_EN3 e, R.TGE_ENG_XING_TRK3 e)].flatMap fun x =>
    let v := fieldAt p (6 + x.1) 1
    if v = 0xFF then [⟨6 + x.1, x.2.1, 0⟩, ⟨6 + x.1, x.2.2, 0⟩] else [⟨6 + x.1, x.2.1, 1⟩, ⟨6 + x.1, x.2.2, v⟩]

/-- R553: the fields of TRIGGER_PROGRAM. -/
def triggerFields (p : List Byte) : List RecField :=
  let e := fieldAt p 0 1
  if e = 0xFF then
    (List.range 16).map (fun i => ⟨4 + 4 * i, wholeReg (A.TGE_LINE_CFG i), fieldAt p (4 + 4 * i) 4⟩) ++
    (List.range 4).map (fun i => ⟨68 + 4 * i, wholeReg (A.TGE_DIFF_CFG i), fieldAt p (68 + 4 * i) 4⟩) ++
    (List.range 4).map (fun i => ⟨84 + 4 * i, wholeReg (A.TGE_FLAG_EXT i), fieldAt p (84 + 4 * i) 4⟩)
  else if e < 4 then
    recItems p
      [(1, 1, R.TGE_ENG_CTRL_MODE e), (2, 1, R.TGE_ENG_CTRL_STALL_POL e), (3, 1, R.TGE_ENG_CTRL_FORCE_FLAG e),
       (4, 1, R.TGE_ENG_CTRL_TMR_A_CH e), (5, 1, R.TGE_ENG_CTRL_TMR_B_CH e)] ++
    xingFields p e ++
    (List.range 4).flatMap (fun g =>
      [⟨16 + 4 * g, R.TGE_GRP_CODE_CODE_LO e g, fieldAt p (16 + 4 * g) 2⟩, ⟨18 + 4 * g, R.TGE_GRP_CODE_CODE_HI e g, fieldAt p (18 + 4 * g) 2⟩]) ++
    (List.range 16).flatMap fun t =>
      let o := 32 + 24 * t
      [(0, A.TGE_THR_CTRL e t), (4, A.TGE_THR_PINS e t), (8, A.TGE_THR_CINIT e t), (12, A.TGE_THR_AINIT e t), (16, A.TGE_THR_BINIT e t)].map
        fun x => ⟨o + x.1, wholeReg x.2, fieldAt p (o + x.1) 4⟩
  else []

/-- R661: the words of a destination or address: IPv4 in word 0, IPv6 with the most significant bytes in word 0. -/
def destWords (p : List Byte) (ofs : Nat) (ipv6 : Bool) : List Nat :=
  if ipv6 then (List.range 4).map fun i => fieldAt p (ofs + 4 * i) 4 else [fieldAt p (ofs + 12) 4, 0, 0, 0]

/-- R661: the fields of a STREAM record with INDEX 0xFF. -/
def portFields (p : List Byte) : List RecField :=
  [⟨1, R.LNK_PORT_CFG_MODE, fieldAt p 1 1⟩, flagItem p 2 2 R.LNK_PTP_TRANSPORT, flagItem p 2 1 R.LNK_PTP_PROFILE, flagItem p 2 0 R.LNK_PTP_EN,
   ⟨3, R.LNK_PTP_PORT, fieldAt p 3 1⟩, ⟨4, R.LNK_PTP_DOMAIN, fieldAt p 4 1⟩, ⟨5, R.LNK_PTP_DELAY_REQ_LOG, fieldAt p 5 1⟩] ++
  (List.range 4).flatMap fun q =>
    let o := 8 + 48 * q
    recItems p [(o, 4, R.LNK_P_IP4 q), (o + 4, 4, R.LNK_P_GW4 q), (o + 8, 1, R.LNK_P_PFX_PREFIX4 q), (o + 9, 1, R.LNK_P_PFX_PREFIX6 q)] ++
    (List.range 4).flatMap fun i =>
      [⟨o + 16 + 4 * i, R.LNK_P_IP6 q i, fieldAt p (o + 16 + 4 * i) 4⟩, ⟨o + 32 + 4 * i, R.LNK_P_GW6 q i, fieldAt p (o + 32 + 4 * i) 4⟩]

/-- R661: the fields of STREAM. -/
def streamFields (p : List Byte) : List RecField :=
  let i := fieldAt p 0 1
  if i = 0xFF then portFields p
  else if i < 32 then
    [⟨0, R.LNK_STR_CTRL_EN i, 1⟩, flagItem p 3 3 (R.LNK_STR_CTRL_RETAIN i), flagItem p 3 2 (R.LNK_STR_CTRL_CR i),
     flagItem p 3 1 (R.LNK_STR_CTRL_ENC i), flagItem p 3 0 (R.LNK_STR_CTRL_IPV6 i)] ++
    recItems p
      [(1, 1, R.LNK_STR_CTRL_PORT i), (2, 1, R.LNK_STR_CTRL_TYPES i), (4, 1, R.LNK_STR_IP_DSCP i), (6, 2, R.LNK_STR_IP_MTU i),
       (8, 2, R.LNK_STR_UDP_SRC_PORT i), (10, 2, R.LNK_STR_UDP_DST_PORT i), (28, 2, R.LNK_STR_CTRL_GEO_MASK i),
       (32, 4, R.LNK_STR_QUOTA_QUOTA i), (36, 4, R.LNK_STR_QLIM_QLIM i), (40, 2, R.LNK_STR_CR_SIZE i), (44, 4, R.LNK_STR_CR_PERIOD i)] ++
    ((destWords p 12 ((fieldAt p 3 1).testBit 0)).mapIdx fun k v => ⟨12, R.LNK_STR_DST i k, v⟩) ++
    bitmapItems p 48 8 (A.LNK_STR_WSM i)
  else []

/-- R775: the register fields of MOSAIC. -/
def mosaicFields (p : List Byte) : List RecField :=
  [⟨0, R.MOS_CFG_MOSAIC_ID, fieldAt p 0 2⟩, flagItem p 2 1 R.MOS_CFG_HALT, flagItem p 2 0 R.MOS_CFG_ROOT_CLAIM] ++
  recItems p
    [(4, 2, R.MOS_TIMING_ROOT_HOLD), (6, 1, R.MOS_TIMING_START_LEAD), (7, 1, R.MOS_TIMING_ARM_TIMEOUT), (8, 4, R.MOS_PORT_ASYM 0),
     (12, 4, R.MOS_PORT_ASYM 1)]

/-- The register fields that a record sets. -/
def recFields (t : RecType) (p : List Byte) : List RecField :=
  match t with
  | .raster => rasterFields p
  | .pll => pllFields p
  | .geometry => geometryFields p
  | .program => programFields p
  | .windowSet => setFields p
  | .trigger => triggerFields p
  | .tracker => trackerFields p
  | .stream => streamFields p
  | .mosaic => mosaicFields p
  | .calibration => calibrationFields p
  | .cartridge => recItems p [(0, 1, R.CTG_CTRL_POLICY), (1, 1, R.CTG_FILTER_POS), (2, 1, R.CTG_CTRL_SHUT)]
  | .supervision =>
    recItems p [(1, 1, R.SUP_MON_CFG_STUCK_MAX), (2, 2, R.SUP_WDG_CTRL_PERIOD), (4, 2, R.SUP_LADDER_REARM), (6, 2, R.SUP_LADDER_HOUR), (8, 2, R.SUP_SLEEP_PER)]
  | .power => recItems p [(0, 1, R.PWR_POLICY_COOL_CAP), (1, 1, R.PWR_POLICY_LINK_HOLD)]
  | .rowMap | .tenants | .patch => []

/-- The reserved bytes of a record, as (offset, bytes). -/
def recZeros (t : RecType) (p : List Byte) : List (Nat × Nat) :=
  match t with
  | .raster => [(39, 9)]
  | .pll => [(7, 1), (46, 2)]
  | .rowMap => [(1, 3)]
  | .geometry => [(3, 1), (12, 4)]
  | .program => [(3, 1), (24, 8)] ++ (List.range (fieldAt p 2 1 + 1)).map fun e => (224 + 56 * e + 16, 8)
  | .windowSet => [(1, 1), (6, 10)] ++ (List.range (fieldAt p 4 2)).map fun j => (26 + 12 * j, 2)
  | .tenants => [(2, 2)] ++ (List.range (fieldAt p 0 2 + 1)).flatMap fun j => [(4 + 96 * j + 38, 2), (4 + 96 * j + 50, 2), (4 + 96 * j + 88, 8)]
  | .trigger => if fieldAt p 0 1 = 0xFF then [(1, 3), (116, 4)] else (12, 4) :: (List.range 16).map fun t => (52 + 24 * t, 4)
  | .tracker => [(13, 3), (16, 12)] ++ (List.range (fieldAt p 10 2 + fieldAt p 12 1)).map fun j => (305 + 12 * j, 3)
  | .stream =>
    if fieldAt p 0 1 = 0xFF then (6, 2) :: (200, 8) :: (List.range 4).map fun q => (18 + 48 * q, 6)
    else [(5, 1), (30, 2), (42, 2)] ++ (if (fieldAt p 3 1).testBit 0 then [] else [(12, 12)])
  | .mosaic => [(3, 1), (19, 1), (28, 4)]
  | .calibration => [(32, 4)]
  | .cartridge => [(3, 5)]
  | .supervision => [(10, 6)]
  | .power => [(2, 6)]
  | .patch => [(2, 2)]

/-- R697: entry j of a TENANT_TABLE record, as the words of its context. -/
def tenantEntry (p : List Byte) (j : Nat) : Nat × CtxWords :=
  let o := 4 + 96 * j
  let f := fieldAt p (o + 2) 1
  let w (n : Nat) : Word := BitVec.ofNat 32 n
  (fieldAt p o 2,
    { ctrl := w (2 ^ 31 + bit (f.testBit 1) * 2 ^ 30 + bit (f.testBit 3) * 2 ^ 29 + bit (f.testBit 2) * 2 ^ 28 + bit (f.testBit 4) * 2 ^ 27 +
        fieldAt p (o + 3) 1 % 8 * 2 ^ 24 + fieldAt p (o + 4) 1 % 32 * 2 ^ 16)
      ip := w (fieldAt p (o + 5) 1 * 2 ^ 24 + fieldAt p (o + 6) 2)
      udp := w (fieldAt p (o + 10) 2 * 65536 + fieldAt p (o + 8) 2)
      dst := (destWords p (o + 12) (f.testBit 2)).map w
      y0x0 := w (fieldAt p (o + 32) 2 * 65536 + fieldAt p (o + 28) 2)
      y1x1 := w (fieldAt p (o + 34) 2 * 65536 + fieldAt p (o + 30) 2)
      geo := w (fieldAt p (o + 36) 2)
      quota := w (fieldAt p (o + 40) 4)
      qlim := w (fieldAt p (o + 44) 4)
      crSize := w (fieldAt p (o + 48) 2)
      crPeriod := w (fieldAt p (o + 52) 4)
      grant := (List.range 8).map fun i => w (beNat (((p.drop (o + 56 + 4 * i)).take 4).reverse)) })

/-- R697: the entries of a TENANT_TABLE record. -/
def tenantEntries (p : List Byte) : List (Nat × CtxWords) := (List.range (fieldAt p 0 2 + 1)).map (tenantEntry p)

/-- R403: the windows of a WINDOW_SET record. -/
def recWindows (p : List Byte) : List Window :=
  (List.range (fieldAt p 4 2)).map fun j =>
    let o := 16 + 12 * j
    { id := fieldAt p o 2, set := fieldAt p 0 1, tenant := none, x0 := fieldAt p (o + 2) 2, x1 := fieldAt p (o + 4) 2,
      y0 := fieldAt p (o + 6) 2, y1 := fieldAt p (o + 8) 2 }

/-- R303, R254: the words of a program as the scheduler memory window holds them. -/
def programWords (p : List Byte) : List Word :=
  let w (n : Nat) : Word := BitVec.ofNat 32 n
  let n := fieldAt p 2 1
  let head := [w (2 ^ 31 + n), w (fieldAt p 6 2 * 65536 + fieldAt p 4 2), w (fieldAt p 12 4), w (fieldAt p 8 4), w (fieldAt p 20 4),
    w (fieldAt p 16 4)] ++ List.replicate 10 0
  head ++ (List.range (n % 8 + 1)).flatMap fun e =>
    let o := 224 + 56 * e
    [w (fieldAt p o 4), w (fieldAt p (o + 4) 4), w (fieldAt p (o + 12) 4), w (fieldAt p (o + 8) 4), 0, 0] ++
      (List.range 8).map fun i => w (beNat (((p.drop (o + 24 + 4 * i)).take 4).reverse))

/-- R303: the program of a record. -/
def recProgram (p : List Byte) : Prog := progOf fun o => ((programWords p).getD (o / 4) 0).toNat

/-- R255, R264, R301: the rules of a program's fields by themselves, as (offset in its record, whether it holds). -/
def progRules (q : Prog) : List (Nat × Bool) :=
  let abs := q.exps.any fun e => e.anchor == 2
  [(0, q.clean), (6, decide (q.ph ≤ q.div)), (16, q.period == 0 || decide (q.period ≤ 150000000000)),
   (224, (!abs || (q.exps.all (fun e => e.anchor == 2) && q.div == 0 && q.ph == 0)) &&
     (q.exps.length == 1 || q.exps.all fun e => !e.long))] ++
  (q.exps.mapIdx fun i e =>
    let o := 224 + 56 * i
    [(o, e.valid && e.clean && decide (e.anchor ≤ 2) && decide (e.gain ≤ 2)),
     (o + 8, decide (1 ≤ e.len) && (if e.long then decide (e.len ≤ 150000000000) else decide (e.len ≤ 0xFFFF0000)))]).flatten

/-- The rules of a record's fields beyond their widths and their registers' ranges, on the staged configuration, as (offset,
whether it holds). -/
def recRules (t : RecType) (p : List Byte) (s : State) : List (Nat × Bool) :=
  match t with
  | .raster =>
    let n := fieldAt p 0 1
    let f := fieldAt p 7 1
    (0, decide (n ≤ 5)) :: (List.range 6).map (fun i => (1 + i, if i ≤ n then decide (fieldAt p (1 + i) 1 ≤ 5) else fieldAt p (1 + i) 1 == 0xFF)) ++
      [(10, f.testBit 0 || fieldAt p 10 2 == 0), (12, f.testBit 1 || fieldAt p 12 2 == 0), (14, f.testBit 1 || fieldAt p 14 2 == 0)]
  | .pll => []
  | .rowMap => [(0, decide (fieldAt p 0 1 ≤ 3))]
  | .geometry => [(0, decide (fieldAt p 0 1 ≤ 15)), (1, decide (fieldAt p 1 1 ≤ 2))]
  | .program =>
    let m := fieldAt p 1 1
    [(0, decide (fieldAt p 0 1 ≤ 63)), (1, decide (m ≤ 3) || m == 0xFF), (2, decide (fieldAt p 2 1 ≤ 7)),
     (32, decide (m ≤ 3) || bitmapBytes (p.drop 32) == 0)] ++ progRules (recProgram p)
  | .windowSet =>
    (4, decide (fieldAt p 4 2 ≤ poolBase)) :: (recWindows p).mapIdx fun j w => (16 + 12 * j, decide (w.id < poolBase) && w.inRange)
  | .tenants =>
    (0, decide (fieldAt p 0 2 ≤ 4095)) :: (tenantEntries p).mapIdx fun j e =>
      let o := 4 + 96 * j
      (o, decide (e.1 ≤ 4095) && fieldAt p (o + 2) 1 % 2 == 0 && decide (fieldAt p (o + 2) 1 < 32) && decide (fieldAt p (o + 3) 1 ≤ 3) &&
        decide (fieldAt p (o + 4) 1 ≤ 16) && decide (fieldAt p (o + 5) 1 ≤ 63) &&
        (e.2.ctrl.getLsbD 28 || beNat ((p.drop (o + 12)).take 12) == 0) &&
        ctxRangeOk (getF s R.LNK_PORT_CFG_MODE) e.1 e.2 && ctxPortOk (getF s R.LNK_PORT_CFG_MODE) e.2)
  | .trigger =>
    let e := fieldAt p 0 1
    if e = 0xFF then [] else [(0, decide (e ≤ 3)), (10, decide (fieldAt p 10 2 ≤ 511))] ++
      (List.range 4).map fun i => (6 + i, decide (fieldAt p (6 + i) 1 ≤ 63) || fieldAt p (6 + i) 1 == 0xFF)
  | .tracker =>
    let accs := fieldAt p 10 2
    [(3, decide (fieldAt p 3 1 < 8)), (10, decide (accs ≤ 244)), (12, decide (fieldAt p 12 1 ≤ 62)), (144, fieldAt p 144 4 % 64 == 0)] ++
    (List.range accs).map (fun j => (304 + 12 * j, decide (fieldAt p (304 + 12 * j) 1 ≤ 243))) ++
    (List.range (fieldAt p 12 1)).map fun j => (304 + 12 * (accs + j), decide (fieldAt p (304 + 12 * (accs + j)) 1 ≤ 61))
  | .stream =>
    let i := fieldAt p 0 1
    if i = 0xFF then [(2, decide (fieldAt p 2 1 < 8))]
    else
      let cr := (fieldAt p 3 1).testBit 2
      [(0, decide (i ≤ 31)), (3, decide (fieldAt p 3 1 < 16)), (8, fieldAt p 8 2 != 0),
       (10, fieldAt p 10 2 != 0 && fieldAt p 10 2 != 7426), (40, if cr then fieldAt p 40 2 != 0 else fieldAt p 40 2 == 0),
       (44, if cr then fieldAt p 44 4 != 0 else fieldAt p 44 4 == 0)]
  | .mosaic =>
    [(0, decide (fieldAt p 0 2 ≤ 511)), (2, decide (fieldAt p 2 1 < 4)), (16, decide (1 ≤ fieldAt p 16 2) && decide (fieldAt p 16 2 ≤ 512)),
     (18, decide (fieldAt p 18 1 ≤ 1))]
  | .calibration => [(19, decide (fieldAt p 19 1 < 8))]
  | .cartridge => [(2, decide (fieldAt p 2 1 < 2))]
  | .supervision => [(0, decide (fieldAt p 0 1 < 2))]
  | .power => []
  | .patch => []

/-! ## Ranges -/

/-- R571, reason 13: the value of a register is within the range rules of its block. -/
def regOk (s : State) (a : Nat) : Bool :=
  let v := rawReg s a
  match a / 0x10000 with
  | 1 => rruRangeOk s a v
  | 2 => tmbRangeOk s a v
  | 3 => snsRangeOk a v
  | 4 => croRangeOk a v
  | 5 => a != A.EXS_FU_DUAL || decide (R.EXS_FU_DUAL_T_LO.get v < R.EXS_FU_DUAL_T_HI.get v)
  | 7 => calRangeOk s a v
  | 8 => a != A.CTG_FILTER || decide (v.toNat % 8 ≤ 4)
  | 9 => trcRangeOk s a v
  | 0xA =>
    let o := a - 0xA0000
    if 0x100 ≤ o ∧ o < 0x140 then lineCfgOk ((o - 0x100) / 4) v
    else if 0x150 ≤ o ∧ o < 0x160 then lineCfgOk (16 + (o - 0x150) / 4) v
    else if 0x1000 ≤ o ∧ o < 0x5000 then
      let e := (o - 0x1000) / 0x1000
      let r := o % 0x1000
      if r = 0 then (R.TGE_ENG_CTRL_STALL_POL e).get v != 3
      else if 0x20 ≤ r ∧ r < 0x30 then !groupUsed s e ((r - 0x20) / 4) || rangeFree s e ((r - 0x20) / 4) v
      else true
    else true
  | 0xB => lnkRangeOk s a v
  | 0xC => a != A.TEN_KEY_SLOT || decide (v.toNat % 2 ^ 13 ≤ 4127)
  | 0xD => mosRangeOk a v
  | 0xF => pwrRangeOk a v
  | 0x10 => supRangeOk a v
  | _ => true

/-- R570: the bits of a register that an image or a change set may set. -/
def patchable (a : Nat) : Word := maskOf (fun d => d.acc == .rw || d.acc == .rwl || d.acc == .rws) (fieldsAt a)

/-- The value of a field fits, and its reserved bits are zero. -/
def RecField.fits (f : RecField) : Bool :=
  decide (f.val < 2 ^ f.fld.w) && (f.fld.w != 32 || (BitVec.ofNat 32 f.val &&& ~~~patchable f.fld.addr) == 0)

/-- R571: a register that a record sets is in range; what the frame geometry asks of the line counts is a rule of theirs. -/
def recRegOk (s : State) (a : Nat) : Bool :=
  if a = A.RRU_GEOM then !((rawReg s a).getLsbD 0 && (rawReg s a).getLsbD 1) else regOk s a

/-- A register that is out of range comes into range when the field takes its reset value. -/
def RecField.mends (s : State) (f : RecField) : Bool :=
  let a := f.fld.addr
  recRegOk (setF f.fld (f.fld.get (resetWord a)) s) a

/-- R571: the fields of registers that are out of range: of each register those that put it there, or all where none does so
alone. -/
def fieldFaults (l : List RecField) (s : State) : List RecField :=
  let bad := l.filter fun f => !recRegOk s f.fld.addr
  l.filter (fun f => !f.fits) ++ bad.filter fun f => f.mends s || bad.all fun g => g.fld.addr != f.fld.addr || !g.mends s

/-- R571, reason 13: the offsets of a record's fields that are out of range. -/
def recFaults (t : RecType) (p : List Byte) (s : State) : List Nat :=
  (fieldFaults (recFields t p) s).map RecField.ofs ++
    ((recZeros t p).filter fun z => ((p.drop z.1).take z.2).any (· != 0)).map Prod.fst ++
    ((recRules t p s).filter fun r => !r.2).map Prod.fst

/-! ## Loading -/

/-- R302: the row map of a record. -/
def loadMap (p : List Byte) (s : State) : State :=
  let r := fieldAt p 0 1 % 4
  { s with mem := Mem.writeBytes memDefault s.mem (mapAddr r 0) (((List.range 1536).flatMap fun g => ((p.drop (4 + 4 * g)).take 4).reverse)) }

/-- R303, R254: the program of a record. -/
def loadProgram (p : List Byte) (s : State) : State :=
  let a := progAddr (fieldAt p 0 1 % 64)
  { s with mem := Mem.writeBytes memDefault s.mem a ((programWords p ++ List.replicate (128 - (programWords p).length) 0).flatMap wordBytes) }

/-- R553: the instruction words, flags and settings of a TRIGGER_PROGRAM record that are no register fields. -/
def loadTrigger (p : List Byte) (s : State) : State :=
  let e := fieldAt p 0 1
  if e = 0xFF then
    let f := (List.range 4).foldl (fun n i => n + fieldAt p (100 + 4 * i) 4 * 2 ^ (32 * i)) 0
    s.onTge fun x => { x with flags := BitVec.ofNat 128 f, cyc := 2 * s.now, fSet := 0, fClr := 0, fTog := 0, fTogged := 0, wSet := 0, wClr := 0 }
  else
    let code := (List.range (fieldAt p 10 2 + 1)).foldl
      (fun c i => Tbl.put c (512 * e + i) 0 (BitVec.ofNat 16 (fieldAt p (416 + 2 * i) 2)))
      (s.tge.code.filter fun c => c.1 / 512 != e)
    s.onTge fun x => { x with code := code }

/-- R572, R605: a record's settings enter a staged configuration. -/
def recLoad (t : RecType) (p : List Byte) (s : State) : State :=
  let s := forEach (recFields t p) (fun f s => setF f.fld f.val s) s
  match t with
  | .rowMap => loadMap p s
  | .program => loadProgram p s
  | .windowSet => forEach (recWindows p) putWindow s
  | .trigger => loadTrigger p s
  | _ => s

/-- R571, reason 12: what a record may be the only one to name: (kind of index, index). -/
def recKeys (t : RecType) (p : List Byte) : List (Nat × Nat) :=
  match t with
  | .rowMap => [(0, fieldAt p 0 1)]
  | .geometry => [(1, fieldAt p 0 1)]
  | .program => (2, fieldAt p 0 1) :: (if fieldAt p 1 1 = 0xFF then [] else [(3, fieldAt p 1 1)])
  | .windowSet => (4, fieldAt p 0 1) :: (recWindows p).map fun w => (5, w.id)
  | .trigger => [(6, fieldAt p 0 1)]
  | .stream => [(7, fieldAt p 0 1)]
  | .tenants => (tenantEntries p).map fun e => (8, e.1)
  | .tracker =>
    (List.range (fieldAt p 10 2)).map (fun j => (9, fieldAt p (304 + 12 * j) 1)) ++
      (List.range (fieldAt p 12 1)).map fun j => (10, fieldAt p (304 + 12 * (fieldAt p 10 2 + j)) 1)
  | _ => []

/-- Whether a sorted list holds an element twice in a row. -/
def repeats : List (Nat × Nat) → Bool
  | a :: b :: l => a == b || repeats (b :: l)
  | _ => false

/-- The order of two keys. -/
def keyLe (a b : Nat × Nat) : Bool := decide (a.1 < b.1) || (a.1 == b.1 && decide (a.2 ≤ b.2))

/-- R571, reason 12: two records name the same index, or one record names one twice. -/
def keysClash (l : List (RecType × List Byte)) : Bool := repeats (sortBy keyLe (l.flatMap fun r => recKeys r.1 r.2))

/-! ## Register items (R569, R570, R600) -/

/-- R569: ADDR, MASK and VALUE of entry i of a REGISTER_PATCH payload. -/
def patchEntry (p : List Byte) (i : Nat) : Nat × Word × Word :=
  (fieldAt p (4 + 12 * i) 4, BitVec.ofNat 32 (fieldAt p (8 + 12 * i) 4), BitVec.ofNat 32 (fieldAt p (12 + 12 * i) 4))

/-- R569: the entries of a REGISTER_PATCH payload. -/
def patchEntries (p : List Byte) : List (Nat × Word × Word) := (List.range (fieldAt p 0 2 + 1)).map (patchEntry p)

/-- R569: the value that an item gives a register. -/
def patchValue (s : State) (e : Nat × Word × Word) : Word := (rawReg s e.1 &&& ~~~e.2.1) ||| e.2.2

/-- R570: an item is out of range; the offset in the entry of the field that breaks the rule. -/
def patchFault (s : State) (e : Nat × Word × Word) : Option Nat :=
  let (a, m, v) := e
  if a % 4 ≠ 0 ∨ 0x120000 ≤ a ∨ a / 0x10000 = 0xE ∨ (findFamily a).isNone then some 0
  else if m = 0 ∨ (m &&& ~~~patchable a) ≠ 0 then some 4
  else if (v &&& ~~~m) ≠ 0 ∨ !regOk (setRaw a (patchValue s e) s) a then some 8
  else none

end Sys2Proof.Machine
end

