-- ==== Sys2Proof/Machine/Change.lean ====
section
/-! DEFINITION. Chapter 13: changing a running head with STOP, STAGE and RESTART (R594 to R622). -/

namespace Sys2Proof.Machine

/-! ## Functions (R594, R595) -/

/-- R594: KIND of a function. -/
def fnKind (fn : Nat) : Nat := fn / 4096

/-- R594: INDEX of a function. -/
def fnIndex (fn : Nat) : Nat := fn % 4096

/-- R594, R598: a function is running; a FN outside R594 never is. -/
def fnRunning (s : State) (fn : Nat) : Bool :=
  let i := fnIndex fn
  match fnKind fn with
  | 0 => decide (i < 4) && (getLane s i).st == .running
  | 1 => decide (i < 256) && (getSet s i).st == .running
  | 2 => decide (i < 32) && (getStream s i).st == .running
  | 3 => decide (i < 16) && groupSt s (i / 4) (i % 4) == .running
  | 4 => i == 0 && s.rru.pll != .off
  | 5 => i == 0 && flagF s R.TRC_CTRL_REG_EN
  | _ => false

/-- R606: a function of the change set has stopped; the raster source/PLL and the tracker sequences stop at once. -/
def fnStopped (s : State) (fn : Nat) : Bool :=
  let i := fnIndex fn
  match fnKind fn with
  | 0 => !(getLane s i).st.busy
  | 1 => (getSet s i).st.idle
  | 2 => (getStream s i).st == .stopped || (getStream s i).st == .off
  | 3 => groupSt s (i / 4) (i % 4) != .running
  | _ => true

/-- The functions of one KIND in the change set, by INDEX. -/
def chgOf (s : State) (kind : Nat) : List Nat := (s.chg.fns.filter fun f => fnKind f == kind).map fnIndex

/-- Whether the change set holds a function. -/
def inChg (s : State) (kind index : Nat) : Bool := (chgOf s kind).contains index

/-- R599: a function stops at the frame in progress. -/
def stopFn (fn : Nat) (s : State) : State :=
  let i := fnIndex fn
  match fnKind fn with
  | 0 => stopLane i s
  | 1 => stopSet i s
  | 2 => stopStream i s
  | 3 => modEngine (i / 4) (fun x => { x with stopF := x.stopF.set (i % 4) (some s.rru.f) }) s
  | 5 => stopSequences s
  | _ => s

/-! ## What a function owns (R594, R601) -/

/-- R594: the busy lanes outside the change set. -/
def outsideLanes (s : State) : List Nat := (busyLanes s).filter fun m => !inChg s 0 m

/-- R594: a table that no lane outside the change set uses belongs to its lanes. -/
def tableOwned (s : State) (used : Nat → Bool) : Bool := !(chgOf s 0).isEmpty && !((outsideLanes s).any used)

/-- R594: the change set owns a geometry descriptor. -/
def geoOwned (s : State) (n : Nat) : Bool := tableOwned s fun m => (laneProg s m).exps.any fun e => e.geo == n

/-- R594: the change set owns a row map. -/
def mapOwned (s : State) (n : Nat) : Bool := tableOwned s fun m => (laneProg s m).exps.any fun e => e.map == n

/-- R594: the change set owns an exposure program. -/
def progOwned (s : State) (p : Nat) : Bool := tableOwned s fun m => (getLane s m).prog == p

/-- R523, R594: every group of an engine is in the change set, or is OFF and has nothing to stop. -/
def engineOwned (s : State) (e : Nat) : Bool :=
  (List.range 4).all fun g => inChg s 3 (4 * e + g) || groupSt s e g == .off

/-- R594: a line's owner, engine 0 to 3 as 1 to 4, allows a change of the line. -/
def ownerOwned (s : State) (o : Nat) : Bool := o == 0 || decide (4 < o) || engineOwned s (o - 1)

/-- R594: an engine register belongs to the change set. -/
def tgeOwned (s : State) (e o : Nat) : Bool :=
  if o = 0 ∨ o = 0x10 then !(chgOf s 3).isEmpty && engineOwned s e
  else if 0x20 ≤ o ∧ o < 0x30 then inChg s 3 (4 * e + (o - 0x20) / 4)
  else if 0x100 ≤ o ∧ o < 0x500 then inChg s 3 (4 * e + threadGroup s e ((o - 0x100) / 0x40))
  else false

/-- R594: a register belongs to a function of the change set; the value is the one that a change gives it. -/
def regOwned (s : State) (a : Nat) (v : Word) : Bool :=
  if a / 0x10000 = 1 then
    inChg s 4 0 &&
      ((decide (A.RRU_SRC_PRIO ≤ a) && decide (a ≤ A.RRU_OPT)) || (decide (A.RRU_PLL_CTRL ≤ a) && decide (a ≤ A.RRU_PLL_RESTART)) ||
        (decide (A.RRU_OUT_CFG 0 ≤ a) && decide (a ≤ A.RRU_OUT_CFG 7)))
  else if a / 0x10000 = 5 then
    (chgOf s 0).any fun m => a == A.EXS_LANE_CTRL m || a == A.EXS_FU_LANE m || (decide (A.EXS_LANE_RGB m 0 ≤ a) && decide (a ≤ A.EXS_LANE_RGB m 47))
  else if 0x41000 ≤ a ∧ a < 0x41400 then geoOwned s ((a - 0x41000) / 0x40)
  else if 0x42000 ≤ a ∧ a < 0x43000 then geoOwned s ((a - 0x42000) / 0x100)
  else if a / 0x10000 = 6 then (chgOf s 1).any fun n => a == A.PAT_SET_CTRL n
  else if a / 0x10000 = 9 then inChg s 5 0 && trcHeld a
  else if 0xA0100 ≤ a ∧ a < 0xA0160 then
    !(chgOf s 3).isEmpty && ownerOwned s ((rawReg s a).toNat % 8) && ownerOwned s (v.toNat % 8)
  else if 0xA1000 ≤ a ∧ a < 0xA5000 then tgeOwned s ((a - 0xA1000) / 0x1000) (a % 0x1000)
  else if 0xB1000 ≤ a ∧ a < 0xB2000 then inChg s 2 ((a - 0xB1000) / 0x80)
  else false

/-- R594, R353: a steward window that moves between sets belongs to both, and each is stopped. -/
def windowOwned (s : State) (w : Nat) : Bool :=
  (windows s).all fun x => x.id != w || inChg s 1 x.set || (getSet s x.set).st.idle

/-- R600: the types that a change set may stage. -/
def stageable : RecType → Bool
  | .raster | .pll | .geometry | .rowMap | .program | .windowSet | .trigger | .tracker | .stream => true
  | _ => false

/-- R594, R601: every setting that a record touches belongs to a function of the change set. -/
def recOwned (s : State) (t : RecType) (p : List Byte) : Bool :=
  let i := fieldAt p 0 1
  match t with
  | .raster | .pll => inChg s 4 0
  | .geometry => geoOwned s i
  | .rowMap => mapOwned s i
  | .program => progOwned s i && (fieldAt p 1 1 == 0xFF || inChg s 0 (fieldAt p 1 1))
  | .windowSet => inChg s 1 i && (recWindows p).all fun w => windowOwned s w.id
  | .trigger => decide (i < 4) && !(chgOf s 3).isEmpty && engineOwned s i
  | .tracker => inChg s 5 0 && i == getF s R.TRC_CTRL_REF_SEL
  | .stream => inChg s 2 i
  | _ => false

/-! ## The configuration that results (R604, R605) -/

/-- The item belongs to the raster source/PLL. -/
def rasterItem : ChgItem → Bool
  | .reg a _ _ => a.toNat / 0x10000 == 1
  | .record c _ => c % 2 ^ 15 == 1 || c % 2 ^ 15 == 2

/-- R602: bytes of staging memory that an item takes. -/
def itemCost : ChgItem → Nat
  | .reg _ _ _ => 12
  | .record _ p => 8 + (p.length + 3) / 4 * 4

/-- The record items of a list that the head knows, in the order of R573. -/
def itemRecords (l : List ChgItem) : List (RecType × List Byte) :=
  sortBy (fun a b => decide (a.1.rank ≤ b.1.rank)) (l.filterMap fun i => match i with
    | .record c p => (recType c).map fun t => (t, p)
    | _ => none)

/-- R605: a record item enters a configuration; a WINDOW_SET record replaces the steward windows of its set. -/
def loadItem (t : RecType) (p : List Byte) (s : State) : State :=
  let s := if t = .windowSet then
      forEach ((windows s).filter fun w => w.set == fieldAt p 0 1 && w.tenant.isNone && decide (w.id < poolBase)) (fun w => clearWindow w.id) s
    else s
  recLoad t p s

/-- R605: the items enter a configuration, the records first, in the order of R573, and then the register items. -/
def loadItems (l : List ChgItem) (s : State) : State :=
  let s := forEach (itemRecords l) (fun x => loadItem x.1 x.2) s
  forEach l (fun i t => match i with
    | .reg a m v => setRaw a.toNat (patchValue t (a.toNat, m, v)) t
    | _ => t) s

/-- R604: the configuration that items would give, with the functions of the change set stopped. -/
def chgScratch (s : State) (l : List ChgItem) : State :=
  let t := applyStaged (endFresh s)
  let t := forEach (chgOf s 0) (fun m => modLane m fun x => { x with st := .stopped }) t
  let t := forEach (chgOf s 1) (fun n => modSet n fun x => { x with st := .stopped }) t
  let t := forEach (chgOf s 2) (fun i => modStream i fun x => { x with st := .stopped }) t
  loadItems l t

/-- Everything staged that is not yet in force. -/
def chgItems (s : State) : List ChgItem := s.chg.kept ++ s.chg.pend.flatten ++ s.chg.items

/-- R611: the raster registers whose change restarts acquisition. -/
def acqRegs : List Nat :=
  [A.RRU_PLL_CTRL, A.RRU_PLL_NDIV, A.RRU_PLL_LOCK, A.RRU_PLL_RESTART, A.RRU_TL, A.RRU_TL_VRR, A.RRU_LPER_LO, A.RRU_LPER_HI]

/-- R611: items restart acquisition. -/
def acqChange (s t : State) : Bool :=
  acqRegs.any (fun a => stagedReg s a != rawReg t a) ||
    ((stagedReg s A.RRU_GEOM ^^^ rawReg t A.RRU_GEOM) &&& ~~~(R.RRU_GEOM_TERM.put 0 1)) != 0 ||
    (s.rru.active == .ptpSchedule &&
      [A.RRU_EPOCH_NS, R.RRU_EPOCH_SEC_LO.addr, R.RRU_EPOCH_SEC_HI.addr].any fun a => stagedReg s a != rawReg t a)

/-! ## Checks of STAGE (R601, R714) -/

/-- R601: an RWL field that a word of a locked block would change. -/
def lockedChange (s : State) (a : Nat) (v : Word) : Bool :=
  lockedBlock s (a / 0x10000) && ((rawReg s a ^^^ v) &&& maskOf (fun d => d.acc == .rwl) (fieldsAt a)) != 0

/-- R601: the system fields of a PLL record are those in force. -/
def sysFieldsSame (s : State) (p : List Byte) : Bool :=
  fieldAt p 44 1 == getF s R.RRU_SYS_CTRL_SRC && fieldAt p 45 1 == getF s R.RRU_SYS_CTRL_FAILOVER_EN

/-- R619: a head in member or root role keeps the raster and the mosaic-relevant records out of a change set of its own. -/
def mosaicScope (s : State) : Bool := (s.mos.st == .member || s.mos.st == .root) && !s.chg.mosaic

/-- R570, R601: the status that refuses a register item after the items before it, 0 where it passes. -/
def regItemFault (s : State) (before : List ChgItem) (a : Nat) (m v : Word) : Nat :=
  if a % 4 ≠ 0 ∨ 0x120000 ≤ a ∨ a / 0x10000 = 0xE ∨ (findFamily a).isNone then 3
  else
    let t := chgScratch s before
    let e := (a, m, v)
    if !regOwned s a (patchValue t e) then 4
    else if (patchFault t e).isSome || lockedChange s a (patchValue t e) then 3
    else 0

/-- R601: the status that refuses a record item among the records of its message, 0 where it passes. -/
def recItemFault (s : State) (l : List ChgItem) (c : Nat) (p : List Byte) : Nat :=
  match recType c with
  | none => 3
  | some t =>
    if (t = .raster ∨ t = .pll ∨ t = .mosaic) ∧ mosaicScope s then 6
    else if !stageable t || !recLengthOk t p then 3
    else if !recOwned s t p then 4
    else
      let u := chgScratch s l
      if recFaults t p u ≠ [] then 3
      else if (recFields t p).any fun f => f.fld.addr != A.RRU_SYS_CTRL && lockedChange s f.fld.addr (rawReg u f.fld.addr) then 3
      else if t = .pll ∧ !sysFieldsSame s p then 3
      else 0

/-- R601: the first item of a message that fails, with its status. -/
def stageFault (s : State) (msg : List ChgItem) : Option (Nat × Nat) :=
  let recs := chgItems s ++ msg.filter fun i => match i with
    | .record _ _ => true
    | _ => false
  (List.range msg.length).findSome? fun i =>
    let st := match msg[i]? with
      | some (.reg a m v) => regItemFault s (chgItems s ++ msg.take i) a.toNat m v
      | some (.record c p) => recItemFault s recs c p
      | none => 0
    if st = 0 then none else some (i, st)

/-! ## Life of a change set -/

/-- The state that `CFG_CHG_STATUS` shows of an open change set that is not ARMED. -/
def chgState (c : Chg) : ChgState :=
  if c.pend ≠ [] then .split else if c.stopDone then .stopped else .stopping

/-- Changes the open change set and its state. -/
def modChg (f : Chg → Chg) : State → State :=
  State.onChg fun c =>
    let c := f c
    if c.st = .idle ∨ c.st = .armed then c else { c with st := chgState c }

/-- R597: the change set ends; the reply that it owes stays owed. -/
def closeChange (s : State) : State :=
  freeLease 7 (s.onChg fun c => { step := c.step, stopF := c.stopF, rstF := c.rstF, reply := c.reply })

/-- R617: the change set is discarded with all that it owes. -/
def discardChange (cause : Nat) (s : State) : State :=
  let s := if s.chg.st = .idle then s else closeChange (raise 0x1227 [.h cause] s)
  s.onChg fun c => { c with reply := none }

/-- R616: a session's message renews the lease of its open change set. -/
def touchChange (n : Nat) (s : State) : State :=
  if s.chg.st != .idle && !s.chg.mosaic && s.chg.session == n then takeLease 7 (0x80 + n) s else s

/-- R599, R600, R604, R727: STOP, STAGE and RESTART are not permitted in the head's state, with the answer. -/
def changeBarred (s : State) : Option Answer :=
  if s.head.coreRestart then some ⟨1, 1, []⟩
  else if s.head.st == .hold then some ⟨0xE, 0, []⟩
  else none

/-- R595, R598: the first function of a STOP that is out of range, not running or named twice. -/
def stopFault (s : State) : List Nat → Option Nat
  | [] => none
  | f :: l => if !fnRunning s f || l.contains f then some f else stopFault s l

/-- R597, R599, R762: a change set opens. -/
def openChange (owner session : Nat) (mosaic splitOk : Bool) (f : Nat) (fns : List Nat) (s : State) : State :=
  takeLease 7 owner (s.onChg fun c =>
    { st := .stopping, session := session, mosaic := mosaic, splitOk := splitOk, fns := fns, stopF := f, reply := c.reply })

/-- R597, R598, R619: STOP. -/
def changeStop (n : Nat) (splitOk : Bool) (f : Nat) (fns : List Nat) (s : State) : Answer × State :=
  match changeBarred s with
  | some a => (a, s)
  | none =>
    if s.chg.st ≠ .idle then (⟨1, 0, []⟩, s)
    else if f < s.rru.f + 2 ∨ s.rru.f + 65536 < f then (⟨2, 0, []⟩, s)
    else if fns = [] ∨ 64 < fns.length then (⟨3, 0, []⟩, s)
    else if fns.contains 0x4000 ∧ mosaicScope s then (⟨6, 0, []⟩, s)
    else match stopFault s fns with
      | some fn => (⟨3, fn, []⟩, s)
      | none => (.ok, openChange (0x80 + n) n false splitOk f fns s)

/-- R603, R612: a step would be atomic no more and is refused. -/
def rejectNonatomic (cause : Nat) (s : State) : Answer × State :=
  (⟨5, cause, []⟩, addF R.CFG_CHG_CNT_NONATOMIC 1 (raise 0x1224 [.h cause] s))

/-- R162: the descriptors that items set. -/
def itemGeos (l : List ChgItem) : List Nat :=
  (l.flatMap fun i => match i with
    | .reg a _ _ =>
      let a := a.toNat
      if 0x41000 ≤ a ∧ a < 0x41400 then [(a - 0x41000) / 0x40]
      else if 0x42000 ≤ a ∧ a < 0x43000 then [(a - 0x42000) / 0x100] else []
    | .record c p => if c % 2 ^ 15 = 4 then [fieldAt p 0 1 % 16] else []).eraseDups

/-- The words of a descriptor. -/
def geoAddrs (n : Nat) : List Nat := [A.CRO_GEO_CTRL n, A.CRO_GEO_COLS n] ++ (List.range 48).map fun w => A.CRO_GEO_RGB n w

/-- R207: the programs that items set, or that they give to a lane of the configuration that results. -/
def itemProgs (t : State) (l : List ChgItem) : List Nat :=
  (l.flatMap fun i => match i with
    | .reg a _ _ => ((List.range 4).filter fun m => a.toNat == A.EXS_LANE_CTRL m).map fun m => getF t (R.EXS_LANE_CTRL_PROG m)
    | .record c p => if c % 2 ^ 15 = 5 then [fieldAt p 0 1] else []).eraseDups

/-- R162, R207, R611: what the staged items say of descriptors, of programs and of acquisition. -/
def noteStaged (s : State) : State :=
  let t := chgScratch s (chgItems s)
  let refs := ((itemProgs t (chgItems s)).flatMap fun p => (getProg t p).exps.map ExpEntry.geo).eraseDups
  let idx := (itemGeos (chgItems s) ++ refs).eraseDups
  let regs := (idx.flatMap geoAddrs).map fun a => (a, rawReg t a)
  s.onChg fun c => { c with geoIdx := idx, geoRegs := regs, refs := refs, acq := inChg s 4 0 && acqChange s t }

/-- R600 to R603, R890: STAGE. -/
def changeStage (n : Nat) (items : List ChgItem) (s : State) : Answer × State :=
  match changeBarred s with
  | some a => (a, s)
  | none =>
    if s.chg.st = .idle ∨ s.chg.st = .armed then (⟨0xE, 0, []⟩, formerActs 7 (0x80 + n) s)
    else if !s.chg.mosaic ∧ s.chg.session ≠ n then (⟨1, 0, []⟩, formerActs 7 (0x80 + n) s)
    else match stageFault s items with
      | some (i, st) => (⟨st, i, []⟩, s)
      | none =>
        let cost := (items.map itemCost).sum
        let full := decide (4194304 < s.chg.used + cost)
        if full ∧ (!s.chg.splitOk ∨ 4194304 < cost ∨ 255 ≤ s.chg.step + s.chg.pend.length) then rejectNonatomic 0 s
        else
          let s := modChg (fun c =>
            if full then { c with pend := c.pend ++ [c.items], items := items, used := cost }
            else { c with items := c.items ++ items, used := c.used + cost }) s
          let s := noteStaged s
          (⟨0, 0, [BitVec.ofNat 32 s.chg.used]⟩, s)

/-- R571, reason 14: what a combined check finds wrong. -/
inductive CheckBreak where
  | geometry
  | lane (m : Nat) (a : Admission)
  | plan (set : Nat) (b : Nat × (Nat × Nat))
  | code (group : Nat)
  | streams (b : Nat × Nat)
  deriving DecidableEq, Repr

/-- R271, R280, R358, R522, R650: the event of a combined check that fails. -/
def breakEvent (x : CheckBreak) (s : State) : State :=
  match x with
  | .geometry => s
  | .lane m a => admissionEvent m a s
  | .plan set b => planEvent set b s
  | .code g => raise 0x0A09 [.w g] s
  | .streams b => admissionReject b s

/-- R604: the combined checks of reason 14 on the configuration that results, with the lanes that a split step would stop: the
function that fails, and what is wrong. -/
def chgCheck (s t : State) (out : List Nat) : Option (Nat × CheckBreak) :=
  let lanes := ((chgOf s 0).filter fun m => flagF t (R.EXS_LANE_CTRL_EN m)) ++ out
  let others := fun m => (lanes.filter (· != m)).map (laneSetting t) ++
    ((busyLanes t).filter fun k => !out.contains k).map fun k => (laneProg t k, (getLane t k).rgb)
  let sets := (chgOf s 1).filter fun n => flagF t (R.PAT_SET_CTRL_EN n)
  if (List.range 16).any fun n => (geoOf t n).valid && !geoOk (geoOf t n) then some ((chgOf s 0).headD 0, .geometry)
  else match lanes.find? fun m => admission t m (others m) != .ok with
    | some m => some (m, .lane m (admission t m (others m)))
    | none =>
      let off := (chgOf s 1).filter fun n => !sets.contains n
      match planBreak ((planWindows t sets).filter fun w => !off.contains w.set) with
      | some b => let n := (sets ++ chgOf s 1).headD 0; some (0x1000 + n, .plan n b)
      | none => match (chgOf s 3).find? fun i => !codeCheck t (i / 4) (i % 4) with
        | some i => some (0x3000 + i, .code i)
        | none => match admissionBreak (getF t R.LNK_PORT_CFG_MODE) (admittedCfgs t) with
          | some b => some (0x2000 + (chgOf s 2).headD 0, .streams b)
          | none => none

/-- R612: the lanes outside the change set that an acquisition restart would interrupt. -/
def interruptedLanes (s : State) : List Nat :=
  (outsideLanes s).filter fun m => (getLane s m).st == .running || (getLane s m).st == .draining

/-- R605, R616: an accepted RESTART arms the change set; the copy starts. -/
def armChange (discard acq : Bool) (f : Nat) (reply : Option (Nat × BitVec 64)) (s : State) : State :=
  s.onChg fun c =>
    { c with st := .armed, rstF := f, discard := discard, acq := acq, copied := false, start := none,
             reply := reply.map fun r => ⟨r.1, r.2, none⟩ }

/-- R604 to R607, R612: RESTART; an accepted one is answered when the functions start. -/
def restartChange (discard : Bool) (f : Nat) (reply : Option (Nat × BitVec 64)) (s : State) : Option Answer × State :=
  if s.chg.st = .idle ∨ s.chg.st = .armed then (some ⟨0xE, 0, []⟩, s)
  else if f < s.chg.stopF + 1 then (some ⟨2, 0, []⟩, s)
  else if discard then
    (none, armChange true false f reply (s.onChg fun c => { c with items := [], pend := [], kept := [], geoIdx := [], geoRegs := [], refs := [] }))
  else
    let t := chgScratch s (chgItems s)
    let acq := inChg s 4 0 && acqChange s t
    let out := if acq then interruptedLanes s else []
    if out ≠ [] ∧ !s.chg.splitOk then
      let (a, s) := rejectNonatomic 1 s
      (some a, s)
    else match chgCheck s t out with
      | some (fn, x) => (some ⟨0x10, 14, []⟩, raise 0x1223 [.h 14, .h fn] (breakEvent x s))
      | none =>
        (none, armChange false acq f reply (s.onChg fun c => { c with fns := c.fns ++ out, laneStep := out }))

/-- R607: a RESTART with DISCARD logs its entry. -/
def changeRestart (n : Nat) (discard : Bool) (f : Nat) (s : State) : Option Answer × State :=
  match changeBarred s with
  | some a => (some a, s)
  | none =>
    if !s.chg.mosaic ∧ s.chg.st ≠ .idle ∧ s.chg.session ≠ n then (some ⟨1, 0, []⟩, formerActs 7 (0x80 + n) s)
    else
      let s := formerActs 7 (0x80 + n) s
      let (a, s) := restartChange discard f (some (currentReq s n)) s
      (a, if discard ∧ a.isNone then raise 0x1227 [.h 0] s else s)

/-- R605: the copy of the staged items ends. -/
def doChangeCopyComplete (s : State) : State :=
  if s.chg.st = .armed then s.onChg fun c => { c with copied := true } else s

/-- R616: the session of the change set has been silent for LEASE. -/
def changeRevoked (s : State) : State :=
  let code := match s.chg.st with
    | .idle => 0
    | .stopping => 1
    | .stopped => 2
    | .armed => 3
    | .split => 4
  let s := addF R.CFG_CHG_CNT_REVOKED 1 (raise 0x1226 [.h code] s)
  (restartChange true (s.chg.stopF + 1) none s).2

/-- R616, R888: the lease of the staging memory expires. -/
def doChangeLeaseExpired (s : State) : State :=
  if s.chg.st ≠ .idle ∧ s.chg.st ≠ .armed ∧ !s.chg.mosaic ∧ (getLease s 7).expires ≤ s.now then changeRevoked (leaseRevoked 7 s) else s

/-! ## Frame boundaries -/

/-- R606: every function of the change set has stopped. -/
def chgQuiet (s : State) : Bool := s.chg.stopDone && s.chg.laneStep.isEmpty && s.chg.fns.all (fnStopped s)

/-- R613: the frame at which the named lanes and sets start. -/
def laneStart (c : Chg) (f : Nat) : Nat := if c.acq then f + 1 else f

/-- R604, R605, R607: streams start; those that admission now refuses stay STOPPED. -/
def startStreams (l : List Nat) (g : Nat) (s : State) : State :=
  match l, admissionBreak (getF s R.LNK_PORT_CFG_MODE) (admittedCfgs s) with
  | [], _ => s
  | l, none => forEach l (fun i => armStream i (some g)) s
  | l, some b => forEach (l.filter fun i => !flagF s (R.LNK_STR_CTRL_EN i)) (fun i => armStream i (some g)) (admissionReject b s)

/-- R605, R606: once the copy has ended and the functions have stopped, the start frame is fixed and the settings of the stopped
functions take effect. -/
def settleChange (s : State) : State :=
  if s.chg.st = .armed ∧ s.chg.copied ∧ s.chg.start.isNone ∧ s.chg.pend.isEmpty ∧ chgQuiet s then
    let f := max s.chg.rstF (nextF s)
    let s := if f ≠ s.chg.rstF then raise 0x1228 [.w s.chg.rstF, .w f] s else s
    let s := loadItems (s.chg.items.filter fun i => !rasterItem i) s
    let g := laneStart s.chg f
    let s := s.onChg fun c =>
      { c with start := some f, geoIdx := [], geoRegs := [], refs := [], kept := c.kept ++ c.items.filter rasterItem
               reply := c.reply.map fun r => { r with frame := some g } }
    let named := laneStart s.chg s.chg.rstF
    let s := forEach (chgOf s 0) (fun m => startLane m (some named)) s
    let (on, off) := (chgOf s 1).partition fun n => flagF s (R.PAT_SET_CTRL_EN n)
    let s := forEach (off ++ on) (fun n => startSet n (some named)) s
    startStreams (chgOf s 2) g s
  else s

/-- The start frame of an armed change set has come. -/
def chgDue (s : State) (f : Nat) : Bool :=
  s.chg.st == .armed && match s.chg.start with
    | some g => decide (g ≤ f)
    | none => false

/-- R20, R605, R611: the raster items take effect with frame f; their RWS fields go through the staged values. -/
def chgRaster (f : Nat) (s : State) : State :=
  if chgDue s f ∧ s.chg.kept ≠ [] then
    let t := chgScratch s s.chg.kept
    let regs := (List.range 0x88).map fun i => 0x10000 + 4 * i
    forEach regs (fun a s =>
      let v := rawReg t a
      if v = stagedReg s a then s
      else
        let rws := maskOf (fun d => d.acc == .rws) (fieldsAt a)
        let s := setRaw a ((rawReg s a &&& rws) ||| (v &&& ~~~rws)) s
        if rws = 0 then s else { s with staged := Tbl.set s.staged a v }) s
  else s

/-- R61, R64, R611: the one acquisition restart of a change set, or the stop of the raster PLL. -/
def chgAcquire (s : State) : State :=
  if !s.chg.acq then s
  else if flagF s R.RRU_PLL_CTRL_EN then acqAbandons (acqRestart 0x110 s)
  else stopPll (raise 0x0107 [.h 0x110] s)

/-- R614: the split steps that wait take effect on the stopped functions. -/
def applySteps (s : State) : State :=
  if s.chg.pend ≠ [] ∧ chgQuiet s then
    noteStaged (forEach s.chg.pend (fun l s =>
      let s := loadItems (l.filter fun i => !rasterItem i) s
      let s := modChg (fun c => { c with step := c.step + 1, pend := c.pend.drop 1, kept := c.kept ++ l.filter rasterItem }) s
      raise 0x1225 [.h s.chg.step, .w s.rru.f] s) s)
  else s

/-- R612, R614: the lanes that a split step adds stop. -/
def stepLanes (s : State) : State :=
  if s.chg.laneStep ≠ [] then
    let s := forEach s.chg.laneStep stopLane s
    let s := modChg (fun c => { c with laneStep := [], step := c.step + 1 }) s
    raise 0x1225 [.h s.chg.step, .w s.rru.f] s
  else s

/-- R599: the functions stop at the stop frame; a lane, a set or a stream that is ARMED then stops at the boundary after its
start (R271, R374, R633). -/
def chgStops (s : State) : State :=
  if s.chg.st = .idle ∨ s.rru.f < s.chg.stopF then s
  else if s.chg.stopDone then
    if s.chg.start.isSome then s
    else forEach (chgOf s 2) stopStream (forEach (chgOf s 1) stopSet (forEach (chgOf s 0) stopLane s))
  else
    let s := forEach s.chg.fns stopFn s
    raise 0x1221 [.h s.chg.fns.length, .w s.rru.f] (modChg (fun c => { c with stopDone := true }) s)

/-- R605, R613: the functions that start at the boundary itself start, and the change set ends. -/
def chgStarts (s : State) : State :=
  if chgDue s s.rru.f then
    let f := s.rru.f
    let s := chgAcquire s
    let s := forEach (chgOf s 3) (fun i s =>
      if groupSt s (i / 4) (i % 4) == .stopped then (restartGroup (i / 4) (i % 4) f s).2 else s) s
    let s := if inChg s 5 0 then startSequences s else s
    let s := if s.chg.discard then s else raise 0x1222 [.w f, .w s.chg.used] s
    closeChange s
  else s

/-- R599, R605, R614: the change set at the boundary that starts a frame. -/
def chgBoundary (s : State) : State := chgStarts (applySteps (stepLanes (chgStops s)))

/-- R715: the reply of an accepted RESTART leaves at the frame at which the functions started. -/
def chgReply (s : State) : State :=
  match s.chg.reply with
  | some ⟨n, req, some g⟩ =>
    if g ≤ s.rru.f ∧ s.rru.rpValid then
      let f := s.rru.f
      answerSession n req ⟨0, 0, [BitVec.ofNat 32 (f / 256), BitVec.ofNat 32 (f % 256 * 2 ^ 24)]⟩ (s.onChg fun c => { c with reply := none })
    else s
  | _ => s

/-! ## The operations of a steward session -/

/-- R703, R711: an answer to the request in execution of a session. -/
def answerCurrent (n : Nat) (a : Answer) (s : State) : State := answerSession n (currentReq s n).2 a s

/-- R597, R598: a steward session sends STOP. -/
def doChangeStop (n : Fin 4) (splitOk : Bool) (f : Nat) (fns : List Nat) (s : State) : State :=
  if (getSession s n).opened then
    let (a, s) := changeStop n splitOk f fns (touchChange n s)
    answerCurrent n a s
  else s

/-- R600, R601: a steward session sends STAGE. -/
def doChangeStage (n : Fin 4) (items : List ChgItem) (s : State) : State :=
  if (getSession s n).opened then
    let (a, s) := changeStage n items (touchChange n s)
    answerCurrent n a s
  else s

/-- R604, R607: a steward session sends RESTART. -/
def doChangeRestart (n : Fin 4) (discard : Bool) (f : Nat) (s : State) : State :=
  if (getSession s n).opened then
    match changeRestart n discard f (touchChange n s) with
    | (some a, s) => answerCurrent n a s
    | (none, s) => s
  else s

/-- `CFG_CHG_STATUS` and the registers that show the change set. -/
def readChg (s : State) (a : Nat) : Option Word :=
  let c := s.chg
  let w (n : Nat) : Word := BitVec.ofNat 32 n
  let code := match c.st with
    | .idle => 0
    | .stopping => 1
    | .stopped => 2
    | .armed => 3
    | .split => 4
  if a = R.CFG_CHG_STATUS_STATE.addr then
    some (w (code * 2 ^ 29 + bit c.splitOk * 2 ^ 28 + bit (inChg s 4 0) * 2 ^ 27 + bit c.acq * 2 ^ 26 + c.step % 256 * 2 ^ 16 + c.fns.length % 128))
  else if a = A.CFG_CHG_USED then some (w c.used)
  else if a = A.CFG_CHG_STOP_F_LO then some (w c.stopF)
  else if a = A.CFG_CHG_STOP_F_HI then some (w (c.stopF / 2 ^ 32 % 256))
  else if a = A.CFG_CHG_RST_F_LO then some (w c.rstF)
  else if a = A.CFG_CHG_RST_F_HI then some (w (c.rstF / 2 ^ 32 % 256))
  else none

end Sys2Proof.Machine
end

