-- ==== Sys2Proof/Machine/Barrier.lean ====
section
/-! DEFINITION. Chapter 17, the barriers of a mosaic: what the root issues, what a head latches, takes and reports, and the STATE
cells (R758 to R764, R766, R770). -/

namespace Sys2Proof.Machine

/-! ## The root's barriers -/

/-- R758: the commands of a barrier, by their codes. -/
def barArm : Nat := 1
def barStop : Nat := 2
def barStart : Nat := 3

/-- R759: the head takes part in barriers. -/
def barrierPart (s : State) : Bool :=
  (s.mos.st == .member || s.mos.st == .root) && !s.mos.discordant && s.head.st != .hold

/-- R770: barriers that the head has latched still apply at their frames in a partition. -/
def barrierApplies (s : State) : Bool :=
  barrierPart s || ((s.mos.st == .interimRoot || s.mos.st == .partitioned) && !s.mos.discordant && s.head.st != .hold)

/-- R773: the root issues barriers. -/
def mayIssue (s : State) : Bool := s.mos.st == .root && s.pwr.pf == .normal && s.head.st != .hold

/-- R737, R759: the FNs of one BARRIER cell. -/
def partFns (b : Barrier) (k : Nat) : List Nat := ((b.parts.find? fun p => p.1 == k).map Prod.snd).getD []

/-- R759: the functions of a barrier. -/
def Barrier.fns (b : Barrier) : List Nat := (List.range b.nPart).flatMap (partFns b)

/-- R759: every part has been received. -/
def Barrier.whole (b : Barrier) : Bool := b.parts.length == b.nPart

/-- R737, R759: the cells of a barrier leave on both ports. -/
def sendBarrier (b : Barrier) (s : State) : State :=
  forEach b.parts (fun p s =>
    let body := [b.bseq, b.cmd, bit b.splitOk + bit b.discard * 2, b.f, p.1, b.nPart, p.2.length] ++ p.2 ++ List.replicate (18 - p.2.length) 0
    sendCell .barrier 1 0 body (sendCell .barrier 0 0 body s)) s

/-- R759: the parts of a list of functions. -/
def barrierParts (fns : List Nat) : List (Nat × List Nat) :=
  let n := max 1 ((fns.length + 17) / 18)
  (List.range n).map fun k => (k, (fns.drop (18 * k)).take 18)

/-- R758, R773: the root issues a barrier, in which it takes part itself. -/
def issueBarrier (cmd : Nat) (splitOk discard : Bool) (f : Nat) (fns : List Nat) (s : State) : State :=
  if s.pwr.pf != .normal then s
  else
    let ps := barrierParts fns
    let b : Barrier := { bseq := s.mos.issued + 1, cmd := cmd, splitOk := splitOk, discard := discard, f := f, nPart := ps.length, parts := ps }
    sendBarrier b (s.onMos fun m =>
      { m with issued := m.issued + 1, received := m.issued + 1, history := b :: m.history, latched := m.latched ++ [b] })

/-- R760, R761: an ARM is issued; the READY reports are counted anew. -/
def issueArm (s : State) : State :=
  if s.pwr.pf != .normal then s
  else issueBarrier barArm false false 0 [] (s.onMos fun m => { m with ready := [], armTb := some s.now, startIssued := false })

/-- R760: the frame of the START that follows an ARM, and of requested barriers at the earliest. -/
def leadFrame (s : State) : Nat := s.rru.f + getF s R.MOS_TIMING_START_LEAD

/-- R760: START of the ARMED functions. -/
def issueStart (s : State) : State :=
  issueBarrier barStart false false (leadFrame s) [] (s.onMos fun m => { m with startIssued := true, armTb := none })

/-- R760: the heads of the mosaic have all reported READY. -/
def armReady (s : State) : State :=
  if mayIssue s ∧ s.mos.armTb.isSome ∧ !s.mos.startIssued ∧ s.mos.expected ≤ s.mos.ready.length then issueStart s
  else s

/-- R760: after an image apply, a head that is root issues ARM. -/
def armDue (s : State) : State :=
  if mayIssue s ∧ s.mos.record ∧ s.mos.issued = 0 ∧ !s.mos.startIssued ∧ s.head.applied then issueArm s else s

/-- R760: ARM_TIMEOUT passes before every head has reported READY. -/
def doArmTimeout (s : State) : State :=
  match s.mos.armTb with
  | some t =>
    if mayIssue s ∧ !s.mos.startIssued ∧ t + getF s R.MOS_TIMING_ARM_TIMEOUT * 10 * milli ≤ s.now then
      let n := s.mos.ready.length
      let s := if n < s.mos.expected then raise 0x0D10 [.h s.mos.expected, .h n, .h (viewHeads s)] s else s
      issueStart s
    else s
  | none => s

/-! ## Reports (R758, R763) -/

/-- R737, R763: a REPORT cell leaves towards the root; the root takes its own result at once. -/
def report (bseq result reason : Nat) (s : State) : State :=
  if s.mos.st = .root then
    if result = 0 then s.onMos fun m => { m with ready := (mosaicId s :: m.ready).eraseDups }
    else if result = 2 then raise 0x0D0E [.h (mosaicId s), .h reason] s
    else s
  else
    let port := if (getPort s 1).primary then 1 else 0
    let flags := bit (flagF s R.MOS_CFG_ROOT_CLAIM) + bit s.mos.discordant * 2 + bit (s.head.st == .hold) * 4 + bit (s.mos.st == .refused) * 8
    sendCell .report port 0 [bseq, result, reason, s.mos.st.code, flags, (BitVec.ofInt 32 s.mos.offset).toNat] s

/-- R758: an ARM is answered READY once the image is applied and the raster is locked. -/
def reportReady (s : State) : State :=
  match s.mos.armDue with
  | some n =>
    if barrierPart s ∧ s.head.applied ∧ s.rru.pll = .locked ∧ (s.mos.st = .root ∨ s.rru.active = .mosaic) ∧ !s.head.coreRestart then
      report n 0 0 (s.onMos fun m => { m with armDue := none, applied := n })
    else s
  | none => s

/-! ## Taking a barrier (R758, R762, R764) -/

/-- R764: the frames from a barrier's frame on, up to the boundary at which the head catches up, carry GAP in the results of the
functions that stop. -/
def lateGap (fns : List Nat) (f : Nat) (s : State) : State :=
  forEach fns (fun fn s =>
    match fnKind fn with
    | 0 => noteFlags (fnIndex fn) f (s.rru.f - 1) flagGap s
    | 1 => modSet (fnIndex fn) (fun x => { x with
        ivls := x.ivls.map fun i => if f < i.first + i.frames then { i with flags := i.flags ||| flagGap } else i }) s
    | _ => s) s

/-- R758: a STOP barrier opens a change set; the status that refuses it. -/
def takeStop (b : Barrier) (s : State) : Nat × State :=
  if s.chg.st ≠ .idle then (1, s)
  else if b.fns = [] ∨ 64 < b.fns.length ∨ (stopFault s b.fns).isSome then (3, s)
  else (0, openChange 0xD 0 true b.splitOk b.f b.fns s)

/-- R272, R370, R758: the ARMED lanes, window sets and streams take their start frame. -/
def startArmed (f : Nat) (s : State) : State :=
  let s := forEach (List.range 4) (fun m s =>
    let x := getLane s m
    if x.st = .armed ∧ x.start.isNone then modLane m (fun x => { x with start := some f }) s else s) s
  let s := forEach (liveSets s) (fun n s =>
    let x := getSet s n
    if x.st = .armed ∧ x.start.isNone then modSet n (fun x => { x with start := some f }) s else s) s
  forEach (s.lnk.streams.map Prod.fst) (fun i s =>
    let x := getStream s i
    if x.st = .armed ∧ x.start.isNone then modStream i (fun x => { x with start := some f }) s else s) s

/-- R758: a START barrier starts the ARMED functions, or restarts the open change set; the reason that refuses it. -/
def takeStart (b : Barrier) (s : State) : Nat × State :=
  if s.chg.st = .idle ∧ b.fns = [] then (0, startArmed b.f (s.onMos fun m => { m with startIssued := true }))
  else
    let (a, s) := restartChange b.discard b.f none s
    match a with
    | some a => (if a.status = 0x10 then a.detail else a.status, s)
    | none => (0, if b.discard then raise 0x1227 [.h 0] s else s)

/-- R758, R763: a barrier takes effect on the head, and its result is reported. -/
def takeBarrier (b : Barrier) (s : State) : State :=
  let s := s.onMos fun m => { m with applied := b.bseq }
  if b.cmd = barArm then s.onMos fun m => { m with armDue := some b.bseq }
  else
    let (r, s) := if b.cmd = barStop then takeStop b s else takeStart b s
    report b.bseq (if r = 0 then 1 else 2) r s

/-- R764: a missed barrier is counted. -/
def noteMissed (b : Barrier) (late : Nat) (s : State) : State := addF R.MOS_CNT_MISSED 1 (raise 0x0D0D [.h b.bseq, .w late] s)

/-- R764: the barrier's frame has passed. -/
def barrierLate (s : State) (b : Barrier) : Bool := b.cmd != barArm && decide (b.f ≤ s.rru.f) && s.rru.fUsed

/-- R918: a START waits for the end of a change set of the head's own. -/
def startWaits (s : State) (b : Barrier) : Bool := b.cmd == barStart && s.chg.st != .idle && !s.chg.mosaic

/-- R758, R764, R770, R773, R918: the latched barriers take effect: at once while their frame is to come, else at a frame boundary. -/
def takeBarriers (boundary : Bool) (s : State) : State :=
  if s.head.coreRestart || !barrierApplies s then s
  else
    let ready := s.mos.latched.filter fun b => b.whole && !b.taken && !startWaits s b && (boundary || !barrierLate s b)
    forEach ready (fun b s =>
      let late := barrierLate s b
      let s := s.onMos fun m => { m with latched := m.latched.map fun x => if x.bseq = b.bseq then { x with taken := true } else x }
      let s := if late then
          let s := noteMissed b (s.rru.f - b.f) s
          if b.cmd = barStop then lateGap b.fns b.f s else s
        else s
      takeBarrier b s) s

/-- R764: the barriers whose frame has come leave the list; one whose frame was skipped counts as missed. -/
def passBarriers (s : State) : State :=
  let gone := s.mos.latched.filter fun b => b.taken && (b.cmd == barArm || decide (b.f ≤ s.rru.f))
  let skipped := gone.filter fun b => b.cmd != barArm && decide (b.f < s.rru.f)
  let s := s.onMos fun m => { m with latched := m.latched.filter fun b => !(b.taken && (b.cmd == barArm || decide (b.f ≤ s.rru.f))) }
  forEach skipped (fun b => noteMissed b (s.rru.f - b.f)) s

/-- R737, R766: the root or interim root sends its STATE cell. -/
def sendState (s : State) : State :=
  if !distributes s then s
  else
    let body := [s.rru.f, s.mos.issued, s.mos.minor, viewHeads s] ++ (mosaicDigest s).map BitVec.toNat
    sendCell .state 1 0 body (sendCell .state 0 0 body s)

/-- R759, R773: the root sends every barrier again until its frame is reached, an ARM until its START has been issued. -/
def resendBarriers (s : State) : State :=
  if s.mos.st = .root ∧ s.head.st ≠ .hold then
    forEach (s.mos.history.filter fun b => if b.cmd = barArm then s.mos.armTb.isSome else decide (s.rru.f < b.f)) sendBarrier s
  else s

/-- R746: the lowest minor version among the heads that have joined. -/
def rootMinor (s : State) : State :=
  if s.mos.st = .root then
    s.onMos fun m => { m with minor := (m.view.filter fun h => h.state == MosState.member.code).foldl (fun n h => min n h.minor) 0 }
  else s

/-- R758 to R766: the barriers at the boundary that starts a frame. -/
def barrierBoundary (s : State) : State :=
  let s := takeBarriers true (passBarriers s)
  let s := s.onMos fun m => { m with coastCells := false, reqF := match m.reqF with
    | some f => if f ≤ s.rru.f then none else some f
    | none => none }
  resendBarriers (sendState (rootMinor s))

/-! ## Cells -/

/-- R758, R759, R773: a BARRIER cell of the root is latched; barriers are taken in the order of BSEQ. -/
def latchPart (bseq cmd flags f part nPart : Nat) (fns : List Nat) (s : State) : State :=
  if bseq ≠ s.mos.received + 1 then s
  else
    let old := s.mos.latched.find? fun b => b.bseq == bseq
    let b : Barrier := old.getD { bseq := bseq, cmd := cmd, splitOk := flags.testBit 0, discard := flags.testBit 1, f := f, nPart := nPart, parts := [] }
    let b := if b.parts.any fun p => p.1 == part then b else { b with parts := b.parts ++ [(part, fns)] }
    s.onMos fun m => { m with latched := (m.latched.filter fun x => x.bseq != bseq) ++ [b]
                              received := if b.whole then bseq else m.received }

/-- R759, R764: the head counts the barriers of a root that it follows anew from the state in which it finds them. -/
def followBarriers (s : State) : State :=
  match s.mos.rootId with
  | some r =>
    if s.mos.bseqRoot = some r ∨ s.mos.st ≠ .member then s
    else s.onMos fun m => { m with bseqRoot := some r, received := if m.bseqRoot.isNone then m.received else m.rootBseq }
  | none => s

/-- R758: a BARRIER cell. -/
def doBarrier (c : CellHead) (bseq cmd flags f part nPart : Nat) (fns : List Nat) (s : State) : State :=
  receiveCell .barrier c ([bseq, cmd, flags, f, part, nPart, fns.length] ++ fns ++ List.replicate (18 - fns.length) 0) (fun s =>
    if s.mos.st = .member ∧ s.mos.rootId = some c.origin ∧ barrierPart s then
      takeBarriers false (latchPart bseq cmd flags f part nPart (fns.take 18) s)
    else s) s

/-- R764: a missed barrier is asked for again. -/
def askReplay (s : State) : State :=
  if s.mos.st = .member ∧ barrierPart s ∧ s.mos.received < s.mos.rootBseq then report (s.mos.received + 1) 3 0 s else s

/-- R764, R766: a STATE cell. -/
def doState (c : CellHead) (f bseq minor heads : Nat) (digest : List Byte) (s : State) : State :=
  receiveCell .state c ([f, bseq, minor, heads] ++ digest.map BitVec.toNat) (fun s =>
    if s.mos.rootId = some c.origin ∧ (s.mos.st = .member ∨ s.mos.st = .partitioned) then
      let s := s.onMos fun m => { m with rootDigest := digest, rootBseq := bseq, minor := minor }
      let s := followBarriers s
      let s := if s.mos.st = .member ∧ (s.mos.joinCheck ∨ f % 1024 = 0) then
          compareDigests (s.onMos fun m => { m with joinCheck := false })
        else s
      askReplay s
    else s) s

/-- R758, R763, R764: a REPORT cell reaches the root. -/
def doReport (c : CellHead) (bseq result reason state flags : Nat) (ofs : Int) (s : State) : State :=
  receiveCell .report c [bseq, result, reason, state, flags, (BitVec.ofInt 32 ofs).toNat] (fun s =>
    if s.mos.st ≠ .root then s
    else if result = 0 then
      armReady (s.onMos fun m => if m.armTb.isSome then { m with ready := (c.origin :: m.ready).eraseDups } else m)
    else if result = 2 then raise 0x0D0E [.h c.origin, .h reason] s
    else if result = 3 then forEach (s.mos.history.filter fun b => b.bseq == bseq) sendBarrier s
    else s) s

/-! ## Requests of the steward (R761) -/

/-- R761: the functions that `MOS_BREQ_FN` names. -/
def requestedFns (s : State) (n : Nat) : List Nat :=
  (List.range n).map fun k => (rawReg s (A.MOS_BREQ_FN (k / 2))).toNat / 2 ^ (16 * (k % 2)) % 65536

/-- R761: a refused request: the register's offset and why (0 not the root, 1 the frame is too near, 2 an earlier one waits). -/
def refuseRequest (reason : Nat) (s : State) : WriteResult × State :=
  (.event 0x0D12, raise 0x0D12 [.h (A.MOS_BREQ % 0x10000), .h reason] s)

/-- R761: a write to `MOS_BREQ`. -/
def requestBarrier (v : Word) (s : State) : WriteResult × State :=
  let cmd := R.MOS_BREQ_CMD.get v
  let n := R.MOS_BREQ_NFN.get v
  let f := (rawReg s A.MOS_BREQ_F_HI).toNat % 256 * 2 ^ 32 + (rawReg s A.MOS_BREQ_F_LO).toNat
  if cmd = 0 ∨ 64 < n then rejectWrite 0x0D11 A.MOS_BREQ s
  else if s.mos.st ≠ .root ∨ s.pwr.pf ≠ .normal ∨ !barrierPart s then refuseRequest 0 s
  else if cmd ≠ barArm ∧ f < leadFrame s then refuseRequest 1 s
  else if s.mos.reqF.isSome then refuseRequest 2 s
  else if cmd = barArm then (.ok, issueArm s)
  else
    let s := s.onMos fun m => { m with reqF := some f }
    (.ok, takeBarriers false (issueBarrier cmd (R.MOS_BREQ_SPLIT_OK.get v == 1) (R.MOS_BREQ_DISCARD.get v == 1) f (requestedFns s n) s))

/-- R595, R761: a FN lies in range. -/
def fnInRange (fn : Nat) : Bool :=
  match fnKind fn with
  | 0 => decide (fnIndex fn < 4)
  | 1 => decide (fnIndex fn < 256)
  | 2 => decide (fnIndex fn < 32)
  | 3 => decide (fnIndex fn < 16)
  | 4 | 5 => fnIndex fn == 0
  | _ => false

/-- R761, R774: a write to a register of block MOS. -/
def writeMos (a : Nat) (v : Word) (s : State) : WriteResult × State :=
  if a = A.MOS_BREQ then requestBarrier v s
  else if a = A.MOS_CTRL then (.ok, if R.MOS_CTRL_CNT_CLR.get v = 1 then clearMosCounters s else s)
  else if !mosRangeOk a v then rejectWrite 0x0D11 a s
  else if A.MOS_BREQ_FN 0 ≤ a ∧ a ≤ A.MOS_BREQ_FN 31 ∧ !(fnInRange (v.toNat % 65536) && fnInRange (v.toNat / 65536)) then rejectWrite 0x0D11 a s
  else (.ok, plainWrite a v s)

end Sys2Proof.Machine
end

