-- ==== Sys2Proof/Machine/Bus.lean ====
section
/-! DEFINITION. Chapter 25, the register bus: reads, writes, latches and locks over every block and memory window (R15 to R21, R94
to R99, R959 to R971). -/

namespace Sys2Proof.Machine

/-! ## Addresses -/

/-- R959: an aligned word address that the head decodes. -/
def wordDefined (a : Nat) : Bool :=
  decide (a % 4 = 0) &&
    if a < 0x130000 then (findFamily a).isSome
    else (decide (0x10000000 ≤ a) && decide (a < 0x10100000)) || (decide (0x20000000 ≤ a) && decide (a < 0x20100000)) ||
      (decide (0x30000000 ≤ a) && decide (a < 0x30008000)) || (decide (0x30010000 ≤ a) && decide (a < 0x30018000)) ||
      (decide (0x38000000 ≤ a) && decide (a < 0x38002000))

/-- The register bus runs: the processor die is powered and not in reset. -/
def busUp (s : State) : Bool := s.head.st != .off && !asleep s && !s.sup.dieDown

/-- R939: an initiator reaches the bus; a JTAG port that is disabled ignores its clock. -/
def busOpen (s : State) (who : Initiator) : Bool := busUp s && (who != .jtag || jtagEnabled s)

/-! ## Blocks 0x00 and 0x12 -/

/-- R966: word i of a value of 512 bits, the first word most significant. -/
def keyWord (v : BitVec 512) (i : Nat) : Word := v.extractLsb' (480 - 32 * i) 32

/-- `GLB_EVT_SUM`: the EVT registers of each block. -/
def evtRegs (b : Nat) : List Nat :=
  if b = 5 then [0x50008, 0x50808] else if b = 0x12 then [0x120008, 0x120104, 0x120204] else [b * 0x10000 + 8]

/-- `GLB_VARIANT`: the ordering code, the life-cycle state and the removals. -/
def variantWord (s : State) : Word :=
  let w := s.fus.wires
  BitVec.ofNat 32 (s.fus.lc.code * 2 ^ 29 + w.tenClass.code * 2 ^ 27 + bit w.rmJtag * 2 ^ 26 + bit w.rmRaw * 2 ^ 25 +
    bit w.rmMosaic * 2 ^ 24 + s.fus.order % 4 * 2 ^ 13 + tenantLimit s)

/-- The words of block GLB that the state holds elsewhere. -/
def readGlb (s : State) (a : Nat) : Option Word :=
  let w (n : Nat) : Word := BitVec.ofNat 32 n
  let h := s.head
  if a = A.GLB_STATE then some (w (h.prev.code * 2 ^ 24 + bit h.coreRestart * 16 + h.st.code))
  else if a = A.GLB_VARIANT then some (variantWord s)
  else if a = A.GLB_SERIAL_LO then some ((serialNo s).extractLsb' 0 32)
  else if a = A.GLB_SERIAL_HI then some ((serialNo s).extractLsb' 32 32)
  else if a = A.GLB_DATE then some (w ((fuseWord s 2).toNat / 65536 * 65536))
  else if a = A.GLB_FW_VER then some s.cfg.runVer
  else if a = A.GLB_ROM_VER then some Config.romVersion
  else if a = A.GLB_START then some (w (match h.cause with
    | .mains => 0 | .park => 1 | .wake => h.wakeSrc % 16 * 16 + 2 | .level2 => 3 | .release => 4))
  else if a = A.GLB_STATE_TB_LO then some (h.stateTb.extractLsb' 0 32)
  else if a = A.GLB_STATE_TB_HI then some (h.stateTb.extractLsb' 32 32)
  else if a = A.GLB_POWERON then some (w s.sup.powerOn)
  else if a = A.GLB_EVT_SUM then
    some (w (((List.range 18).map fun i => bit ((evtRegs (i + 1)).any fun r => rawReg s r != 0) * 2 ^ (i + 1)).sum))
  else if a = A.GLB_LOCKS then some (w (((List.range 16).map fun i => bit (lockedBlock s (i + 1)) * 2 ^ (i + 1)).sum))
  else if A.GLB_DIE_ID 0 ≤ a ∧ a ≤ A.GLB_DIE_ID 3 then some (fuseWord s (4 + (a - A.GLB_DIE_ID 0) / 4))
  else if A.GLB_STATE_CNT 0 ≤ a ∧ a ≤ A.GLB_STATE_CNT 7 then some (w (h.cnt.getD ((a - A.GLB_STATE_CNT 0) / 4) 0))
  else if A.GLB_STATE_SEC 0 ≤ a ∧ a ≤ A.GLB_STATE_SEC 7 then some (w (h.sec.getD ((a - A.GLB_STATE_SEC 0) / 4) 0))
  else if A.GLB_DEVKEY 0 ≤ a ∧ a ≤ A.GLB_DEVKEY 15 then some (keyWord Config.deviceKey ((a - A.GLB_DEVKEY 0) / 4))
  else if A.GLB_DEVCERT 0 ≤ a ∧ a ≤ A.GLB_DEVCERT 15 then some (keyWord Config.deviceCert ((a - A.GLB_DEVCERT 0) / 4))
  else none

/-- A write to a register of block GLB. -/
def writeGlb (a : Nat) (v : Word) (s : State) : WriteResult × State :=
  if a = A.GLB_CTRL then (.ok, if v.getLsbD 0 then setRaw A.GLB_BUS_ERR 0 s else s) else (.ok, plainWrite a v s)

/-- The code of a flash operation. -/
def FlashOp.code : FlashOp → Nat
  | .idle => 0
  | .read => 1
  | .erase => 2
  | .program => 3
  | .clearBits => 4

/-- A flash controller. -/
def getFlash (s : State) (c : Nat) : FlashCtl := s.cfg.flash.getD c {}

/-- R582: the user of a controller's sequences. -/
def flashUser (c : Nat) : StoreUser := if c = 0 then .norFlash else .keyFlash

/-- `CFG_FLASH_STATUS[c].OP`: the operation in progress. -/
def flashOp (s : State) (c : Nat) : FlashOp :=
  match (getFlash s c).cur with
  | some x => if storeRuns s (flashUser c) then x.op else .idle
  | none => if c = 1 ∧ s.cfg.reading.isSome then .read else .idle

/-- The words of block CFG that the state holds elsewhere. -/
def readCfg (s : State) (a : Nat) : Option Word :=
  let w (n : Nat) : Word := BitVec.ofNat 32 n
  let c := s.cfg
  if a = A.CFG_STATUS then
    some (w (bit c.keyPresent * 2 ^ 31 + bit c.keyUsable * 2 ^ 30 + c.imgSrc % 4 * 2 ^ 28 + bit c.fallback * 2 ^ 27 + c.fwSlot % 2 * 2 ^ 26 +
      bit c.fwFallback * 2 ^ 25 + bit (c.writes.any Option.isSome) * 2 ^ 24 + c.failReason % 256 * 256))
  else if a = A.CFG_IMG_SEQ then some (w c.imgSeq)
  else if a = A.CFG_IMG_LEN then some (w c.imgLen)
  else if a = A.CFG_FAIL_REC then some (w (c.failRec % 65536 * 65536 + c.failType % 65536))
  else if a = A.CFG_FAIL_OFS then some (w c.failOfs)
  else if A.CFG_IMG_DIGEST 0 ≤ a ∧ a ≤ A.CFG_IMG_DIGEST 7 then some (w (fieldAt c.imgDigest (a - A.CFG_IMG_DIGEST 0) 4))
  else if a = A.CFG_FW_VER 0 then some (c.fwVer.getD 0 0)
  else if a = A.CFG_FW_VER 1 then some (c.fwVer.getD 1 0)
  else if A.CFG_FLASH_STATUS 0 ≤ a ∧ a ≤ A.CFG_FLASH_STATUS 1 then
    let c := (a - A.CFG_FLASH_STATUS 0) / 4
    some (w ((flashOp s c).code * 2 ^ 28 + (getFlash s c).last % 16 * 2 ^ 24))
  else if A.CFG_FLASH_ADDR 0 ≤ a ∧ a ≤ A.CFG_FLASH_ADDR 1 then some (w (getFlash s ((a - A.CFG_FLASH_ADDR 0) / 4)).addr)
  else if a = A.CFG_BOOT_MS then some (w (min 65535 c.bootMs * 65536 + min 65535 c.imgMs))
  else if a = A.CFG_KEY_DENSITY then some (w (if c.keyUsable then c.keyParams.densityMbit else 0))
  else if a = A.CFG_LCP_STATUS then
    some (w (((List.range 4).map fun i => bit (getSession s i).opened * 2 ^ (28 + i) + bit ((getSession s i).opened && (getSession s i).evt) * 2 ^ (24 + i)).sum))
  else readChg s a

/-- A write to a register of block CFG. -/
def writeCfg (a : Nat) (v : Word) (s : State) : WriteResult × State :=
  if a = A.CFG_CTRL then (.ok, if v.getLsbD 0 then setRaw (A.CFG_FLASH_CNT 0) 0 (setRaw (A.CFG_FLASH_CNT 1) 0 s) else s)
  else if a = A.CFG_CHG_LEASE ∧ (v.toNat % 2 ^ 13 < 10 ∨ 6000 < v.toNat % 2 ^ 13) then
    (.event 0x1223, raise 0x1223 [.h 13, .h 0xFFFF] s)
  else if a = A.CFG_LCP_TIMEOUT ∧ (v.toNat % 2 ^ 12 < 10 ∨ 3600 < v.toNat % 2 ^ 12) then rejectWrite 0x1236 a s
  else (.ok, plainWrite a v s)

/-! ## Block 0x01 -/

/-- The words of block RRU that the state holds elsewhere. -/
def readRru (s : State) (a : Nat) : Option Word :=
  let w (n : Nat) : Word := BitVec.ofNat 32 n
  let r := s.rru
  if a = A.RRU_STATUS then some (rruStatus s)
  else if a = A.RRU_RP_F_LO then some (w r.f)
  else if a = A.RRU_RP_F_HI then some (w (r.f / 2 ^ 32 % 256))
  else if a = A.RRU_RP_LP then some (w (r.l % 65536 * 65536 + (if r.rpValid then phiNow s else 0)))
  else if a = A.RRU_MEAS_LPER_LO then some (w r.measLper)
  else if a = A.RRU_MEAS_LPER_HI then some (w (r.measLper / 2 ^ 32 % 65536))
  else if a = A.RRU_MEAS_TL then some (w (r.lastTl % 65536))
  else if a = A.RRU_MEAS_TLX then some (w (r.maxTl % 65536 * 65536 + r.minTl % 65536))
  else if a = A.RRU_PHASE_ERR then some (r.phaseErr.setWidth 32)
  else if a = A.RRU_PLL_CW then some (w (r.bandCur.toNat * 2 ^ 24 + r.cw.toNat))
  else if a = A.RRU_SYS_STATUS then
    some (w (bit r.extPresent * 16 + bit r.sysRefExt * 8 + match r.sysPll with
      | .off => 0 | .qual => 1 | .search => 2 | .pull => 3 | .locked => 4 | .coast => 5))
  else none

/-! ## Reads -/

/-- The word of a register that the state holds outside the register store. -/
def sensedWord (s : State) (a : Nat) : Option Word :=
  match a / 0x10000 with
  | 0 => readGlb s a
  | 1 => readRru s a
  | 2 => readTmb s a
  | 3 => readSns s a
  | 4 => readCro s a
  | 5 => readExs s a
  | 6 => readPat s a
  | 7 => readCal s a
  | 8 => readCtg s a
  | 9 => readTrc s a
  | 0xA => readTge s a
  | 0xB => readLnk s a
  | 0xC => readTen s a
  | 0xD => readMos s a
  | 0xE => readFus s a
  | 0xF => readPwr s a
  | 0x10 => readSup s a
  | 0x11 => readFlt s a
  | 0x12 => readCfg s a
  | _ => none

/-- R15, R17, R20: the word of a register: as it was before what the head changed in this tick, LOCK bits from the locks, RWS fields
staged where a value is pending. What the state holds outside the register store changes with the commands of the tick in their
order (log entry 57). -/
def regWord (s : State) (a : Nat) : Word :=
  let ds := fieldsAt a
  match sensedWord s a with
  | some v =>
    let rc := maskOf (fun d => d.acc == .rc && !d.sensed) ds
    (v &&& ~~~rc) ||| ((freshOf s a).base &&& rc)
  | none =>
    let rws := maskOf (fun d => d.acc == .rws) ds
    let lk := if lockedBlock s (a / 0x10000) then maskOf (fun d => d.acc == .w1s) ds else 0
    (((freshOf s a).base &&& ~~~rws) ||| (stagedReg s a &&& rws)) ||| lk

/-- R252, R352, R666, R959: the word of a memory window. -/
def windowWord (s : State) (a : Nat) : Word :=
  if a < 0x20000000 then memWord s a
  else if a < 0x30000000 then readCtx s a
  else if a < 0x38000000 then memWord s a
  else (Tbl.getD s.tge.code ((a - 0x38000000) / 4) 0).setWidth 32

/-- R94: how many words after a register its read latches. -/
def latchCount (a : Nat) : Nat :=
  if a = A.TMB_TB_LO then 1
  else if a = A.TMB_FB_TB_LO then 3
  else if a = A.TMB_RPTB_LO then 1
  else if a = A.TMB_TOD_NS then 2
  else if a = A.RRU_RP_F_LO then 2
  else if a = A.RRU_MEAS_LPER_LO then 1
  else if A.EXS_LANE_F_LO 0 ≤ a ∧ a ≤ A.EXS_LANE_F_LO 3 ∧ (a - A.EXS_LANE_F_LO 0) % 0x20 = 0 then 1
  else if A.PAT_SET_IVL_LO 0 ≤ a ∧ a ≤ A.PAT_SET_IVL_LO 255 ∧ (a - A.PAT_SET_IVL_LO 0) % 0x10 = 0 then 1
  else if a = A.CTG_SERIAL_LO then 1
  else if 0x80100 ≤ a ∧ a < 0x80138 ∧ a % 8 = 0 then 1
  else if 0x80200 ≤ a ∧ a < 0x80238 ∧ a % 8 = 0 then 1
  else if a = A.TRC_OPT_LPER_LO then 1
  else if 0x92000 ≤ a ∧ a < 0x93000 ∧ a % 16 = 0 then 3
  else if a = A.CFG_CHG_STOP_F_LO then 1
  else if a = A.CFG_CHG_RST_F_LO then 1
  else if a = A.LNK_MAC_LO then 1
  else if A.LNK_P_TXB_LO 0 ≤ a ∧ a ≤ A.LNK_P_TXB_LO 3 ∧ (a - A.LNK_P_TXB_LO 0) % 0x40 = 0 then 1
  else if A.LNK_STR_SEQ_LO 0 ≤ a ∧ a ≤ A.LNK_STR_SEQ_LO 31 ∧ (a - A.LNK_STR_SEQ_LO 0) % 0x80 = 0 then 1
  else if 0x20000000 ≤ a ∧ a < 0x20100000 ∧ (a % 256 = 0x84 ∨ a % 256 = 0xA4) then 1
  else if a = A.FLT_ENTRY 0 then 7
  else if a = A.FLT_AV_SCHED_LO then 1
  else if a = A.GLB_SERIAL_LO then 1
  else if a = A.GLB_STATE_TB_LO then 1
  else 0

/-- R94: a word is read through the shadows. -/
def shadowed (a : Nat) : Bool := (List.range 7).any fun k => decide (4 * (k + 1) ≤ a) && decide (k < latchCount (a - 4 * (k + 1)))

/-- The word that an address holds now. -/
def liveWord (s : State) (a : Nat) : Word := if a < 0x130000 then regWord s a else windowWord s a

/-- R96: the three sets of shadows. -/
def shadowOwner : Initiator → Initiator
  | .core => .core
  | .jtag => .jtag
  | .lcp _ | .tenant _ => .lcp 0

/-- R96: the shadows of an initiator. -/
def shadowsOf (s : State) (who : Initiator) : List (Nat × Word) :=
  ((s.shadows.find? fun x => x.who == shadowOwner who).map Shadow.vals).getD []

/-- R94: a read fills the shadows that it names. -/
def latch (who : Initiator) (a : Nat) (s : State) : State :=
  let n := latchCount a
  if n = 0 then s
  else
    let vals := (List.range n).foldl (fun t k => Tbl.set t (a + 4 * (k + 1)) (liveWord s (a + 4 * (k + 1)))) (shadowsOf s who)
    { s with shadows := ⟨shadowOwner who, vals⟩ :: s.shadows.filter fun x => x.who != shadowOwner who }

/-- R15, R19: a read clears the RC fields of a stored register; what they counted in this tick stays. -/
def clearRead (a : Nat) (s : State) : State :=
  let rc := maskOf (fun d => d.acc == .rc && !d.sensed) (fieldsAt a)
  if rc = 0 then s
  else match Tbl.get? s.fresh a with
    | some n => setRaw a ((rawReg s a &&& ~~~rc) ||| (n.news &&& rc)) { s with fresh := Tbl.set s.fresh a { n with base := n.base &&& ~~~rc } }
    | none => setRaw a (rawReg s a &&& ~~~rc) s

/-- R15, R99, R547: what a read of a register does beside answering. -/
def readEffect (a : Nat) (s : State) : State :=
  let s := clearRead a s
  if a = A.RRU_RP_F_LO then s.onTmb fun t => { t with rpTb := t.tb }
  else if a = A.CTG_MEM_DATA then stepMemAddr s
  else if a / 0x10000 = 9 then clearTrc a s
  else if 0xA1000 ≤ a ∧ a < 0xA5000 ∧ 0x100 ≤ a % 0x1000 ∧ a % 0x1000 < 0x500 ∧ a % 0x40 = 0x1C then
    popRxf ((a - 0xA1000) / 0x1000) ((a % 0x1000 - 0x100) / 0x40) s
  else s

/-- R15, R94, R960: a read by an initiator. -/
def busRead (who : Initiator) (a : Nat) (s : State) : Word × State :=
  if !wordDefined a then (0, addF R.GLB_BUS_ERR_READS 1 s)
  else
    let v := if shadowed a then Tbl.getD (shadowsOf s who) a 0 else liveWord s a
    (v, readEffect a (latch who a s))

/-! ## Writes -/

/-- A write to a register, by its block. -/
def regWrite (who : Initiator) (a : Nat) (v : Word) (s : State) : WriteResult × State :=
  match a / 0x10000 with
  | 0 => writeGlb a v s
  | 1 => let (r, s) := writeRru a v s; (r, acqAbandons s)
  | 2 => writeTmb a v s
  | 3 => writeSns a v s
  | 4 => writeCro a v s
  | 5 => writeExs a v s
  | 6 => writePat a v s
  | 7 => writeCal a v s
  | 8 => writeCtg a v s
  | 9 => writeTrc a v s
  | 0xA => writeTge a v s
  | 0xB => writeLnk a v s
  | 0xC => writeTen a v s
  | 0xD => writeMos a v s
  | 0xE => writeFus (match who with
      | .jtag => .jtag
      | _ => .core) a v s
  | 0xF => writePwr a v s
  | 0x10 => writeSup who a v s
  | 0x11 => writeFlt (match who with
      | .lcp _ => true
      | _ => false) a v s
  | _ => writeCfg a v s

/-- R352, R668: a write to a memory window. -/
def windowWrite (a : Nat) (v : Word) (s : State) : WriteResult × State :=
  if a < 0x20000000 then writeWindow a v s
  else if a < 0x30000000 then writeCtx a v s
  else if a < 0x38000000 then writeScheduler a v s
  else writeCode a v s

/-- R668, R674: the initiators from which the key store and the contexts take no write. -/
def tenantBarred (who : Initiator) (a : Nat) : Bool :=
  let keys := decide (0xC0020 ≤ a) && decide (a < 0xC0060)
  let ctx := decide (0x20000000 ≤ a) && decide (a < 0x20100000)
  match who with
  | .lcp _ => false
  | .core => keys
  | .jtag | .tenant _ => keys || ctx

/-- R15: the bits of a locked block's RWL fields keep their value. -/
def keepLocked (s : State) (a : Nat) (v : Word) : Word :=
  if lockedBlock s (a / 0x10000) then
    let m := maskOf (fun d => d.acc == .rwl) (fieldsAt a)
    (v &&& ~~~m) ||| (rawReg s a &&& m)
  else v

/-- R970: a write of 1 to a LOCK bit sets it (the other W1S fields show state of their own and are no LOCK bits). -/
def setLock (a : Nat) (v : Word) (s : State) : State :=
  let b := a / 0x10000
  if (v &&& maskOf (fun d => d.acc == .w1s && !d.sensed) (fieldsAt a)) != 0 ∧ !lockedBlock s b then s.onHead fun h => { h with locks := b :: h.locks } else s

/-- R15, R668, R674, R960: a write by an initiator. -/
def busWrite (who : Initiator) (a : Nat) (v : Word) (s : State) : WriteResult × State :=
  if !wordDefined a then (.ok, addF R.GLB_BUS_ERR_WRITES 1 s)
  else if tenantBarred who a then (.event 0x0C07, raise 0x0C07 [.h (initiatorCode who), .h 2] s)
  else if a < 0x130000 then
    let (r, s) := regWrite who a (keepLocked s a v) s
    (r, setLock a v s)
  else windowWrite a v s

/-- A write whose answer nobody waits for. -/
def busPut (who : Initiator) (a : Nat) (v : Word) (s : State) : State := if busOpen s who then (busWrite who a v s).2 else s

/-! ## The commands of the bus -/

/-- R15: a register write. -/
def doRegisterWrite (who : Initiator) (a : Nat) (v : Word) (s : State) : State := busPut who a v s

/-- R18, R19, R94: a read whose effect is to clear, to latch or to pop. -/
def doBusRead (who : Initiator) (a : Nat) (s : State) : State := if busOpen s who then (busRead who a s).2 else s

/-- R960: an access that is narrow, unaligned or aimed at an undefined address. -/
def doBusInvalidAccess (write : Bool) (s : State) : State :=
  if !busUp s then s else if write then addF R.GLB_BUS_ERR_WRITES 1 s else addF R.GLB_BUS_ERR_READS 1 s

/-- R970, R971: a LOCK bit is written 1. -/
def doLockBitSet (b : Fin 18) (s : State) : State :=
  match b.val with
  | 1 => busPut .core A.RRU_CTRL 1 s
  | 3 => busPut .core A.SNS_CTRL (rawReg s A.SNS_CTRL ||| maskOf (fun d => d.acc == .w1s) (fieldsAt A.SNS_CTRL)) s
  | 4 => busPut .core A.CRO_CTRL 1 s
  | 11 => busPut .core A.LNK_CTRL 1 s
  | 13 => busPut .core A.MOS_CTRL 1 s
  | 15 => busPut .core A.PWR_CTRL 1 s
  | 16 => busPut .core A.SUP_CTRL 1 s
  | _ => s

/-- R19, R286: CNT_CLR of a block is written 1. -/
def doCounterClear (b : Fin 19) (s : State) : State :=
  match b.val with
  | 0 => busPut .core A.GLB_CTRL 1 s
  | 1 => busPut .core A.RRU_CTRL 2 s
  | 4 => busPut .core A.CRO_CTRL 2 s
  | 5 => busPut .core A.EXS_CTRL 1 s
  | 6 => busPut .core A.PAT_CTRL 1 s
  | 7 => busPut .core A.CAL_CTRL ((rawReg s A.CAL_CTRL &&& 3) ||| 32) s
  | 9 => busPut .core A.TRC_CTRL ((rawReg s A.TRC_CTRL &&& 0xD) ||| 2) s
  | 10 => busPut .core A.TGE_CTRL 1 s
  | 11 => busPut .core A.LNK_CTRL 2 s
  | 12 => busPut .core A.TEN_CTRL 1 s
  | 13 => busPut .core A.MOS_CTRL 2 s
  | 14 => busPut .core A.FUS_CTRL 1 s
  | 15 => busPut .core A.PWR_CTRL 2 s
  | 16 => busPut .core A.SUP_CTRL 2 s
  | 17 => busPut .core A.FLT_CTRL 2 s
  | 18 => busPut .core A.CFG_CTRL 1 s
  | _ => s

end Sys2Proof.Machine
end

