-- ==== Sys2Proof/Machine/Flash.lean ====
section
/-! DEFINITION. Chapter 12: the flash controllers, their sequences, and the directories of the key and of the internal NOR
(R561 to R563, R582 to R585). -/

namespace Sys2Proof.Machine

/-! ## The memories -/

/-- Changes a flash controller. -/
def modFlash (c : Nat) (f : FlashCtl → FlashCtl) : State → State := State.onCfg fun x => { x with flash := x.flash.modify c f }

/-- R582: the memory of a controller: 0 the internal NOR, 1 the key. -/
def flashMem (s : State) (c : Nat) : List Host.Cell := if c = 0 then s.cfg.nor else s.cfg.keyMem

/-- Sets the memory of a controller. -/
def setFlashMem (c : Nat) (m : List Host.Cell) : State → State :=
  State.onCfg fun x => if c = 0 then { x with nor := m } else { x with keyMem := m }

/-- R583: every byte of a range reads 0xFF. -/
def blank (m : List Host.Cell) (a n : Nat) : Bool := m.all fun x => decide (x.1 < a) || decide (a + n ≤ x.1) || x.2 == 0xFF

/-- R582: the size of a sector. -/
def sectorBytes : Nat := 65536

/-- R560, R586: the first of the two directory sectors of a controller's memory. -/
def dirBase (c : Nat) : Nat := if c = 0 then 0x100000 else 0

/-- R560, R586: the start of an image slot. -/
def slotBase (c slot : Nat) : Nat :=
  match c, slot with
  | 0, 0 => 0x200000
  | 0, _ => 0x1A00000
  | _, 0 => 0x20000
  | _, _ => 0x4010000

/-- R560, R586: the size of an image slot. -/
def slotBytes (c : Nat) : Nat := if c = 0 then 0x1800000 else 67043328

/-- R584: where the clear-bits program is accepted. -/
def clearable (c a : Nat) : Bool :=
  (decide (dirBase c ≤ a) && decide (a < dirBase c + 2 * sectorBytes) && a % 32 == 4) ||
    (c == 0 && decide (0x3200000 ≤ a) && decide (a < 0x3A00000))

/-! ## Sequences (R582 to R585) -/

/-- R887: the owner token of a flash sequence is the block number. -/
def flashOwner : Nat := 0x12

/-- R887: the resource of a controller. -/
def flashLease (c : Nat) : Nat := 3 + c

/-- A step of a sequence fails: its event, and the rest of the sequence is dropped. -/
def flashFails (c last code : Nat) (s : State) : State :=
  let a := (getFlash s c).addr
  modFlash c (fun f => { f with cur := none, todo := [], last := last, failed := code }) (raise code [.h c, .w a] s)

/-- R582, R585: a step asks for its store operation. -/
def askStep (c : Nat) (x : FlashStep) (s : State) : State :=
  askStore (if x.op = .erase then .norErase else .norProgram) (flashUser c)
    (modFlash c (fun f => { f with cur := some x }) (takeLease (flashLease c) flashOwner s))

/-- R583, R584: a step begins, or is rejected. -/
def beginStep (c : Nat) (x : FlashStep) (s : State) : State :=
  let s := modFlash c (fun f => { f with addr := x.addr }) s
  match x.op with
  | .clearBits => if clearable c x.addr then askStep c x s else flashFails c 5 0x120F s
  | .program =>
    if blank (flashMem s c) x.addr x.data.length then askStep c x s
    else flashFails c 1 0x1208 (addF (R.CFG_FLASH_CNT_NOT_BLANK c) 1 s)
  | _ => askStep c x s

/-- R582: the next step of a sequence begins when the controller is idle; an ended sequence frees the controller. -/
def pumpFlash (c : Nat) (s : State) : State :=
  let f := getFlash s c
  match f.cur, f.todo with
  | some _, _ => s
  | none, x :: rest =>
    if leaseOpen s (flashLease c) flashOwner ∧ s.sup.deferred.isNone ∧ s.pwr.pf = .normal then
      beginStep c x (modFlash c (fun f => { f with todo := rest }) s)
    else s
  | none, [] =>
    let s := when f.waitLogged (modFlash c fun f => { f with waitLogged := false }) s
    if (getLease s (flashLease c)).st = .held ∧ (getLease s (flashLease c)).owner = flashOwner then freeLease (flashLease c) s else s

/-- R582: steps join the sequence of a controller. -/
def addSteps (c : Nat) (l : List FlashStep) : State → State := modFlash c fun f => { f with todo := f.todo ++ l, failed := 0 }

/-- A controller has nothing in its sequence. -/
def flashIdle (s : State) (c : Nat) : Bool := (getFlash s c).cur.isNone && (getFlash s c).todo.isEmpty

/-- R585: an operation waits on the energy rule: event 0x120A once per sequence. -/
def flashWaits (c : Nat) (s : State) : State :=
  let f := getFlash s c
  let s := modFlash c (fun f => { f with last := 3, waitLogged := true }) s
  if f.waitLogged then s else raise 0x120A [.h c] s

/-- R581: a sequence ends: what has not started is dropped. -/
def endSequence (c : Nat) (s : State) : State :=
  let s := modFlash c (fun f => { f with todo := [] }) s
  if storeRuns s (flashUser c) then s else modFlash c (fun f => { f with cur := none }) (dropStore (flashUser c) s)

/-- R583, R584: the bytes that a program or a clear-bits step leaves. -/
def stepBytes (m : List Host.Cell) (x : FlashStep) : List Byte :=
  if x.op = .clearBits then x.data.mapIdx fun i b => b &&& Mem.read erased m (x.addr + i) else x.data

/-- R582 to R584: the memory after a step, whose range holds other bytes than commanded where the device gave some. -/
def stepMem (m : List Host.Cell) (x : FlashStep) (held : Option (List Byte)) : List Host.Cell :=
  if x.op = .erase then
    let m := m.filter fun b => decide (b.1 < x.addr) || decide (x.addr + sectorBytes ≤ b.1)
    Mem.writeBytes erased m x.addr ((held.getD []).take sectorBytes)
  else
    let want := stepBytes m x
    let got := (held.getD want).take want.length
    Mem.writeBytes erased m x.addr got

/-- R583: the page reads back as commanded. -/
def readsBack (m : List Host.Cell) (x : FlashStep) (held : Option (List Byte)) : Bool :=
  x.op == .erase || match held with
    | none => true
    | some l => l == stepBytes m x

/-- R583, R593: the running operation of a sequence ends. -/
def flashStepEnds (c : Nat) (devOk : Bool) (held : Option (List Byte)) (s : State) : State :=
  match (getFlash s c).cur with
  | none => s
  | some x =>
    let gone := c == 1 && !s.cfg.keyInSlot
    let m := flashMem s c
    let s := endStore (flashUser c) s
    let s := if gone then s else setFlashMem c (stepMem m x held) s
    if !devOk || gone then flashFails c 4 0x1210 (addF (R.CFG_FLASH_CNT_ERRORS c) 1 s)
    else if !readsBack m x held then flashFails c 2 0x1209 (addF (R.CFG_FLASH_CNT_ERRORS c) 1 s)
    else modFlash c (fun f => { f with cur := none, last := 0 }) s

/-- R583: the page programs of bytes at an address; a program stays within its 256-byte page. -/
def pageSteps : Nat → Nat → List Byte → List FlashStep
  | 0, _, _ => []
  | n + 1, a, l =>
    if l.isEmpty then []
    else
      let k := 256 - a % 256
      ⟨.program, a, l.take k⟩ :: pageSteps n (a + k) (l.drop k)

/-- R583: the page programs of a message. -/
def programSteps (a : Nat) (l : List Byte) : List FlashStep := pageSteps (l.length + 1) a l

/-! ## Directories (R561 to R563) -/

/-- R561: an entry of a directory, by its address. -/
structure DirEntry where
  addr : Nat
  live : Bool
  slot : Nat
  seq : BitVec 32
  length : Nat
  version : BitVec 32
  deriving DecidableEq, Repr

/-- R561: MAGIC of a directory's entries: "LFWM" or "TDIR". -/
def dirMagic (c : Nat) : List Byte := if c = 0 then [0x4C, 0x46, 0x57, 0x4D] else [0x54, 0x44, 0x49, 0x52]

/-- R562: the valid entry at an address. -/
def entryAt (m : List Host.Cell) (c a : Nat) : Option DirEntry :=
  let b := Mem.readBytes erased m a 32
  if b.take 4 = dirMagic c ∧ fieldAt b 5 1 ≤ 1 ∧ BitVec.ofNat 32 (fieldAt b 28 4) = crc32 ((b.drop 5).take 23) then
    some ⟨a, fieldAt b 4 1 == 0xA5, fieldAt b 5 1, BitVec.ofNat 32 (fieldAt b 8 4), fieldAt b 12 4, BitVec.ofNat 32 (fieldAt b 24 4)⟩
  else none

/-- R562: the valid entries of a directory, by address; an entry's first byte is never blank. -/
def dirEntries (s : State) (c : Nat) : List DirEntry :=
  let m := flashMem s c
  (m.filter fun x => decide (dirBase c ≤ x.1) && decide (x.1 < dirBase c + 2 * sectorBytes) && x.1 % 32 == 0).filterMap fun x =>
    entryAt m c x.1

/-- R433, R562: the entry with the newest SEQ. -/
def newestOf (l : List DirEntry) : Option DirEntry :=
  l.foldl (fun o e => match o with
    | none => some e
    | some d => if newerGen e.seq d.seq then some e else some d) none

/-- R562: the live entries of a directory. -/
def liveEntries (s : State) (c : Nat) : List DirEntry := (dirEntries s c).filter DirEntry.live

/-- R562: the live entry with the newest SEQ. -/
def newestLive (s : State) (c : Nat) : Option DirEntry := newestOf (liveEntries s c)

/-- R562: the newest live entry of a slot. -/
def newestOfSlot (s : State) (c slot : Nat) : Option DirEntry := newestOf ((liveEntries s c).filter fun e => e.slot == slot)

/-- R561, R584: an entry becomes a tombstone. -/
def tombstone (e : DirEntry) : FlashStep := ⟨.clearBits, e.addr + 4, [0]⟩

/-- The sector of a directory that an entry lies in. -/
def entrySector (c : Nat) (e : DirEntry) : Nat := (e.addr - dirBase c) / sectorBytes

/-- R563: the sector that takes new entries: the one that holds the newest. -/
def dirSector (s : State) (c : Nat) : Nat := ((newestLive s c).map (entrySector c)).getD (((newestOf (dirEntries s c)).map (entrySector c)).getD 0)

/-- R563: the first free entry of a sector. -/
def freeEntry (s : State) (c sector : Nat) : Option Nat :=
  ((List.range 2048).map fun i => dirBase c + sectorBytes * sector + 32 * i).find? fun a => blank (flashMem s c) a 32

/-- R563: the steps that write a new entry. -/
def entrySteps (s : State) (c : Nat) (b : List Byte) : List FlashStep :=
  let sec := dirSector s c
  match freeEntry s c sec with
  | some a => [⟨.program, a, b⟩]
  | none =>
    let base := dirBase c + sectorBytes * (1 - sec)
    let l := liveEntries s c
    ⟨.erase, base, []⟩ :: (l.mapIdx fun i e => ⟨.program, base + 32 * i, Mem.readBytes erased (flashMem s c) e.addr 32⟩) ++
      l.map tombstone ++ [⟨.program, base + 32 * l.length, b⟩]

/-- R578: SEQ one above the newest. -/
def nextEntrySeq (s : State) (c : Nat) : BitVec 32 :=
  match newestLive s c with
  | some e => e.seq + 1
  | none => ((newestOf (dirEntries s c)).map fun e => e.seq + 1).getD 1

/-- R561: the bytes of a live entry. -/
def entryBytes (c slot : Nat) (seq : BitVec 32) (length : Nat) (digest8 : List Byte) (version : Nat) : List Byte :=
  let body := BitVec.ofNat 8 slot :: 0 :: 0 :: beBytes 4 seq.toNat ++ beBytes 4 length ++ digest8 ++ beBytes 4 version
  dirMagic c ++ 0xA5 :: body ++ beBytes 4 (crc32 body).toNat

/-- R563: at a start, the live entries outside the sector of the newest become tombstones. -/
def tidyDir (c : Nat) (s : State) : State :=
  match newestLive s c with
  | none => s
  | some n => addSteps c (((liveEntries s c).filter fun e => entrySector c e != entrySector c n).map tombstone) s

/-- R578: the slot that does not hold the newest live entry. -/
def targetSlot (s : State) (c : Nat) : Nat := match newestLive s c with
  | some e => 1 - e.slot
  | none => 0

end Sys2Proof.Machine
end

