-- ==== Sys2Proof/Machine/Image.lean ====
section
/-! DEFINITION. Chapter 12: the key, the checks of a Treorn image and its application (R557 to R577). -/

namespace Sys2Proof.Machine

/-! ## Checks of an image (R565 to R571) -/

/-- R571: why an image is rejected: the reason, the record's index (0xFFFF the header) and TYPE, and the byte offset. -/
structure ImgFault where
  reason : Nat
  index : Nat
  code : Nat
  ofs : Nat
  deriving DecidableEq, Repr

/-- R571: a fault of the image header. -/
def headerFault (reason ofs : Nat) : ImgFault := ⟨reason, 0xFFFF, 0, ofs⟩

/-- R565: MAGIC "TRNI" and FORMAT_MAJOR 1. -/
def imageMagic (b : List Byte) : Bool := b.take 4 == [0x54, 0x52, 0x4E, 0x49]

/-- R566, R778: the bytes of a key hash in fuse region 3, byte 4i in bits [7:0] of its word i. -/
def fuseHash (s : State) (first : Nat) : List Byte := (List.range 8).flatMap fun i => wordBytes (fuseWord s (first + i))

/-- R566, R587: a public key has the hash of a fuse unit that is programmed and has passed its check. -/
def fusedKey (s : State) (first unit : Nat) (key : List Byte) : Bool :=
  !s.fus.fail.getLsbD unit && (fuseHash s first).any (· != 0) && sha256 key == fuseHash s first

/-- R566: the steward's public key. -/
def stewardKeyOk (s : State) (key : List Byte) : Bool := fusedKey s 52 4 key

/-- R571, R789, reasons 2 to 8: the checks of the header, in order, as (reason, offset, passed). -/
def headerChecks (s : State) (b : List Byte) (entryLength : Nat) (sigOk : Bool) : List (Unit → Nat × Nat × Bool) :=
  let total := fieldAt b 8 4
  [fun _ => (2, 0, imageMagic b),
   fun _ => (3, 4, fieldAt b 4 1 == 1),
   fun _ => (4, 8, decide (368 ≤ total) && decide (total ≤ 67043328) && total == entryLength && decide (total ≤ b.length)),
   fun _ => (5, 16, fieldAt b 16 8 == 0 || (!s.fus.fail.getLsbD 0 && fieldAt b 16 8 == (serialNo s).toNat)),
   fun _ => (6, 64, stewardKeyOk s ((b.drop 64).take 64)),
   fun _ => (7, 128, sigOk),
   fun _ => (8, 32, sha256 ((b.take total).drop 256) == (b.drop 32).take 32)]

/-- R567: the records from an offset on, as many as RECORD_COUNT says, or reason 9. -/
def parseRecords : Nat → Nat → Nat → List Byte → Except ImgFault (List Record)
  | 0, _, ofs, l => if l.isEmpty then .ok [] else .error (headerFault 9 ofs)
  | n + 1, idx, ofs, l =>
    if l.isEmpty then .error (headerFault 9 12)
    else
      let code := fieldAt l 0 2
      let len := fieldAt l 2 3
      let next := (6 + len + 3) / 4 * 4
      if l.length < 6 then .error ⟨9, idx, code, ofs⟩
      else if l.length < next then .error ⟨9, idx, code, ofs + 2⟩
      else if fieldAt l 5 1 ≠ 0 then .error ⟨9, idx, code, ofs + 5⟩
      else if ((l.drop (6 + len)).take (next - (6 + len))).any (· != 0) then .error ⟨9, idx, code, ofs + 6 + len⟩
      else
        let r : Record := ⟨idx, code, ofs + 6, (l.drop 6).take len⟩
        (parseRecords n (idx + 1) (ofs + next) (l.drop next)).map (r :: ·)

/-- R565, R567: the records of an image. -/
def imageRecords (b : List Byte) : Except ImgFault (List Record) :=
  parseRecords (fieldAt b 12 4) 0 256 ((b.take (fieldAt b 8 4)).drop 256)

/-- The type of a record. -/
def Record.kind (r : Record) : Option RecType := recType r.code

/-- R571, reason 10. -/
def lengthFault (l : List Record) : Option ImgFault :=
  l.findSome? fun r => match r.kind with
    | some t => if recLengthOk t r.data then none else some ⟨10, r.index, r.code, r.base - 4⟩
    | none => none

/-- R568, reason 11. -/
def unknownFault (l : List Record) : Option ImgFault :=
  l.findSome? fun r => if r.kind.isNone ∧ 2 ^ 15 ≤ r.code then some ⟨11, r.index, r.code, r.base - 6⟩ else none

/-- The records of a known type, with their types. -/
def known (l : List Record) : List (RecType × Record) := l.filterMap fun r => r.kind.map fun t => (t, r)

/-- The payloads of one type, in image order. -/
def payloads (l : List Record) (t : RecType) : List (List Byte) := ((known l).filter fun x => x.1 == t).map fun x => x.2.data

/-- R568, R571, reason 12: more records of a type than an image may hold, or an index named again, at the record with which it
begins; a mandatory record is missing. -/
def countFault (l : List Record) : Option ImgFault :=
  let k := known l
  let exceeds := (List.range k.length).findSome? fun i =>
    (k[i]?).bind fun x =>
      let before := k.take (i + 1)
      if x.1.counts.2 < (before.filter fun y => y.1 == x.1).length then some ⟨12, x.2.index, x.2.code, x.2.base - 6⟩
      else if keysClash (before.map fun y => (y.1, y.2.data)) then some ⟨12, x.2.index, x.2.code, x.2.base⟩
      else none
  match exceeds with
  | some f => some f
  | none => if payloads l .raster = [] ∨ payloads l .pll = [] then some (headerFault 12 12) else none

/-! ## The configuration of an image (R572, R573, R973) -/

/-- R973: a field takes its reset value. -/
def resetField (f : Fld) : State → State := setF f (f.get (resetWord f.addr))

/-- R240, R302, R303, R403, R553, R661: what a table holds that no record fills. -/
def clearTables (s : State) : State :=
  let s := { s with
    staged := [], justStaged := []
    mem := s.mem.filter fun c => !((decide (winAddr 0 ≤ c.1) && decide (c.1 < winAddr poolBase)) ||
      (decide (0x30000000 ≤ c.1) && decide (c.1 < 0x30018000))) }
  let s := forEach (List.range 16) (fun n => setF (R.CRO_GEO_CTRL_VALID n) 0) s
  let s := forEach (List.range 4) (fun m => setF (R.EXS_LANE_CTRL_EN m) 0) s
  let s := forEach (List.range 256) (fun n => setF (R.PAT_SET_CTRL_EN n) 0) s
  let s := forEach (List.range 32) (fun i => setF (R.LNK_STR_CTRL_EN i) 0) s
  let s := forEach (List.range 64) (fun i => setF (R.TGE_THR_CTRL_EN (i / 16) (i % 16)) 0) s
  setF R.TRC_CTRL_REG_EN 0 (s.onTge fun x => { x with code := [], flags := 0 })

/-- R444, R481, R553, R661, R775, R836, R869: the payloads whose fields stand for the defaults of absent records. -/
def defaultPayloads : List (RecType × List Byte) :=
  let z (n : Nat) : List Byte := List.replicate n 0
  [(.calibration, z 36), (.cartridge, z 8), (.supervision, z 16), (.power, z 8), (.mosaic, z 32), (.stream, 0xFF :: z 207), (.trigger, 0xFF :: z 119)]

/-- R973: the fields of a record that the image does not hold take their reset values. -/
def absentDefaults (l : List Record) (s : State) : State :=
  forEach defaultPayloads (fun d s =>
    if (payloads l d.1).any fun p => (d.1 != .stream && d.1 != .trigger) || fieldAt p 0 1 == 0xFF then s
    else forEach (recFields d.1 d.2) (fun f => resetField f.fld) s) s

/-- R573: the records in the order in which their settings are written, the lines of the trigger engines before the engines. -/
def applyOrder (l : List Record) : List (RecType × Record) :=
  let key (x : RecType × Record) : Nat := 2 * x.1.rank + bit (x.1 == .trigger && fieldAt x.2.data 0 1 != 0xFF)
  sortBy (fun a b => decide (key a ≤ key b)) (known l)

/-- R572, R573: the settings of the records, without the patches. -/
def loadRecords (l : List Record) (s : State) : State :=
  forEach (applyOrder l) (fun x => recLoad x.1 x.2.data) (absentDefaults l (clearTables s))

/-- R569: the patch entries of an image, in its order, with the record and the entry's offset. -/
def patches (l : List Record) : List (Record × Nat × Nat × Word × Word) :=
  ((known l).filter fun x => x.1 == .patch).flatMap fun x => (patchEntries x.2.data).mapIdx fun i e => (x.2, x.2.base + 4 + 12 * i, e)

/-- R569: the patches on a staged configuration. -/
def loadPatches (l : List Record) (s : State) : State := forEach (patches l) (fun p t => setRaw p.2.2.1 (patchValue t p.2.2) t) s

/-- R572: the staged register image, in which no function runs. -/
def imageScratch (l : List Record) (s : State) : State :=
  let s := s.onExs fun x => { x with lanes := List.replicate 4 {} }
  let s := s.onPat fun x => { x with sets := [] }
  let s := s.onTge fun x => { x with engines := List.replicate 4 {} }
  loadRecords l s

/-- R571, reason 13, of the patches from one on. -/
def patchFaults : List (Record × Nat × Nat × Word × Word) → Nat → State → Option ImgFault
  | [], _, _ => none
  | (r, ofs, e) :: rest, n, t =>
    if 4096 ≤ n then some ⟨13, r.index, r.code, r.base⟩
    else match patchFault t e with
      | some o => some ⟨13, r.index, r.code, ofs + o⟩
      | none => patchFaults rest (n + 1) (setRaw e.1 (patchValue t e) t)

/-- R571, reason 13: the first record with a field outside its range, or the first patch entry. -/
def valueFault (l : List Record) (t : State) : Option ImgFault :=
  let bad := (known l).findSome? fun x =>
    match (recFaults x.1 x.2.data t).min? with
    | some o => some (⟨13, x.2.index, x.2.code, x.2.base + o⟩ : ImgFault)
    | none => none
  match bad, patchFaults (patches l) 0 t with
  | some a, some b => if b.index < a.index then some b else some a
  | some a, none => some a
  | none, b => b

/-- R573, R665: the contexts of the image's tenant table. -/
def imageTenants (l : List Record) : List (Nat × CtxWords) := (payloads l .tenants).flatMap tenantEntries

/-- R276, R280: the lanes that a staged configuration enables. -/
def stagedLanes (t : State) : List Nat := (List.range 4).filter fun m => flagF t (R.EXS_LANE_CTRL_EN m)

/-- R276, R280, R307: what is wrong with a lane beside the other lanes of a staged configuration. -/
def laneBreak (t : State) (m : Nat) : Option CheckBreak :=
  if !flagF t (R.EXS_LANE_CTRL_EN m) then none
  else match admission t m (((stagedLanes t).filter (· != m)).map (laneSetting t)) with
    | .ok => none
    | a => some (.lane m a)

/-- R204: a valid descriptor breaks its rules. -/
def geoBreak (t : State) (n : Nat) : Option CheckBreak := if (geoOf t n).valid && !geoOk (geoOf t n) then some .geometry else none

/-- R357: the windows of the enabled sets break a limit. -/
def planFault (t : State) (n : Nat) : Option CheckBreak :=
  (planBreak (planWindows t ((List.range 256).filter fun n => flagF t (R.PAT_SET_CTRL_EN n)))).map (.plan n)

/-- R521: a group of an engine fails its code check. -/
def codeBreak (t : State) (groups : List Nat) : Option CheckBreak :=
  (groups.find? fun i => !codeCheck t (i / 4) (i % 4)).map .code

/-- R650: the streams and contexts break a limit. -/
def streamBreak (t : State) : Option CheckBreak :=
  (admissionBreak (getF t R.LNK_PORT_CFG_MODE) (admittedCfgs t)).map .streams

/-- R204, R276, R280, R307, R357, R521, R650: what a combined check finds wrong with a record on the staged configuration. -/
def recBreak (t : State) (k : RecType) (p : List Byte) : Option CheckBreak :=
  let i := fieldAt p 0 1
  match k with
  | .geometry => geoBreak t i
  | .program =>
    if !progValid t (getProg t i) then some (.lane (fieldAt p 1 1) .invalid)
    else if fieldAt p 1 1 < 4 then laneBreak t (fieldAt p 1 1) else none
  | .windowSet => planFault t i
  | .trigger => if i < 4 then codeBreak t ((List.range 4).map fun g => 4 * i + g) else none
  | .stream | .tenants => streamBreak t
  | _ => none

/-- R569, R571: what a combined check finds wrong that no record names, since a patch put it there. -/
def patchBreak (t : State) : Option CheckBreak :=
  (List.range 16).findSome? (geoBreak t) <|> (List.range 4).findSome? (laneBreak t) <|> planFault t 0 <|>
    codeBreak t ((List.range 16).filter fun i => groupUsed t (i / 4) (i % 4)) <|> streamBreak t

/-- R571, reason 14: the first record, in image order, that a combined check rejects, or the last record of patches. -/
def combinedFault (l : List Record) (t : State) : Option (ImgFault × CheckBreak) :=
  let u := applyTenantTable (imageTenants l) (loadPatches l t)
  let named := (known l).findSome? fun x => (recBreak u x.1 x.2.data).map fun k => ((⟨14, x.2.index, x.2.code, x.2.base⟩ : ImgFault), k)
  match named, patchBreak u, ((known l).filter fun x => x.1 == .patch).getLast? with
  | some f, _, _ => some f
  | none, some k, some x => some (⟨14, x.2.index, x.2.code, x.2.base⟩, k)
  | none, some k, none => some (headerFault 14 0, k)
  | none, none, _ => none

/-- R571, reason 15: the first reserved byte of the header that is not zero. -/
def reservedFault (b : List Byte) : Option ImgFault :=
  [(6, 2), (28, 4), (192, 64)].findSome? fun x => if ((b.drop x.1).take x.2).any (· != 0) then some (headerFault 15 x.1) else none

/-- R571: the checks of an image that has been read whole, in their order: the first failure, or the records. -/
def checkImage (s : State) (b : List Byte) (entryLength : Nat) (sigOk : Bool) : Except ImgFault (List Record) :=
  match (headerChecks s b entryLength sigOk).findSome? fun c => let x := c (); if x.2.2 then none else some (headerFault x.1 x.2.1) with
  | some f => .error f
  | none => do
    let l ← imageRecords b
    let t := imageScratch l s
    match lengthFault l <|> unknownFault l <|> countFault l <|> valueFault l t <|> (combinedFault l t).map Prod.fst <|> reservedFault b with
    | some f => .error f
    | none => pure l

/-- R271, R280, R650: what a combined check of a rejected image found wrong and logs an event for. -/
def imageBreak (s : State) (b : List Byte) (f : ImgFault) : Option CheckBreak :=
  if f.reason ≠ 14 then none
  else match imageRecords b with
    | .error _ => none
    | .ok l => match combinedFault l (imageScratch l s) with
      | some (_, .lane m a) => some (.lane m a)
      | some (_, .streams x) => some (.streams x)
      | _ => none

/-- R271, R280, R650: the event of a combined check of a rejected image. -/
def noteBreak (b : List Byte) (f : ImgFault) (s : State) : State :=
  match imageBreak s b f with
  | some x => breakEvent x s
  | none => s

/-- R564, R571: the bytes of a slot that an entry's image takes. -/
def slotImage (s : State) (c slot length : Nat) : List Byte := Mem.readBytes erased (flashMem s c) (slotBase c slot) (min length (slotBytes c))

/-! ## Application (R573 to R575, R638, R972) -/

/-- R574: the raster PLL is OFF while the head applies an image. -/
def rasterHeld (s : State) : State := stopPll (setF R.RRU_PLL_CTRL_EN 0 s)

/-- R569, R573, R574: the patches; those of the raster block start no acquisition. -/
def applyPatches (l : List Record) (s : State) : State :=
  forEach (patches l) (fun p t =>
    let a := p.2.2.1
    let v := patchValue t p.2.2
    if a / 0x10000 = 1 then setRaw a v t else (busWrite .core a v t).2) s

/-- R77, R78: the system PLL takes the reference that the registers name. -/
def applySysRef (s : State) : State := changeSysRef (flagF s R.RRU_SYS_CTRL_SRC) s

/-- R514, R841: settings of records that start a machine. -/
def applyStarts (l : List Record) (s : State) : State :=
  let s := if payloads l .tracker = [] then s else startSequences (changeRef (getF s R.TRC_CTRL_REF_SEL) s)
  when ((payloads l .supervision).any fun p => fieldAt p 0 1 == 1) startWatchdog s

/-- R573 step 8, R971: every LOCK bit. -/
def setLocks : State → State := State.onHead fun h =>
  { h with locks := [1, 3, 4, 11, 13, 15, 16] ++ h.locks.filter fun b => !([1, 3, 4, 11, 13, 15, 16].contains b) }

/-- R731, R775: bytes 16 to 31 of the image's MOSAIC record. -/
def mosaicRecord (l : List Record) : Option (Nat × Nat × BitVec 64) :=
  (payloads l .mosaic).head?.map fun p => (fieldAt p 16 2, fieldAt p 18 1, BitVec.ofNat 64 (fieldAt p 20 8))

/-- R555 step 10, R557, R573 step 9: the functions are armed for the first valid frame; a head of a mosaic waits for its START. -/
def armFunctions (l : List Record) (s : State) : State :=
  let start := if (mosaicRecord l).isSome ∧ !mosaicBarred s then none else some (nextF s)
  let s := forEach ((List.range 4).filter fun m => flagF s (R.EXS_LANE_CTRL_EN m)) (fun m => startLane m start) s
  let s := forEach ((List.range 256).filter fun n => flagF s (R.PAT_SET_CTRL_EN n)) (fun n => startSet n start) s
  let s := forEach ((List.range 32).filter fun i => flagF s (R.LNK_STR_CTRL_EN i)) (fun i => armStream i start) s
  let s := startEngines s
  s.onLnk fun x => { x with txEn := true }

/-- R568: an unknown type is skipped. -/
def skipUnknown (l : List Record) (s : State) : State :=
  forEach (l.filter fun r => r.kind.isNone) (fun r => raise 0x120E [.h r.code, .h r.index]) s

/-- R694: the contexts of the applied image, or of the committed table after a restart of a running head. -/
def applyTenants (l : List Record) (mode : ApplyMode) (s : State) : State :=
  if mode = .first then applyTenantTable (imageTenants l) s else restoreTenants (imageTenants l) s.ten.copy s.ten.copyOk s

/-- R573 steps 8 and 9: the LOCK bits, and the raster PLL, with which the head enters ACQUIRING. -/
def applyEnd (w : ApplyWait) (l : List Record) (s : State) : State :=
  let b := w.image
  let s := recordAdmission (setLocks (setF R.RRU_PLL_CTRL_EN 0 s))
  let s := s.onCfg fun x => { x with
    applyWait := none, imgSrc := w.src, imgSlot := w.slot, retained := some b, imgSeq := fieldAt b 24 4, imgLen := fieldAt b 8 4
    imgDigest := (b.drop 32).take 32, imgMs := if w.mode = .release then x.imgMs else (s.now - x.readyTb) / milli }
  let s := s.onHead fun h => { h with applied := true, applying := false }
  let s := openSteward (setHead .acquiring s)
  let s := advanceEpoch s
  let s := enablePll (setF R.RRU_PLL_CTRL_EN 1 s)
  let s := armFunctions l s
  raise 0x1205 [.h w.slot, .w (fieldAt b 24 4)] s

/-- R573 steps 2 to 7. Where a patch has changed the system PLL's reference, the rest waits for its lock (R78). -/
def applyTables (w : ApplyWait) (l : List Record) (s : State) : State :=
  let s := applyStarts l (loadRecords l s)
  let s := startMosaic (mosaicRecord l) s
  let s := applySysRef (applyPatches l (applyTenants l w.mode s))
  if s.tmb.run then applyEnd w l s else s.onCfg fun x => { x with applyWait := some { w with late := true } }

/-- R573 step 1: the system part of the PLL record, the power policy and the supervision. -/
def applySystem (l : List Record) (s : State) : State :=
  applySysRef (forEach ((applyOrder l).filter fun x => x.1 == .pll || x.1 == .power || x.1 == .supervision) (fun x => recLoad x.1 x.2.data) s)

/-- R573, R575: the settings of an image that has passed its checks are written, in order. Where the system PLL changes its reference,
the rest waits for its lock (R78). -/
def applyImage (b : List Byte) (l : List Record) (src slot : Nat) (mode : ApplyMode) (s : State) : State :=
  let w : ApplyWait := ⟨b, src, slot, mode, false⟩
  let s := rasterHeld ((stopSequences s).onHead fun h => { h with applied := false, applying := true })
  let s := applySystem l (s.onCfg fun x => { x with reading := none })
  if s.tmb.run then applyTables w l s else s.onCfg fun x => { x with applyWait := some w }

/-- R78: the system PLL has locked, and the application that waited for it goes on. -/
def resumeApply (s : State) : State :=
  match s.cfg.applyWait with
  | none => s
  | some w =>
    match imageRecords w.image with
    | .ok l => if w.late then applyEnd w l s else applyTables w l s
    | .error _ => s

/-- R78: no application waits any more. -/
def dropApply (s : State) : State :=
  (s.onCfg fun x => { x with applyWait := none }).onHead fun h => { h with applying := false }

/-! ## Reading (R558 to R564, R571, R575 to R577) -/

/-- R558: the first parameter of the key that does not qualify. -/
def keyLack (p : KeyParams) : Option Nat :=
  if p.densityMbit < 1024 then some 0
  else if !p.addr4 then some 1
  else if !p.quadRead then some 2
  else if !p.erase64k then some 3
  else if !p.page256 then some 4
  else none

/-- R558: firmware reads the parameter table of a key whose presence line has been asserted for 100 ms. -/
def readKeyTable (s : State) : State :=
  if !s.cfg.keyInSlot then s.onCfg fun c => { c with keyPresent := false, keyUsable := false }
  else
    let s := s.onCfg fun c => { c with keyPresent := true, keyUsable := (keyLack c.keyParams).isNone }
    match keyLack s.cfg.keyParams with
    | some n => raise 0x1203 [.h n] s
    | none => s

/-- R559: the key is present with a valid image header. -/
def keyValid (s : State) : Bool :=
  s.cfg.keyPresent && s.cfg.keyUsable && (liveEntries s 1).any fun e =>
    let b := slotImage s 1 e.slot 5
    imageMagic b && fieldAt b 4 1 == 1

/-- R571: a rejection is shown and logged. -/
def showFault (f : ImgFault) (s : State) : State :=
  let s := s.onCfg fun c => { c with failReason := f.reason, failRec := f.index, failType := f.code, failOfs := f.ofs }
  raise 0x1204 [.h f.reason, .h f.index, .w f.ofs] s

/-- R7, R549, R572: an image fault: the image is discarded, and the head enters UNCONFIGURED, from ACQUIRING too (log entry 65). -/
def imageFault (s : State) : State := setHead .unconfigured (enginesOff true (s.onCfg fun c => { c with reading := none }))

/-- R562, R572: a rejected image; the head selects the newest live entry of the other slot, once. -/
def rejectImage (slot : Nat) (f : ImgFault) (s : State) : State :=
  let s := showFault f s
  let other := 1 - slot
  if s.cfg.failedSlot.isNone ∧ s.cfg.keyUsable ∧ (newestOfSlot s 1 other).isSome then
    let s := raise 0x1206 [.h other, .h slot] s
    s.onCfg fun c => { c with reading := some other, failedSlot := some slot, fallback := true }
  else imageFault s

/-- R562, R571: the head reads the image that the newest live entry names. -/
def beginRead (s : State) : State :=
  let s := s.onCfg fun c => { c with failedSlot := none, fallback := false, readMode := .first }
  match s.cfg.keyUsable, newestLive s 1 with
  | true, some e => s.onCfg fun c => { c with reading := some e.slot }
  | _, _ => imageFault (showFault (headerFault 1 0) s)

/-- R7, R559: key discovery in BOOT, UNCONFIGURED or on a release. -/
def discoverKey (s : State) : State :=
  if keyValid s then beginRead (setHead .configuring s)
  else if s.head.st = .unconfigured then s else setHead .unconfigured s

/-- R7: signature and digest of an image that is read in UNCONFIGURED are valid. -/
def verified (s : State) : State := if s.head.st = .unconfigured then setHead .configuring s else s

/-- R571, R573: the whole image has been read; whether its signature verifies, and whether the key failed to read. -/
def doImageReadComplete (sigOk readErr : Bool) (s : State) : State :=
  match s.cfg.reading with
  | none => s
  | some slot =>
    if !s.head.fwReady ∨ s.head.coreRestart ∨ s.sup.dieDown ∨ s.pwr.pf ≠ .normal then s
    else if readErr then rejectImage slot (headerFault 16 0) s
    else match newestOfSlot s 1 slot with
      | none => rejectImage slot (headerFault 1 0) s
      | some e =>
        let b := slotImage s 1 slot (max 256 e.length)
        match checkImage s b e.length sigOk with
        | .error f => rejectImage slot f (noteBreak b f (if 9 ≤ f.reason then verified s else s))
        | .ok l => applyImage (b.take e.length) l (slot + 1) slot s.cfg.readMode (skipUnknown l (verified s))

/-- R575: the retained copy is whole. -/
def retainedOk (s : State) : Bool := match s.cfg.retained with
  | some b => sha256 (b.drop 256) == s.cfg.imgDigest
  | none => false

/-- R575: the retained copy is applied again; a damaged one is read again from its slot. -/
def reapply (mode : ApplyMode) (s : State) : State :=
  match retainedOk s, s.cfg.retained with
  | true, some b => match imageRecords b with
    | .ok l => applyImage b l 3 s.cfg.imgSlot mode s
    | .error f => imageFault (showFault f s)
  | _, _ => s.onCfg fun c => { c with reading := some c.imgSlot, failedSlot := none, fallback := false, readMode := mode }

/-- R7, R558, R559, R577: firmware takes up a key that has been inserted. In UNCONFIGURED its image is read; the head enters
CONFIGURING when signature and digest are valid. -/
def takeUpKey (s : State) : State :=
  let s := readKeyTable (raise 0x1201 [] s)
  if s.head.st = .unconfigured ∧ s.pwr.pf = .normal ∧ keyValid s then beginRead s else s

/-- R7, R559, R577: a key is inserted, and its presence line has been asserted for 100 ms; a restarting core takes it up when it
serves again. -/
def doKeyInserted (params : KeyParams) (mem : List (Nat × Byte)) (s : State) : State :=
  if s.cfg.keyInSlot then s
  else
    let s := s.onCfg fun c => { c with keyInSlot := true, keyParams := params, keyMem := Mem.normal erased mem }
    if !s.head.fwReady ∨ s.head.coreRestart ∨ s.head.st = .off ∨ s.head.st = .boot ∨ asleep s then s else takeUpKey s

end Sys2Proof.Machine
end

