-- ==== Sys2Proof/Machine/ImageWrite.lean ====
section
/-! DEFINITION. Chapter 12: IMAGE_WRITE, to the key and to the firmware slots (R578 to R581, R587, R589, R590). -/

namespace Sys2Proof.Machine

/-- R578, R582: the controller of a target. -/
def targetCtl : WriteTarget → Nat
  | .firmware => 0
  | .key => 1

/-- R578: the IMAGE_WRITE of a controller's target. -/
def getWrite (s : State) (c : Nat) : Option ImageWrite := (s.cfg.writes[c]?).bind id

/-- Sets the IMAGE_WRITE of a controller's target. -/
def setWrite (c : Nat) (w : Option ImageWrite) : State → State := State.onCfg fun x => { x with writes := x.writes.set c w }

/-- The answer owed by an IMAGE_WRITE leaves. -/
def answerWrite (w : ImageWrite) (a : Answer) (s : State) : State :=
  match w.asker with
  | some (n, req) => answerLate n req a s
  | none => s

/-- R565, R592: the sizes that a target takes. -/
def totalOk (t : WriteTarget) (total : Nat) : Bool :=
  match t with
  | .key => decide (368 ≤ total) && decide (total ≤ 67043328)
  | .firmware => decide (512 ≤ total) && decide (total ≤ slotBytes 0)

/-- R578, steps 1 to 3: the opening message. -/
def imageOpen (t : WriteTarget) (total : Nat) (s : State) : Answer × State :=
  let c := targetCtl t
  if (getWrite s c).isSome ∨ (t = .key ∧ s.cfg.reading.isSome) then (⟨1, 0, []⟩, s)
  else if t = .key ∧ !s.cfg.keyUsable then (⟨0xF, 1, []⟩, s)
  else if !totalOk t total then (⟨3, 0, []⟩, s)
  else
    let slot := targetSlot s c
    let erases := (List.range ((total + 65535) / 65536)).map fun i => (⟨.erase, slotBase c slot + sectorBytes * i, []⟩ : FlashStep)
    let tombs := ((liveEntries s c).filter fun e => e.slot == slot).map tombstone
    let s := if t = .firmware then s.onCfg fun x => { x with fwVer := x.fwVer.set slot 0 } else s
    (.ok, addSteps c (tombs ++ erases) (setWrite c (some { target := t, slot := slot, total := total }) s))

/-- R716: a message of an IMAGE_WRITE that the steward may send now, or the answer that refuses it. -/
def writeOf (t : WriteTarget) (s : State) : Except Answer ImageWrite :=
  match getWrite s (targetCtl t) with
  | none => .error ⟨0xE, 0, []⟩
  | some w =>
    if w.asker.isSome then .error ⟨1, 0, []⟩ else .ok w

/-- R578 step 4, R890: a data message waits for the controller; its answer leaves after the read-back. -/
def imageData (n : Nat) (t : WriteTarget) (ofs : Nat) (data : List Byte) (s : State) : Option Answer × State :=
  match writeOf t s with
  | .error a => (some a, formerActs (flashLease (targetCtl t)) flashOwner s)
  | .ok w =>
    if w.total < ofs + data.length then (some ⟨0xA, 0, []⟩, s)
    else (none, deferAnswer n (setWrite (targetCtl t) (some { w with data := some (ofs, data), started := false, asker := some (currentReq s n) }) s))

/-- R578 step 5, R890: the closing message; its answer leaves after the commit. -/
def imageClose (n : Nat) (t : WriteTarget) (sigOk : Bool) (s : State) : Option Answer × State :=
  match writeOf t s with
  | .error a => (some a, formerActs (flashLease (targetCtl t)) flashOwner s)
  | .ok w => (none, deferAnswer n (setWrite (targetCtl t) (some { w with closing := some sigOk, asker := some (currentReq s n) }) s))

/-- R590, R716: an IMAGE_WRITE ends without a commit. -/
def imageAbort (t : WriteTarget) (s : State) : Answer × State :=
  let c := targetCtl t
  match getWrite s c with
  | none => (⟨0xE, 0, []⟩, s)
  | some w => if w.asker.isSome then (⟨1, 0, []⟩, s) else (.ok, endSequence c (setWrite c none s))

/-- R581: an IMAGE_WRITE ends for another reason; an answer that it owes leaves where one is given. -/
def endWrite (c : Nat) (a : Option Answer) (s : State) : State :=
  match getWrite s c with
  | none => endSequence c s
  | some w =>
    let s := endSequence c (setWrite c none s)
    match a with
    | some a => answerWrite w a s
    | none => s

/-- R581: every IMAGE_WRITE ends. -/
def endWrites (a : Option Answer) (s : State) : State := endWrite 1 a (endWrite 0 a s)

/-- R587: the header and the body of a firmware image: 1 its key, 2 its signature, 3 its body or its header. -/
def firmwareFault (s : State) (b : List Byte) (sigOk : Bool) : Option Nat :=
  let body := b.drop 512
  let head := b.take 4 == [0x4C, 0x46, 0x57, 0x49] && fieldAt b 8 4 == body.length && ((b.drop 176).take 336).all (· == 0)
  if !fusedKey s 44 3 ((b.drop 48).take 64) then some 1
  else if !sigOk then some 2
  else if !head || sha256 body != (b.drop 16).take 32 then some 3
  else none

/-- R578 step 5, R587: what a closing message finds wrong in the slot: the reason, and a fault to show. -/
def closeFault (s : State) (w : ImageWrite) (sigOk : Bool) : Option (Nat × Option ImgFault) :=
  let c := targetCtl w.target
  let b := slotImage s c w.slot w.total
  match w.target with
  | .firmware => (firmwareFault s b sigOk).map fun r => (r, none)
  | .key => match checkImage s b w.total sigOk with
    | .error f => some (f.reason, some f)
    | .ok _ => none

/-- R561, R578 step 6, R589: the entry that commits a slot. -/
def commitEntry (s : State) (w : ImageWrite) : List Byte :=
  let c := targetCtl w.target
  let b := slotImage s c w.slot w.total
  let version := match w.target with
    | .firmware => fieldAt b 4 4
    | .key => 0
  entryBytes c w.slot (nextEntrySeq s c) w.total ((sha256 b).take 8) version

/-- R579, R716: a failed check ends the write. -/
def closeFails (c : Nat) (w : ImageWrite) (reason : Nat) (f : Option ImgFault) (s : State) : State :=
  let s := match f with
    | some f => showFault f s
    | none => s
  answerWrite w ⟨0xF, reason, []⟩ (setWrite c none s)

/-- R578 step 6, R589: the commit entry stands in the directory. -/
def committed (c : Nat) (w : ImageWrite) (seq : Nat) (s : State) : State :=
  let s := setWrite c none s
  match w.target with
  | .key =>
    let s := answerWrite w .ok (raise 0x1207 [.h w.slot, .w seq] s)
    if s.head.st = .unconfigured ∧ s.pwr.pf = .normal then discoverKey s else s
  | .firmware =>
    let v := fieldAt (slotImage s 0 w.slot 8) 4 4
    let s := answerWrite w .ok (raise 0x120B [.h w.slot, .w v] s)
    s.onCfg fun x => { x with fwVer := x.fwVer.set w.slot (BitVec.ofNat 32 v), plannedRestart := true }

/-- R580: a data message aimed at bytes that are not erased. -/
def dataNotBlank (c a : Nat) (s : State) : State :=
  modFlash c (fun f => { f with last := 1, addr := a }) (addF (R.CFG_FLASH_CNT_NOT_BLANK c) 1 (raise 0x1208 [.h c, .w a] s))

/-- R578 steps 4 to 6: what an IMAGE_WRITE does once its controller is idle. -/
def writeNext (c : Nat) (w : ImageWrite) (s : State) : State :=
  let failed := (getFlash s c).failed
  match w.data, w.closing, w.commit with
  | some (ofs, data), _, _ =>
    let a := slotBase c w.slot + ofs
    let w' := { w with data := none, started := false, asker := none }
    if w.started then
      let s := setWrite c (some w') s
      answerWrite w (if failed = 0 then .ok else ⟨1, failed, []⟩) s
    else if blank (flashMem s c) a data.length then addSteps c (programSteps a data) (setWrite c (some { w with started := true }) s)
    else answerWrite w ⟨7, 0, []⟩ (dataNotBlank c a (setWrite c (some w') s))
  | none, some sigOk, none =>
    (match closeFault s w sigOk with
    | some (r, f) => closeFails c w r f (match f with
      | some f => noteBreak (slotImage s c w.slot w.total) f s
      | none => s)
    | none => addSteps c (entrySteps s c (commitEntry s w)) (setWrite c (some { w with commit := some (nextEntrySeq s c).toNat }) s))
  | none, some _, some seq =>
    if failed = 0 then committed c w seq s else answerWrite w ⟨1, failed, []⟩ (setWrite c none s)
  | none, none, _ => s

/-- R578: the IMAGE_WRITE of a controller goes on. -/
def pumpWrite (c : Nat) (s : State) : State :=
  match getWrite s c with
  | some w => if flashIdle s c ∧ s.pwr.pf = .normal then writeNext c w s else s
  | none => s

/-- R582, R578: a controller and its IMAGE_WRITE go on. -/
def pumpController (c : Nat) (s : State) : State := pumpFlash c (pumpWrite c s)

/-- R564, R581: the key is removed. -/
def doKeyRemoved (s : State) : State :=
  if !s.cfg.keyInSlot then s
  else
    let s := s.onCfg fun c => { c with keyInSlot := false, keyPresent := false, keyUsable := false, keyMem := [] }
    let s := endWrite 1 (some ⟨0xF, 16, []⟩) s
    if !s.head.fwReady ∨ s.head.st = .off ∨ s.head.st = .boot then s
    else
      let s := if s.head.st = .sleep ∧ s.cfg.reading.isNone then s else raise 0x1202 [.h s.head.st.code] s
      if s.cfg.reading.isSome then imageFault (showFault (headerFault 16 0) s) else s

end Sys2Proof.Machine
end

