-- ==== Sys2Proof/Machine/Rows.lean ====
section
/-! DEFINITION. Chapters 4 and 6: what a row packet passes on the processor die, dual-gain and multi-exposure fusion, the end
of reads, and the closing of frames. -/

namespace Sys2Proof.Machine

/-! ## The black clamp (R201, R219 to R222) -/

/-- R201: a side (0 left, 1 right) is usable for the clamp of a row of a bank. -/
def sideUsable (s : State) (bank y side : Nat) : Bool :=
  let k := 19 * side
  (getSb s (20 * bank + k)).st == .ready && (getTile s (y / 1024 * 20 + k)).st == .ready

/-- R201: the sides that the clamp of a row uses. -/
def sidesUsed (s : State) (bank y : Nat) : List Nat :=
  let sel := let (l, r) := clampSides s; (if l then [0] else []) ++ (if r then [1] else [])
  let ok := sel.filter (sideUsable s bank y)
  if ok = [] then [0, 1].filter fun k => !sel.contains k && sideUsable s bank y k else ok

/-- R219: the black samples of a side without the 4 highest and the 4 lowest. -/
def trimmed (l : List (BitVec 12)) : List Nat :=
  let l := sortBy (fun a b => decide (a ≤ b)) (l.map BitVec.toNat)
  (l.drop 4).take (l.length - 8)

/-- R219: the row mean in 1/65,536 DN. -/
def rowMean (l : List Nat) : Nat := if l.isEmpty then 0 else (l.foldl (· + ·) 0 * 65536 + l.length / 2) / l.length

/-- R221: the row starts within 16 row times of the seeding row. -/
def nearSeed (c : Clamp) (start : Nat) : Bool :=
  match c.seedTb with
  | some (t, span) => decide (start < t + span)
  | none => false

/-- R221: a clamp value is seeded; `span` is 16 row times in TB, rounded up. -/
def Clamp.seed (c : Clamp) (mean start span : Nat) : Clamp :=
  { c with value := mean, seeded := true, seedTb := some (start, span), rejected := 0 }

/-- R221: a clamp value has had no row for 1 s, or since power-up of its sub-banks. -/
def Clamp.idle (c : Clamp) (now : Nat) : Bool :=
  match c.lastTb with
  | some t => decide (t + second ≤ now)
  | none => true

/-- R201, R219 to R222: the clamp of a row's gain: the new clamp value, the row's flags, and whether it was rejected or seeded
after 16 rejections. A row without a usable side counts as a row of a clamp value that is not idle, and seeds none that is (log
entry 74). -/
def Clamp.step (c : Clamp) (jump tc : Nat) (mean : Option Nat) (start now rt : Nat) : Clamp × Nat × Bool × Bool :=
  let idle := c.idle now
  match mean with
  | none =>
    ((if idle then c else { c with lastTb := some now }),
      flagCalStale ||| (if !idle && nearSeed c start then flagTransition else 0), false, false)
  | some m =>
    let c := { c with lastTb := some now }
    if idle then (c.seed m start rt, flagTransition, false, false)
    else
      let near := if nearSeed c start then flagTransition else 0
      let d : Int := (m : Int) - c.value
      if jump * 65536 < d.natAbs then
        if 15 ≤ c.rejected then (c.seed m start rt, flagTransition, true, true)
        else ({ c with rejected := c.rejected + 1 }, near, true, false)
      else ({ c with value := (c.value + d / 2 ^ tc).toNat, rejected := 0 }, near, false, false)

/-- R219 to R222: the clamp of one gain of a row: the clamp value and the flags that the row carries. -/
def clampRow (bank cls gain y start rt : Nat) (left right : List (BitVec 12)) (s : State) : Nat × Nat × State :=
  let i := 4 * bank + 2 * cls + gain
  let used := sidesUsed s bank y
  let l := (if used.contains 0 then trimmed left else []) ++ (if used.contains 1 then trimmed right else [])
  let (c, flags, rej, seeded) := (s.cro.clamps.getD i {}).step (getF s R.CRO_CLAMP_JUMP) (getF s R.CRO_CLAMP_TC)
    (if l.isEmpty then none else some (rowMean l)) start s.now rt
  let s := s.onCro fun x => { x with clamps := x.clamps.set i c }
  let s := if rej then addF R.CRO_CNT_CLAMP_REJ 1 s else s
  let s := if seeded then raise 0x0408 [.h i] s else s
  (c.value, flags, s)

/-- R218, R223: a raw sample after the clamp and saturation marking. -/
def clampSample (ped thr clamp : Nat) (v : BitVec 12) : Px :=
  let x : Int := ((v.toNat : Int) * 65536 - clamp + 32768) / 65536 + ped
  if v = 4095 ∨ (thr : Int) ≤ x then .sat else .val (limitSample x)

/-! ## A row's pixels (R206, R210, R217) -/

/-- R210: samples of one sub-bank's row. -/
def subWidth (bin : Nat) : Nat := if bin = 0 then 1024 else 512

/-- A sample of a sub-bank's list, none where there is none. -/
def sampleAt (l : List (BitVec 12)) (i : Nat) (ped thr clamp : Nat) : Px :=
  match l[i]? with
  | some v => clampSample ped thr clamp v
  | none => .none

/-- R164, R200: a pixel of a sensor column is delivered. -/
def pixelLive (s : State) (dropped : List Nat) (bank y x : Nat) : Bool :=
  let t := y / 1024 * 20 + x / 1024
  (getTile s t).st == .ready && !dropped.contains t && (getSb s (20 * bank + x / 1024)).st == .ready

/-- R217, R228: the samples of converted pixels `first` to `last` of a row read in a gain mode, clamped and corrected; `len` is the
exposure in TB. -/
def rowPixels (s : State) (p : RowPacket) (dropped : List Nat) (gain bin y first last len clampH clampL : Nat) :
    List PxPair :=
  let ped := getF s R.CRO_LEVELS_PEDESTAL
  let thr := getF s R.CRO_LEVELS_SAT_THR
  let w := subWidth bin
  (List.range (last + 1 - first)).map fun i =>
    let px := first + i
    let x := px * (1024 / w)
    match p.subs.find? fun b => b.sb == px / w with
    | some b =>
      if pixelLive s dropped p.bank y x then
        { h := correct s p.bank 0 (bin != 0) x y len (sampleAt (if gain = 1 then [] else b.h) (px % w) ped thr clampH)
          l := correct s p.bank 1 (bin != 0) x y len (sampleAt (if gain = 0 then [] else b.l) (px % w) ped thr clampL) }
      else ⟨.none, .none⟩
    | none => ⟨.none, .none⟩

/-- R209: the 4 × 4 mean of four binned samples. -/
def meanPx (l : List Px) : Px :=
  if l.contains .none then .none
  else if l.contains .sat then .sat
  else .val ((l.foldl (fun a p => match p with | .val v => a + v | _ => a) 0 + 2) / 4)

/-- R209: the 4 × 4 pixels of two binned rows. -/
def meanRows : List PxPair → List PxPair → List PxPair
  | a :: b :: t, c :: d :: u => ⟨meanPx [a.h, b.h, c.h, d.h], meanPx [a.l, b.l, c.l, d.l]⟩ :: meanRows t u
  | _, _ => []

/-! ## Dual-gain fusion (R311, R312) -/

/-- R312: 16 times a fraction, rounded half up. -/
def sixteenths (n d : Int) : Int := (32 * n + d) / (2 * d)

/-- R311, R312: F of a pixel in 1/16 HCG DN above black; `g` is G in 1/4,096. -/
def dualFuse (ped tLo tHi g : Nat) (p : PxPair) : Px :=
  let h := match p.h with | .val v => some (v - ped) | _ => none
  let l := match p.l with | .val v => some (v - ped) | _ => none
  match h, l with
  | none, none => if p.h = .none ∧ p.l = .none then .none else .sat
  | some h, none => .val (sixteenths h 1)
  | none, some l => .val (sixteenths (l * g) 4096)
  | some h, some l =>
    if h ≤ tLo then .val (sixteenths h 1)
    else if (tHi : Int) ≤ h then .val (sixteenths (l * g) 4096)
    else .val (sixteenths ((tHi - h) * h * 4096 + (h - tLo) * l * g) (((tHi : Int) - tLo) * 4096))

/-- R312: the RAW16F code of F. -/
def raw16 (ped : Nat) (p : Px) : Px :=
  match p with
  | .val f => .val (max 1 ((f + 8) / 16 + ped))
  | _ => p

/-- The code of a pixel in a format: 0 for no sample, the format's largest for saturated. -/
def Px.code (sat : Nat) (p : Px) : Nat :=
  match p with
  | .none => 0
  | .sat => sat
  | .val v => v.toNat

/-- R211 to R215: the delivered code of a pixel. -/
def pixelCode (fmt gain : Nat) (p : PxPair) (f : Px) : Nat :=
  match fmt with
  | 0 => if gain = 1 then p.l.code 4095 else p.h.code 4095
  | 1 => p.h.code 4095 + 4096 * p.l.code 4095
  | _ => f.code 65535

/-! ## Fusion sets (R306, R315 to R325) -/

/-- A fusion set's identity. -/
def FusionSet.is (f : FusionSet) (lane frame rg : Nat) : Bool := f.lane == lane && f.frame == frame && f.rg == rg

/-- R306: the exposures of a lane's program that read a row group. -/
def setExps (s : State) (m rg : Nat) : List (Nat × ExpEntry) :=
  (laneExps s m).filter fun p => (readList s (getLane s m).rgb p.2).contains rg

/-- R316: the index of the longest exposure. -/
def longestExp (s : State) (m : Nat) : Nat :=
  ((laneExps s m).foldl (fun (b : Nat × Nat) p => if b.2 < lenUnits s p.2 then (p.1, lenUnits s p.2) else b) (0, 0)).1

/-- R306, R316, R321: a set as it stands when its first member has been read. -/
def newSet (s : State) (b : Booking) : FusionSet :=
  let live := (setExps s b.lane b.rg).map Prod.fst
  let open' := live.filter fun e => s.exs.bookings.any (·.is b.lane e b.frame b.rg) ||
    s.exs.insts.any fun i => i.lane == b.lane && i.exp == e && i.frame == b.frame && i.left.contains b.rg
  let first := (s.exs.bookings.find? fun c => c.lane == b.lane && c.frame == b.frame && c.rg == b.rg).getD b
  let tRef := match (laneProg s b.lane).exps[longestExp s b.lane]? with
    | some e => lenTb first.lper e
    | none => 1
  { lane := b.lane, frame := b.frame, rg := b.rg, outstanding := open', members := [], abandoned := open'.length < live.length,
    tRef := tRef, data := [], closed := false, flags := 0 }

/-- R324: the set of a booking exists. -/
def ensureSet (b : Booking) (s : State) : State :=
  if s.exs.sets.any (·.is b.lane b.frame b.rg) then s
  else s.onExs fun x => { x with sets := x.sets ++ [newSet s b] }

/-- R322, R324: a member that has been read enters its set with its rows; a set that has closed takes nothing more. -/
def FusionSet.enter (f : FusionSet) (m : Member) (rows : List FusedRow) : FusionSet :=
  let f := { f with outstanding := f.outstanding.filter (· != m.exp) }
  if f.closed then f else { f with members := f.members ++ [m], data := f.data ++ rows }

/-- R324: a member that has been read enters its set. -/
def enterMember (b : Booking) (m : Member) (rows : List FusedRow) (s : State) : State :=
  (ensureSet b s).onExs fun x => { x with sets := x.sets.map fun f => if f.is b.lane b.frame b.rg then f.enter m rows else f }

/-- R316, R317: V of a pixel as a fraction of 1/16 DN. -/
def fuseValue (longest : Bool) (tRef : Nat) (l : List (Nat × Int)) : Int × Int :=
  if longest then
    let b := l.foldl (fun (m : Nat × Int) p => if m.1 < p.1 then p else m) (0, 0)
    (b.2 * tRef, b.1)
  else (tRef * (l.map Prod.snd).foldl (· + ·) 0, ((l.map Prod.fst).foldl (· + ·) 0 : Nat))

/-- R317 to R320: the LIN24 code of a pixel from its members' lengths and values. -/
def lin24 (longest : Bool) (tRef shift ped : Nat) (l : List (Nat × Px)) : Px :=
  let vals := l.filterMap fun p => match p.2 with | .val v => some (p.1, v) | _ => none
  if vals = [] then (if l.any fun p => p.2 == .sat then .sat else .none)
  else
    let (n, d) := fuseValue longest tRef vals
    let code := roundDiv n (d * 16 * 2 ^ shift) + ped
    if 0xFFFFFE < code then .sat else .val (max 1 code)

/-- The value of a member at a pixel. -/
def FusedRow.at (r : FusedRow) (x : Nat) : Px := if x < r.x0 then .none else r.vals.getD (x - r.x0) .none

/-- R317: one row of a fused set over a range of pixels. -/
def fusedCodes (s : State) (f : FusionSet) (row lo hi : Nat) : List Px :=
  let lane := getLane s f.lane
  let ped := getF s R.CRO_LEVELS_PEDESTAL
  let tRef := ((f.members.find? fun m => m.exp == longestExp s f.lane).map Member.len).getD f.tRef
  let rows := f.members.filterMap fun m => (f.data.find? fun r => r.exp == m.exp && r.row == row).map fun r => (m.exp, m.len, r)
  let rows := sortBy (fun a b => decide (a.1 ≤ b.1)) rows
  (List.range (hi + 1 - lo)).map fun i => lin24 lane.mode tRef lane.shift ped (rows.map fun q => (q.2.1, q.2.2.at (lo + i)))

/-- R308: the LIN24 descriptor of the exposures of a lane's program that read a row group. -/
def linGeo (s : State) (m rg : Nat) : Option Nat :=
  ((setExps s m rg).find? fun p => (geoOf s p.2.geo).fmt == 3).map fun p => p.2.geo

/-- R202, R208: the first and last delivered pixel of a geometry in its own coordinates. -/
def pixelRange (g : Geo) : Nat × Nat :=
  let p := pixelPitch g.bin
  (16 * g.c0 / p, (16 * g.c1 + 16) / p - 1)

/-- R327, R331: the member with the earliest reset. -/
def earliestMember (f : FusionSet) : Option Member :=
  f.members.foldl (fun (b : Option Member) m => match b with
    | some e => if m.reset < e.reset then some m else b
    | none => some m) none

/-- R321, R331 to R333, R341: flags, slip, SPLIT and NB of a fused result. -/
def fusedMeta (s : State) (f : FusionSet) (extra : Nat) : Nat × Nat × Nat × Nat :=
  let flags := f.members.foldl (fun n m => n ||| m.flags) 0
  let flags := flags - (if flags.testBit 0 then flagSat else 0)
  let flags := flags ||| f.flags ||| extra ||| if f.abandoned then flagGap else 0
  let slip := (f.members.map Member.slip).foldl max 0
  match earliestMember f with
  | some e =>
    match straddle s e.lper e.reset ((f.members.map Member.lastRow).foldl max 0) with
    | some (sp, nb) => (flags ||| flagStraddle, slip, sp, nb)
    | none => (flags, slip, 0, 0)
  | none => (flags, slip, 0, 0)

/-- R226: the number of the settings of a fused row, none when its members differ. -/
def fusedTag (f : FusionSet) (row : Nat) : Option Nat :=
  match (f.data.filter fun r => r.row == row).map FusedRow.tag with
  | t :: l => if l.all (· == t) then some t else none
  | [] => none

/-- R308, R309, R325: one row of a closing set is delivered. -/
def deliverFused (f : FusionSet) (extra : Nat) (raw : Bool) (stuck : BitVec 16) (row : Nat) (s : State) : State :=
  let e0 := earliestMember f
  let frame := (e0.map Member.attr).getD s.rru.f
  let (flags, slip, split, nb) := fusedMeta s f extra
  let bin := match (laneProg s f.lane).exps.head? with | some e => (geoOf s e.geo).bin | none => 0
  let own := f.data.filter fun r => r.row == row
  let lo := (own.map FusedRow.x0).foldl min ((own.head?.map FusedRow.x0).getD 0)
  let hi := (own.map fun r => r.x0 + r.vals.length).foldl max 1 - 1
  let sat := fun (l : List Px) => if l.contains .sat then flagSat else 0
  let s := match linGeo s f.lane f.rg with
    | some n =>
      if raw then
        let (a, b) := pixelRange (geoOf s n)
        let px := fusedCodes s f row a b
        sendRow { geo := n, fmt := 3, bin := bin, lane := f.lane, gain := 3, exp := 8, frame := frame,
                  flags := flags ||| sat px, row := row, x0 := a, pos := (e0.map Member.pos).getD 0, slip := slip,
                  split := split, nb := nb, resetTb := (e0.map Member.reset).getD 0,
                  pixels := px.map (Px.code 0xFFFFFF) } s
      else s
    | none => s
  let wsm := (setExps s f.lane f.rg).foldl (fun n p => n ||| p.2.wsm) 0
  let codes := fusedCodes s f row lo hi
  feedRow { slot := 8, frame := frame, tag := fusedTag f row, y := row * pixelPitch bin, pitch := pixelPitch bin, x0 := lo,
            codes := codes, flags := flags ||| sat codes, slip := slip, split := split, nb := nb, wsm := wsm } stuck s

/-- R322, R324: the buffer of a set is freed; while members are outstanding, the set stays known as closed. -/
def shutSet (f : FusionSet) (s : State) : State :=
  let s := s.onExs fun x => { x with
    sets := (x.sets.filter fun t => !(t.is f.lane f.frame f.rg && t.outstanding == [])).map fun t =>
      if t.is f.lane f.frame f.rg then { t with closed := true, members := [], data := [] } else t }
  if openSets s = 0 then freeLease 0 s else s

/-- R324: a set closes: it is fused and delivered, and its buffer is freed. -/
def closeFusion (f : FusionSet) (extra : Nat) (raw : Bool) (stuck : BitVec 16) (s : State) : State :=
  forEach (sortBy Nat.ble (f.data.map FusedRow.row)).eraseDups (deliverFused f extra raw stuck) (shutSet f s)

/-- R324: a set whose last member has been read or abandoned closes. -/
def closeReady (stuck : BitVec 16) (f : FusionSet) (s : State) : State :=
  if f.closed then shutSet f s
  else
    let s := if f.abandoned then
        raiseLimited f.lane second 0x0511 [.h f.lane, .h f.rg] (addF R.EXS_FU_CNT_PARTIAL 1 s) else s
    closeFusion f 0 true stuck s

/-- R324: every set with nothing outstanding closes. -/
def closeFinished (stuck : BitVec 16) (s : State) : State :=
  forEach (s.exs.sets.filter fun f => f.outstanding == []) (closeReady stuck) s

/-- R341: every open set closes with the members that have been read. -/
def closeAllSets (extra : Nat) (raw : Bool) (s : State) : State :=
  forEach (s.exs.sets.filter fun f => !f.closed) (fun f => closeFusion f extra raw 0) s

/-- R324, R341: every set is discarded. -/
def discardFusion (s : State) : State :=
  let n := openSets s
  let s := freeLease 0 (s.onExs fun x => { x with sets := [] })
  if n = 0 then s else raise 0x0513 [.h n] s

/-- R323: a member of a third instance on a row group closes the oldest open set. -/
def closeThird (lane frame rg : Nat) (stuck : BitVec 16) (s : State) : State :=
  match s.exs.sets.filter fun f => f.lane == lane && f.rg == rg && f.frame != frame && !f.closed with
  | f :: _ :: _ =>
    let s := raiseLimited lane second 0x0512 [.h lane, .h rg] (addF R.EXS_FU_CNT_EARLY_CLOSE 1 s)
    closeFusion f flagGap true stuck s
  | _ => s

/-! ## Rows of lanes -/

/-- R192, R208: sensor row of the first pixel of row k of a read, and its own row number. -/
def rowPlace (bin bank rg k : Nat) : Nat × Nat :=
  match bin with
  | 0 => (8 * rg + k, 8 * rg + k)
  | 1 => let b := 8 * rg + 4 * bank + k; (2 * b, b)
  | _ => let q := 4 * rg + 2 * bank + k / 2; (4 * q, q)

/-- R333: STRADDLE, SPLIT and NB of an exposure, from the boundaries known now. -/
def expStraddle (s : State) (b : Booking) (e : ExpEntry) : Nat × Nat × Nat :=
  match straddle s b.lper b.resetTb (lastRowTb s b e) with
  | some (sp, nb) => (flagStraddle, sp, nb)
  | none => (0, 0, 0)

/-- R391: a row's unsaturated samples enter the dose sums of their frame, in quarters. -/
def addDose (frame len ped : Nat) (quarter : Bool) (codes : List Px) : State → State :=
  State.onPat fun x =>
    let o := Tbl.getD x.dose frame (0, 0)
    let vals := codes.filterMap fun p => match p with | .val v => some (v - ped) | _ => none
    let w : Nat := if quarter then 1 else 4
    { x with dose := Tbl.set x.dose frame (o.1 + w * vals.foldl (· + ·) 0, o.2 + w * len * vals.length) }

/-- R274, R200, R230: results of a frame of a lane carry GAP. -/
def noteGap (lane frame : Nat) (s : State) : State :=
  if s.exs.notes.any fun n => n.lane == lane && n.first == frame && n.last == frame && n.flags == flagGap then s
  else noteFlags lane frame frame flagGap s

/-- R217, R312, R314, R391: a row of a lane's read, its samples final, is kept with its booking until the read ends, and enters the
dose sums. -/
def keepRow (b : Booking) (e : ExpEntry) (geo : Geo) (rd : BankRead) (bank k flags : Nat) (stuck : BitVec 16)
    (px : List PxPair) (s : State) : State :=
  let ped := getF s R.CRO_LEVELS_PEDESTAL
  let (y, row) := rowPlace geo.bin bank b.rg k
  let x0 := (pixelRange geo).1
  let f := px.mapIdx fun i q => dualFuse ped rd.tLo rd.tHi (usedRatio s bank ((x0 + i) * pixelPitch geo.bin)) q
  let codes := f.map (raw16 ped)
  let gap := px.any fun q => q.h == .none && q.l == .none
  let flags := flags ||| (if codes.contains .sat ∨ px.any (fun q => q.h == .sat || q.l == .sat) then flagSat else 0) |||
    (if gap then flagGap else 0) ||| (if b.slip = 0 then 0 else flagSlip)
  let s := if gap then noteGap b.lane b.attr s else s
  let r : ReadRow :=
    { row := row, k := k, y := y, tag := (rd.tLo * 4096 + rd.tHi) * 2 ^ 32 + s.cal.tag, flags := flags, stuck := stuck,
      raw := (px.zip f).map fun q => pixelCode geo.fmt e.gain q.1 (raw16 ped q.2), codes := codes, vals := f }
  modBooking b.lane b.exp b.frame b.rg (fun b => { b with rows := b.rows ++ [r] })
    (addDose b.attr (b.readTb - b.resetTb) ped (geo.bin != 0) codes s)

/-- R208, R325, R332: a row of a read that has ended is delivered and counted; `st`, `split` and `nb` are those of its exposure. -/
def deliverRow (b : Booking) (e : ExpEntry) (geo : Geo) (st split nb : Nat) (r : ReadRow) (s : State) : State :=
  let x0 := (pixelRange geo).1
  let s := if geo.fmt = 3 then s else
    sendRow { geo := e.geo, fmt := geo.fmt, bin := geo.bin, lane := b.lane, gain := e.gain, exp := b.exp, frame := b.attr,
              flags := r.flags ||| st, row := r.row, x0 := x0, pos := b.pos, slip := b.slip, split := split, nb := nb,
              resetTb := b.resetTb + rowsTime b.u e.gain (if geo.bin = 2 then r.k / 2 * 2 else r.k), pixels := r.raw } s
  feedRow { slot := b.exp, frame := b.attr, tag := some r.tag, y := r.y, pitch := pixelPitch geo.bin, x0 := x0, codes := r.codes,
            flags := r.flags ||| st, slip := b.slip, split := split, nb := nb, wsm := e.wsm } r.stuck s

/-- R413, R313: flags that the active set gives to data corrected now. -/
def calFlags (s : State) : Nat := if calStale s then flagCalStale else 0

/-- R185, R208: sensor row of converted row k of a bank in a read, before the 4 × 4 stage. -/
def readY (bin bank rg k : Nat) : Nat := if bin = 0 then 8 * rg + k else 2 * (8 * rg + 4 * bank + k)

/-- R202: the first converted pixel of a geometry's rows and the one after the last. -/
def convertedRange (geo : Geo) : Nat × Nat :=
  let w := if geo.bin = 0 then 1 else 2
  (16 * geo.c0 / w, (16 * geo.c1 + 16) / w)

/-- R209, R217, R890: a converted row of a lane's read, corrected or lost, is kept, or waits for its 4 × 4 neighbour. -/
def takeRow (b : Booking) (e : ExpEntry) (rd : BankRead) (bank k flags : Nat) (stuck : BitVec 16) (px : List PxPair)
    (s : State) : State :=
  let geo := geoOf s e.geo
  let open' := leaseOpen s 0 5
  let s := if open' then takeLease 0 5 s else refusedHolder 0 5 s
  let px := if open' then px else List.replicate px.length ⟨.none, .none⟩
  let flags := (if open' then 0 else flagGap) ||| flags ||| b.flags ||| calFlags s
  if geo.bin < 2 then keepRow b e geo rd bank k flags stuck px s
  else if k % 2 = 0 then s.onCro fun x => { x with rowBuf := x.rowBuf.set bank (some ⟨px, flags⟩) }
  else
    let up := (s.cro.rowBuf.getD bank none).getD ⟨List.replicate px.length ⟨.none, .none⟩, flagGap⟩
    let s := s.onCro fun x => { x with rowBuf := x.rowBuf.set bank none }
    keepRow b e geo rd bank k (flags ||| up.flags) stuck (meanRows up.pixels px) s

/-- R217: a row packet of a lane's read. -/
def laneRow (b : Booking) (e : ExpEntry) (rd : BankRead) (p : RowPacket) (s : State) : State :=
  let geo := geoOf s e.geo
  let k := p.row.val
  let bank := p.bank.val
  let bin := geo.bin
  let y := readY bin bank b.rg k
  let (first, fin) := convertedRange geo
  let span := rowsTime (usableLanes s bank) e.gain 16
  let start := rd.start + rowsTime rd.u e.gain k
  if p.crcOk then
    let (ch, fh, s) := if e.gain = 1 then (0, 0, s) else clampRow bank (bit (bin != 0)) 0 y start span p.leftH p.rightH s
    let (cl, fl, s) := if e.gain = 0 then (0, 0, s) else clampRow bank (bit (bin != 0)) 1 y start span p.leftL p.rightL s
    takeRow b e rd bank k (fh ||| fl) p.stuck (rowPixels s p b.dropped e.gain bin y first (fin - 1) (b.readTb - b.resetTb) ch cl) s
  else takeRow b e rd bank k 0 p.stuck (List.replicate (fin - first) ⟨.none, .none⟩) (rowCrcError bank p.link (32 + y) s)

/-- R233: row k of a lane's read on a bank, which has had no usable lane, is lost. -/
def lostRow (b : Booking) (e : ExpEntry) (rd : BankRead) (bank k : Nat) (stuck : BitVec 16) (s : State) : State :=
  let geo := geoOf s e.geo
  let (first, fin) := convertedRange geo
  takeRow b e rd bank k 0 stuck (List.replicate (fin - first) ⟨.none, .none⟩) (rowLost bank (32 + readY geo.bin bank b.rg k) s)

/-- R233: the rows of a read that its bank has lost. -/
def lostRows (s : State) (bank rows : Nat) : List Nat :=
  match s.cro.reading.getD bank none with
  | some r => if r.dead then (List.range rows).filter fun k => !r.got.contains k else []
  | none => []

/-! ## Rows of calibration (R421, R429) -/

/-- R185: the readable row of row k of a calibration read (R144, R146). -/
def calReadable (rg k : Nat) : Nat :=
  if rg < 1536 then 32 + 8 * rg + k else if rg < 1540 then 8 * (rg - 1536) + k else 12320 + 8 * (rg - 1540) + k

/-- R421: a row packet of a calibration read. -/
def calRow (rd : BankRead) (p : RowPacket) (s : State) : State :=
  match s.cal.reads.find? fun r => r.rg == rd.rg && r.reading && (if r.drift then rd.exp == 1 + r.gain else rd.exp == 0) with
  | none => s
  | some r =>
    let bank := p.bank.val
    let k := p.row.val
    let black := decide (1536 ≤ r.rg)
    -- R144, R146: a black row has the tiles of the nearest active row
    let y := if black then (if r.rg < 1540 then 0 else 12287) else 8 * r.rg + k
    if !p.crcOk then rowCrcError bank p.link (calReadable r.rg k) s
    else
      let span := rowsTime (usableLanes s bank) r.gain 16
      let start := rd.start + rowsTime rd.u r.gain k
      let ped := getF s R.CRO_LEVELS_PEDESTAL
      let thr := getF s R.CRO_LEVELS_SAT_THR
      forEach ([0, 1].filter fun g => r.gain == 2 || r.gain == g) (fun g s =>
        let left := if g = 0 then p.leftH else p.leftL
        let right := if g = 0 then p.rightH else p.rightL
        let (c, _, s) := clampRow bank 0 g y start span left right s
        let cols := p.subs.flatMap fun b => (if g = 0 then b.h else b.l).mapIdx fun i v => (1024 * b.sb + i, clampSample ped thr c v)
        let cols := cols.filter fun q => pixelLive s [] bank y q.1
        if black then
          let side := fun (k first : Nat) (l : List (BitVec 12)) =>
            if sideUsable s bank y k then l.mapIdx (fun i v => (first + i, clampSample ped thr c v)) else []
          blackSamples r.drift bank g (side 0 0 left ++ cols.map (fun q => (48 + q.1, q.2)) ++ side 1 20528 right) s
        else calSamples g y cols s) s

/-- R217, R233: a row packet arrives on the sensor link, each row once; a bank that has had no usable lane brings none. -/
def doRowPacketReceived (p : RowPacket) (s : State) : State :=
  match s.cro.reading.getD p.bank none with
  | none => s
  | some rd =>
    if rd.dead ∨ rd.got.contains p.row.val then s
    else
      let s := s.onCro fun x => { x with reading := x.reading.set p.bank (some { rd with got := rd.got ++ [p.row.val] }) }
      if rd.lane = 4 then calRow rd p s
      else
        match findBooking s rd.lane rd.exp rd.frame rd.rg, (laneProg s rd.lane).exps[rd.exp]? with
        | some b, some e => if p.row.val < rowsPerGroup (geoOf s e.geo).bin then laneRow b e rd p s else s
        | _, _ => s

/-! ## Resets and reads -/

/-- R245: a booked reset begins, of a lane 0 to 3 or of calibration (lane 4). -/
def doRowGroupResetStart (lane : Fin 5) (exp key rg : Nat) (s : State) : State :=
  if lane.val = 4 then calResetStart rg s else laneResetStart lane exp key rg s

/-- R245: a booked read begins on its bank or banks; for lane 4, `exp` is 0 for a calibration exposure and 1 + gain for the
column check. -/
def doRowGroupReadStart (lane : Fin 5) (exp key rg : Nat) (s : State) : State :=
  if lane.val = 4 then (if exp = 0 then calReadStart rg s else driftReadStart rg (exp - 1) s)
  else laneReadStart lane exp key rg s

/-- R283, R452: a reset target that has been reached: the reset is placed, or abandoned while the gate is closed. -/
def placeTarget (t : Target) (s : State) : State :=
  let i := t.inst
  let s := takeGroup i.lane i.exp i.frame t.rg s
  let s := if s.ctg.gate then place i t.rg t.tb t.exp s else abandonMember i.lane i.frame t.rg i.exp (abandonUnplaced i t.rg s)
  drainCheck i.lane s

/-- R279, R283: a reset target is reached; the targets that come before it in the order of placement are placed with it. -/
def doResetTargetReached (m : Fin 4) (exp key rg : Nat) (s : State) : State :=
  if mayPlace s then forEach (targetsUpTo s m exp key rg) placeTarget s else s

/-- R233: the rows that the banks of a read have lost. -/
def loseRows (b : Booking) (e : ExpEntry) (banks : List Nat) (stuck : BitVec 16) (s : State) : State :=
  forEach banks (fun k s => match s.cro.reading.getD k none with
    | some rd => forEach (lostRows s k (rowsPerGroup (geoOf s e.geo).bin)) (fun r s =>
        match findBooking s b.lane b.exp b.frame b.rg with
        | some b => lostRow b e rd k r stuck s
        | none => s) s
    | none => s) s

/-- R309, R324 to R326, R331: an exposure that has been read is delivered, row by row, and enters its fusion set. -/
def deliverRead (b : Booking) (e : ExpEntry) (stuck : BitVec 16) (s : State) : State :=
  let geo := geoOf s e.geo
  let (st, split, nb) := expStraddle s b e
  let rows := sortBy (fun (a c : ReadRow) => decide (a.row ≤ c.row)) b.rows
  let s := forEach rows (deliverRow b e geo st split nb) s
  let s := closeThird b.lane b.frame b.rg stuck s
  let mem : Member :=
    { exp := b.exp, len := b.readTb - b.resetTb, reset := b.resetTb, lastRow := lastRowTb s b e,
      flags := rows.foldl (fun n r => n ||| r.flags) st, slip := b.slip, pos := b.pos, attr := b.attr, lper := b.lper }
  let fused := rows.map fun r => ({ exp := b.exp, row := r.row, x0 := (pixelRange geo).1, tag := r.tag, vals := r.vals } : FusedRow)
  let s := (enterMember b mem fused s).onExs fun x => { x with bookings := x.bookings.filter fun c => !c.is b.lane b.exp b.frame b.rg }
  let s := setF R.EXS_FU_STATUS_PEND_MAX (max (getF s R.EXS_FU_STATUS_PEND_MAX)
    (min 4095 (s.exs.sets.filter fun f => !f.closed && f.outstanding != []).length)) s
  drainCheck b.lane (closeFinished stuck s)

/-- R191, R324: a lane's read ends on its banks at the end of its slot; an exposure abandoned meanwhile is not delivered. -/
def laneReadComplete (m : Nat) (exp key rg : Nat) (stuck : BitVec 16) (s : State) : State :=
  let banks := banksReading s m exp key rg
  if banks = [] ∨ banks.any (fun k => decide (s.now < s.cro.freeAt.getD k 0)) then s
  else match findBooking s m exp key rg, (laneProg s m).exps[exp]? with
    | some b, some e =>
      let s := closeLong m rg (freeBanks banks (loseRows b e banks stuck s))
      match findBooking s m exp key rg with
      | some b => deliverRead b e stuck s
      | none => s
    | _, _ => freeBanks banks s

/-- R191, R233: a calibration read ends on its bank, which is free again; rows that the bank has lost are counted. -/
def calReadComplete (rg exp : Nat) (s : State) : State :=
  if calReadEnds s rg exp then
    let bank := calBank rg
    let s := forEach (lostRows s bank 8) (fun k s => rowLost bank (calReadable rg k) s) s
    calReadDone rg (if exp = 0 then 2 else exp - 1) (freeBanks [bank] s)
  else s

/-- R191: a row-group read ends. -/
def doRowGroupReadComplete (lane : Fin 5) (exp key rg : Nat) (stuck : BitVec 16) (s : State) : State :=
  if lane.val = 4 then calReadComplete rg exp s
  else laneReadComplete lane exp key rg stuck s

/-! ## Frames (R329, R978, R391 to R393) -/

/-- R329: every exposure and fusion set of a lane that is attributed to a frame has been read or abandoned. -/
def frameQuiet (s : State) (m frame : Nat) : Bool :=
  !(s.exs.bookings.any fun b => b.lane == m && b.resetDone && decide (b.attr ≤ frame)) &&
    !(s.exs.sets.any fun f => f.lane == m && f.members.any fun x => decide (x.attr ≤ frame))

/-- R391 to R393: rate and dose increment of a frame, as (numerator, denominator) and in 2⁻³² DU. -/
def doseOf (s : State) (frame ticks : Nat) : (Nat × Nat) × Nat :=
  let d := Tbl.getD s.pat.dose frame (0, 0)
  let r := if d.2 = 0 then (s.pat.lastNum, s.pat.lastDen) else (d.1.toNat, d.2)
  let inc := if s.ctg.shutClosed then 0 else (r.1 * ticks * 2 ^ 32 * 2 + r.2 * 1000000) / (r.2 * 1000000 * 2)
  (r, inc)

/-- R643: the state byte of a FRAME record. -/
def frameState (s : State) : Nat :=
  let t := match s.sns.temp with | .off => 0 | .settling => 1 | .stable => 2 | .fault => 3
  bit s.ctg.shutClosed + 2 * bit s.ctg.gate + 4 * bit (s.ctg.moving || s.ctg.settling) + 8 * t + 32 * bit (coasting s)

/-- R978: a frame closes for the head: the dose feed, the cartridge's counter and the FRAME record. -/
def headFrameClose (m : FrameMark) (fin : Nat) (s : State) : State :=
  let (r, inc) := doseOf s m.f (fin - m.tb)
  let s := s.onPat fun x => { x with
    lastNum := r.1, lastDen := r.2, doseRate := min 0xFFFFFFFF ((r.1 * 500000000 + r.2) / (2 * r.2)),
    doseInc := min 0xFFFFFFFF inc, dose := Tbl.del x.dose m.f }
  let s := countLife m.pos inc s
  sendTrack 3 [m.pos, frameState s, m.f, srcCode s.rru.active, m.lines, m.tb, min 0xFFFFFFFF inc,
    (if s.ctg.st = .absent then 0 else min 65535 (life s)), s.sns.sensor.toNat, m.todSec, m.todNs] true s

/-- R978: the frames that have ended and closed for every lane close for the head, oldest first. -/
def closeHeadFrames (s : State) : State :=
  forEach (List.range s.pat.frames.length) (fun _ t => match t.pat.frames with
    | a :: b :: _ =>
      if (List.range 4).all fun k => !((getLane t k).st == .running || (getLane t k).st == .draining) ||
          decide (a.f < (getLane t k).openFrame) then
        headFrameClose a b.tb (t.onPat fun x => { x with frames := x.frames.drop 1 })
      else t
    | _ => t) s

/-- R329: a frame closes for a lane. -/
def doLaneFrameClose (m : Fin 4) (s : State) : State :=
  let x := getLane s m
  if (x.st = .running ∨ x.st = .draining) ∧ x.openFrame < s.rru.f ∧ frameQuiet s m x.openFrame then
    settleSets (closeHeadFrames (modLane m (fun x => { x with openFrame := x.openFrame + 1 }) s))
  else s

/-- R295, R341: the scheduler and the open fusion sets are reset. -/
def schedulerReset (s : State) : State := resetScheduler (closeAllSets flagGap true s)

end Sys2Proof.Machine
end

