-- ==== Sys2Proof/Machine/Stores.lean ====
section
/-! DEFINITION. Chapters 19 and 21: the decision of energy checks, the ends of store operations on the flash controllers and the
eMMC, the journal, and the revocation of leases (R585, R816 to R821, R826, R864, R881, R887 to R891). -/

namespace Sys2Proof.Machine

/-! ## Energy checks (R816 to R820) -/

/-- R582, R586: an operation on controller 0. -/
def norUser (u : StoreUser) : Bool := u == .norFlash || u == .journal || u == .faultMirror || u == .supRecord

/-- R826: controller 0 runs an operation. -/
def norBusy (s : State) : Bool := s.pwr.running.any fun r => norUser r.user

/-- R817, R826: an operation whose check has passed starts, or is queued behind the one that controller 0 runs. -/
def passCheck (w : WaitStore) (s : State) : State :=
  if norUser w.user ∧ norBusy s then
    s.onPwr fun x => { x with checking := x.checking.filter (·.user != w.user), queued := x.queued ++ [w.user] }
  else
    let s := runStore w s
    match w.user with
    | .fuse => fuseStarts s
    | .checkpoint => checkpointStarts s
    | .longLog => longLogStarts s
    | _ => s

/-- R434: event 0x0707 once per calibration store. -/
def calWaits (s : State) : State :=
  match s.cal.store with
  | some t =>
    if t.waitLogged then s
    else raise 0x0707 [.h t.copy, .h 0] (s.onCal fun c => { c with store := some { t with waitLogged := true } })
  | none => s

/-- R677, R820: event 0x0C0A once per key store. -/
def keysWait (s : State) : State :=
  match s.ten.store with
  | some t =>
    if t.waitLogged then s
    else raise 0x0C0A [.h t.copy, .h 0] (s.onTen fun x => { x with store := some { t with waitLogged := true } })
  | none => s

/-- R820: what the requesting chapter does when an operation waits. -/
def userWaits (u : StoreUser) (s : State) : State :=
  match u with
  | .calibration => calWaits s
  | .checkpoint => deferCheckpoint 0 s
  | .keyFlash => flashWaits 1 s
  | .norFlash => flashWaits 0 s
  | .keyStore => keysWait s
  | .fuse => fuseWaits s
  | .journal | .faultMirror | .supRecord | .longLog => s

/-- R826: a store of the power-fail sequence that fails the rule is skipped. -/
def skipStore (op : StoreOp) (u : StoreUser) (s : State) : State :=
  let s := raise 0x0F04 [.h op.code] (addF R.PWR_CNT_SKIPPED 1 (dropStore u s))
  if u = .checkpoint then freeLease 6 (raise 0x0807 [.h 2] s) else s

/-- R820, R826: an operation whose check fails. -/
def failCheck (w : WaitStore) (s : State) : State :=
  if s.pwr.pf ≠ .normal then skipStore w.op w.user s else userWaits w.user (waitStore w s)

/-- R816, R817: a V_bulk sample decides the checks that wait for one; no operation starts during a deferral (R857). -/
def decideChecks (v : Nat) (s : State) : State :=
  let s := s.onPwr fun x => { x with bulk := v, eAvail := availMj s v }
  if s.sup.deferred.isSome then s
  else forEach s.pwr.checking (fun w s => if energyOk s w.op v then passCheck w s else failCheck w s) s

/-- R819: a check that has waited for its sample for 1 ms. -/
def checkExpired (s : State) (w : WaitStore) : Bool := decide (w.last + milli ≤ s.now)

/-- R494, R819: the checks without a sample for 1 ms fail; a check waits while the reference settles. -/
def doEnergyCheckTimeout (s : State) : State :=
  if s.trc.settling.isSome then s else forEach (s.pwr.checking.filter (checkExpired s)) failCheck s

/-! ## The journal and the mirror (R638, R826, R864, R881) -/

/-- R826: the pages queued behind an operation of controller 0 are asked for again, or start under the rule after the warning. -/
def requeue (s : State) : State :=
  if norBusy s then s
  else
    let q := s.pwr.queued
    let s := s.onPwr fun x => { x with queued := [] }
    forEach q (fun u s =>
      if s.pwr.pf = .normal then askStore .norProgram u s
      else if norBusy s then s.onPwr fun x => { x with queued := x.queued ++ [u] }
      else if energyOk s .norProgram s.pwr.bulk then runStore ⟨.norProgram, u, s.now, s.now⟩ s
      else skipStore .norProgram u s) s

/-- R471, R638: a journal page holds the epoch and the counters of the cartridges. -/
def journalDone (s : State) : State := (epochStored s).onCtg fun c => { c with memoJournal := c.memo }

/-- R638, R864, R881: a page of the journal or of the mirror has been programmed. -/
def norStoreEnds (u : StoreUser) (devOk : Bool) (s : State) : State :=
  let s := endStore u s
  if !devOk then raise 0x1210 [.h 0, .w (getFlash s 0).addr] (modFlash 0 (fun f => { f with last := 4 }) (addF (R.CFG_FLASH_CNT_ERRORS 0) 1 s))
  else match u with
    | .journal => journalDone s
    | .supRecord => s.onSup fun x => { x with journal := some (supRecord s), commitDue := false }
    | .faultMirror => mirrorRing s
    | _ => s

/-- R583, R855: the running operation of a flash controller ends, with what the device reports and the bytes that its range holds
where they are not those commanded. -/
def doFlashOperationComplete (c : Fin 2) (devOk : Bool) (held : Option (List Byte)) (s : State) : State :=
  if c = 1 then
    if storeRuns s .keyFlash then flashStepEnds 1 devOk held s else s
  else match s.pwr.running.find? fun r => norUser r.user with
    | some r => requeue (if r.user = .norFlash then flashStepEnds 0 devOk held s else norStoreEnds r.user devOk s)
    | none => s

/-- R434, R677, R880: the running eMMC write command ends. -/
def doEmmcCommandComplete (ok : Bool) (s : State) : State :=
  if storeRuns s .calibration then calCommandDone ok s
  else if storeRuns s .keyStore then keyCommandDone ok s
  else if storeRuns s .longLog then longLogDone ok s
  else s

/-- R638, R864: the journal pages that are due are asked for once firmware runs. -/
def pumpJournal (s : State) : State :=
  if !s.head.fwReady ∨ s.head.coreRestart ∨ s.sup.coreDown ∨ s.sup.dieDown ∨ s.pwr.pf ≠ .normal then s
  else
    let s := if s.lnk.epoch = s.lnk.epochJournal then s else askStore .norProgram .journal s
    if s.sup.commitDue then askStore .norProgram .supRecord s else s

/-! ## Leases (R888 to R891) -/

/-- R888, R889: the store operations that use a resource. -/
def leaseUsers (r : Nat) : List StoreUser :=
  match r with
  | 3 => [.norFlash]
  | 4 => [.keyFlash]
  | 5 => [.calibration, .keyStore, .longLog]
  | 6 => [.checkpoint]
  | _ => []

/-- R888: a resource is reset to its defined state. -/
def resetResource (r : Nat) (s : State) : State :=
  match r with
  | 0 => closeAllSets flagGap false s
  | 1 => discardQueues s
  | 3 => endWrite 0 none s
  | 4 => endWrite 1 none s
  | 5 =>
    let o := (getLease s 5).owner
    if o = 7 then s.onCal (fun c => match c.store with
      | some t => { c with store := none, copies := c.copies.set t.copy none }
      | none => c)
    else if o = 0xC then s.onTen fun x => { x with store := none, storeDue := false }
    else s.onFlt fun f => { f with blockLen := 0 }
  | _ => s

/-- R888: the token goes to the recovery of the failed holder while a restart is in progress, and is freed otherwise. -/
def passToken (r : Nat) (s : State) : State :=
  if s.head.coreRestart || s.sup.coreDown || s.sup.dieDown then
    modLease r (fun x => { st := .held, owner := 0xFF, expires := s.now + leaseTb s r, former := x.former }) s
  else freeLease r s

/-- R888: a lease is revoked now. -/
def revoke (r : Nat) (s : State) : State :=
  let s := leaseRevoked r s
  if r = 7 then changeRevoked s
  else passToken r (resetResource r (forEach (leaseUsers r) dropStore s))

/-- R888, R889, R891: a lease that has expired is revoked; the revocation waits for a running store operation, for at most 2.5 s. -/
def doLeaseExpired (r : Fin 8) (s : State) : State :=
  let l := getLease s r
  let running := (leaseUsers r).any (storeRuns s)
  if r.val = 7 then
    (if l.st = .held ∧ l.expires ≤ s.now ∧ s.chg.st ≠ .idle ∧ s.chg.st ≠ .armed ∧ !s.chg.mosaic then revoke 7 s else s)
  else match l.st with
    | .held =>
      if s.now < l.expires then s
      else if running then modLease r (fun x => { x with st := .revoking, waitFrom := some s.now }) s
      else revoke r s
    | .revoking =>
      if !running || decide ((l.waitFrom.getD 0) + 625000000 ≤ s.now) then revoke r s else s
    | .free => s

/-- R889: a revocation goes on when the operation that it waits for has ended. -/
def settleLeases (s : State) : State :=
  forEach [3, 4, 5, 6] (fun r s => if (getLease s r).st = .revoking ∧ !(leaseUsers r).any (storeRuns s) then revoke r s else s) s

end Sys2Proof.Machine
end

