-- ==== Sys2Proof/Machine/Ladder.lean ====
section
/-! DEFINITION. Chapters 20 and 21: the actions of the ladder: restarts of the management core and of the processor die, and the
entry into HOLD (R589, R848 to R863, R883 to R892, R974). -/

namespace Sys2Proof.Machine

/-! ## Sessions (R704, R706) -/

/-- R706: a steward session ends with a cause, and with it the replies that it is owed. -/
def endSession (cause n : Nat) (s : State) : State :=
  if !(getSession s n).opened then s
  else
    let s := modSession n (fun _ => {}) (raise 0x1233 [.h n, .h cause] s)
    let s := s.onChg fun c => { c with reply := match c.reply with
      | some r => if r.session = n then none else c.reply
      | none => none }
    let s := s.onFus fun f => { f with cmd := f.cmd.map fun c => { c with reply := match c.reply with
      | some r => if r.1 = n then none else c.reply
      | none => none } }
    s.onCfg fun c => { c with writes := c.writes.map fun w => w.map fun x => { x with asker := match x.asker with
      | some r => if r.1 = n then none else x.asker
      | none => none } }

/-- R706: every steward session ends with a cause. -/
def endSessions (cause : Nat) (s : State) : State := forEach (List.range 4) (endSession cause) s

/-! ## Level 1 and the planned restart (R589, R842, R844, R850) -/

/-- R439, R844, R850: the management core restarts, and a debug halt ends. -/
def restartCore (s : State) : State := doDebugHaltEnd (restartCalStore (s.onHead fun h => { h with coreRestart := true }))

/-- R850 level 1. -/
def level1 (e : LadderEvent) (s : State) : State :=
  let s := s.onSup fun x => { x with l1 := satAdd 32 x.l1 1 }
  openWindow 1 e.code [] (raise 0x1002 [.h e.code] (bootPeriod (restartCore s)))

/-- R589: a planned restart, which is no ladder event. -/
def plannedRestart (s : State) : State :=
  if s.cfg.plannedRestart ∧ !s.head.coreRestart ∧ !s.sup.coreDown ∧ !s.sup.dieDown ∧ s.pwr.pf = .normal then
    bootPeriod (restartCore s)
  else s

/-- R888: the tokens that waited for the recovery of a failed holder are freed. -/
def freeRecovered (s : State) : State :=
  forEach (List.range 8) (fun r s => if (getLease s r).st = .held ∧ (getLease s r).owner = 0xFF then freeLease r s else s) s

/-- R588, R589: the firmware that runs after a restart, and the entry of a planned one. -/
def takeFirmware (s : State) : State :=
  match newestLive s 0 with
  | none => s
  | some e =>
    let v := e.version
    let s := s.onCfg fun c => { c with fwSlot := e.slot, runVer := v, fwVer := c.fwVer.set e.slot v }
    if s.cfg.plannedRestart then raise 0x120D [.w v.toNat] (s.onCfg fun c => { c with plannedRestart := false }) else s

/-- R134, R477, R700, R850, R892: the restarted management core serves again. -/
def doCoreRestartComplete (s : State) : State :=
  if !s.head.coreRestart ∨ s.sup.dieDown ∨ s.sup.coreDown ∨ s.head.st = .off then s
  else
    let s := freeRecovered (s.onHead fun h => { h with coreRestart := false })
    if !s.head.fwReady then s
    else
      let s := flushHeld (takeFirmware s)
      let s := doCtgCheckpointDue (flushThreadEvents (sendSetFlags true s))
      if s.cfg.keyInSlot && !s.cfg.keyPresent then takeUpKey s else s

/-! ## What a reset of the processor die leaves (R974) -/

/-- R974: the resets of the processor die. -/
inductive DieReset where
  | level2 | wake | park | mains
  deriving DecidableEq, Repr

/-- R83, R974: the raster block. -/
def rruAfter (k : DieReset) (x : Rru) : Rru :=
  match k with
  | .level2 | .wake => { f := x.f, fUsed := x.fUsed, extPresent := x.extPresent }
  | .park | .mains => { extPresent := x.extPresent }

/-- R92, R135, R974: timebase and time of day are kept until they are made up; the timebase holds. -/
def tmbAfter (k : DieReset) (x : Tmb) : Tmb :=
  match k with
  | .level2 | .wake => { tb := x.tb, todSec := x.todSec, todNs := x.todNs }
  | .park | .mains => {}

/-- R176, R974: tiles and cooler. -/
def snsAfter (k : DieReset) (x : Sns) : Sns :=
  match k with
  | .level2 =>
    { x with tiles := x.tiles.map (fun p => (p.1, { p.2 with calNeed := false, current := 0 })), inBand := 0, coolSat := false
             heldOver := x.coolOn, sampled := false
             temp := match x.temp with
               | .off => .off
               | .fault => .fault
               | _ => .settling }
  | _ => {}

/-- R236, R974: sub-banks. -/
def croAfter (k : DieReset) (x : Cro) : Cro :=
  match k with
  | .level2 => { sbs := x.sbs.map fun p => (p.1, { p.2 with calNeed := false }) }
  | _ => {}

/-- R440, R441, R974: calibration. -/
def calAfter (k : DieReset) (x : Cal) : Cal :=
  match k with
  | .level2 =>
    { active := x.active, src := x.src, loaded := x.loaded, tag := x.tag, next := x.next, due := x.due, stale := x.stale, suspect := x.suspect, autoHeld := x.autoHeld
      abortsConsec := x.abortsConsec, requested := x.requested, arisen := x.arisen, force := x.force
      forceLogged := x.forceLogged, loading := x.loading, copies := x.copies }
  | _ => { copies := x.copies }

/-- R471, R478, R479, R974: the cartridge. -/
def ctgAfter (k : DieReset) (x : Ctg) : Ctg :=
  match k with
  | .level2 => x
  | .wake | .park => { contact := x.contact, memo := x.memo, memoJournal := x.memoJournal }
  | .mains => { contact := x.contact, memo := x.memoJournal, memoJournal := x.memoJournal }

/-- R490, R974: tracker converters. -/
def trcAfter (k : DieReset) (x : Trc) : Trc :=
  match k with
  | .level2 => { slices := x.slices, positions := x.positions, spare := x.spare, noSpare := x.noSpare, firstGap := List.range 256 }
  | _ => {}

/-- R549, R974: trigger engines; the pads hold what they are given for the time of the reset. -/
def tgeAfter (k : DieReset) (pads : List (Option Bool)) (x : Tge) : Tge :=
  match k with
  | .level2 => { inLevel := x.inLevel, padLatch := pads }
  | _ => { inLevel := x.inLevel }

/-- R575, R576, R974: configuration; the stores keep their contents. -/
def cfgAfter (k : DieReset) (x : Cfg) : Cfg :=
  let base : Cfg := { keyInSlot := x.keyInSlot, keyParams := x.keyParams, keyMem := x.keyMem, nor := x.nor }
  match k with
  | .level2 =>
    { base with keyPresent := x.keyPresent, fwSlot := x.fwSlot, fwFallback := x.fwFallback, fwVer := x.fwVer, runVer := x.runVer
                bootMs := x.bootMs, retained := x.retained, imgDigest := x.imgDigest, imgSlot := x.imgSlot }
  | _ => base

/-- R638, R656, R895, R974: the data link. -/
def lnkAfter (k : DieReset) (x : Lnk) : Lnk :=
  let base : Lnk := { module := x.module, epochJournal := x.epochJournal, control := x.control, sent := x.sent }
  match k with
  | .level2 =>
    { base with streams := x.streams, ports := x.ports.map (fun p => { up := p.up }), txEn := x.txEn, epoch := x.epoch, epochOk := x.epochOk }
  | _ => { base with epoch := x.epochJournal }

/-- R390, R678, R694, R974: tenants. -/
def tenAfter (k : DieReset) (x : Ten) : Ten :=
  match k with
  | .level2 =>
    { ctx := (x.ctx.filter fun p => 0 < p.2.lostWins).map (fun p => (p.1, { lostWins := p.2.lostWins })), copies := x.copies
      generation := x.generation, keyGen := x.keyGen, copy := x.copy, copyOk := x.copyOk }
  | _ => { copies := x.copies, keyGen := x.keyGen }

/-- R812, R826, R974: power; a store operation queued on the store path goes on. -/
def pwrAfter (k : DieReset) (x : Pwr) : Pwr :=
  match k with
  | .level2 => { x with checking := [], waiting := [], queued := [], running := [] }
  | _ => { x with doms := [] }

/-- R974: what a reset of the processor die leaves. The pads hold a value through a level-2 restart. -/
def dieOff (k : DieReset) (s : State) : State :=
  let pads := (List.range 20).map (lineOut s)
  let sp := getF s R.SNS_COOL_CTRL_SETPOINT
  let regs := match k with
    | .mains => []
    | _ => s.regs.filter fun r => r.1 / 0x10000 == 0xE
  let s := { s with
    regs := regs, staged := [], justStaged := [], fresh := [], shadows := [], mem := []
    rru := rruAfter k s.rru, tmb := tmbAfter k s.tmb, sns := snsAfter k s.sns, cro := croAfter k s.cro, exs := {}
    pat := (match k with
      | .level2 => { sets := s.pat.sets }
      | .wake => { sets := (s.pat.sets.filter fun p => p.2.gapFrom.isSome).map fun p =>
          (p.1, { gapFrom := p.2.gapFrom, gapTo := p.2.gapTo, gapFlags := p.2.gapFlags }) }
      | _ => {})
    cal := calAfter k s.cal, ctg := ctgAfter k s.ctg, trc := trcAfter k s.trc, tge := tgeAfter k pads s.tge
    cfg := cfgAfter k s.cfg, chg := {}, lnk := lnkAfter k s.lnk, ten := tenAfter k s.ten
    lcp := { replies := s.lcp.replies, accepts := s.lcp.accepts, events := s.lcp.events }
    pwr := pwrAfter k s.pwr }
  let s := stopMosaic s
  let s := s.onSup fun x => { x with stuck := [], monWin := [[], [], [], [], []] }
  let s := s.onFlt fun f => { f with leases := List.replicate 8 {} }
  let s := s.onHead fun h => { h with fwReady := false, coreRestart := false, applied := false, applying := false, locks := [] }
  if k = .level2 then setF R.SNS_COOL_CTRL_SETPOINT sp s else s

/-! ## Level 2 (R850, R851, R855 to R857) -/

/-- R882: the blocks that a level-2 restart resets. -/
def allBlocks : List Nat := List.range 19

/-- R882, R892: the blocks in the path of the recovery after a level-2 restart. -/
def recoveryBlocks : List Nat := [1, 5, 6, 11, 13]

/-- R850 level 2: the processor die is reset. -/
def dieReset (e : LadderEvent) (s : State) : State :=
  let s := raise 0x1003 [.h e.code] (s.onSup fun x => { x with dieDown := true, l2 := satAdd 32 x.l2 1, deferred := none })
  let s := openWindow 2 e.code allBlocks (bootPeriod (countL2 s))
  let s := endWrites none (discardChange 1 (endSessions 2 s))
  let s := abortRun .state s
  let s := match s.cal.store with
    | some t => s.onCal fun c => { c with store := none, copies := c.copies.set t.copy none }
    | none => s
  let (v, s) := if s.ten.store.isSome then takeFree s else (0, s)
  let s := failKeyStore (v.toNat % 3) s
  let s := discardStreams s
  let s := discardFusion (lanesOff false s)
  let s := discardSteward (discardSets true s)
  let undriven := s.tge.undriven
  let s := enginesOff undriven (cutFuse s)
  let s := removeTenantWindows s
  let s := dieOff .level2 (s.onPwr fun p => { p with sleeping := false })
  match s.head.st with
  | .acquiring | .running => setHead .acquiring s
  | _ => s

/-- R855: the longest duration of an operation in microseconds. -/
def longest : StoreOp → Nat
  | .norErase => 2000000
  | .norProgram => 1500
  | .emmcWrite => 100000
  | .fuseWord => 2400
  | .checkpoint => 10000

/-- R855: of the operations that run, the one that lasts longest. -/
def deferring (s : State) : Option StoreOp :=
  s.pwr.running.foldl (fun m r => match m with
    | none => some r.op
    | some o => if longest o < longest r.op then some r.op else some o) none

/-- R842, R850, R855: level 2: the die is reset, or the reset is deferred with the core held in reset, as level 1 restarts it. -/
def level2 (e : LadderEvent) (s : State) : State :=
  if s.pwr.running.isEmpty then dieReset e s
  else
    let s := bootPeriod (restartCore s)
    openWindow 2 e.code [] (s.onSup fun x => { x with coreDown := true, deferred := some (s.now, e) })

/-- R855, R856: the deferral ends when the last operation has ended. -/
def endDeferral (s : State) : State :=
  match s.sup.deferred with
  | none => s
  | some (t, e) =>
    match deferring s with
    | some o => s.onSup fun x => { x with deferOp := o.code }
    | none =>
      let s := raise 0x1006 [.h s.sup.deferOp, .h ((s.now - t) / milli)] s
      dieReset e (closeLevel 2 s)

/-- R856: a word of the fuse array that an operation leaves undefined. -/
def spoilFuse (s : State) : State :=
  match s.fus.cmd.bind FuseCmd.cur with
  | none => s
  | some (w, _) =>
    let (a, s) := takeFree s
    let (b, s) := takeFree s
    s.onFus fun f => { f with a := Tbl.put f.a w 0 (a.setWidth 32), b := Tbl.put f.b w 0 (b.setWidth 32), cmd := none }

/-- R856: the bytes of a flash device that an operation leaves undefined. -/
def spoilFlash (c : Nat) (s : State) : State :=
  match (getFlash s c).cur with
  | none => s
  | some x =>
    let n := if x.op = .erase then sectorBytes else x.data.length
    let s := forEach (List.range n) (fun i s =>
      let (v, s) := takeFree s
      setFlashMem c (Mem.write erased (flashMem s c) (x.addr + i) (v.setWidth 8)) s) s
    modFlash c (fun _ => {}) s

/-- R856: the device of a running operation is left undefined at the operation's address, which is answered. -/
def spoilDevice (r : RunStore) (s : State) : Nat × State :=
  match r.user with
  | .calibration =>
    (match s.cal.store with
      | some t => t.done
      | none => 0, s)
  | .keyStore =>
    (match s.ten.store with
      | some t => t.done
      | none => 0, s)
  | .longLog => (0, s)
  | .fuse => (((s.fus.cmd.bind FuseCmd.cur).map Prod.fst).getD 0, spoilFuse s)
  | .checkpoint =>
    let (l, s) := freeCounters s
    (0, s.onCtg fun c => { c with stored := l })
  | .keyFlash => ((getFlash s 1).addr, spoilFlash 1 s)
  | .norFlash => ((getFlash s 0).addr, spoilFlash 0 s)
  | .journal => (0, s.onLnk fun l => { l with epochJournal := 0 })
  | .faultMirror => (0, s.onFlt fun f => { f with mirrorOk := false })
  | .supRecord => (0, s.onSup fun x => { x with journal := none })

/-- R856: 2.5 s after the ladder event the die is reset with the operation still running. -/
def doDeferTimeout (s : State) : State :=
  match s.sup.deferred with
  | none => s
  | some (t, e) =>
    if s.now < t + 625000000 then s
    else
      let s := raise 0x1006 [.h s.sup.deferOp, .h ((s.now - t) / milli)] s
      let s := forEach s.pwr.running (fun r s =>
        let (a, s) := spoilDevice r s
        raise 0x100E [.h r.op.code, .w a] s) s
      dieReset e (closeLevel 2 (s.onPwr fun p => { p with running := [] }))

/-! ## Level 3 (R861) -/

/-- R850 level 3, R861: the head enters HOLD. -/
def enterHold (e : LadderEvent) (s : State) : State :=
  let s := s.onSup fun x => { x with l3 := satAdd 32 x.l3 1, hold := true, deferred := none, coreDown := false }
  let s := openWindow 3 e.code [] s
  let s := discardChange 2 (s.onPwr fun p => { p with sleeping := false })
  let s := endWrites (some ⟨0xE, 0, []⟩) (dropApply (s.onCfg fun c => { c with reading := none }))
  let s := abortRun .state s
  let s := discardFusion (lanesOff false s)
  let s := removeTenantWindows (discardSets false s)
  let s := shedSwitches (enginesOff false s)
  let s := setHead .hold s
  let s := askCheckpoint (driveShutter s)
  let s := discardRings (finishStreams 0 (discardQueues s))
  raise 0x1004 [.h e.code, .h (recentL2 s).length] (restartCore s)

/-! ## The ladder events of a tick (R848, R852, R853) -/

/-- R853, R866: no level is reached: a ladder event is recorded alone. -/
def ladderRecordsOnly (s : State) : Bool :=
  s.pwr.pf != .normal || s.head.st == .off || s.head.st == .sleep

/-- R848 to R853: the ladder acts on the events of the tick. -/
def settleLadder (s : State) : State :=
  let l := s.sup.requests
  if l = [] then s
  else
    let s := s.onSup fun x => { x with requests := [] }
    if ladderRecordsOnly s then
      noteExpiry l (match combine s l with
        | some (_, e) => recordCause 0 e s
        | none => s)
    else if s.sup.dieDown || s.sup.deferred.isSome then s.onSup fun x => { x with held := x.held ++ l }
    else match combine s l with
      | none => s
      | some (n, e) =>
        let s := noteExpiry l (recordCause n e s)
        if n = 1 then level1 e s else if n = 2 then level2 e s else enterHold e s

end Sys2Proof.Machine
end

