-- ==== Sys2Proof/Machine/Restart.lean ====
section
/-! DEFINITION. Starts and stops of the head: mains and firmware ready (R555, R588), the ends of restarts (R850, R892), sleep and
wake (R830 to R832), release from HOLD (R862), and the power-fail sequence and parking (R823 to R829). -/

namespace Sys2Proof.Machine

/-! ## Mains and firmware ready (R555, R588, R829, R865) -/

/-- R555 step 2, R829: the always-on domain is powered and the head is in BOOT. -/
def enterBoot (cause : StartCause) (s : State) : State :=
  let s := s.onRru fun x => { x with sysPll := .search }
  let s := s.onPwr fun p => { p with pf := .normal, mainsOk := true, parked := false, sleeping := false, stepsDone := [], pfStep := 0 }
  let s := s.onFlt fun f => { f with lastLogged := [] }
  setHead .boot (s.onHead fun h => { h with cause := cause, waking := false, wakeCh := none, romServes := false })

/-- R7, R555, R784, R865, R881: mains is applied, and the always-on domain starts. -/
def doMainsApplied (s : State) : State :=
  if s.head.st ≠ .off ∨ s.pwr.aon then s
  else
    let s := dieOff .mains s
    let s := s.onPwr fun p => { aon := true, bulk := p.bulk }
    let s := s.onHead fun _ => {}
    let s := s.onFlt fun f => { f with windows := [], held := [], avRun := false }
    let s := restoreRing (restoreRecord (senseFuses s))
    let s := s.onSup fun x => { x with powerOn := satAdd 32 x.powerOn 1, commitDue := true, wdgRun := s.fus.wires.hwStart, fallback := false
                                       held := [], requests := [], deferred := none, coreDown := false, dieDown := false, lastLevel := 0 }
    enterBoot .mains (bootPeriod s)

/-- R829: mains returns to a parked head whose always-on domain is still powered; the time parked in ms. -/
def doParkRestart (ms : Nat) (s : State) : State :=
  if !s.pwr.parked ∨ !s.pwr.aon then s
  else
    let s := dieOff .park s
    let held := s.sup.hold
    let s := s.onSup fun x => { x with hold := false, l2Win := [], lastExpiry := none, powerOn := satAdd 32 x.powerOn 1, commitDue := true
                                       held := [], requests := [], deferred := none, coreDown := false, dieDown := false }
    let s := when held (raise 0x1005 [.h 1]) (s.onFlt fun f => { f with windows := [] })
    let s := avParked ms (s.onPwr fun p => { p with parkMs := ms })
    enterBoot .park (bootPeriod s)

/-- R129, R132, R974: the head wakes: the die is reset, TB and TOD are made up, and the channels armed at the entry into SLEEP whose
target has passed show it. -/
def wakeTimers (slow : Nat) (s : State) : State :=
  let armed := sleepTargets s
  let s := makeUp slow ((dieOff .wake s).onTmb fun t => { t with run := true })
  let s := forEach (armed.filter fun x => decide (x.2 ≤ s.now) && s.head.wakeCh != some x.1) (fun x => setMissed (x.1 / 4) (x.1 % 4) 0) s
  match s.head.wakeCh with
  | some k => raiseF (R.TMB_U_FLAGS_MATCH (k / 4)) (getF s (R.TMB_U_FLAGS_MATCH (k / 4)) ||| 2 ^ (k % 4)) s
  | none => s

/-- R76, R78, R92, R129, R832: the system PLL locks, and TB counts; a wake makes TB up from the slow ticks, and an image whose
application waited for the lock goes on. -/
def doSystemPllLock (slow : Nat) (s : State) : State :=
  if !sysAcquires s ∨ s.head.st = .off ∨ s.sup.dieDown ∨ asleep s then s
  else if s.head.st = .sleep ∧ !s.head.fwReady then sysLocks (wakeTimers slow s)
  else resumeApply (sysLocks s)

/-- R562, R588: the slots in the order in which the boot ROM verifies them. -/
def bootOrder (s : State) : List Nat :=
  match newestLive s 0 with
  | none => [0, 1]
  | some e => e.slot :: (if (liveEntries s 0).any fun d => d.slot != e.slot then [1 - e.slot] else [])

/-- R555 step 6: what firmware starts when it is ready. -/
def firmwareStarts (s : State) : State :=
  let s := startLoad (trainLink (startCooler s))
  let s := startTracker (loadKeys s)
  let s := takeUpCartridge s
  let s := readKeyTable (tidyDir 0 s)
  if s.cfg.keyUsable then tidyDir 1 s else s

/-- R588: the version of a firmware slot: its marker's, or its header's. -/
def slotVersion (s : State) (slot : Nat) : Word :=
  match newestOfSlot s 0 slot with
  | some e => e.version
  | none => BitVec.ofNat 32 (beNat (Mem.readBytes erased s.cfg.nor (slotBase 0 slot + 4) 4))

/-- R555 steps 5 to 7, R588, R832: the boot ROM has verified the slots, with what it found of each, and firmware is ready. -/
def doFirmwareReady (okA okB : Bool) (s : State) : State :=
  if s.head.fwReady ∨ s.head.coreRestart ∨ s.sup.dieDown ∨ s.sup.coreDown ∨ s.rru.sysPll ≠ .locked ∨ asleep s ∨ s.head.st = .off ∨
      s.pwr.pf ≠ .normal ∨ !s.fus.sensed then s
  else
    let ok := fun (k : Nat) => (if k = 0 then okA else okB) && !unitFails s 3
    let order := bootOrder s
    match order.find? ok with
    | none => s.onHead fun h => { h with romServes := true }
    | some slot =>
      let first := order.getD 0 slot
      let v := slotVersion s slot
      let s := s.onCfg fun c => { c with fwSlot := slot, runVer := v, fwVer := [0, 1].map (fun k => if ok k then slotVersion s k else 0), fwFallback := first != slot
                                         bootMs := s.now / milli, readyTb := s.now }
      let s := bootChecks (s.onHead fun h => { h with fwReady := true })
      let s := flushHeld s
      let s := if first != slot then raise 0x120C [.h first] s else s
      let s := match s.head.cause with
        | .park => raise 0x0F0E [.w s.pwr.parkMs] s
        | .wake => raise 0x0F0A [.h s.head.wakeSrc] s
        | _ => s
      let s := firmwareStarts s
      match s.head.st with
      | .boot => discoverKey s
      | .sleep => beginRead s
      | _ => s

/-! ## Ends of restarts (R850, R852, R892) -/

/-- R440: the calibration in the frame store is used when its CRC matches; otherwise it is loaded. -/
def calAfterReset (calOk : Bool) (s : State) : State := if calOk then s else startLoad (activate {} 0 s)

/-- R7, R575, R892: the image after the reset, by the head's state: key discovery and image read restart from the first byte. -/
def imageAfterReset (s : State) : State :=
  match s.head.st with
  | .acquiring => reapply .level2 s
  | .sleep => beginRead s
  | .configuring => beginRead (tidyDir 1 (tidyDir 0 s))
  | .unconfigured =>
    let s := tidyDir 1 (tidyDir 0 s)
    if keyValid s then beginRead s else s
  | _ => s

/-- R131, R176, R850, R852, R892: a level-2 restart ends after a number of slow ticks, with what the head finds of the copies in the
frame store: calibration, tenant table and image. -/
def doDieRestartComplete (slow : Nat) (calOk tenOk imgOk : Bool) (s : State) : State :=
  if !s.sup.dieDown ∨ s.head.st = .off then s
  else
    let s := s.onSup fun x => { x with dieDown := false, coreDown := false, deferred := none }
    let s := s.onRru fun x => { x with sysPll := .locked }
    let s := makeUp slow (s.onTmb fun t => { t with run := true })
    let s := s.onFlt fun f => { f with windows := f.windows.map fun w => if w.level = 2 then { w with resets := recoveryBlocks } else w }
    let held := s.sup.held
    let s := s.onSup fun x => { x with held := [], requests := x.requests ++ held }
    if s.head.st = .boot ∨ s.pwr.pf ≠ .normal then s
    else
      let s := s.onHead fun h => { h with fwReady := true, cause := .level2 }
      let s := flushHeld (loadBias (s.onCfg fun c => { c with readyTb := s.now }))
      let s := trainLink (startTracker s)
      let s := loadKeys (calAfterReset calOk (s.onTen fun x => { x with copyOk := x.copyOk && tenOk }))
      let s := if s.ctg.st ≠ .absent ∧ !s.ctg.contact then removeCartridge s else takeUpCartridge s
      let s := startCooler (readKeyTable s)
      imageAfterReset (if imgOk then s else s.onCfg fun c => { c with retained := none })

/-! ## Release from HOLD (R7, R575, R717, R862) -/

/-- R549, R862, R864: the head leaves HOLD on the steward's release. -/
def releaseHold (s : State) : State :=
  let s := raise 0x1005 [.h 0] s
  let s := s.onSup fun x => { x with hold := false, l2Win := [], commitDue := true }
  let s := closeLevel 3 (s.onHead fun h => { h with cause := .release })
  if s.cfg.retained.isSome then
    (if retainedOk s then reapply .release s else reapply .release (setHead .acquiring s))
  else discoverKey (enginesOff true (s.onHead fun h => { h with applied := false }))

/-! ## Sleep and wake (R830 to R832, R866) -/

/-- R271, R341, R342, R374, R376: a sleep command or a power-fail warning closes the fusion sets, abandons the open instances, closes
the intervals and switches the lanes off, in this order. -/
def endAcquisition (raw keepStopped : Bool) (s : State) : State :=
  let s := closeAllSets (flagGap + flagTruncated) raw s
  let s := forEach (busyLanes s) abandonLane s
  lanesOff keepStopped (truncateSets s)

/-- R830 steps 1 to 4: the steward's sleep command. -/
def startSleep (s : State) : State :=
  let s := s.onPwr fun p => { p with sleeping := true, warnTb := s.now }
  let s := abortRun .state (endWrites none (discardChange 3 s))
  let s := sleepGaps (endAcquisition true false s)
  let s := closeSteward flagTruncated s
  let s := discardRings (finishStreams 1 s)
  let s := askCheckpoint (rememberCartridge s)
  let s := askStore .norProgram .journal (askStore .norProgram .supRecord (askStore .norProgram .faultMirror s))
  enginesOff true s

/-- R830 step 5, R831: every domain and the main converters are off, and the head sleeps. -/
def doSleepEntryComplete (s : State) : State :=
  let stores : List StoreUser := [.checkpoint, .journal, .supRecord, .faultMirror]
  if !s.pwr.sleeping ∨ s.sup.dieDown ∨ s.pwr.pf ≠ .normal ∨
      (stores.any fun u => storeRuns s u || s.pwr.checking.any fun w => w.user == u) then s
  else
    let s := raise 0x0F09 [] s
    let s := endSessions 3 (s.onPwr fun p => { p with sleeping := false, checking := [], waiting := [] })
    let s := coolerOff (shedSwitches (domainsOff s))
    let s := linkOff (stopTracker (stopMosaic (stopPll s)))
    let s := s.onRru fun x => { x with sysPll := .off }
    let s := s.onTmb fun t => { t with run := false }
    let s := dropApply (s.onCfg fun c => { c with retained := none, reading := none })
    let s := s.onSup fun x => { x with elapsed := 0, elapsedPart := 0 }
    let s := s.onHead fun h => { h with fwReady := false, applied := false, coreRestart := false, waking := false, wakeCh := none }
    driveShutter (setHead .sleep s)

/-- R832, R842: a wake source wakes the head: 0 WAKE datagram, 1 trigger line, 2 compare channel, 3 watchdog. -/
def startWake (src : Nat) (ch : Option Nat) (s : State) : State :=
  if !asleep s ∨ s.pwr.pf ≠ .normal ∨ !s.pwr.aon then s
  else
    let s := s.onHead fun h => { h with waking := true, wakeSrc := src, wakeCh := ch, cause := .wake, romServes := false }
    bootPeriod (s.onRru fun x => { x with sysPll := .search })

/-- R728: a WAKE datagram with a serial number. -/
def doWake (serial : BitVec 64) (s : State) : State := if serial = serialNo s then startWake 0 none s else s

/-- R549: a rising edge on a trigger line with WAKE = 1. -/
def doTrgWakeEdge (n : Nat) (s : State) : State := if (rawReg s (lineReg n)).getLsbD 8 then startWake 1 none s else s

/-- R132: a compare channel whose target the made-up TB reaches with the slow tick of that number, not before. -/
def doCompareWake (k : Fin 32) (slow : Nat) (s : State) : State :=
  let u := k.val / 4
  let c := k.val % 4
  let t := cmpValue s u c
  if getF s (R.TMB_CH_CTRL_MODE u c) = 0 ∧ flagF s (R.TMB_CH_CTRL_WAKE u c) ∧ flagF s (R.TMB_CH_CTRL_EN u c) ∧ s.now < t ∧
      s.now + (slow - 1) * 1953125 / 256 < t ∧ t ≤ s.now + slow * 1953125 / 256 then startWake 2 (some k.val) s
  else s

/-- R866: the watchdog's expiry in SLEEP wakes the head. -/
def doSleepWatchdogWake (s : State) : State :=
  if s.sup.wdgRun ∧ asleep s then startWake 3 none (raise 0x100C [] s) else s

/-- R846, R866: a window of the clock monitor ends; a trip in SLEEP also wakes the head. -/
def doClockMonitorWindow (count : Nat) (s : State) : State :=
  let trips := asleep s && clockTrips s count && !s.sup.fallback
  let s := clockWindow count s
  if trips then startWake 3 none s else s

/-! ## Power-fail warning and parking (R823 to R829) -/

/-- R823 to R827: the power-fail warning, with its cause and V_bulk in 0.01 V. -/
def doPfWarning (cause : Fin 2) (bulk : BitVec 16) (s : State) : State :=
  if s.head.st = .off ∨ asleep s ∨ s.pwr.pf ≠ .normal then s
  else
    let s := s.onPwr fun p => { p with pf := .emergency, mainsOk := p.mainsOk && cause.val != 0, warnTb := s.now, warnCause := cause.val, bulk := bulk.toNat
                                       eAvail := availMj s bulk.toNat, stepsDone := [], sleeping := false
                                       pfStep := if s.sup.dieDown then 10 else 0 }
    let s := raise 0x0F01 [.h cause.val, .w bulk.toNat] s
    let s := s.onFlt fun f => { f with avQuiet := true }
    let s := shedSwitches s
    let s := endWrites none (discardChange 4 (enginesOff false (coolerOff s)))
    let s := forEach (List.range 4) (fun n s => modSession n (fun _ => {}) (if (getSession s n).opened then raise 0x1233 [.h n, .h 4] s else s)) s
    let s := abortRun .power (abandonCommit s)
    let s := failKeyStore 1 (endCalStore 1 (dropApply (s.onCfg fun c => { c with reading := none })))
    let s := s.onPwr fun p => { p with checking := [], waiting := [] }
    let s := endAcquisition false true s
    let s := closeSteward flagTruncated s
    let s := finishStreams 2 (discardRings (discardRaw s))
    let s := rememberCartridge (injectTrigger .powerFail s)
    s.onPwr fun p => { p with stepsDone := [3] }

/-- R825 step 5: a store of the sequence runs or is being checked; one that is queued blocks nothing. -/
def pfBusy (s : State) (l : List StoreUser) : Bool :=
  l.any fun u => storeRuns s u || (s.pwr.checking ++ s.pwr.waiting).any fun w => w.user == u

/-- R825 step 5, R826: the stores of the power-fail sequence, one stage after the other. -/
def pumpPark (s : State) : State :=
  if s.pwr.pf ≠ .emergency ∨ s.sup.dieDown then s
  else
    let next := fun (n : Nat) (s : State) => s.onPwr fun p => { p with pfStep := n }
    let s := if s.pwr.pfStep = 0 ∨ s.pwr.pfStep = 10 then
        next (s.pwr.pfStep + 1) (askStore .norProgram .supRecord (askStore .norProgram .journal s)) else s
    let s := if s.pwr.pfStep = 1 ∧ !pfBusy s [.journal, .supRecord] then next 2 (askCheckpoint s) else s
    let s := if s.pwr.pfStep = 2 ∧ !pfBusy s [.checkpoint] then next 3 (askStore .norProgram .faultMirror s) else s
    let ended := (s.pwr.pfStep = 3 && !pfBusy s [.faultMirror]) || (s.pwr.pfStep = 11 && !pfBusy s [.journal, .supRecord])
    if ended then s.onPwr fun p => { p with pfStep := 20, stepsDone := p.stepsDone ++ [5] } else s

/-- R825 step 4: LINK_HOLD has passed since the warning or the sleep command, and the data and mosaic ports are disabled. -/
def doLinkHoldExpired (s : State) : State :=
  if s.now < s.pwr.warnTb + getF s R.PWR_POLICY_LINK_HOLD * milli then s
  else if (s.pwr.pf = .emergency ∧ !s.pwr.stepsDone.contains 4) ∨ s.pwr.sleeping then
    let s := s.onLnk fun l => { l with txEn := false }
    let s := s.onMos fun m => { m with txOn := false }
    if s.pwr.pf = .emergency then s.onPwr fun p => { p with stepsDone := p.stepsDone ++ [4] } else s
  else s

/-- R825 step 6: the head parks: the main converters are off. -/
def park (s : State) : State :=
  let s := raise 0x0F02 [.h ((s.now - s.pwr.warnTb) / milli), .w s.pwr.eAvail] s
  let s := s.onPwr fun p => { p with pf := .parking, parked := true, checking := [], waiting := [] }
  let s := stopMosaic (domainsOff (stopTracker (stopPll s)))
  let s := enginesOff true (s.onRru fun x => { x with sysPll := .off })
  let s := s.onTmb fun t => { t with run := false }
  let s := s.onLnk fun l => { l with txEn := false }
  let s := s.onSup fun x => { x with deferred := none, coreDown := false, dieDown := false }
  setHead .off (s.onHead fun h => { h with fwReady := false, coreRestart := false, applied := false })

/-- R825 step 6: steps 4 and 5 have ended. -/
def doParked (s : State) : State :=
  if s.pwr.pf = .emergency ∧ s.pwr.stepsDone.contains 4 ∧ s.pwr.stepsDone.contains 5 then park s else s

/-- R828: EMERG_MAX has passed since the warning. -/
def doEmergOverrun (s : State) : State :=
  if s.pwr.pf = .emergency ∧ s.pwr.warnTb + 150 * milli ≤ s.now ∧ !(s.pwr.stepsDone.contains 4 ∧ s.pwr.stepsDone.contains 5) then
    let left := (List.range 8).foldl (fun n k => if (k = 4 ∨ k = 5) ∧ !s.pwr.stepsDone.contains k then n + 2 ^ k else n) 0
    park (raise 0x0F0D [.h left] s)
  else s

/-- R7, R825 step 7, R833: the bulk store is at 250 V, and the always-on domain goes off. -/
def doAlwaysOnPowerLoss (s : State) : State :=
  if s.pwr.aon ∧ (s.pwr.parked ∨ s.head.st = .sleep ∨ s.pwr.pf ≠ .normal) then
    let s := s.onPwr fun p => { p with aon := false, parked := false, mainsOk := false, running := [], queued := [], checking := [], waiting := [] }
    let s := s.onSup fun x => { x with wdgRun := false, dieDown := false, coreDown := false, deferred := none }
    let s := s.onRru fun x => { x with sysPll := .off }
    let s := s.onTmb fun t => { t with run := false }
    setHead .off (s.onHead fun h => { h with waking := false, fwReady := false, coreRestart := false, applied := false })
  else s

/-- R80: the system PLL leaves lock while its reference is present. -/
def doSysLockLost (err : Int) (s : State) : State :=
  if s.rru.sysPll ≠ .locked then s
  else
    let s := s.onRru fun x => { x with sysPll := .search }
    raiseLadder 0x010D [.w (signed32 err)] false (s.onTmb fun t => { t with run := false })

end Sys2Proof.Machine
end

