-- ==== Sys2Proof/Machine/Lcp.lean ====
section
/-! DEFINITION. Chapter 16, the Luaja Control Protocol: steward sessions, the operations of a request, EVENT messages, and the
requests that tenants have waiting (R682 to R684, R699 to R728, R969). -/

namespace Sys2Proof.Machine

/-! ## Service (R700, R701, R727) -/

/-- R699, R700, R727: the head serves LCP on a port. -/
def served (s : State) (port : Nat) : Bool :=
  s.head.fwReady && busUp s && s.head.st != .sleep && s.pwr.pf == .normal && (port == 4 || (s.head.applied && portOfMode s port))

/-- R701: a datagram that fails the framing checks. -/
def dropDatagram (s : State) : State := addF R.CFG_LCP_CNT_DROPPED 1 s

/-- R702: bytes of an IP packet before the UDP payload. -/
def Session.overhead (x : Session) : Nat := if x.ipv6 then 48 else 28

/-! ## Opening a session (R704 to R706) -/

/-- R706: "LCPK" or "LCPS", then Z and the two nonces. -/
def sessionSeed (last : Byte) (z : BitVec 256) (hostNonce headNonce : BitVec 128) : List Byte :=
  [0x4C, 0x43, 0x50, last] ++ beBytes 32 z.toNat ++ beBytes 16 hostNonce.toNat ++ beBytes 16 headNonce.toNat

/-- R705, R730: the first check that an INIT fails. -/
def initFault (s : State) (key : List Byte) (sigOk : Bool) (mtu flags minSev : Nat) (serial : BitVec 64) : Option Nat :=
  if !stewardKeyOk s key then some 0
  else if !sigOk then some 1
  else if serial != 0 && serial != serialNo s then some 2
  else if mtu < 1280 || 9000 < mtu || 1 < flags || 3 < minSev then some 3
  else none

/-- R704 to R706, R727: an INIT, with whether its framing and its signature are good. Z, HEAD_NONCE and the other contents of
ACCEPT are free values. -/
def doInit (port : Fin 5) (ipv6 framed : Bool) (key : List Byte) (sigOk : Bool) (hostNonce : BitVec 128) (mtu flags minSev : Nat)
    (serial : BitVec 64) (s : State) : State :=
  if !served s port then s
  else if !framed then dropDatagram s
  else match initFault s key sigOk mtu flags minSev serial with
    | some c => raise 0x1232 [.h c] s
    | none =>
      let refuse := s.onLcp fun l => { l with accepts := none :: l.accepts }
      if s.head.coreRestart then refuse
      else match (List.range 4).find? fun n => !(getSession s n).opened with
        | none => refuse
        | some n =>
          let (z, s) := takeFree s
          let (r, s) := takeFree s
          let headNonce := r.setWidth 128
          let (px, s) := takeFree s
          let (py, s) := takeFree s
          let (sr, s) := takeFree s
          let (ss, s) := takeFree s
          let (tg, s) := takeFree s
          let a : Accept := ⟨n, px, py, headNonce, sr, ss, tg.setWidth 128⟩
          let k := BitVec.ofNat 256 (beNat (sha256 (sessionSeed 0x4B z hostNonce headNonce)))
          let salt := BitVec.ofNat 32 (beNat ((sha256 (sessionSeed 0x53 z hostNonce headNonce)).take 4))
          let sev : Severity := [Severity.info, .warn, .fault, .critical].getD minSev .critical
          let s := modSession n (fun _ => { opened := true, mtu := mtu, evt := flags % 2 == 1, minSev := sev, port := port, ipv6 := ipv6
                                            key := k, salt := salt, lastTb := s.now }) s
          raise 0x1231 [.h n, .h port] (s.onLcp fun l => { l with accepts := some a :: l.accepts })

/-! ## Register operations (R713, R719 to R723) -/

/-- The RANGE_REJECT events of the blocks. -/
def rangeRejects : List Nat :=
  [0x0111, 0x020B, 0x0308, 0x040A, 0x050B, 0x060A, 0x070B, 0x080B, 0x090B, 0x0A09, 0x0B0B, 0x0C0D, 0x0D11, 0x0F0C, 0x100D, 0x1236]

/-- R720: the status of a write by what the block made of it. -/
def writeAnswer : WriteResult → Answer
  | .ok => .ok
  | .event c => ⟨if rangeRejects.contains c then 3 else 1, c, []⟩

/-- R15: the fields of a register that a write can act on. -/
def writable (a : Nat) : List FieldDesc := (fieldsAt a).filter fun d => d.acc != .ro && d.acc != .rc

/-- R720: the register holds read-only fields alone, or its writable fields are locked. -/
def accessRefused (s : State) (a : Nat) : Bool :=
  fieldsAt a != [] && ((writable a).all fun d => d.acc == .rwl && lockedBlock s (a / 0x10000))

/-- R713: the index of the first address that is no register or memory entry. -/
def badAddress (l : List Nat) : Option Nat := l.findIdx? fun a => !wordDefined a

/-- R719: the addresses of an access of a number of words. -/
def addresses (fixed : Bool) (a n : Nat) : List Nat := (List.range n).map fun i => if fixed then a else a + 4 * i

/-- R719: reads in consecutive cycles. -/
def readWords (who : Initiator) : List Nat → State → List Word × State
  | [], s => ([], s)
  | a :: l, s =>
    let (v, s) := busRead who a s
    let (r, s) := readWords who l s
    (v :: r, s)

/-- R711, R712, R713: a READ of 1 to 4 words, or a BULK read of 1 to 1,024. -/
def readOp (who : Initiator) (most room : Nat) (fixed : Bool) (a n : Nat) (s : State) : Answer × State :=
  if n = 0 ∨ most < n then (⟨3, 0, []⟩, s)
  else if room < 40 + 4 * n then (⟨0xB, 0, []⟩, s)
  else match badAddress (addresses fixed a n) with
    | some i => (⟨3, i, []⟩, s)
    | none =>
      let (l, s) := readWords who (addresses fixed a n) s
      (⟨0, 0, l⟩, s)

/-- R720, R723: one written word. -/
def writeWord (who : Initiator) (a : Nat) (v : Word) (s : State) : Answer × State :=
  if a / 0x10000 = 0xE then (⟨8, 0, []⟩, s)
  else if accessRefused s a then (⟨9, 0, []⟩, s)
  else
    let (r, s) := busWrite who a v s
    (writeAnswer r, s)

/-- R713, R720: a WRITE. -/
def writeOp (who : Initiator) (a : Nat) (v : Word) (s : State) : Answer × State :=
  if !wordDefined a then (⟨3, 0, []⟩, s) else writeWord who a v s

/-- R124: the live comparator acts on the compare value that one word of a request leaves before the next is written. The words of a
request stand in one tick of the model (log entry 70). -/
def compareBetween (a : Nat) (s : State) : State :=
  let ofs := (a - 0x21000) % 0x100
  if 0x21000 ≤ a ∧ a < 0x21800 ∧ 0x40 ≤ ofs ∧ (ofs % 0x10 = 4 ∨ ofs % 0x10 = 8) then
    let u := (a - 0x21000) / 0x100
    let c := (ofs - 0x40) / 0x10
    if compareDue s u c then channelReaches (4 * u + c) (compareMatch u c s) else s
  else s

/-- R722: the words of a BULK write, up to the first that does not return OK. -/
def writeWords (who : Initiator) : List (Nat × Word) → Nat → State → Answer × State
  | [], n, s => (⟨0, 0, [BitVec.ofNat 32 (n * 65536)]⟩, s)
  | (a, v) :: l, n, s =>
    match writeWord who a v s with
    | (⟨0, _, _⟩, s) => writeWords who l (n + 1) (compareBetween a s)
    | (⟨st, d, _⟩, s) => (⟨st, d, [BitVec.ofNat 32 (n * 65536)]⟩, s)

/-- R713, R722: a BULK write. -/
def bulkWriteOp (who : Initiator) (fixed : Bool) (a : Nat) (l : List Word) (s : State) : Answer × State :=
  let as := addresses fixed a l.length
  if l.length = 0 ∨ 1024 < l.length then (⟨3, 0, []⟩, s)
  else match badAddress as with
    | some i => (⟨3, i, []⟩, s)
    | none => writeWords who (as.zip l) 0 s

/-- R721: the word that the write half of an RMW writes. -/
def rmwWord (a : Nat) (mask v old : Word) : Word :=
  let act := maskOf (fun d => d.acc == .w1c || d.acc == .w1s || d.acc == .wo) (fieldsAt a)
  ((old &&& ~~~mask) ||| v) &&& ~~~(act &&& ~~~mask)

/-- R713, R721: an RMW. -/
def rmwOp (who : Initiator) (a : Nat) (mask v : Word) (s : State) : Answer × State :=
  if !wordDefined a ∨ v &&& ~~~mask ≠ 0 then (⟨3, 0, []⟩, s)
  else if a / 0x10000 = 0xE then (⟨8, 0, []⟩, s)
  else if ((fieldsAt a).any fun d => d.acc == .rc) || accessRefused s a then (⟨9, 0, []⟩, s)
  else
    let (old, s) := busRead who a s
    let new := rmwWord a mask v old
    let (r, s) := busWrite who a new s
    let w := writeAnswer r
    (if w.status = 0 then ⟨0, 0, [old, new]⟩ else w, s)

/-! ## The operations of a steward's request (R711, R714 to R718, R727) -/

/-- R804: FUSE_PROGRAM is accepted in the head's state. -/
def fuseOpen (s : State) : Bool :=
  s.head.st == .unconfigured || s.head.st == .acquiring || s.head.st == .running || s.head.st == .hold

/-- R803, R804: FUSE_PROGRAM of a session; the answer leaves when the command ends. -/
def fuseOp (n subop w : Nat) (v : Word) (serial : BitVec 64) (s : State) : Option Answer × State :=
  if !fuseOpen s then (some ⟨0xE, 0, []⟩, s)
  else if serial ≠ serialNo s ∨ subop = 0 ∨ 3 < subop ∨ 128 ≤ w ∨ (subop ≠ 1 ∧ (w ≠ 0 ∨ v ≠ 0)) then (some ⟨3, 0, []⟩, s)
  else
    let s := deferAnswer n s
    let asker := some (currentReq s n)
    (none, if subop = 1 then programFuse .core w v asker s else if subop = 2 then advanceFuse .core asker s else unlockJtag .core asker s)

/-- R717, R830: HEAD_CMD SLEEP. -/
def sleepOp (s : State) : Answer × State :=
  if (s.head.st = .running ∨ s.head.st = .unconfigured) ∧ !s.pwr.sleeping ∧ s.pwr.pf = .normal then (.ok, startSleep s)
  else (⟨0xE, 0, []⟩, s)

/-- R717, R862: HEAD_CMD RELEASE. -/
def releaseOp (s : State) : Answer × State := if s.head.st = .hold then (.ok, releaseHold s) else (⟨0xE, 0, []⟩, s)

/-- R727: an operation that is answered BUSY while the management core restarts. -/
def barredInRestart : LcpOp → Bool
  | .stop .. | .stage .. | .restart .. | .imageOpen .. | .imageData .. | .imageClose .. | .imageAbort .. | .fuseProgram .. | .headCmd .. => true
  | _ => false

/-- An answer that leaves at once. -/
def now (r : Answer × State) : Option Answer × State := (some r.1, r.2)

/-- R711 to R723: an operation of a steward session; no answer where the operation's end decides it. -/
def stewardOp (n : Nat) (op : LcpOp) (s : State) : Option Answer × State :=
  let who : Initiator := .lcp n
  let x := getSession s n
  if s.head.coreRestart ∧ barredInRestart op then (some ⟨1, 1, []⟩, s)
  else match op with
    | .read a c => now (readOp who 4 (x.mtu - x.overhead) false a c s)
    | .write a v => now (writeOp who a v s)
    | .rmw a m v => now (rmwOp who a m v s)
    | .bulkRead fixed a c => now (readOp who 1024 (x.mtu - x.overhead) fixed a c s)
    | .bulkWrite fixed a l => now (bulkWriteOp who fixed a l s)
    | .stop splitOk f fns => now (changeStop n splitOk f fns s)
    | .stage items => now (changeStage n items s)
    | .restart discard f => changeRestart n discard f s
    | .imageOpen t total => now (imageOpen t total s)
    | .imageData t ofs data => imageData n t ofs data s
    | .imageClose t sigOk => imageClose n t sigOk s
    | .imageAbort t => now (imageAbort t s)
    | .fuseProgram subop w v serial => fuseOp n subop w v serial s
    | .subscribe .. | .tenantWindow .. => (some ⟨8, 0, []⟩, s)
    | .retransmit sid count first => now (askRetransmit none sid count first s)
    | .headCmd c => if c = 1 then now (sleepOp s) else if c = 2 then now (releaseOp s) else (some ⟨3, 0, []⟩, s)
    | .nop | .close => (some .ok, s)
    | .unknown _ => (some ⟨0xC, 0, []⟩, s)
    | .malformed _ => (some ⟨0xA, 0, []⟩, s)

/-- R709, R711, R726: the request in execution of a session; a CLOSE ends the session after its reply. -/
def runRequest (n : Nat) (op : LcpOp) (s : State) : State :=
  match stewardOp n op s with
  | (some a, s) =>
    let s := answerSession n (getSession s n).cur a s
    if op = .close then endSession 0 n s else s
  | (none, s) => s

/-- An operation is executed for a session that is open. -/
def sessionOp (n : Fin 4) (op : LcpOp) (s : State) : State :=
  if (getSession s n).opened ∧ served s 4 ∧ (getSession s n).busy = none then runRequest n op s else s

/-- R726: the next request of a session runs when the one before it has been answered. -/
def nextRequest (n : Nat) (s : State) : State :=
  let x := getSession s n
  match x.busy, x.waitq with
  | none, (req, op) :: l => if x.opened then runRequest n op (modSession n (fun x => { x with waitq := l, cur := req }) s) else s
  | _, _ => s

/-- R726: the requests that wait behind an answer that has left. -/
def pumpRequests (s : State) : State :=
  forEach (List.range 4) (fun n s => forEach (getSession s n).waitq (fun _ s => nextRequest n s) s) s

/-- R708: a message that fails is dropped and counted. -/
def authFailed (n : Nat) (s : State) : State :=
  let s := addF R.CFG_LCP_CNT_AUTH_FAIL 1 s
  let s := s.onLcp fun l => { l with failed := (n, s.now) :: l.failed.filter fun p => s.now < p.2 + second }
  raiseLimited 0 second 0x1234 [.h n, .h (s.lcp.failed.filter fun p => p.1 == n).length] s

/-- R708, R726: a STEWARD_REQ: whether its framing and its tag are good, its REQ and its operation. -/
def doStewardReq (n : Fin 4) (port : Fin 5) (framed tagOk : Bool) (req : BitVec 64) (op : LcpOp) (s : State) : State :=
  if !served s port then s
  else if !framed then dropDatagram s
  else
    let x := getSession s n
    if !x.opened ∨ !tagOk then authFailed n s
    else if req ≤ x.lastReq then
      match x.cache.find? fun c => c.1 == req && c.2.1 == op with
      | some (_, _, some r) => s.onLcp fun l => { l with replies := r :: l.replies }
      | some (_, _, none) => s
      | none => authFailed n s
    else
      let s := modSession n (fun x => { x with
        lastReq := req, lastTb := s.now, cache := ((req, op, none) :: x.cache).take 16
        waitq := if x.busy = none then x.waitq else x.waitq ++ [(req, op)], cur := if x.busy = none then req else x.cur }) s
      let s := touchChange n s
      if x.busy = none then runRequest n op s else s

/-- R709: TIMEOUT has passed since the last accepted request of a session. -/
def doSessionTimeout (n : Fin 4) (s : State) : State :=
  let x := getSession s n
  if x.opened ∧ x.lastTb + getF s R.CFG_LCP_TIMEOUT_TIMEOUT * second ≤ s.now then endSession 1 n s else s

/-! ## EVENT messages (R724, R725) -/

/-- R724: the entries that fill the MTU of a session. -/
def Session.room (x : Session) : Nat := (x.mtu - x.overhead - 40) / 32

/-- R724: firmware sends EVENT messages. -/
def eventsRun (s : State) : Bool := s.head.fwReady && !s.head.coreRestart && busUp s && s.pwr.pf == .normal && !s.tmb.halted

/-- R724: an EVENT message leaves with the entries that it holds. -/
def sendEvents (n : Nat) (s : State) : State :=
  let x := getSession s n
  let k := x.room
  let m : EventMsg := ⟨n, x.evCount + 1, x.lost, x.evq.take k⟩
  let s := modSession n (fun x => { x with evq := x.evq.drop k, evqTb := s.now, evCount := x.evCount + 1, lost := 0, lostSeen := 0 }) s
  s.onLcp fun l => { l with events := m :: l.events }

/-- R724: 10 ms have passed since the first entry of a session's queue. -/
def doEventFlush (n : Fin 4) (s : State) : State :=
  let x := getSession s n
  if x.opened ∧ x.evq ≠ [] ∧ x.evqTb + 10 * milli ≤ s.now ∧ eventsRun s then sendEvents n s else s

/-- R724, R725: messages whose entries fill the MTU leave, and losses are logged. -/
def pumpEvents (s : State) : State :=
  forEach (List.range 4) (fun n s =>
    let x := getSession s n
    if !x.opened then s
    else
      let s := if x.lost != x.lostSeen then
          let s := raiseLimited n second 0x1235 [.h n, .h x.lost] s
          modSession n (fun y => { y with lostSeen := y.lost }) s
        else s
      if eventsRun s then forEach (List.range (x.evq.length / x.room)) (fun _ s => sendEvents n s) s else s) s

/-! ## Requests of tenants (R682 to R684, R694, R969) -/

/-- R684, R969: a word that a tenant may read. -/
def tenantReads (t a : Nat) : Bool :=
  let ctx := 0x20000000 + 256 * t
  (decide (ctx ≤ a) && decide (a ≤ ctx + 0xAC)) ||
    a == A.GLB_ID || a == A.GLB_STATE || a == A.GLB_VARIANT || a == A.GLB_SERIAL_LO || a == A.GLB_SERIAL_HI || a == A.GLB_DATE ||
    a == A.GLB_FW_VER || a == A.GLB_ROM_VER || (decide (A.GLB_DEVKEY 0 ≤ a) && decide (a ≤ A.GLB_DEVKEY 15)) ||
    (decide (A.GLB_DEVCERT 0 ≤ a) && decide (a ≤ A.GLB_DEVCERT 15)) || (decide (A.GLB_BLOCK_VER 0 ≤ a) && decide (a ≤ A.GLB_BLOCK_VER 18)) ||
    a == A.RRU_STATUS || a == A.TMB_TOD_NS || a == A.TMB_TOD_SEC_LO || a == A.TMB_TOD_SEC_HI

/-- R684, R713: a READ of a tenant. -/
def tenantRead (t a n : Nat) (s : State) : Answer × State :=
  let l := addresses false a n
  if n = 0 ∨ 4 < n then (⟨3, 0, []⟩, s)
  else match badAddress l with
    | some i => (⟨3, i, []⟩, s)
    | none => if l.all (tenantReads t) then readOp (.tenant t) 4 1232 false a n s else denyTenant t 1 0 s

/-- R711: the code of an operation. -/
def opCode : LcpOp → Nat
  | .read .. => 1
  | .write .. => 2
  | .rmw .. => 3
  | .bulkRead .. | .bulkWrite .. => 4
  | .stop .. => 0x10
  | .stage .. => 0x11
  | .restart .. => 0x12
  | .imageOpen .. | .imageData .. | .imageClose .. | .imageAbort .. => 0x20
  | .fuseProgram .. => 0x30
  | .subscribe .. => 0x40
  | .tenantWindow .. => 0x41
  | .retransmit .. => 0x42
  | .headCmd .. => 0x50
  | .nop => 0x51
  | .close => 0x52
  | .unknown c | .malformed c => c

/-- R684, R694, R711: an operation of a tenant. -/
def tenantOp (t : Nat) (op : LcpOp) (s : State) : Answer × State :=
  match op with
  | .read a n => tenantRead t a n s
  | .unknown _ => (⟨0xC, 0, []⟩, s)
  | .malformed _ => (⟨0xA, 0, []⟩, s)
  | .subscribe rawSub rawSet sets => if s.head.st = .hold then (⟨0xD, 0, []⟩, s) else subscribeTenant t rawSub rawSet sets s
  | .tenantWindow remove twin set x0 x1 y0 y1 =>
    if s.head.st = .hold then (⟨0xD, 0, []⟩, s)
    else if remove then removeTenantWindow t twin set s else setTenantWindow t twin set x0 x1 y0 y1 s
  | .retransmit sid count first => if s.head.st = .hold then (⟨0xD, 0, []⟩, s) else askRetransmit (some t) sid count first s
  | op => if s.head.st = .hold then (⟨0xD, 0, []⟩, s) else denyTenant t (opCode op) 0 s

/-- R710: a tenant's request is executed, and answered once. -/
def runTenant (t : Nat) (req : BitVec 64) (op : LcpOp) (s : State) : State :=
  let (a, s) := tenantOp t op s
  answerTenant t req a s

/-- R694, R727: the management core takes requests of tenants. -/
def tenantsServed (s : State) : Bool :=
  s.head.fwReady && !s.head.coreRestart && busUp s && s.head.st != .sleep && s.pwr.pf == .normal

/-- R682, R683: the management core takes the next request of the tenants. -/
def doTenantRequestDequeue (s : State) : State :=
  if !tenantsServed s then s
  else match nextTenant s with
    | none => s
    | some t => match (getCtx s t).queue with
      | [] => s
      | r :: l => runTenant t r.req r.op (modCtx t (fun c => { c with queue := l }) (s.onTen fun x => { x with rr := (t + 1) % 4096 }))

/-- An operation is executed for a tenant that has a context, as the answer to its last request. -/
def tenantDirect (t : Fin 4096) (op : LcpOp) (s : State) : State :=
  if tenantsServed s ∧ (getCtx s t).st ≠ .empty then runTenant t (getCtx s t).lastReq op s else s

/-- R655, R684: a RETRANSMIT of a session or of a tenant. -/
def doRetransmit (tenant : Option (Fin 4096)) (n : Fin 4) (sid count first : Nat) (s : State) : State :=
  match tenant with
  | some t => tenantDirect t (.retransmit sid count first) s
  | none => sessionOp n (.retransmit sid count first) s

/-! ## Fuse commands (R797) -/

/-- R797: a fuse command of a session, or of JTAG. -/
def fuseCommand (via : Option (Fin 4)) (subop w : Nat) (v : Word) (s : State) : State :=
  match via with
  | some n => sessionOp n (.fuseProgram subop w v (serialNo s)) s
  | none =>
    if !busOpen s .jtag then s
    else if subop = 1 then programFuse .jtag w v none s else if subop = 2 then advanceFuse .jtag none s else unlockJtag .jtag none s

end Sys2Proof.Machine
end

