-- ==== Sys2Proof/Machine/Frame.lean ====
section
/-! DEFINITION. The line and frame boundaries of the raster, with every action that they drive (R35, R75, R98, R242, R293 to R295,
R374, R501, R522, R599, R749, R760, R824). -/

namespace Sys2Proof.Machine

/-- The raster runs on a control word, so that lines pass. -/
def rasterRuns (s : State) : Bool := s.rru.pll == .pull || s.rru.pll == .locked || s.rru.pll == .coast

/-- R10, R75, R501, R749: a line of the frame in progress starts. -/
def doRasterLineBoundary (s : State) : State :=
  if !rasterRuns s ∨ boundaryReady s ∨ s.sup.dieDown then s
  else
    let s := linePulses (nextLine s)
    rasterOut (accLine s.rru.l s)

/-- R416: bank time and length of the frame that ends. -/
def frameMeasured (s : State) : State :=
  match s.pat.frames.getLast? with
  | none => s
  | some m =>
    let f := min (freeTime s 0 m.tb s.now) (freeTime s 1 m.tb s.now)
    let n := s.now - m.tb
    forgetBooked m.tb (s.onCal fun c =>
      { c with freeNum := if n = 0 then 1 else f, freeDen := if n = 0 then 1 else n, frameLen := n })

/-- R978: the frame that starts, and the length of the one that has ended. -/
def markFrame (s : State) : State :=
  s.onPat fun p => { p with
    frames := (p.frames.mapIdx fun i m => if i + 1 = p.frames.length then { m with lines := s.rru.lastTl } else m) ++
      [⟨s.rru.f, s.now, s.tmb.todSec.toNat, s.tmb.todNs, s.ctg.pos, 0, s.rru.lineNo⟩] }

/-- R764, R767: the head has caught up on the barriers that the root has issued. -/
def caughtUp (s : State) : Bool := decide (s.mos.rootBseq ≤ s.mos.received) && s.mos.latched.all fun b => b.taken

/-- R242, R293 to R295: the scheduler at a boundary; when it stands still at two in a row it is reset. -/
def schedulerBoundary (stalled : Bool) (s : State) : State :=
  let s := if stalled then s else forEach (List.range 4) issueLane s
  let s := heartbeat stalled s
  if !stalled then machineMoves 0 0 s
  else if 2 ≤ s.exs.missedBeats ∧ s.rru.rpValid then
    respondStuck 0 0 (schedulerReset (declareStuck 0 0 (raise 0x0509 [.w s.rru.f] s)))
  else s

/-- R66, R340: the frame geometry in force. -/
def frameGeometry (s : State) : List Word := [rawReg s A.RRU_TL, rawReg s A.RRU_TL_VRR, rawReg s A.RRU_GEOM]

/-- R340: exposures and fusion sets that are open when the frame geometry changes carry GAP, and so do the results of the two frames
that meet at the change. -/
def geometryGap (f : Nat) (s : State) : State :=
  noteFlags 4 (f - 1) f flagGap (s.onExs fun x => { x with
    bookings := x.bookings.map fun b => { b with flags := b.flags ||| flagGap }
    sets := x.sets.map fun t => { t with flags := t.flags ||| flagGap } })

/-- R20, R62: the raster's own part, and what it changes for the frame that starts. -/
def frameStarts (f : Nat) (s : State) : State :=
  let was := frameGeometry s
  let s := frameMeasured (missedAtFrameEnd s)
  let s := if s.pwr.pf = .normal then chgRaster f s else s
  let s := rasterBoundary f s
  let s := if frameGeometry s ≠ was ∧ s.head.st = .running then geometryGap f s else s
  captureBoundary (reattribute f <| markFrame (s.onRru fun r => { r with acqGap := false, acqPlanned := false }))

/-- R824: what the boundary drives; from a power-fail warning on, nothing starts, and from a sleep command on no lane, set or
stream. -/
def frameDrives (stalled : Bool) (s : State) : State :=
  if s.pwr.pf ≠ .normal then framePulses (linePulses (schedulerBoundary stalled s))
  else
    let s := moveBoundary (gateBoundary s)
    let s := tenantBoundary s
    let s := haltBoundary (caughtUp s) (holdBoundary s)
    let s := chgBoundary (barrierBoundary s)
    let s := if stalled ∨ s.pwr.sleeping then s else forEach (List.range 4) runLane s
    let s := if s.pwr.sleeping then s else sendOwed (forEach (streamIds s) runStream (forEach (liveSets s) runSet s))
    let s := schedulerBoundary stalled s
    let s := forEach (liveSets s) fillIntervals s
    let s := calBoundary (groupsBoundary s)
    let s := framePulses (linePulses (accFrame s))
    closeLevel2 (openSwitches (chgReply (rasterOut s)))

/-- R35, R755: the raster PLL produces a frame boundary; `stalled` says that the scheduler does not process it. -/
def doRasterFrameBoundary (stalled : Bool) (s : State) : State :=
  if !boundaryReady s ∨ s.sup.dieDown then s
  else match reconCase s with
    | .wait => reconWaits s
    | .go f => frameDrives stalled (frameStarts f (reconDone f s))
    | .none => frameDrives stalled (frameStarts (nextF s) s)

end Sys2Proof.Machine
end

