-- ==== Sys2Proof/Machine/Settle.lean ====
section
/-! DEFINITION. The end of a tick: what the head's machines do in every tick by themselves, whatever is commanded, before TB counts
(log entry 3). -/

namespace Sys2Proof.Machine

/-- R8, R53, R62, R167, R413, R423, R469, R752: the flags of the head's own conditions. -/
def headFlags (s : State) : Nat :=
  (if coasting s then flagCoast else 0) ||| (if s.head.coreRestart then flagRestarted else 0) |||
    (if tempUnstable s then flagTemp else 0) ||| (if calStale s then flagCalStale else 0) |||
    (if s.rru.acqGap || !s.rru.rpValid || s.cal.phase != .idle then flagGap else 0) ||| ctgFlags s ||| mosaicFlags s

/-- R341: the flags that an interruption gives the fusion sets that are open in it. -/
def setFlags (s : State) : Nat :=
  (if s.head.coreRestart then flagRestarted else 0) ||| (if s.rru.acqGap then flagGap else 0)

/-- R23, R341, R377: the conditions that hold now reach the exposures that have begun, the open fusion sets and the open intervals;
CAL_STALE reaches the data that is corrected meanwhile, row by row (R413). -/
def flagTick (s : State) : State :=
  if s.head.st != .running then s
  else
    let n := headFlags s
    let own := n &&& (0xFFFF - flagCalStale)
    let s := if own = 0 ∨ s.exs.bookings = [] then s
      else s.onExs fun x => { x with bookings := x.bookings.map fun b => if b.resetDone then { b with flags := b.flags ||| own } else b }
    let k := setFlags s
    let s := if k = 0 ∨ s.exs.sets = [] then s
      else s.onExs fun x => { x with sets := x.sets.map fun f => { f with flags := f.flags ||| k } }
    noteHead n s

/-- R73: the output pulses that DELAY has held back up to this tick. -/
def delayedPulses (s : State) : State :=
  let due := s.rru.delayed.filter fun p => decide (p.1 ≤ s.now)
  let s := s.onRru fun r => { r with delayed := r.delayed.filter fun p => decide (s.now < p.1) }
  forEach due (fun p s =>
    let s := s.onRru fun r => { r with outPulse := r.outPulse ||| BitVec.ofNat 8 (2 ^ p.2) }
    if p.2 = 7 then rasterOut s else if 1 ≤ p.2 ∧ p.2 ≤ 4 then pulse (p.2 - 1) 0 s else s) s

/-- R68, R73, R79: what the raster PLL and the system PLL do when a tick ends. -/
def pllTick (s : State) : State := delayedPulses (logMoves (sysPullIn s))

/-- R112, R117: what a unit's increments of this tick raise: OVF, and the matches of its COUNTER channels. -/
def unitTick (u : Nat) (s : State) : State :=
  let l := (getUnit s u).reached
  let s := modUnit u (fun x => { x with reached := [] }) s
  addPeriods u (forEach l (fun p s =>
    let s := if p.2 then wrapCounter u s else s
    forEach (counterHits s u p.1) (fun c s => channelReaches (4 * u + c) (matchChannel u c s)) s) s)

/-- R112 to R118, R128: what the timer units do when a tick ends. -/
def timerTick (s : State) : State := haltMissed (forEach (List.range 8) unitTick s)

/-- R244, R256, R271: FRAME instances keep the tick of START, resets of a disabled OUT0 are abandoned, and lanes that have drained
stop. -/
def laneTick (s : State) : State :=
  let s := markStarts s
  let s := if !out0On s ∧ s.exs.insts ≠ [] then abandonRaster s else s
  forEach (List.range 4) drainCheck s

/-- R887: the tokens of the link scheduler and of the management core. -/
def leaseTick (s : State) : State :=
  let wants := s.lnk.ports.any fun p => p.readyTb.isSome
  let l := getLease s 1
  let s := if wants ∧ l.st = .free then takeLease 1 0xB s
    else if !wants ∧ l.st = .held ∧ l.owner = 0xB then freeLease 1 s else s
  let reads := s.cfg.reading.isSome || s.cal.loading
  let l := getLease s 2
  let s := if reads ∧ l.st = .free then takeLease 2 0x12 s
    else if !reads ∧ l.st = .held ∧ l.owner = 0x12 then freeLease 2 s else s
  let s := if s.head.coreRestart ∨ s.sup.coreDown then s else freeRecovered s
  settleLeases s

/-- R745: with ROOT_HOLD = 0 the root role is taken at once. -/
def rootTick (s : State) : State :=
  if s.mos.st != .solo && getF s R.MOS_TIMING_ROOT_HOLD == 0 then moveMosaic false s else s

/-- R585, R638, R677, R798, R825, R864: the sequences that ask for store operations. -/
def storeTick (s : State) : State :=
  let s := pumpCalStore (pumpKeyStore (pumpFuse s))
  let s := pumpController 1 (pumpController 0 s)
  pumpPark (trimLong (pumpJournal s))

/-- R716, R724, R726: replies, requests and EVENT messages that may leave now. -/
def lcpTick (s : State) : State := pumpEvents (pumpRequests s)

/-- R605, R606, R758, R760: change sets and barriers. -/
def changeTick (s : State) : State := reportReady (armReady (armDue (takeBarriers false (settleChange s))))

/-- R158, R198, R811 to R815: switches and domains. -/
def powerTick (s : State) : State := watchCrypto (settleDomains (closeSwitches s))

/-- R324, R372, R978: sets of fusion, frames and intervals that are complete close. -/
def resultTick (s : State) : State := pruneNotes (settleSets (closeHeadFrames (closeFinished 0 s)))

/-- R545, R638, R645, R669, R858: streams, ports, contexts and engines. -/
def linkTick (s : State) : State :=
  let s := watchPorts (drainStreams (watchStalls (commitTick s)))
  if s.lnk.epochDue then advanceEpoch s else s

/-- R832: the head has left SLEEP. -/
def wakeTick (s : State) : State :=
  if s.head.waking ∧ s.head.st ≠ .sleep then s.onHead fun h => { h with waking := false } else s

/-- R848 to R857, R589: supervision. -/
def ladderTick (s : State) : State := plannedRestart (endDeferral (settleLadder s))

/-- The end of a tick: ladder events first, then everything that the machines of the head do by themselves. -/
def settle (s : State) : State :=
  let s := wakeTick (ladderTick s)
  if s.head.st = .off ∨ s.sup.dieDown then s
  else
    let s := flagTick (laneTick (powerTick (timerTick (pllTick s))))
    let s := accInvalid (accrueAccs (resultTick s))
    let s := changeTick (linkTick s)
    lcpTick (storeTick (rootTick (leaseTick s)))

/-- An idle step: the tick ends, and TB counts. -/
def idle (s : State) : State := tick (settle s)

/-- R100, R103: the tick ends in which the nanoseconds of TOD pass 999,999,999. -/
def doTodSecondRollover (s : State) : State := if rolloverDue s then idle s else s

end Sys2Proof.Machine
end

