-- ==== Sys2Proof/Machine/Late.lean ====
section
/-! DEFINITION. Commands whose effect lies in more than one chapter: the chapters' parts in the order of their rules. -/

namespace Sys2Proof.Machine

/-- R117 to R122, R496, R524: compare channel k reaches its target; the match reaches the engines and, where it is selected,
the injected sequence of the tracker. -/
def doCompareMatch (k : Fin 32) (s : State) : State :=
  if compareDue s (k.val / 4) (k.val % 4) then
    channelReaches k (compareMatch (k.val / 4) (k.val % 4) s)
  else s

/-- R166 to R168, R410, R428, R810: a regulation step of the cooler with its samples. -/
def doCoolerSample (hot sensor power : BitVec 16) (plateOk : Bool) (s : State) : State :=
  let t := calTemperature sensor.toInt (coolerSample hot sensor power plateOk s)
  if s.sns.temp = .stable ∧ t.sns.temp ≠ .stable then abortRun .temp t else t

/-- R428, R455: a cartridge is gone. -/
def doCtgRemoved (s : State) : State :=
  if s.ctg.st = .absent then ctgContactOpens s else abortRun .cartridge (ctgContactOpens s)

/-- R427, R460, R471: the identity memory has been read; another cartridge than the one that left last ends the hold of automatic
runs. -/
def doCtgIdentityRead (mem : List (Nat × Byte)) (s : State) : State :=
  let t := doCtgReadComplete mem s
  let last := s.ctg.memo.head?.map fun m => m.serial
  if s.ctg.st = .reading ∧ t.ctg.st = .auth ∧ last ≠ some t.ctg.id.serial then clearHeld t else t

/-- R428, R457: the shutter reports too late. -/
def doShutterFault (s : State) : State :=
  if shutterLate s then abortRun .shutter (shutterFails s) else s

/-- R428, R457, R458: the slider reports too late; a calibration run that meets the fault aborts. -/
def doFilterLate (s : State) : State :=
  let t := doFilterFault s
  if s.ctg.st = .ready ∧ t.ctg.st = .fault then abortRun .cartridge t else t

/-- R483, R491: V_BULK in 0.01 V from a code, with the reference in mV. -/
def bulkVolts (s : State) (code : Nat) : Nat := code * 5 * s.trc.refMv / 32768

/-- R486, R816, R819: a step of the sequencer ends; a sample of V_BULK in injected step 0 decides the checks that wait. -/
def doTrackerStepComplete (p0 p1 p2 p3 : Option (BitVec 16)) (taken : Nat) (s : State) : State :=
  let t := trackerStep p0 p1 p2 p3 taken s
  match bulkSample s p0 with
  | some v => decideChecks (bulkVolts s v) t
  | none => t

/-- R483: the divider of a rail's input in units of 12.5 µV: V_12, V_CORE, V_ANA, V_IO, V_DDR. -/
def railUnit (r : Nat) : Nat := [20, 5, 10, 10, 5].getD r 0

/-- R483, R807: the mean of a closed window of rail r in 0.1 mV. -/
def railMean (s : State) (x : Acc) (r : Nat) : Nat :=
  x.rSum.toNat * railUnit r * s.trc.refMv / (x.rCount.toNat * 32768)

/-- R500, R501, R807: a TIME window ends; the system windows of the rails give the means that are judged. -/
def doAccWindowClose (a : Fin 256) (s : State) : State :=
  let t := doAccTimeWindowClose a s
  let x := getAcc t a.val
  let closed := decide ((getAcc s a.val).firstTb ≠ x.firstTb)
  if closed ∧ 251 ≤ a.val ∧ x.rCount ≠ 0 then judgeRail (a.val - 251) (railMean s x (a.val - 251)) t else t

/-- R158, R898: a tick with TB a multiple of 1 ms. -/
def doMsTick (s : State) : State :=
  if s.now % milli = 0 then avTick (doPeriodicMsTick s) else s

end Sys2Proof.Machine
end

