-- ==== Sys2Proof/Machine/Commands.lean ====
section
/-! DEFINITION. The meaning of each command: one definition for each row of spec/opcode_table.json, over the operations of the
chapters. A command whose event cannot happen in the state that it meets leaves the state as it is (R7; log entry 6). -/

namespace Sys2Proof.Machine

/-- R47, R749: a line event that does not come: of a source of the head, or of the mosaic. -/
def doLineMissing (src : Source) (s : State) : State := if src = .mosaic then mosaicMissing s else doLineEventMissing src s

/-- R203: the registers of geometry descriptor n: CTRL, COLS and the 48 words of its row-group bitmap. -/
def geoRegister (n reg : Nat) : Nat :=
  if reg = 0 then A.CRO_GEO_CTRL n else if reg = 1 then A.CRO_GEO_COLS n else A.CRO_GEO_RGB n (reg - 2)

/-- R7: Mains is applied and the bulk store charges; the always-on domain starts, senses the fuses and the head enters BOOT.
-/
def execMainsApplied (s : State) : Host.Outcome State Fault Refusal :=
  .next (doMainsApplied s)

/-- R76: The system PLL locks; on the first lock after mains, TB and TOD start from 0. -/
def execSystemPllLock (slow : Nat) (s : State) : Host.Outcome State Fault Refusal :=
  .next (doSystemPllLock slow s)

/-- R555: Firmware is verified and ready; the cooler, link training, calibration load and cartridge read start, and key
discovery decides CONFIGURING or UNCONFIGURED. -/
def execFirmwareReady (okA okB : Bool) (s : State) : Host.Outcome State Fault Refusal :=
  .next (doFirmwareReady okA okB s)

/-- R559: The key presence line has been asserted for 100 ms; the parameter table and directory are read, and the image read
starts when the head is UNCONFIGURED. -/
def execKeyInserted (params : KeyParams) (mem : List (Nat × Byte)) (s : State) : Host.Outcome State Fault Refusal :=
  .next (doKeyInserted params mem s)

/-- R564: The key presence line opens; an image read in progress ends with reason 16, and otherwise the removal is only
logged. -/
def execKeyRemoved (s : State) : Host.Outcome State Fault Refusal :=
  .next (doKeyRemoved s)

/-- R571: The whole image has been read into the frame store and is checked in the order of its reasons. -/
def execImageReadComplete (sigOk readErr : Bool) (s : State) : Host.Outcome State Fault Refusal :=
  .next (doImageReadComplete sigOk readErr s)

/-- R46: A monitored raster source delivers a line event, which is checked against its window for qualification, loss, lock
and phase error. -/
def execSourceLineEvent (src : Source) (t : Nat) (err : Int) (pos neg line : Nat) (s : State) : Host.Outcome State Fault Refusal :=
  .next (doSourceLineEvent src t err pos neg line s)

/-- R46: The acceptance window of a predicted line event or crossing ends without an event, and the source may be declared
lost. -/
def execLineEventMissing (src : Source) (s : State) : Host.Outcome State Fault Refusal :=
  .next (doLineMissing src s)

/-- R37: A monitored source delivers a vertical event, which is accepted or ignored by the window rules. -/
def execSourceVerticalEvent (src : Source) (parity : Bool) (diff : Int) (s : State) : Host.Outcome State Fault Refusal :=
  .next (doSourceVerticalEvent src parity diff s)

/-- R52: At the end of the active frame after a revert is marked, the control word freezes and the loop coasts until the new
source's vertical event. -/
def execRevertFreeze (s : State) : Host.Outcome State Fault Refusal :=
  .next (doRevertFreeze s)

/-- R37: The line count passes the last permitted line without an accepted vertical event, and the frame ends with a missed
vertical event counted. -/
def execFlywheelFrameEnd (src : Source) (s : State) : Host.Outcome State Fault Refusal :=
  .next (doFlywheelFrameEnd src s)

/-- R51: The loop has coasted for COAST_MAX with no listed source qualified, and FREE is adopted at the next coasted boundary.
-/
def execCoastMaxExpired (s : State) : Host.Outcome State Fault Refusal :=
  .next (doCoastMaxExpired s)

/-- R56: The band search trials end, and the loop starts pull-in or reports BAND_FAIL. -/
def execBandSearchDone (band : Option (BitVec 7)) (s : State) : Host.Outcome State Fault Refusal :=
  .next (doBandSearchDone band s)

/-- R58: The lock count reaches 256 line events within LOCK_THR, and the loop becomes LOCKED and aligns at the next vertical
event. -/
def execLockDeclared (s : State) : Host.Outcome State Fault Refusal :=
  .next (doLockDeclared s)

/-- R72: The raster PLL passes a line boundary, driving the output pulses, trigger pulse pins and line-based windows. -/
def execRasterLineBoundary (s : State) : Host.Outcome State Fault Refusal :=
  .next (doRasterLineBoundary s)

/-- R35: The raster PLL produces a frame boundary, F increases by 1, and every frame-driven action of the head is taken. -/
def execRasterFrameBoundary (stalled : Bool) (s : State) : Host.Outcome State Fault Refusal :=
  .next (doRasterFrameBoundary stalled s)

/-- R79: The external 10 MHz is lost, and the system PLL coasts or fails over to the crystal. -/
def execSysRefLost (s : State) : Host.Outcome State Fault Refusal :=
  .next (doSysRefLost s)

/-- R80: The system PLL leaves lock with its reference present, which logs event 0x010D and makes a level-2 request. -/
def execSysLockLost (err : Int) (s : State) : Host.Outcome State Fault Refusal :=
  .next (doSysLockLost err s)

/-- R61: A write sets RRU_PLL_CTRL.EN from 0 to 1, starting qualification from OFF. -/
def execPllEnable (who : Initiator) (value : Word) (s : State) : Host.Outcome State Fault Refusal :=
  .next (busPut who A.RRU_PLL_CTRL value s)

/-- R61: A write clears EN, so the raster PLL stops in OFF and logs event 0x0107. -/
def execPllDisable (who : Initiator) (value : Word) (s : State) : Host.Outcome State Fault Refusal :=
  .next (busPut who A.RRU_PLL_CTRL value s)

/-- R61: A write to a PLL configuration register with EN = 1 restarts acquisition. -/
def execPllConfigWrite (who : Initiator) (reg : Fin 3) (value : Word) (s : State) : Host.Outcome State Fault Refusal :=
  .next (busPut who (A.RRU_PLL_CTRL + 4 * reg.val) value s)

/-- R64: A write to RRU_PLL_RESTART restarts acquisition once. -/
def execPllRestartGo (who : Initiator) (value : Word) (s : State) : Host.Outcome State Fault Refusal :=
  .next (busPut who A.RRU_PLL_RESTART value s)

/-- R102: A write to TMB_TOD_SET_NS commits the staged seconds with the nanoseconds at the next tick, or is ignored when out
of range. -/
def execTodSetNsWrite (who : Initiator) (value : Word) (s : State) : Host.Outcome State Fault Refusal :=
  .next (busPut who A.TMB_TOD_SET_NS value s)

/-- R105: A write to TMB_TOD_ADJ steps TOD at the next tick, unless a commit wins. -/
def execTodAdjWrite (who : Initiator) (value : Word) (s : State) : Host.Outcome State Fault Refusal :=
  .next (busPut who A.TMB_TOD_ADJ value s)

/-- R107: SERVO_EN is set, and the servo enters ACQUIRING to await time messages. -/
def execTodServoEnable (who : Initiator) (value : Word) (s : State) : Host.Outcome State Fault Refusal :=
  .next (busPut who A.TMB_TOD_CTRL value s)

/-- R107: SERVO_EN is cleared, and the servo returns to FREE. -/
def execTodServoDisable (who : Initiator) (value : Word) (s : State) : Host.Outcome State Fault Refusal :=
  .next (busPut who A.TMB_TOD_CTRL value s)

/-- R657: A PTP Announce, Sync, Follow_Up or Delay_Resp arrives, and it is timestamped and fed to master selection and the
servo. -/
def execPtpMessageReceived (port : Fin 5) (clock : Nat) (msg : PtpMsg) (s : State) : Host.Outcome State Fault Refusal :=
  .next (doPtpMessageReceived port clock msg s)

/-- R657: The Delay_Req period expires, and a Delay_Req is sent. -/
def execPtpDelayReqTimer (s : State) : Host.Outcome State Fault Refusal :=
  .next (doPtpDelayReqTimer s)

/-- R107: No time message arrives for TOD_TIMEOUT, and the servo enters HOLDOVER. -/
def execTodTimeout (s : State) : Host.Outcome State Fault Refusal :=
  .next (doTodTimeout s)

/-- R111: A timer unit's count source, or a linked unit event, occurs; the prescaler and CNT advance, with wrap and OVF. -/
def execTimerSourceEvent (u : Fin 8) (linked : Bool) (s : State) : Host.Outcome State Fault Refusal :=
  .next (doTimerSourceEvent u linked s)

/-- R117: A compare channel reaches its target in TB, counter or raster mode, sets MATCH, and acts per mode. -/
def execCompareMatch (k : Fin 32) (s : State) : Host.Outcome State Fault Refusal :=
  .next (doCompareMatch k s)

/-- R119: A channel's EN is written from 0 to 1, which sets LATE when its target has passed. -/
def execCompareEnable (who : Initiator) (k : Fin 32) (value : Word) (s : State) : Host.Outcome State Fault Refusal :=
  .next (busPut who (A.TMB_CH_CTRL (k.val / 4) (k.val % 4)) value s)

/-- R128: JTAG halts the management core, freezing units with FREEZE_ON_HALT. -/
def execDebugHalt (s : State) : Host.Outcome State Fault Refusal :=
  .next (doDebugHalt s)

/-- R158: While RP_VALID = 0, a tick with TB a multiple of 250,000 stands in for a frame boundary for domain switch openings.
-/
def execPeriodicMsTick (s : State) : Host.Outcome State Fault Refusal :=
  .next (doMsTick s)

/-- R160: A ramping tile's rail and bias settle, its row drivers are released, and it enters FLUSH. -/
def execTileRailSettled (t : Fin 240) (s : State) : Host.Outcome State Fault Refusal :=
  .next (doTileRailSettled t s)

/-- R160: Two global resets of a tile complete, and the tile becomes READY. -/
def execTileFlushDone (t : Fin 240) (s : State) : Host.Outcome State Fault Refusal :=
  .next (doTileFlushDone t s)

/-- R158: A tile rail overcurrent opens the switch, and the tile enters FAULT. -/
def execTileOvercurrent (t : Fin 240) (current : BitVec 16) (s : State) : Host.Outcome State Fault Refusal :=
  .next (doTileOvercurrent t current s)

/-- R158: FORCE_OFF is set; open exposures are discarded, and the switch opens at the next boundary. -/
def execTileForceOff (who : Initiator) (t : Fin 240) (value : Word) (s : State) : Host.Outcome State Fault Refusal :=
  .next (busPut who (A.SNS_TILE_CTRL t) value s)

/-- R159: FAULT_CLR returns a FAULT tile to OFF. -/
def execTileFaultClr (who : Initiator) (t : Fin 240) (value : Word) (s : State) : Host.Outcome State Fault Refusal :=
  .next (busPut who (A.SNS_TILE_CTRL t) value s)

/-- R166: A 10 ms regulation step runs the cooler and moves the temperature state. -/
def execCoolerSample (hot sensor power : BitVec 16) (plateOk : Bool) (s : State) : Host.Outcome State Fault Refusal :=
  .next (doCoolerSample hot sensor power plateOk s)

/-- R168: The cooler has driven at its cap for 1 s, which sets COOL_SAT. -/
def execCoolerSaturated (s : State) : Host.Outcome State Fault Refusal :=
  .next (doCoolerSaturated s)

/-- R166: FAULT_CLR of the cooler leaves FAULT when the hot side is below 60 °C. -/
def execCoolerFaultClr (who : Initiator) (value : Word) (s : State) : Host.Outcome State Fault Refusal :=
  .next (busPut who A.SNS_COOL_CTRL value s)

/-- R165: A changed setpoint returns the temperature state to SETTLING. -/
def execSetpointWrite (who : Initiator) (value : Word) (s : State) : Host.Outcome State Fault Refusal :=
  .next (busPut who A.SNS_COOL_CTRL value s)

/-- R198: A ramping sub-bank rail settles, and its ramp and comparator trim start. -/
def execSubbankRailSettled (d : Fin 40) (s : State) : Host.Outcome State Fault Refusal :=
  .next (doSubbankRailSettled d s)

/-- R198: A sub-bank trim completes, and the sub-bank becomes READY. -/
def execSubbankTrimDone (d : Fin 40) (s : State) : Host.Outcome State Fault Refusal :=
  .next (doSubbankTrimDone d s)

/-- R198: A sub-bank overcurrent opens the switch, and the sub-bank enters FAULT. -/
def execSubbankOvercurrent (d : Fin 40) (current : BitVec 16) (s : State) : Host.Outcome State Fault Refusal :=
  .next (doSubbankOvercurrent d current s)

/-- R198: A sub-bank's FORCE_OFF is set, and its switch opens at the next boundary. -/
def execSubbankForceOff (who : Initiator) (d : Fin 40) (value : Word) (s : State) : Host.Outcome State Fault Refusal :=
  .next (busPut who (A.CRO_SB_CTRL d) value s)

/-- R198: FAULT_CLR returns a FAULT sub-bank to OFF. -/
def execSubbankFaultClr (who : Initiator) (d : Fin 40) (value : Word) (s : State) : Host.Outcome State Fault Refusal :=
  .next (busPut who (A.CRO_SB_CTRL d) value s)

/-- R217: A row packet arrives on the sensor link and passes the link check, clamp, saturation, corrections, formatting,
fusion and statistics. -/
def execRowPacketReceived (p : RowPacket) (s : State) : Host.Outcome State Fault Refusal :=
  .next (doRowPacketReceived p s)

/-- R231: A lane exceeds 16 CRC errors in 1 s, and it is retrained or marked FAILED. -/
def execLaneRetrain (l : Fin 96) (s : State) : Host.Outcome State Fault Refusal :=
  .next (doLaneRetrain l s)

/-- R231: A lane retrain completes, and the effective row time is updated. -/
def execLaneRetrainDone (l : Fin 96) (ok : Bool) (s : State) : Host.Outcome State Fault Refusal :=
  .next (doLaneRetrainDone l ok s)

/-- R204: A write to a geometry descriptor is validated and refused while the descriptor is in use. -/
def execGeoDescriptorWrite (who : Initiator) (n : Fin 16) (reg : Fin 50) (value : Word) (s : State) :
    Host.Outcome State Fault Refusal :=
  .next (busPut who (geoRegister n reg) value s)

/-- R259: TB reaches T_n of an absolute program, and its instance is issued. -/
def execAbsInstanceDue (m : Fin 4) (s : State) : Host.Outcome State Fault Refusal :=
  .next (doAbsInstanceDue m s)

/-- R283: The raster or TB reaches a reset target, and the reset is placed, slipped, skipped or abandoned, with its read
booked. -/
def execResetTargetReached (m : Fin 4) (exp key rg : Nat) (s : State) : Host.Outcome State Fault Refusal :=
  .next (doResetTargetReached m exp key rg s)

/-- R245: A booked row-group reset begins at its tick. -/
def execRowGroupResetStart (lane : Fin 5) (exp key rg : Nat) (s : State) : Host.Outcome State Fault Refusal :=
  .next (doRowGroupResetStart lane exp key rg s)

/-- R245: A booked row-group read begins on its bank or banks. -/
def execRowGroupReadStart (lane : Fin 5) (exp key rg : Nat) (s : State) : Host.Outcome State Fault Refusal :=
  .next (doRowGroupReadStart lane exp key rg s)

/-- R191: A row-group read ends, freeing the bank, completing fusion members and ending a lane drain. -/
def execRowGroupReadComplete (lane : Fin 5) (exp key rg : Nat) (stuck : BitVec 16) (s : State) : Host.Outcome State Fault Refusal :=
  .next (doRowGroupReadComplete lane exp key rg stuck s)

/-- R329: A frame has ended and all its exposures and fusion sets are read or abandoned, so it closes for the lane. -/
def execLaneFrameClose (m : Fin 4) (s : State) : Host.Outcome State Fault Refusal :=
  .next (doLaneFrameClose m s)

/-- R381: The hand-off of a closed buffer ends, and the buffer belongs to the next interval. -/
def execHandoffComplete (set : Fin 256) (s : State) : Host.Outcome State Fault Refusal :=
  .next (doHandoffComplete set s)

/-- R394: A slice pipe holds a row for 64 µs, so the slice is reset and GAP is flagged. -/
def execSliceStuck (slice : Fin 16) (pipe : Fin 2) (s : State) : Host.Outcome State Fault Refusal :=
  .next (doSliceStuck slice pipe s)

/-- R253: A bus write to a row map, program, window entry, tenant context or instruction word is checked for in-use and range.
-/
def execMemoryWindowWrite (who : Initiator) (addr : Nat) (value : Word) (s : State) : Host.Outcome State Fault Refusal :=
  .next (busPut who addr value s)

/-- R410: CAL_CTRL.REQ makes a calibration due with reason REQUEST. -/
def execCalRequest (s : State) : Host.Outcome State Fault Refusal :=
  .next (doCalRequest s)

/-- R415: CAL_CTRL.FORCE makes a calibration due and opens a slot at the next boundary. -/
def execCalForce (s : State) : Host.Outcome State Fault Refusal :=
  .next (doCalForce s)

/-- R428: CAL_CTRL.CANCEL aborts a run and opens the shutter. -/
def execCalCancel (s : State) : Host.Outcome State Fault Refusal :=
  .next (doCalCancel s)

/-- R410: The 1 s sensor temperature mean is formed and may make a calibration due for TEMP. -/
def execCalTempMean (s : State) : Host.Outcome State Fault Refusal :=
  .next (doCalTempMean s)

/-- R410: The active set becomes older than MAX_AGE, making a calibration due. -/
def execCalAgeExpired (s : State) : Host.Outcome State Fault Refusal :=
  .next (doCalAgeExpired s)

/-- R413: A due calibration passes STALE_MAX, so results carry CAL_STALE. -/
def execCalStaleEnter (s : State) : Host.Outcome State Fault Refusal :=
  .next (doCalStaleEnter s)

/-- R419: The shutter reports closed plus 2 ms, and the DARK frames start. -/
def execCalDarkBegin (s : State) : Host.Outcome State Fault Refusal :=
  .next (doCalDarkBegin s)

/-- R424: The shutter reports open plus 2 ms, so the run completes, the new set becomes active at the next boundary and the
store starts. -/
def execCalRunComplete (s : State) : Host.Outcome State Fault Refusal :=
  .next (doCalRunComplete s)

/-- R434: An eMMC write command ends, and the next command of a calibration, key or long-log store is issued. -/
def execEmmcCommandComplete (ok : Bool) (s : State) : Host.Outcome State Fault Refusal :=
  .next (doEmmcCommandComplete ok s)

/-- R437: The stored calibration set finishes loading with its CRC, and it becomes active at the next boundary. -/
def execCalLoadComplete (okA okB : Bool) (s : State) : Host.Outcome State Fault Refusal :=
  .next (doCalLoadComplete okA okB s)

/-- R447: A new filter position is requested, with the move starting at the next frame boundary. -/
def execFilterPosWrite (who : Initiator) (value : Word) (s : State) : Host.Outcome State Fault Refusal :=
  .next (busPut who A.CTG_FILTER value s)

/-- R457: The slider reports its target position, and settling begins. -/
def execSliderInPosition (s : State) : Host.Outcome State Fault Refusal :=
  .next (doSliderInPosition s)

/-- R451: The slider has settled for 2 ms, and the gate reopens at the next boundary. -/
def execSliderSettled (s : State) : Host.Outcome State Fault Refusal :=
  .next (doSliderSettled s)

/-- R457: The slider fails to report within its time, and the cartridge enters FAULT. -/
def execFilterFault (s : State) : Host.Outcome State Fault Refusal :=
  .next (doFilterLate s)

/-- R449: CTG_CTRL.SHUT closes or opens the shutter. -/
def execShutWrite (who : Initiator) (value : Word) (s : State) : Host.Outcome State Fault Refusal :=
  .next (busPut who A.CTG_CTRL value s)

/-- R449: The shutter reports its commanded state. -/
def execShutterReported (s : State) : Host.Outcome State Fault Refusal :=
  .next (shutterReported s)

/-- R457: The shutter fails to report within its time, and the cartridge enters FAULT. -/
def execShutterFault (s : State) : Host.Outcome State Fault Refusal :=
  .next (doShutterFault s)

/-- R455: The presence contact opens, so the gate closes, the bus is released and the state becomes ABSENT. -/
def execCtgRemoved (s : State) : Host.Outcome State Fault Refusal :=
  .next (doCtgRemoved s)

/-- R456: The presence contact has held for 500 ms, and the header, limits and certificate are read. -/
def execCtgInserted (s : State) : Host.Outcome State Fault Refusal :=
  .next (doCtgInserted s)

/-- R457: The identity reads complete and are checked, and the challenge is sent or the cartridge is rejected. -/
def execCtgReadComplete (mem : List (Nat × Byte)) (s : State) : Host.Outcome State Fault Refusal :=
  .next (doCtgIdentityRead mem s)

/-- R464: The secure element's signature arrives and is verified, so homing starts or the cartridge is rejected. -/
def execCtgAuthReply (certOk sigOk : Bool) (s : State) : Host.Outcome State Fault Refusal :=
  .next (doCtgAuthReply certOk sigOk s)

/-- R457: No authentication reply arrives within 100 ms, and the cartridge is rejected. -/
def execCtgAuthTimeout (s : State) : Host.Outcome State Fault Refusal :=
  .next (doCtgAuthTimeout s)

/-- R457: The cartridge is not in position within 500 ms of homing, and it enters FAULT. -/
def execCtgHomingTimeout (s : State) : Host.Outcome State Fault Refusal :=
  .next (doCtgHomingTimeout s)

/-- R457: RETRY returns a REJECTED or FAULT cartridge to READING. -/
def execCtgRetry (who : Initiator) (value : Word) (s : State) : Host.Outcome State Fault Refusal :=
  .next (busPut who A.CTG_CTRL value s)

/-- R472: The 60 s checkpoint period, or the 1 s retry, expires, and the counters are sent under the energy rule. -/
def execCtgCheckpointDue (s : State) : Host.Outcome State Fault Refusal :=
  .next (doCtgCheckpointDue s)

/-- R474: The secure element accepts or refuses a checkpoint. -/
def execCtgCheckpointReply (accepted : Bool) (stored : List Nat) (s : State) : Host.Outcome State Fault Refusal :=
  .next (doCtgCheckpointReply accepted stored s)

/-- R463: A read of CTG_MEM_DATA returns four copy bytes and advances the address by 4. -/
def execCtgMemDataRead (who : Initiator) (s : State) : Host.Outcome State Fault Refusal :=
  .next (doBusRead who A.CTG_MEM_DATA s)

/-- R486: A tracker step ends, and its samples enter accumulators, trackers and crossings as the sequencer advances. -/
def execTrackerStepComplete (p0 p1 p2 p3 : Option (BitVec 16)) (taken : Nat) (s : State) : Host.Outcome State Fault Refusal :=
  .next (doTrackerStepComplete p0 p1 p2 p3 taken s)

/-- R497: An injected-sequence trigger arrives and aborts, pends, drops or starts a run. -/
def execInjectedTrigger (t : InjTrigger) (s : State) : Host.Outcome State Fault Refusal :=
  .next (doInjectedTrigger t s)

/-- R487: The 100 ms rotation hands an active slice's position to the spare. -/
def execSliceRotation (s : State) : Host.Outcome State Fault Refusal :=
  .next (doSliceRotation s)

/-- R487: A slice's 2 ms calibration ends; it becomes READY or FAULTY, and the external reference is checked. -/
def execSliceCalComplete (n : Fin 5) (offset gain : Int) (refMv : Nat) (s : State) : Host.Outcome State Fault Refusal :=
  .next (doSliceCalComplete n offset gain refMv s)

/-- R491: REF_SEL changes the tracker reference and starts settling. -/
def execRefSelWrite (who : Initiator) (value : Word) (s : State) : Host.Outcome State Fault Refusal :=
  .next (busPut who A.TRC_CTRL value s)

/-- R493: 2 ms after a reference change, SETTLING clears. -/
def execRefSettlingEnd (s : State) : Host.Outcome State Fault Refusal :=
  .next (doRefSettlingEnd s)

/-- R499: The regular sequence has not passed for 10 ms, so STARVED is set and the first response holds injected triggers. -/
def execRegStarved (s : State) : Host.Outcome State Fault Refusal :=
  .next (doRegStarved s)

/-- R501: A TIME-mode accumulator window ends, giving a result and rail and temperature means. -/
def execAccTimeWindowClose (a : Fin 256) (s : State) : Host.Outcome State Fault Refusal :=
  .next (doAccWindowClose a s)

/-- R643: 1 ms after the first record, a partial TRACK packet is enqueued. -/
def execTrackFlushTimeout (sid : Nat) (s : State) : Host.Outcome State Fault Refusal :=
  .next (doTrackFlushTimeout sid s)

/-- R533: A thread executes NOP in its slot. -/
def execInstrNop (e : Fin 4) (t : Fin 16) (s : State) : Host.Outcome State Fault Refusal :=
  .next (doInstrNop e t s)

/-- R537: A thread evaluates a JMP condition, counting down a loop counter, and jumps or halts if PC leaves its range. -/
def execInstrJmp (e : Fin 4) (t : Fin 16) (s : State) : Host.Outcome State Fault Refusal :=
  .next (doInstrJmp e t s)

/-- R538: A thread evaluates a WAIT on a pin, flag, IRQ or raster. -/
def execInstrWait (e : Fin 4) (t : Fin 16) (s : State) : Host.Outcome State Fault Refusal :=
  .next (doInstrWait e t s)

/-- R538: A waiting thread's condition holds in its slot, and it proceeds, clearing an awaited IRQ. -/
def execWaitProceed (e : Fin 4) (t : Fin 16) (s : State) : Host.Outcome State Fault Refusal :=
  .next (doWaitProceed e t s)

/-- R535: A thread shifts N bits of a source into SH. -/
def execInstrIn (e : Fin 4) (t : Fin 16) (s : State) : Host.Outcome State Fault Refusal :=
  .next (doInstrIn e t s)

/-- R535: A thread shifts N bits out of SH into pins, directions or A. -/
def execInstrOut (e : Fin 4) (t : Fin 16) (s : State) : Host.Outcome State Fault Refusal :=
  .next (doInstrOut e t s)

/-- R536: A thread pushes SH to the RX FIFO, blocking or discarding when full. -/
def execInstrPush (e : Fin 4) (t : Fin 16) (s : State) : Host.Outcome State Fault Refusal :=
  .next (doInstrPush e t s)

/-- R536: A thread blocked on a full RX FIFO pushes once a word is free. -/
def execPushResume (e : Fin 4) (t : Fin 16) (s : State) : Host.Outcome State Fault Refusal :=
  .next (doPushResume e t s)

/-- R536: A thread pulls a TX FIFO word into SH, blocking when empty unless non-blocking. -/
def execInstrPull (e : Fin 4) (t : Fin 16) (s : State) : Host.Outcome State Fault Refusal :=
  .next (doInstrPull e t s)

/-- R536: A thread blocked on an empty TX FIFO takes the word that arrives. -/
def execPullResume (e : Fin 4) (t : Fin 16) (s : State) : Host.Outcome State Fault Refusal :=
  .next (doPullResume e t s)

/-- R534: A thread moves a function of a source to a destination. -/
def execInstrMov (e : Fin 4) (t : Fin 16) (s : State) : Host.Outcome State Fault Refusal :=
  .next (doInstrMov e t s)

/-- R534: A thread sets pins, directions, C0 or C1 to immediate data. -/
def execInstrSet (e : Fin 4) (t : Fin 16) (s : State) : Host.Outcome State Fault Refusal :=
  .next (doInstrSet e t s)

/-- R531: A thread sets a shared flag. -/
def execFlagSet (e : Fin 4) (t : Fin 16) (s : State) : Host.Outcome State Fault Refusal :=
  .next (doFlagSet e t s)

/-- R531: A thread clears a shared flag. -/
def execFlagClear (e : Fin 4) (t : Fin 16) (s : State) : Host.Outcome State Fault Refusal :=
  .next (doFlagClear e t s)

/-- R531: A thread toggles a shared flag. -/
def execFlagToggle (e : Fin 4) (t : Fin 16) (s : State) : Host.Outcome State Fault Refusal :=
  .next (doFlagToggle e t s)

/-- R532: A thread sets local IRQ n. -/
def execIrqSet (e : Fin 4) (t : Fin 16) (s : State) : Host.Outcome State Fault Refusal :=
  .next (doIrqSet e t s)

/-- R548: A thread sets local IRQ n and sends EVENT 0x0A10, rate-limited. -/
def execIrqSetEvent (e : Fin 4) (t : Fin 16) (s : State) : Host.Outcome State Fault Refusal :=
  .next (doIrqSetEvent e t s)

/-- R496: A thread requests the tracker injected sequence. -/
def execIrqTrackerRequest (e : Fin 4) (t : Fin 16) (s : State) : Host.Outcome State Fault Refusal :=
  .next (doIrqTrackerRequest e t s)

/-- R533: A thread clears local IRQ n. -/
def execIrqClear (e : Fin 4) (t : Fin 16) (s : State) : Host.Outcome State Fault Refusal :=
  .next (doIrqClear e t s)

/-- R543: A write to TGE_ENG_INJ requests an injection or is refused. -/
def execEngInjWrite (who : Initiator) (e : Fin 4) (value : Word) (s : State) : Host.Outcome State Fault Refusal :=
  .next (busPut who (A.TGE_ENG_INJ e) value s)

/-- R541: The injected instruction executes once in the thread's next slot. -/
def execInjectionExecute (e : Fin 4) (s : State) : Host.Outcome State Fault Refusal :=
  .next (doInjectionExecute e s)

/-- R545: The stall condition holds for 1,024 cycles, so a stall is declared and STALL_POL applied. -/
def execStall (e : Fin 4) (s : State) : Host.Outcome State Fault Refusal :=
  .next (doStall e s)

/-- R547: A host word is written into a thread's TX FIFO, or ignored when full. -/
def execTgeThrTxfWrite (who : Initiator) (e : Fin 4) (t : Fin 16) (value : Word) (s : State) : Host.Outcome State Fault Refusal :=
  .next (busPut who (A.TGE_THR_TXF e t) value s)

/-- R547: A read pops one word from a thread's RX FIFO. -/
def execTgeThrRxfRead (who : Initiator) (e : Fin 4) (t : Fin 16) (s : State) : Host.Outcome State Fault Refusal :=
  .next (doBusRead who (A.TGE_THR_RXF e t) s)

/-- R531: The steward sets shared flags, discarded if a thread writes the flag in the same cycle. -/
def execTgeFlagSetWrite (who : Initiator) (w : Fin 4) (value : Word) (s : State) : Host.Outcome State Fault Refusal :=
  .next (busPut who (A.TGE_FLAG_SET w) value s)

/-- R531: The steward clears shared flags. -/
def execTgeFlagClrWrite (who : Initiator) (w : Fin 4) (value : Word) (s : State) : Host.Outcome State Fault Refusal :=
  .next (busPut who (A.TGE_FLAG_CLR w) value s)

/-- R526: A level change on a TRG line or DIFF pair passes the filter and synchroniser to the threads and timers. -/
def execTrgInputChange (pin : Fin 20) (level : Bool) (s : State) : Host.Outcome State Fault Refusal :=
  .next (doTrgInputChange pin level s)

/-- R549: In SLEEP, a rising edge of at least 100 ns on a TRG line with WAKE = 1 wakes the head. -/
def execTrgWakeEdge (n : Fin 16) (s : State) : Host.Outcome State Fault Refusal :=
  .next (doTrgWakeEdge n s)

/-- R578: An IMAGE_WRITE opens; the target slot's entries are tombstoned and its sectors erased. -/
def execImageWriteOpen (n : Fin 4) (target : WriteTarget) (total : Nat) (s : State) : Host.Outcome State Fault Refusal :=
  .next (sessionOp n (.imageOpen target total) s)

/-- R580: A data message is programmed and read back, or rejected as PROG_NOT_BLANK. -/
def execImageWriteData (n : Fin 4) (target : WriteTarget) (offset : Nat) (data : List Byte) (s : State) :
    Host.Outcome State Fault Refusal :=
  .next (sessionOp n (.imageData target offset data) s)

/-- R578: The slot is read back and checked, and a live entry is committed, or for firmware the marker is committed and a
planned restart follows. -/
def execImageWriteClose (n : Fin 4) (target : WriteTarget) (sigOk : Bool) (s : State) : Host.Outcome State Fault Refusal :=
  .next (sessionOp n (.imageClose target sigOk) s)

/-- R716: The IMAGE_WRITE ends without a commit. -/
def execImageWriteAbort (n : Fin 4) (target : WriteTarget) (s : State) : Host.Outcome State Fault Refusal :=
  .next (sessionOp n (.imageAbort target) s)

/-- R583: A NOR or key sector erase or page program ends with read-back, and the sequence continues. -/
def execFlashOperationComplete (c : Fin 2) (devOk : Bool) (held : Option (List Byte)) (s : State) : Host.Outcome State Fault Refusal :=
  .next (doFlashOperationComplete c devOk held s)

/-- R820: A waiting store operation repeats its energy check every 10 ms. -/
def execEnergyCheckRetry (s : State) : Host.Outcome State Fault Refusal :=
  .next (doEnergyCheckRetry s)

/-- R819: An energy check obtains no V_bulk sample within 1 ms and fails. -/
def execEnergyCheckTimeout (s : State) : Host.Outcome State Fault Refusal :=
  .next (doEnergyCheckTimeout s)

/-- R598: A STOP opens a change set for named functions at frame F, or is refused. -/
def execChangeStop (n : Fin 4) (splitOk : Bool) (f : Nat) (fns : List Nat) (s : State) : Host.Outcome State Fault Refusal :=
  .next (doChangeStop n splitOk f fns s)

/-- R601: A STAGE message's items are checked whole and staged, or a split step is taken. -/
def execChangeStage (n : Fin 4) (items : List ChgItem) (s : State) : Host.Outcome State Fault Refusal :=
  .next (doChangeStage n items s)

/-- R604: A RESTART runs the combined checks and schedules the copy and restart at F′, or is refused. -/
def execChangeRestart (n : Fin 4) (discard : Bool) (f : Nat) (s : State) : Host.Outcome State Fault Refusal :=
  .next (doChangeRestart n discard f s)

/-- R605: The copy of staged items ends, and the functions start at the next permitted boundary. -/
def execChangeCopyComplete (s : State) : Host.Outcome State Fault Refusal :=
  .next (doChangeCopyComplete s)

/-- R616: The session sends nothing for LEASE, so the change set is discarded and its functions restart. -/
def execChangeLeaseExpired (s : State) : Host.Outcome State Fault Refusal :=
  .next (doChangeLeaseExpired s)

/-- R649: A port is free to send, and the scheduler picks a constant-rate, retransmitted or round-robin packet under the
buckets. -/
def execLinkTransmit (port : Fin 5) (s : State) : Host.Outcome State Fault Refusal :=
  .next (doLinkTransmit port s)

/-- R646: A constant-rate stream's period expires, and one sealed packet is built. -/
def execCrSlotDue (sid : Nat) (s : State) : Host.Outcome State Fault Refusal :=
  .next (doCrSlotDue sid s)

/-- R653: A data port link comes up, and sending resumes in SEQ order. -/
def execPortUp (port : Fin 5) (s : State) : Host.Outcome State Fault Refusal :=
  .next (doPortUp port s)

/-- R653: A data port link goes down, and streams keep enqueueing. -/
def execPortDown (port : Fin 5) (s : State) : Host.Outcome State Fault Refusal :=
  .next (doPortDown port s)

/-- R624: A received frame is checked and dispatched to ARP, NDP, PTP or LCP, or dropped. -/
def execEthFrameReceived (port : Fin 5) (frame : EthFrame) (s : State) : Host.Outcome State Fault Refusal :=
  .next (doEthFrameReceived port frame s)

/-- R625: Next-hop resolution of a stream is retried every 1 s. -/
def execResolveRetry (sid : Nat) (s : State) : Host.Outcome State Fault Refusal :=
  .next (doResolveRetry sid s)

/-- R926: A QSFP-DD module is inserted or removed, and it is accepted or treated as absent. -/
def execQsfpModuleChange (present mediaOk powerOk : Bool) (s : State) : Host.Outcome State Fault Refusal :=
  .next (doQsfpModuleChange present mediaOk powerOk s)

/-- R655: Retained packets of a SEQ range are resent unchanged, and the rest are counted. -/
def execRetransmit (tenant : Option (Fin 4096)) (n : Fin 4) (sid count first : Nat) (s : State) : Host.Outcome State Fault Refusal :=
  .next (doRetransmit tenant n sid count first s)

/-- R669: A write of GO checks context t's shadow, which is applied at the first boundary at least 1 ms later or refused. -/
def execTenCommit (who : Initiator) (value : Word) (s : State) : Host.Outcome State Fault Refusal :=
  .next (busPut who A.TEN_COMMIT value s)

/-- R674: A key and salt are installed in a slot, effective at the next boundary, and the store is written. -/
def execTenKeyInstall (who : Initiator) (s : State) : Host.Outcome State Fault Refusal :=
  .next (busPut who A.TEN_KEY_CMD 1 s)

/-- R674: A key slot is erased, and the store is written. -/
def execTenKeyErase (who : Initiator) (s : State) : Host.Outcome State Fault Refusal :=
  .next (busPut who A.TEN_KEY_CMD 2 s)

/-- R680: A tenant request is authenticated, replay-checked and rate-limited into its queue, or dropped. -/
def execTenantReq (t : Nat) (auth : Bool) (req : BitVec 64) (op : LcpOp) (s : State) : Host.Outcome State Fault Refusal :=
  .next (doTenantReq t auth req op s)

/-- R682: The management core takes the next tenant request in round robin and executes it. -/
def execTenantRequestDequeue (s : State) : Host.Outcome State Fault Refusal :=
  .next (doTenantRequestDequeue s)

/-- R685: A tenant replaces its subscribed sets and raw flag at the next interval or frame boundary. -/
def execSubscribe (t : Fin 4096) (rawSub rawSet : Bool) (sets : List Nat) (s : State) : Host.Outcome State Fault Refusal :=
  .next (tenantDirect t (.subscribe rawSub rawSet sets) s)

/-- R387: A tenant defines or moves a window, clipped to its region and checked against the plan. -/
def execTenantWindowSet (t : Fin 4096) (twin set x0 x1 y0 y1 : Nat) (s : State) : Host.Outcome State Fault Refusal :=
  .next (tenantDirect t (.tenantWindow false twin set x0 x1 y0 y1) s)

/-- R389: A tenant removes a window at the next interval boundary. -/
def execTenantWindowRemove (t : Fin 4096) (twin : Nat) (s : State) : Host.Outcome State Fault Refusal :=
  .next (tenantDirect t (.tenantWindow true twin 0 0 0 0 0) s)

/-- R705: An INIT is verified and a steward session opens with ACCEPT, or it is refused or dropped. -/
def execInit (port : Fin 5) (ipv6 framed : Bool) (key : List Byte) (sigOk : Bool) (hostNonce : BitVec 128) (mtu flags minSev : Nat) (serial : BitVec 64) (s : State) :
    Host.Outcome State Fault Refusal :=
  .next (doInit port ipv6 framed key sigOk hostNonce mtu flags minSev serial s)

/-- R708: A steward request is authenticated, answered from cache or executed in REQ order. -/
def execStewardReq (n : Fin 4) (port : Fin 5) (framed tagOk : Bool) (req : BitVec 64) (op : LcpOp) (s : State) :
    Host.Outcome State Fault Refusal :=
  .next (doStewardReq n port framed tagOk req op s)

/-- R719: A READ returns up to four words, following access types. -/
def execRead (n : Fin 4) (addr count : Nat) (s : State) : Host.Outcome State Fault Refusal :=
  .next (sessionOp n (.read addr count) s)

/-- R720: A WRITE writes one register, with the status from the block. -/
def execWrite (n : Fin 4) (addr : Nat) (value : Word) (s : State) : Host.Outcome State Fault Refusal :=
  .next (sessionOp n (.write addr value) s)

/-- R721: An RMW reads and writes one register in consecutive cycles under a mask. -/
def execRmw (n : Fin 4) (addr : Nat) (mask value : Word) (s : State) : Host.Outcome State Fault Refusal :=
  .next (sessionOp n (.rmw addr mask value) s)

/-- R719: A BULK read returns up to 1,024 words, optionally from one fixed address. -/
def execBulkRead (n : Fin 4) (fixed : Bool) (addr count : Nat) (s : State) : Host.Outcome State Fault Refusal :=
  .next (sessionOp n (.bulkRead fixed addr count) s)

/-- R722: A BULK write writes words in order and stops at the first failure. -/
def execBulkWrite (n : Fin 4) (fixed : Bool) (addr : Nat) (values : List Word) (s : State) : Host.Outcome State Fault Refusal :=
  .next (sessionOp n (.bulkWrite fixed addr values) s)

/-- R717: The steward sleep command closes intervals and fusion sets, sends final packets and powers down into SLEEP. -/
def execHeadCmdSleep (n : Fin 4) (s : State) : Host.Outcome State Fault Refusal :=
  .next (sessionOp n (.headCmd 1) s)

/-- R830: The final packets, checkpoint and journal end, and every switched domain turns off. -/
def execSleepEntryComplete (s : State) : Host.Outcome State Fault Refusal :=
  .next (doSleepEntryComplete s)

/-- R862: RELEASE leaves HOLD and re-applies the retained image or starts key discovery. -/
def execHeadCmdRelease (n : Fin 4) (s : State) : Host.Outcome State Fault Refusal :=
  .next (sessionOp n (.headCmd 2) s)

/-- R711: A steward NOP renews the session. -/
def execNop (n : Fin 4) (s : State) : Host.Outcome State Fault Refusal :=
  .next (sessionOp n .nop s)

/-- R709: CLOSE ends a steward session and erases its keys and cache. -/
def execClose (n : Fin 4) (s : State) : Host.Outcome State Fault Refusal :=
  .next (sessionOp n .close s)

/-- R709: A session with no accepted request for TIMEOUT ends. -/
def execSessionTimeout (n : Fin 4) (s : State) : Host.Outcome State Fault Refusal :=
  .next (doSessionTimeout n s)

/-- R724: 10 ms after its first entry, a session's EVENT message is sent. -/
def execEventFlush (n : Fin 4) (s : State) : Host.Outcome State Fault Refusal :=
  .next (doEventFlush n s)

/-- R728: A WAKE datagram with the serial number wakes the head from SLEEP. -/
def execWake (serial : BitVec 64) (s : State) : Host.Outcome State Fault Refusal :=
  .next (doWake serial s)

/-- R132: In SLEEP, a TB channel with WAKE = 1 reaches its target at a slow tick and wakes the head. -/
def execCompareWake (k : Fin 32) (slow : Nat) (s : State) : Host.Outcome State Fault Refusal :=
  .next (doCompareWake k slow s)

/-- R866: The watchdog counts SLEEP_PERIOD in SLEEP and wakes the head. -/
def execSleepWatchdogWake (s : State) : Host.Outcome State Fault Refusal :=
  .next (doSleepWatchdogWake s)

/-- R737: Every 1 ms a HELLO cell is sent on each mosaic port. -/
def execHelloTimer (s : State) : Host.Outcome State Fault Refusal :=
  .next (doHelloTimer s)

/-- R740: Every 1 ms a DELAY_REQ is sent on each port. -/
def execDelayReqTimer (s : State) : Host.Outcome State Fault Refusal :=
  .next (doDelayReqTimer s)

/-- R753: The root or interim root sends a TIME cell, 16 per second. -/
def execTimeCellTimer (s : State) : Host.Outcome State Fault Refusal :=
  .next (doTimeCellTimer s)

/-- R743: A HELLO cell updates the view and is forwarded. -/
def execHello (c : CellHead) (serial : BitVec 64) (flags state rootId rootHops bseq : Nat) (s : State) :
    Host.Outcome State Fault Refusal :=
  .next (doHello c serial flags state rootId rootHops bseq s)

/-- R740: A DELAY_REQ is stamped and answered with DELAY_RESP. -/
def execDelayReq (port : Fin 2) (crcOk : Bool) (t1 t2 t3 : Nat) (s : State) : Host.Outcome State Fault Refusal :=
  .next (doDelayReq port crcOk t1 t2 t3 s)

/-- R740: A DELAY_RESP gives one hop-delay exchange and updates the port's mean. -/
def execDelayResp (port : Fin 2) (crcOk : Bool) (t1 t2 t3 t4 : Nat) (s : State) : Host.Outcome State Fault Refusal :=
  .next (doDelayResp port crcOk t1 t2 t3 t4 s)

/-- R750: A RASTER cell from the root gives a MOSAIC line or vertical event and is forwarded. -/
def execRasterCell (c : CellHead) (f l flags lastTl src : Nat) (err ofs : Int) (s : State) : Host.Outcome State Fault Refusal :=
  .next (doRasterCell c f l flags lastTl src err ofs s)

/-- R753: A TIME cell feeds the root's TOD offset to the servo and is forwarded. -/
def execTime (c : CellHead) (sec ns todState : Nat) (s : State) : Host.Outcome State Fault Refusal :=
  .next (doTime c sec ns todState s)

/-- R758: A BARRIER cell is latched for ARM, STOP or START at its frame and forwarded. -/
def execBarrier (c : CellHead) (bseq cmd flags f part nPart : Nat) (fns : List Nat) (s : State) : Host.Outcome State Fault Refusal :=
  .next (doBarrier c bseq cmd flags f part nPart fns s)

/-- R766: A STATE cell gives the root's digest and BSEQ, driving DISCORDANT and replay requests. -/
def execState (c : CellHead) (f bseq minor heads : Nat) (digest : List Byte) (s : State) : Host.Outcome State Fault Refusal :=
  .next (doState c f bseq minor heads digest s)

/-- R763: A member's REPORT reaches the root, which counts READY, logs refusals or replays a barrier. -/
def execReport (c : CellHead) (bseq result reason state flags : Nat) (ofs : Int) (s : State) : Host.Outcome State Fault Refusal :=
  .next (doReport c bseq result reason state flags ofs s)

/-- R743: A mosaic port link goes up or down, updating the view and the primary port. -/
def execMosaicPortLinkChange (port : Fin 2) (up : Bool) (s : State) : Host.Outcome State Fault Refusal :=
  .next (doMosaicPortLinkChange port up s)

/-- R743: No HELLO from a head for 10 ms removes it from the view. -/
def execViewHeadTimeout (s : State) : Host.Outcome State Fault Refusal :=
  .next (doViewHeadTimeout s)

/-- R744: The view has not changed for 5 ms, and the root or interim root is elected and the mosaic state moves. -/
def execViewSettled (s : State) : Host.Outcome State Fault Refusal :=
  .next (doViewSettled s)

/-- R761: MOS_BREQ with CMD ARM issues an ARM barrier on the root. -/
def execBarrierReqArm (who : Initiator) (value : Word) (s : State) : Host.Outcome State Fault Refusal :=
  .next (busPut who A.MOS_BREQ value s)

/-- R761: MOS_BREQ with CMD STOP issues a STOP barrier on the root. -/
def execBarrierReqStop (who : Initiator) (value : Word) (s : State) : Host.Outcome State Fault Refusal :=
  .next (busPut who A.MOS_BREQ value s)

/-- R761: MOS_BREQ with CMD START issues a START barrier on the root. -/
def execBarrierReqStart (who : Initiator) (value : Word) (s : State) : Host.Outcome State Fault Refusal :=
  .next (busPut who A.MOS_BREQ value s)

/-- R760: ARM_TIMEOUT passes without EXPECTED READY reports, and the root issues START anyway. -/
def execArmTimeout (s : State) : Host.Outcome State Fault Refusal :=
  .next (doArmTimeout s)

/-- R798: A PROGRAM command programs the 1 bits of VALUE into a permitted fuse word. -/
def execFuseProgramWord (via : Option (Fin 4)) (word : Nat) (value : Word) (s : State) : Host.Outcome State Fault Refusal :=
  .next (fuseCommand via 1 word value s)

/-- R798: A fuse word's programming and read-back end, with retries or failure. -/
def execFuseWordComplete (readA readB : Word) (s : State) : Host.Outcome State Fault Refusal :=
  .next (doFuseWordComplete readA readB s)

/-- R793: ADVANCE finalises units and programs the next life-cycle bit. -/
def execFuseAdvance (via : Option (Fin 4)) (word : Nat) (value : Word) (s : State) : Host.Outcome State Fault Refusal :=
  .next (fuseCommand via 2 word value s)

/-- R799: JTAG_UNLOCK enables JTAG until the next power-on in DEPLOYED. -/
def execFuseJtagUnlock (via : Option (Fin 4)) (word : Nat) (value : Word) (s : State) : Host.Outcome State Fault Refusal :=
  .next (fuseCommand via 3 word value s)

/-- R812: A switched domain reaches READY 100 µs after its switch closes. -/
def execDomainReady (d : Fin 316) (s : State) : Host.Outcome State Fault Refusal :=
  .next (doDomainReady d s)

/-- R812: A domain overcurrent opens its switch into FAULT. -/
def execDomainOvercurrent (d : Fin 316) (s : State) : Host.Outcome State Fault Refusal :=
  .next (doDomainOvercurrent d s)

/-- R812: A write clears FAULT of domains 280 to 314. -/
def execPwrDomFclrWrite (who : Initiator) (w : Fin 10) (value : Word) (s : State) : Host.Outcome State Fault Refusal :=
  .next (busPut who (A.PWR_DOM_FCLR w) value s)

/-- R823: A missing half-cycle or low bulk raises the power-fail warning, which starts the sequencer before all other events.
-/
def execPfWarning (cause : Fin 2) (bulk : BitVec 16) (s : State) : Host.Outcome State Fault Refusal :=
  .next (doPfWarning cause bulk s)

/-- R825: LINK_HOLD after the warning, the data and mosaic ports are disabled. -/
def execLinkHoldExpired (s : State) : Host.Outcome State Fault Refusal :=
  .next (doLinkHoldExpired s)

/-- R825: Steps 4 and 5 of the sequence end, and the head parks with the main converters off. -/
def execParked (s : State) : Host.Outcome State Fault Refusal :=
  .next (doParked s)

/-- R828: EMERG_MAX passes before the steps end, so the rest is abandoned and the head parks. -/
def execEmergOverrun (s : State) : Host.Outcome State Fault Refusal :=
  .next (doEmergOverrun s)

/-- R825: The bulk falls to 250 V, the always-on domain turns off and the head is OFF. -/
def execAlwaysOnPowerLoss (s : State) : Host.Outcome State Fault Refusal :=
  .next (doAlwaysOnPowerLoss s)

/-- R829: Mains returns while parked with V_bulk at 370 V for 100 ms, and the head boots keeping retained memory. -/
def execParkRestart (ms : Nat) (s : State) : Host.Outcome State Fault Refusal :=
  .next (doParkRestart ms s)

/-- R840: A write to SUP_WDG_SVC restarts the count, or is an EARLY or KEY expiry, or is ignored from LCP. -/
def execWdgService (who : Initiator) (value : Word) (s : State) : Host.Outcome State Fault Refusal :=
  .next (busPut who A.SUP_WDG_SVC value s)

/-- R841: SUP_WDG_CTRL.EN starts the watchdog. -/
def execWdgEnable (who : Initiator) (value : Word) (s : State) : Host.Outcome State Fault Refusal :=
  .next (busPut who A.SUP_WDG_CTRL value s)

/-- R838: The watchdog count reaches its period without a service, making a ladder event. -/
def execWdgExpiry (s : State) : Host.Outcome State Fault Refusal :=
  .next (doWdgExpiry s)

/-- R892: The restarted firmware runs again and logs held events, sends held EVENTs and processes queued requests. -/
def execCoreRestartComplete (s : State) : Host.Outcome State Fault Refusal :=
  .next (doCoreRestartComplete s)

/-- R892: After a level-2 restart, recovery re-applies the retained image and acquires the raster before lanes, sets and
streams. -/
def execDieRestartComplete (slow : Nat) (calOk tenOk imgOk : Bool) (s : State) : Host.Outcome State Fault Refusal :=
  .next (doDieRestartComplete slow calOk tenOk imgOk s)

/-- R856: A deferred die reset reaches 2.5 s and resets with the operation running. -/
def execDeferTimeout (s : State) : Host.Outcome State Fault Refusal :=
  .next (doDeferTimeout s)

/-- R846: A clock-monitor window ends, and its count is checked, tripping to the slow-clock fallback. -/
def execClockMonitorWindow (count : Nat) (s : State) : Host.Outcome State Fault Refusal :=
  .next (doClockMonitorWindow count s)

/-- R858: No packet leaves a ready port for 1 ms, so the link scheduler is declared stuck and reset. -/
def execLinkSchedulerStuck (port : Fin 5) (s : State) : Host.Outcome State Fault Refusal :=
  .next (doLinkSchedulerStuck port s)

/-- R878: A write of a SEQ to FLT_ACK acknowledges one CRITICAL entry. -/
def execFltAckWrite (who : Initiator) (value : Word) (s : State) : Host.Outcome State Fault Refusal :=
  .next (busPut who A.FLT_ACK value s)

/-- R878: ACK_ALL acknowledges every CRITICAL entry. -/
def execFltAckAll (who : Initiator) (s : State) : Host.Outcome State Fault Refusal :=
  .next (busPut who A.FLT_CTRL 4 s)

/-- R880: Pending entries are appended to the long log in 512-byte blocks within 1 s. -/
def execLongLogAppend (s : State) : Host.Outcome State Fault Refusal :=
  .next (doLongLogAppend s)

/-- R882: A level-0 handling window closes 1 s after its last error. -/
def execHandlingWindowClose (s : State) : Host.Outcome State Fault Refusal :=
  .next (doHandlingWindowClose s)

/-- R888: A resource lease expires, and supervision revokes it, resetting the resource. -/
def execLeaseExpired (r : Fin 8) (s : State) : Host.Outcome State Fault Refusal :=
  .next (doLeaseExpired r s)

/-- R960: A narrow, unaligned or undefined bus access changes nothing, reads 0 and is counted. -/
def execBusInvalidAccess (write : Bool) (s : State) : Host.Outcome State Fault Refusal :=
  .next (doBusInvalidAccess write s)

/-- R15: A CNT_CLR bit of a block clears that block's counters. -/
def execCounterClearWrite (b : Fin 19) (s : State) : Host.Outcome State Fault Refusal :=
  .next (doCounterClear b s)

/-- R971: A block's LOCK bit is set, locking its RWL fields until the next die reset. -/
def execLockBitSet (b : Fin 18) (s : State) : Host.Outcome State Fault Refusal :=
  .next (doLockBitSet b s)

/-- R19: A read of an RC field returns its value and clears it. -/
def execRegisterReadClear (who : Initiator) (addr : Nat) (s : State) : Host.Outcome State Fault Refusal :=
  .next (doBusRead who addr s)

/-- R94: A read of a low register of a wide value fills the shadows of its high halves. -/
def execLatchedLowRead (who : Initiator) (addr : Nat) (s : State) : Host.Outcome State Fault Refusal :=
  .next (doBusRead who addr s)

/-- R15: A write to a register without a row of its own acts by its fields' access types and range rules. -/
def execRegisterWrite (who : Initiator) (addr : Nat) (value : Word) (s : State) : Host.Outcome State Fault Refusal :=
  .next (busPut who addr value s)

/-- R79: The external 10 MHz reference returns to the 10 MHz input, and the system PLL coasting with FAILOVER_EN = 0 takes it
up again. -/
def execExt10mhzReturn (s : State) : Host.Outcome State Fault Refusal :=
  .next (doExt10mhzReturn s)

/-- R57: One second after a band failure with no other source qualified, the raster PLL retries acquisition on the same source
from QUAL. -/
def execBandFailRetry (s : State) : Host.Outcome State Fault Refusal :=
  .next (doBandFailRetry s)

/-- R977: While in QUAL, every source ranked above FREE has stayed unqualified for COAST_MAX, so FREE counts as qualified and
is chosen with COAST. -/
def execQualCoastMaxExpired (s : State) : Host.Outcome State Fault Refusal :=
  .next (doQualCoastMaxExpired s)

/-- R128: The JTAG debugger releases the halted management core, so FREEZE_ON_HALT units count again and their TB channels
resume matching past whole periods. -/
def execDebugHaltEnd (s : State) : Host.Outcome State Fault Refusal :=
  .next (doDebugHaltEnd s)

/-- R806: The mains input leaves 85 V to 265 V or 47 Hz to 63 Hz, and event 0x0F08 is logged once per minute. -/
def execMainsOutOfRange (v f : BitVec 16) (s : State) : Host.Outcome State Fault Refusal :=
  .next (doMainsOutOfRange v f s)

/-- R100: The TOD nanoseconds pass 999,999,999, wrap to 0 and the seconds increase by 1, unless a commit in the same tick
wins. -/
def execTodSecondRollover (s : State) : Host.Outcome State Fault Refusal :=
  .next (doTodSecondRollover s)

/-- R819: An energy-check request dropped at a busy tracker slice is repeated after 1 µs. -/
def execEnergyRequestRepeat (s : State) : Host.Outcome State Fault Refusal :=
  .next (doEnergyRequestRepeat s)

end Sys2Proof.Machine
end

