-- ==== Sys2Proof/Machine/Dispatch.lean ====
section
/-! DEFINITION. The dispatch: one arm for each command. -/

namespace Sys2Proof.Machine

/-- The effect of a command on everything but the queue. -/
def exec (i : Instr) (s : State) : Host.Outcome State Fault Refusal :=
  match i with
  | .mainsApplied => Sys2Proof.Machine.execMainsApplied s
  | .systemPllLock slow => Sys2Proof.Machine.execSystemPllLock slow s
  | .firmwareReady okA okB => Sys2Proof.Machine.execFirmwareReady okA okB s
  | .keyInserted params mem => Sys2Proof.Machine.execKeyInserted params mem s
  | .keyRemoved => Sys2Proof.Machine.execKeyRemoved s
  | .imageReadComplete sigOk readErr => Sys2Proof.Machine.execImageReadComplete sigOk readErr s
  | .sourceLineEvent src t err pos neg line => Sys2Proof.Machine.execSourceLineEvent src t err pos neg line s
  | .lineEventMissing src => Sys2Proof.Machine.execLineEventMissing src s
  | .sourceVerticalEvent src parity diff => Sys2Proof.Machine.execSourceVerticalEvent src parity diff s
  | .revertFreeze => Sys2Proof.Machine.execRevertFreeze s
  | .flywheelFrameEnd src => Sys2Proof.Machine.execFlywheelFrameEnd src s
  | .coastMaxExpired => Sys2Proof.Machine.execCoastMaxExpired s
  | .bandSearchDone band => Sys2Proof.Machine.execBandSearchDone band s
  | .lockDeclared => Sys2Proof.Machine.execLockDeclared s
  | .rasterLineBoundary => Sys2Proof.Machine.execRasterLineBoundary s
  | .rasterFrameBoundary stalled => Sys2Proof.Machine.execRasterFrameBoundary stalled s
  | .sysRefLost => Sys2Proof.Machine.execSysRefLost s
  | .sysLockLost err => Sys2Proof.Machine.execSysLockLost err s
  | .pllEnable who value => Sys2Proof.Machine.execPllEnable who value s
  | .pllDisable who value => Sys2Proof.Machine.execPllDisable who value s
  | .pllConfigWrite who reg value => Sys2Proof.Machine.execPllConfigWrite who reg value s
  | .pllRestartGo who value => Sys2Proof.Machine.execPllRestartGo who value s
  | .todSetNsWrite who value => Sys2Proof.Machine.execTodSetNsWrite who value s
  | .todAdjWrite who value => Sys2Proof.Machine.execTodAdjWrite who value s
  | .todServoEnable who value => Sys2Proof.Machine.execTodServoEnable who value s
  | .todServoDisable who value => Sys2Proof.Machine.execTodServoDisable who value s
  | .ptpMessageReceived port clock msg => Sys2Proof.Machine.execPtpMessageReceived port clock msg s
  | .ptpDelayReqTimer => Sys2Proof.Machine.execPtpDelayReqTimer s
  | .todTimeout => Sys2Proof.Machine.execTodTimeout s
  | .timerSourceEvent u linked => Sys2Proof.Machine.execTimerSourceEvent u linked s
  | .compareMatch k => Sys2Proof.Machine.execCompareMatch k s
  | .compareEnable who k value => Sys2Proof.Machine.execCompareEnable who k value s
  | .debugHalt => Sys2Proof.Machine.execDebugHalt s
  | .periodicMsTick => Sys2Proof.Machine.execPeriodicMsTick s
  | .tileRailSettled t => Sys2Proof.Machine.execTileRailSettled t s
  | .tileFlushDone t => Sys2Proof.Machine.execTileFlushDone t s
  | .tileOvercurrent t current => Sys2Proof.Machine.execTileOvercurrent t current s
  | .tileForceOff who t value => Sys2Proof.Machine.execTileForceOff who t value s
  | .tileFaultClr who t value => Sys2Proof.Machine.execTileFaultClr who t value s
  | .coolerSample hot sensor power plateOk => Sys2Proof.Machine.execCoolerSample hot sensor power plateOk s
  | .coolerSaturated => Sys2Proof.Machine.execCoolerSaturated s
  | .coolerFaultClr who value => Sys2Proof.Machine.execCoolerFaultClr who value s
  | .setpointWrite who value => Sys2Proof.Machine.execSetpointWrite who value s
  | .subbankRailSettled d => Sys2Proof.Machine.execSubbankRailSettled d s
  | .subbankTrimDone d => Sys2Proof.Machine.execSubbankTrimDone d s
  | .subbankOvercurrent d current => Sys2Proof.Machine.execSubbankOvercurrent d current s
  | .subbankForceOff who d value => Sys2Proof.Machine.execSubbankForceOff who d value s
  | .subbankFaultClr who d value => Sys2Proof.Machine.execSubbankFaultClr who d value s
  | .rowPacketReceived p => Sys2Proof.Machine.execRowPacketReceived p s
  | .laneRetrain l => Sys2Proof.Machine.execLaneRetrain l s
  | .laneRetrainDone l ok => Sys2Proof.Machine.execLaneRetrainDone l ok s
  | .geoDescriptorWrite who n reg value => Sys2Proof.Machine.execGeoDescriptorWrite who n reg value s
  | .absInstanceDue m => Sys2Proof.Machine.execAbsInstanceDue m s
  | .resetTargetReached m exp key rg => Sys2Proof.Machine.execResetTargetReached m exp key rg s
  | .rowGroupResetStart lane exp key rg => Sys2Proof.Machine.execRowGroupResetStart lane exp key rg s
  | .rowGroupReadStart lane exp key rg => Sys2Proof.Machine.execRowGroupReadStart lane exp key rg s
  | .rowGroupReadComplete lane exp key rg stuck => Sys2Proof.Machine.execRowGroupReadComplete lane exp key rg stuck s
  | .laneFrameClose m => Sys2Proof.Machine.execLaneFrameClose m s
  | .handoffComplete set => Sys2Proof.Machine.execHandoffComplete set s
  | .sliceStuck slice pipe => Sys2Proof.Machine.execSliceStuck slice pipe s
  | .memoryWindowWrite who addr value => Sys2Proof.Machine.execMemoryWindowWrite who addr value s
  | .calRequest => Sys2Proof.Machine.execCalRequest s
  | .calForce => Sys2Proof.Machine.execCalForce s
  | .calCancel => Sys2Proof.Machine.execCalCancel s
  | .calTempMean => Sys2Proof.Machine.execCalTempMean s
  | .calAgeExpired => Sys2Proof.Machine.execCalAgeExpired s
  | .calStaleEnter => Sys2Proof.Machine.execCalStaleEnter s
  | .calDarkBegin => Sys2Proof.Machine.execCalDarkBegin s
  | .calRunComplete => Sys2Proof.Machine.execCalRunComplete s
  | .emmcCommandComplete ok => Sys2Proof.Machine.execEmmcCommandComplete ok s
  | .calLoadComplete okA okB => Sys2Proof.Machine.execCalLoadComplete okA okB s
  | .filterPosWrite who value => Sys2Proof.Machine.execFilterPosWrite who value s
  | .sliderInPosition => Sys2Proof.Machine.execSliderInPosition s
  | .sliderSettled => Sys2Proof.Machine.execSliderSettled s
  | .filterFault => Sys2Proof.Machine.execFilterFault s
  | .shutWrite who value => Sys2Proof.Machine.execShutWrite who value s
  | .shutterReported => Sys2Proof.Machine.execShutterReported s
  | .shutterFault => Sys2Proof.Machine.execShutterFault s
  | .ctgRemoved => Sys2Proof.Machine.execCtgRemoved s
  | .ctgInserted => Sys2Proof.Machine.execCtgInserted s
  | .ctgReadComplete mem => Sys2Proof.Machine.execCtgReadComplete mem s
  | .ctgAuthReply certOk sigOk => Sys2Proof.Machine.execCtgAuthReply certOk sigOk s
  | .ctgAuthTimeout => Sys2Proof.Machine.execCtgAuthTimeout s
  | .ctgHomingTimeout => Sys2Proof.Machine.execCtgHomingTimeout s
  | .ctgRetry who value => Sys2Proof.Machine.execCtgRetry who value s
  | .ctgCheckpointDue => Sys2Proof.Machine.execCtgCheckpointDue s
  | .ctgCheckpointReply accepted stored => Sys2Proof.Machine.execCtgCheckpointReply accepted stored s
  | .ctgMemDataRead who => Sys2Proof.Machine.execCtgMemDataRead who s
  | .trackerStepComplete p0 p1 p2 p3 taken => Sys2Proof.Machine.execTrackerStepComplete p0 p1 p2 p3 taken s
  | .injectedTrigger t => Sys2Proof.Machine.execInjectedTrigger t s
  | .sliceRotation => Sys2Proof.Machine.execSliceRotation s
  | .sliceCalComplete n offset gain refMv => Sys2Proof.Machine.execSliceCalComplete n offset gain refMv s
  | .refSelWrite who value => Sys2Proof.Machine.execRefSelWrite who value s
  | .refSettlingEnd => Sys2Proof.Machine.execRefSettlingEnd s
  | .regStarved => Sys2Proof.Machine.execRegStarved s
  | .accTimeWindowClose a => Sys2Proof.Machine.execAccTimeWindowClose a s
  | .trackFlushTimeout sid => Sys2Proof.Machine.execTrackFlushTimeout sid s
  | .instrNop e t => Sys2Proof.Machine.execInstrNop e t s
  | .instrJmp e t => Sys2Proof.Machine.execInstrJmp e t s
  | .instrWait e t => Sys2Proof.Machine.execInstrWait e t s
  | .waitProceed e t => Sys2Proof.Machine.execWaitProceed e t s
  | .instrIn e t => Sys2Proof.Machine.execInstrIn e t s
  | .instrOut e t => Sys2Proof.Machine.execInstrOut e t s
  | .instrPush e t => Sys2Proof.Machine.execInstrPush e t s
  | .pushResume e t => Sys2Proof.Machine.execPushResume e t s
  | .instrPull e t => Sys2Proof.Machine.execInstrPull e t s
  | .pullResume e t => Sys2Proof.Machine.execPullResume e t s
  | .instrMov e t => Sys2Proof.Machine.execInstrMov e t s
  | .instrSet e t => Sys2Proof.Machine.execInstrSet e t s
  | .flagSet e t => Sys2Proof.Machine.execFlagSet e t s
  | .flagClear e t => Sys2Proof.Machine.execFlagClear e t s
  | .flagToggle e t => Sys2Proof.Machine.execFlagToggle e t s
  | .irqSet e t => Sys2Proof.Machine.execIrqSet e t s
  | .irqSetEvent e t => Sys2Proof.Machine.execIrqSetEvent e t s
  | .irqTrackerRequest e t => Sys2Proof.Machine.execIrqTrackerRequest e t s
  | .irqClear e t => Sys2Proof.Machine.execIrqClear e t s
  | .engInjWrite who e value => Sys2Proof.Machine.execEngInjWrite who e value s
  | .injectionExecute e => Sys2Proof.Machine.execInjectionExecute e s
  | .stall e => Sys2Proof.Machine.execStall e s
  | .tgeThrTxfWrite who e t value => Sys2Proof.Machine.execTgeThrTxfWrite who e t value s
  | .tgeThrRxfRead who e t => Sys2Proof.Machine.execTgeThrRxfRead who e t s
  | .tgeFlagSetWrite who w value => Sys2Proof.Machine.execTgeFlagSetWrite who w value s
  | .tgeFlagClrWrite who w value => Sys2Proof.Machine.execTgeFlagClrWrite who w value s
  | .trgInputChange pin level => Sys2Proof.Machine.execTrgInputChange pin level s
  | .trgWakeEdge n => Sys2Proof.Machine.execTrgWakeEdge n s
  | .imageWriteOpen n target total => Sys2Proof.Machine.execImageWriteOpen n target total s
  | .imageWriteData n target offset data => Sys2Proof.Machine.execImageWriteData n target offset data s
  | .imageWriteClose n target sigOk => Sys2Proof.Machine.execImageWriteClose n target sigOk s
  | .imageWriteAbort n target => Sys2Proof.Machine.execImageWriteAbort n target s
  | .flashOperationComplete c devOk held => Sys2Proof.Machine.execFlashOperationComplete c devOk held s
  | .energyCheckRetry => Sys2Proof.Machine.execEnergyCheckRetry s
  | .energyCheckTimeout => Sys2Proof.Machine.execEnergyCheckTimeout s
  | .changeStop n splitOk f fns => Sys2Proof.Machine.execChangeStop n splitOk f fns s
  | .changeStage n items => Sys2Proof.Machine.execChangeStage n items s
  | .changeRestart n discard f => Sys2Proof.Machine.execChangeRestart n discard f s
  | .changeCopyComplete => Sys2Proof.Machine.execChangeCopyComplete s
  | .changeLeaseExpired => Sys2Proof.Machine.execChangeLeaseExpired s
  | .linkTransmit port => Sys2Proof.Machine.execLinkTransmit port s
  | .crSlotDue sid => Sys2Proof.Machine.execCrSlotDue sid s
  | .portUp port => Sys2Proof.Machine.execPortUp port s
  | .portDown port => Sys2Proof.Machine.execPortDown port s
  | .ethFrameReceived port frame => Sys2Proof.Machine.execEthFrameReceived port frame s
  | .resolveRetry sid => Sys2Proof.Machine.execResolveRetry sid s
  | .qsfpModuleChange present mediaOk powerOk => Sys2Proof.Machine.execQsfpModuleChange present mediaOk powerOk s
  | .retransmit tenant n sid count first => Sys2Proof.Machine.execRetransmit tenant n sid count first s
  | .tenCommit who value => Sys2Proof.Machine.execTenCommit who value s
  | .tenKeyInstall who => Sys2Proof.Machine.execTenKeyInstall who s
  | .tenKeyErase who => Sys2Proof.Machine.execTenKeyErase who s
  | .tenantReq t auth req op => Sys2Proof.Machine.execTenantReq t auth req op s
  | .tenantRequestDequeue => Sys2Proof.Machine.execTenantRequestDequeue s
  | .subscribe t rawSub rawSet sets => Sys2Proof.Machine.execSubscribe t rawSub rawSet sets s
  | .tenantWindowSet t twin set x0 x1 y0 y1 => Sys2Proof.Machine.execTenantWindowSet t twin set x0 x1 y0 y1 s
  | .tenantWindowRemove t twin => Sys2Proof.Machine.execTenantWindowRemove t twin s
  | .init port ipv6 framed key sigOk hostNonce mtu flags minSev serial => Sys2Proof.Machine.execInit port ipv6 framed key sigOk hostNonce mtu flags minSev serial s
  | .stewardReq n port framed tagOk req op => Sys2Proof.Machine.execStewardReq n port framed tagOk req op s
  | .read n addr count => Sys2Proof.Machine.execRead n addr count s
  | .write n addr value => Sys2Proof.Machine.execWrite n addr value s
  | .rmw n addr mask value => Sys2Proof.Machine.execRmw n addr mask value s
  | .bulkRead n fixed addr count => Sys2Proof.Machine.execBulkRead n fixed addr count s
  | .bulkWrite n fixed addr values => Sys2Proof.Machine.execBulkWrite n fixed addr values s
  | .headCmdSleep n => Sys2Proof.Machine.execHeadCmdSleep n s
  | .sleepEntryComplete => Sys2Proof.Machine.execSleepEntryComplete s
  | .headCmdRelease n => Sys2Proof.Machine.execHeadCmdRelease n s
  | .nop n => Sys2Proof.Machine.execNop n s
  | .close n => Sys2Proof.Machine.execClose n s
  | .sessionTimeout n => Sys2Proof.Machine.execSessionTimeout n s
  | .eventFlush n => Sys2Proof.Machine.execEventFlush n s
  | .wake serial => Sys2Proof.Machine.execWake serial s
  | .compareWake k slow => Sys2Proof.Machine.execCompareWake k slow s
  | .sleepWatchdogWake => Sys2Proof.Machine.execSleepWatchdogWake s
  | .helloTimer => Sys2Proof.Machine.execHelloTimer s
  | .delayReqTimer => Sys2Proof.Machine.execDelayReqTimer s
  | .timeCellTimer => Sys2Proof.Machine.execTimeCellTimer s
  | .hello c serial flags state rootId rootHops bseq => Sys2Proof.Machine.execHello c serial flags state rootId rootHops bseq s
  | .delayReq port crcOk t1 t2 t3 => Sys2Proof.Machine.execDelayReq port crcOk t1 t2 t3 s
  | .delayResp port crcOk t1 t2 t3 t4 => Sys2Proof.Machine.execDelayResp port crcOk t1 t2 t3 t4 s
  | .rasterCell c f l flags lastTl src err ofs => Sys2Proof.Machine.execRasterCell c f l flags lastTl src err ofs s
  | .time c sec ns todState => Sys2Proof.Machine.execTime c sec ns todState s
  | .barrier c bseq cmd flags f part nPart fns => Sys2Proof.Machine.execBarrier c bseq cmd flags f part nPart fns s
  | .state c f bseq minor heads digest => Sys2Proof.Machine.execState c f bseq minor heads digest s
  | .report c bseq result reason state flags ofs => Sys2Proof.Machine.execReport c bseq result reason state flags ofs s
  | .mosaicPortLinkChange port up => Sys2Proof.Machine.execMosaicPortLinkChange port up s
  | .viewHeadTimeout => Sys2Proof.Machine.execViewHeadTimeout s
  | .viewSettled => Sys2Proof.Machine.execViewSettled s
  | .barrierReqArm who value => Sys2Proof.Machine.execBarrierReqArm who value s
  | .barrierReqStop who value => Sys2Proof.Machine.execBarrierReqStop who value s
  | .barrierReqStart who value => Sys2Proof.Machine.execBarrierReqStart who value s
  | .armTimeout => Sys2Proof.Machine.execArmTimeout s
  | .fuseProgramWord via word value => Sys2Proof.Machine.execFuseProgramWord via word value s
  | .fuseWordComplete readA readB => Sys2Proof.Machine.execFuseWordComplete readA readB s
  | .fuseAdvance via word value => Sys2Proof.Machine.execFuseAdvance via word value s
  | .fuseJtagUnlock via word value => Sys2Proof.Machine.execFuseJtagUnlock via word value s
  | .domainReady d => Sys2Proof.Machine.execDomainReady d s
  | .domainOvercurrent d => Sys2Proof.Machine.execDomainOvercurrent d s
  | .pwrDomFclrWrite who w value => Sys2Proof.Machine.execPwrDomFclrWrite who w value s
  | .pfWarning cause bulk => Sys2Proof.Machine.execPfWarning cause bulk s
  | .linkHoldExpired => Sys2Proof.Machine.execLinkHoldExpired s
  | .parked => Sys2Proof.Machine.execParked s
  | .emergOverrun => Sys2Proof.Machine.execEmergOverrun s
  | .alwaysOnPowerLoss => Sys2Proof.Machine.execAlwaysOnPowerLoss s
  | .parkRestart ms => Sys2Proof.Machine.execParkRestart ms s
  | .wdgService who value => Sys2Proof.Machine.execWdgService who value s
  | .wdgEnable who value => Sys2Proof.Machine.execWdgEnable who value s
  | .wdgExpiry => Sys2Proof.Machine.execWdgExpiry s
  | .coreRestartComplete => Sys2Proof.Machine.execCoreRestartComplete s
  | .dieRestartComplete slow calOk tenOk imgOk => Sys2Proof.Machine.execDieRestartComplete slow calOk tenOk imgOk s
  | .deferTimeout => Sys2Proof.Machine.execDeferTimeout s
  | .clockMonitorWindow count => Sys2Proof.Machine.execClockMonitorWindow count s
  | .linkSchedulerStuck port => Sys2Proof.Machine.execLinkSchedulerStuck port s
  | .fltAckWrite who value => Sys2Proof.Machine.execFltAckWrite who value s
  | .fltAckAll who => Sys2Proof.Machine.execFltAckAll who s
  | .longLogAppend => Sys2Proof.Machine.execLongLogAppend s
  | .handlingWindowClose => Sys2Proof.Machine.execHandlingWindowClose s
  | .leaseExpired r => Sys2Proof.Machine.execLeaseExpired r s
  | .busInvalidAccess write => Sys2Proof.Machine.execBusInvalidAccess write s
  | .counterClearWrite b => Sys2Proof.Machine.execCounterClearWrite b s
  | .lockBitSet b => Sys2Proof.Machine.execLockBitSet b s
  | .registerReadClear who addr => Sys2Proof.Machine.execRegisterReadClear who addr s
  | .latchedLowRead who addr => Sys2Proof.Machine.execLatchedLowRead who addr s
  | .registerWrite who addr value => Sys2Proof.Machine.execRegisterWrite who addr value s
  | .ext10mhzReturn => Sys2Proof.Machine.execExt10mhzReturn s
  | .bandFailRetry => Sys2Proof.Machine.execBandFailRetry s
  | .qualCoastMaxExpired => Sys2Proof.Machine.execQualCoastMaxExpired s
  | .debugHaltEnd => Sys2Proof.Machine.execDebugHaltEnd s
  | .mainsOutOfRange v f => Sys2Proof.Machine.execMainsOutOfRange v f s
  | .todSecondRollover => Sys2Proof.Machine.execTodSecondRollover s
  | .energyRequestRepeat => Sys2Proof.Machine.execEnergyRequestRepeat s

end Sys2Proof.Machine
end

