-- ==== Sys2Proof/Safety.lean ====
section
/-! DEFINITION. What holds of every state that a run reaches, in the terms that the claims use: the bounds that the spec gives the
log, the sessions' queues and the trigger FIFOs, and the canonical form of the memory windows. -/

namespace Sys2Proof.Machine

/-- R876: the fault log is a ring of 256 entries, and so is its mirror. -/
def Flt.bounded (f : Flt) : Prop := f.ring.length ≤ 256 ∧ ∀ m, f.mirror = some m → m.1.length ≤ 256

/-- R725: a session's queue holds up to 1,024 entries. -/
def Session.bounded (x : Session) : Prop := x.evq.length ≤ 1024

/-- R725, for every session. -/
def Lcp.bounded (l : Lcp) : Prop := ∀ x ∈ l.sessions, x.bounded

/-- R518: a thread's FIFOs hold 4 words each. -/
def Thread.bounded (x : Thread) : Prop := x.txf.length ≤ 4 ∧ x.rxf.length ≤ 4

/-- R518, for the threads of an engine. -/
def Engine.bounded (x : Engine) : Prop := ∀ t ∈ x.threads, t.bounded

/-- R518, for every engine. -/
def Tge.bounded (x : Tge) : Prop := ∀ e ∈ x.engines, e.bounded

/-- The invariant of the head: the memory windows are in canonical form, and the log, the queues and the FIFOs stay within
their sizes. -/
structure State.Inv (s : State) : Prop where
  mem : Memory.wf s.mem = true
  flt : s.flt.bounded
  lcp : s.lcp.bounded
  tge : s.tge.bounded

end Sys2Proof.Machine
end

