-- ==== Sys2Proof/WellFormed.lean ====
section
/-! DEFINITION. Which commands are well formed: the operand ranges of the spec that the types of the operands do not hold. A command
that is not well formed is one that nobody can send; `exec` answers it all the same. -/

namespace Sys2Proof

/-- R15, R17: an initiator that reaches the registers: a steward session 0 to 3, the management core, or JTAG. -/
def Initiator.onBus : Initiator → Bool
  | .lcp n => decide (n < 4)
  | .core | .jtag => true
  | .tenant _ => false

/-- R959: a word address of a memory window. -/
def inWindow (a : Nat) : Bool :=
  a % 4 == 0 && ((decide (0x10000000 ≤ a) && decide (a < 0x10100000)) || (decide (0x20000000 ≤ a) && decide (a < 0x20100000)) ||
    (decide (0x30000000 ≤ a) && decide (a < 0x30008000)) || (decide (0x30010000 ≤ a) && decide (a < 0x30018000)) ||
    (decide (0x38000000 ≤ a) && decide (a < 0x38002000)))

/-- R959: a word address of a register block. -/
def inBlocks (a : Nat) : Bool := a % 4 == 0 && decide (a < 0x130000)

/-- R629, R650: the ID of a steward or of a tenant stream. -/
def isStream (sid : Nat) : Bool := decide (sid < 32) || (decide (0x1000 ≤ sid) && decide (sid < 0x2000))

/-- R254, R420: an exposure of a program, and a row group, the black ones included. -/
def isGroup (exp rg : Nat) : Bool := decide (exp < 8) && decide (rg < 1544)

/-- R228: the samples of a row packet: at most 1,024 of a sub-bank, and 48 black ones on either side. -/
def RowPacket.wellFormed (p : RowPacket) : Bool :=
  (p.subs.all fun x => decide (x.sb < 20) && decide (x.h.length ≤ 1024) && decide (x.l.length ≤ 1024)) &&
    [p.leftH, p.leftL, p.rightH, p.rightL].all fun l => decide (l.length ≤ 48)

/-- R736: the fields of a cell's head that the widths of the cell bound. -/
def CellHead.wellFormed (c : CellHead) : Bool :=
  decide (c.major < 256) && decide (c.minor < 256) && decide (c.origin < 65536) && decide (c.hops < 65536)

/-- The blocks whose control register has a LOCK bit (R970). -/
def hasLock (b : Nat) : Bool := [1, 3, 4, 11, 13, 15, 16].contains b

/-- The blocks whose control register has a CNT_CLR bit (R19, R286). -/
def hasCounters (b : Nat) : Bool := !([2, 3, 8].contains b)

/-- The operands of a command lie in the ranges of the spec. -/
def Instr.wellFormed : Instr → Bool
  | .keyInserted _ mem => mem.all fun c => decide (c.1 < 2 ^ 32)
  | .ctgReadComplete mem => mem.all fun c => decide (c.1 < 65536)
  | .ctgCheckpointReply _ stored => stored.length == 7
  | .sourceLineEvent _ _ err .. => decide (-32768 ≤ err) && decide (err ≤ 32767)
  | .pllEnable who v => who.onBus && v.getLsbD 0
  | .pllDisable who v => who.onBus && !v.getLsbD 0
  | .pllRestartGo who v => who.onBus && v.getLsbD 0
  | .todServoEnable who v => who.onBus && v.getLsbD 31
  | .todServoDisable who v => who.onBus && !v.getLsbD 31
  | .compareEnable who _ v => who.onBus && v.getLsbD 31
  | .tileForceOff who _ v | .subbankForceOff who _ v => who.onBus && v.getLsbD 0
  | .tileFaultClr who _ v | .subbankFaultClr who _ v => who.onBus && v.getLsbD 1
  | .coolerFaultClr who v => who.onBus && v.getLsbD 30
  | .ctgRetry who v => who.onBus && v.getLsbD 3
  | .tenCommit who v => who.onBus && v.getLsbD 31
  | .wdgEnable who v => who.onBus && v.getLsbD 31
  | .barrierReqArm who v => who.onBus && v.extractLsb' 30 2 == 1
  | .barrierReqStop who v => who.onBus && v.extractLsb' 30 2 == 2
  | .barrierReqStart who v => who.onBus && v.extractLsb' 30 2 == 3
  | .pllConfigWrite who .. | .todSetNsWrite who _ | .todAdjWrite who _ | .setpointWrite who _ | .geoDescriptorWrite who ..
  | .filterPosWrite who _ | .shutWrite who _ | .refSelWrite who _ | .engInjWrite who .. | .tgeThrTxfWrite who .. | .tgeThrRxfRead who ..
  | .tgeFlagSetWrite who .. | .tgeFlagClrWrite who .. | .tenKeyInstall who | .tenKeyErase who | .pwrDomFclrWrite who .. | .wdgService who _
  | .fltAckWrite who _ | .fltAckAll who | .ctgMemDataRead who => who.onBus
  | .memoryWindowWrite who a _ => who.onBus && inWindow a
  | .registerWrite who a _ | .registerReadClear who a | .latchedLowRead who a => who.onBus && (inBlocks a || inWindow a)
  | .lockBitSet b => hasLock b
  | .counterClearWrite b => hasCounters b
  | .trackFlushTimeout sid | .crSlotDue sid | .resolveRetry sid => isStream sid
  | .rowPacketReceived p => p.wellFormed
  | .resetTargetReached _ exp _ rg => isGroup exp rg && decide (rg < 1536)
  | .rowGroupResetStart _ exp _ rg | .rowGroupReadStart _ exp _ rg | .rowGroupReadComplete _ exp _ rg _ => isGroup exp rg
  | .domainReady d | .domainOvercurrent d => decide (280 ≤ d.val)
  | .init _ _ _ key _ _ _ _ minSev _ => key.length == 64 && decide (minSev < 256)
  | .tenantReq t .. => decide (t < 65536)
  | .hello c .. | .rasterCell c .. | .time c .. | .barrier c .. | .report c .. => c.wellFormed
  | .state c _ _ _ _ digest => c.wellFormed && digest.length == 32
  | .fuseProgramWord _ w _ => decide (w < 128)
  | _ => true

end Sys2Proof
end

