-- ==== Sys2Proof/Certificates/Slice0/Obligations.lean ====
section
/-! DEFINITION. The statements about the model. Every command answers a next state (the spec stops the head at none); a statement
says which one, by the operations that the rules name, or by what the rules say the state then holds. -/

open Sys2Proof Sys2Proof.Machine

/-- A step takes the command at the front of the queue and is exec of it on the state with the queue's rest; on an empty queue one tick
of the head passes (log entry 3: the queue, and what an empty queue does, are the model's form). -/
def Obligations.StepRunsTheFrontCommand : Prop :=
  (∀ (c : Instr) (rest : List Instr) (s : State), s.pending = c :: rest → step s = exec c { s with pending := rest }) ∧
  (∀ (c : Instr) (s : State), step { s with pending := c :: s.pending } = exec c s) ∧
  (∀ s : State, s.pending = [] → step s = .next (tick (settle s)))

/-- R7: the spec stops the head at no command: every command, with every operand and in every state, answers a next state (an event that
cannot happen leaves the state, log entry 6), and no command touches the queue of the commands behind it. -/
def Obligations.EveryCommandCompletes : Prop :=
  ∀ (c : Instr) (s : State), ∃ t, exec c s = .next t ∧ t.pending = s.pending

/-- R5, R6, R15, R92: before mains is applied the head is OFF, no command waits, TB and TOD stand at 0, no register differs from its
reset value in the register map, the log and the memory windows list nothing, and no converter, tile or sub-bank is on. Fields for which
the spec gives no reset value are at the values of log entry 1. -/
def Obligations.ResetState : Prop :=
  State.reset.head.st = .off ∧ State.reset.pending = [] ∧ State.reset.tmb.tb = 0 ∧ State.reset.tmb.todSec = 0 ∧ State.reset.tmb.todNs = 0 ∧
  State.reset.rru.pll = .off ∧ State.reset.mem = [] ∧ State.reset.flt.ring = [] ∧ State.reset.head.locks = [] ∧
  (∀ a, rawReg State.reset a = resetWord a) ∧ (∀ f : Fld, getF State.reset f = f.get (resetWord f.addr)) ∧ busUp State.reset = false

/-- At reset the memory windows are in canonical form, the fault log holds at most 256 entries, every session's queue at most 1,024 and
every FIFO of a trigger thread at most 4. -/
def Obligations.InvariantAtReset : Prop := State.reset.Inv

/-- R518, R725, R876: from every state in which the memory windows are in canonical form, the fault log and its mirror hold at most 256
entries, every session's queue at most 1,024 and every FIFO of every trigger thread at most 4 words, a step (any command, or a tick)
leads to a state in which all of this holds. -/
def Obligations.EveryStepKeepsTheInvariant : Prop :=
  ∀ s t : State, s.Inv → step s = .next t → t.Inv

/-- R785: no command but the application of mains, and no tick, changes what the users of the fuses sense: the wires are the same after
every restart, in HOLD, through SLEEP and after every programming of a fuse word; a step changes them only with MAINS_APPLIED in front,
and programming a fuse word completes and leaves them too. -/
def Obligations.FuseWiresChangeOnlyAtPowerOn : Prop :=
  (∀ (c : Instr) (s : State), c ≠ .mainsApplied → ∃ t, exec c s = .next t ∧ t.fus.wires = s.fus.wires) ∧
  (∀ s t : State, step s = .next t → s.pending.head? ≠ some .mainsApplied → t.fus.wires = s.fus.wires)

/-- R92: of all commands only those that can start TB from 0, count a tick or make TB up after SLEEP, a level-2 restart or a park change
TB; every other command leaves it, the writes of every register included. -/
def Obligations.CommandsLeaveTheTimebase : Prop :=
  ∀ (c : Instr) (s : State), c ≠ .mainsApplied → (∀ n, c ≠ .systemPllLock n) → c ≠ .todSecondRollover →
    (∀ n a b d, c ≠ .dieRestartComplete n a b d) → c ≠ .deferTimeout → (∀ n, c ≠ .parkRestart n) →
    ∃ t, exec c s = .next t ∧ t.tmb.tb = s.tmb.tb

/-- R971: a LOCK bit that is set stays set through every command but those that reset the processor die (mains, a park restart, the lock
of the system PLL that ends a wake, and the restarts that are due when a tick ends or a deferral does); a level-1 restart, HOLD and a write of any register clear none. -/
def Obligations.LockBitsStayUntilADieReset : Prop :=
  ∀ (c : Instr) (s : State) (b : Nat), c ≠ .mainsApplied → (∀ n, c ≠ .systemPllLock n) → c ≠ .deferTimeout → c ≠ .todSecondRollover → (∀ n, c ≠ .parkRestart n) →
    b ∈ s.head.locks → ∃ t, exec c s = .next t ∧ b ∈ t.head.locks

/-- R10, R35: no command but RASTER_FRAME_BOUNDARY, and those that reset the die or start it (the end of a tick among them), changes the frame number F: no line event,
no failover, no write of a register and no mosaic cell moves it by itself. -/
def Obligations.FrameNumberChangesOnlyAtBoundaries : Prop :=
  ∀ (c : Instr) (s : State), c ≠ .mainsApplied → (∀ n, c ≠ .systemPllLock n) → c ≠ .deferTimeout → c ≠ .todSecondRollover → (∀ n, c ≠ .parkRestart n) →
    (∀ b, c ≠ .rasterFrameBoundary b) → ∃ t, exec c s = .next t ∧ t.rru.f = s.rru.f

/-- R876, R877: an entry takes the next SEQ; in a ring with fewer than 256 entries it is added before the others; in a full ring it
replaces the oldest entry that is not an unacknowledged CRITICAL one; when all 256 are unacknowledged CRITICAL entries it is lost,
consumes its SEQ and is counted. An unacknowledged CRITICAL entry stays in every case. -/
def Obligations.FaultLogTakesAnEntry : Prop :=
  (∀ (e : LogEntry) (s : State), (storeEntry e s).flt.nextSeq = s.flt.nextSeq + 1) ∧
  (∀ (e : LogEntry) (s : State), s.flt.ring.length < 256 →
    (storeEntry e s).flt.ring = { e with seq := s.flt.nextSeq } :: s.flt.ring) ∧
  (∀ (e o : LogEntry) (s : State) (newer older : List LogEntry), s.flt.ring = newer ++ o :: older → 256 ≤ s.flt.ring.length →
    o.unackCritical = false → (∀ x ∈ older, x.unackCritical = true) →
    (storeEntry e s).flt.ring = { e with seq := s.flt.nextSeq } :: (newer ++ older)) ∧
  (∀ (e : LogEntry) (s : State), 256 ≤ s.flt.ring.length → (∀ x ∈ s.flt.ring, x.unackCritical = true) →
    (storeEntry e s).flt.ring = s.flt.ring ∧ (storeEntry e s).flt.lostSince = s.flt.lostSince + 1 ∧
    (storeEntry e s).lcp = s.lcp ∧ getF (storeEntry e s) R.FLT_CNT_LOST = min 65535 (getF s R.FLT_CNT_LOST + 1)) ∧
  (∀ (e x : LogEntry) (s : State), x ∈ s.flt.ring → x.unackCritical = true → x ∈ (storeEntry e s).flt.ring)

/-- R959: the frame of the addressed memories: every byte of every memory window stays as it was through each command but those listed
here, which write a register or a window, take rows of pixels, close a lane's frame, close a calibration group, write an image, serve a
request of a session or a tenant, end a tick, or start the head. -/
def Obligations.CommandsLeaveTheMemoryWindows : Prop :=
  ∀ (c : Instr) (s : State), (match c with
    | .barrierReqArm .. | .barrierReqStart .. | .barrierReqStop .. | .bulkRead .. | .bulkWrite .. | .close .. | .compareEnable ..
    | .coolerFaultClr .. | .counterClearWrite .. | .ctgRetry .. | .deferTimeout | .dieRestartComplete .. | .engInjWrite ..
    | .filterPosWrite .. | .fltAckAll .. | .fltAckWrite .. | .fuseAdvance .. | .fuseJtagUnlock .. | .fuseProgramWord ..
    | .geoDescriptorWrite .. | .headCmdRelease .. | .headCmdSleep .. | .imageReadComplete .. | .imageWriteAbort .. | .imageWriteClose ..
    | .imageWriteData .. | .imageWriteOpen .. | .laneFrameClose .. | .leaseExpired .. | .lockBitSet .. | .mainsApplied
    | .memoryWindowWrite .. | .nop .. | .parkRestart .. | .pfWarning .. | .pllConfigWrite .. | .pllDisable .. | .pllEnable ..
    | .pllRestartGo .. | .pwrDomFclrWrite .. | .rasterFrameBoundary .. | .read .. | .refSelWrite .. | .registerWrite .. | .retransmit ..
    | .rmw .. | .rowGroupReadComplete .. | .rowPacketReceived .. | .setpointWrite .. | .shutWrite .. | .sliceStuck .. | .stewardReq ..
    | .subbankFaultClr .. | .subbankForceOff .. | .subscribe .. | .systemPllLock .. | .tenCommit .. | .tenKeyErase .. | .tenKeyInstall ..
    | .tenantRequestDequeue | .tenantWindowRemove .. | .tenantWindowSet .. | .tgeFlagClrWrite .. | .tgeFlagSetWrite ..
    | .tgeThrTxfWrite .. | .tileFaultClr .. | .tileForceOff .. | .todSecondRollover | .todAdjWrite .. | .todServoDisable .. | .todServoEnable ..
    | .todSetNsWrite .. | .wdgEnable .. | .wdgService .. | .write .. => false
    | _ => true) = true →
  ∃ t, exec c s = .next t ∧ t.mem = s.mem ∧ ∀ a, memWord t a = memWord s a

/-- R61 (and R81, R87: a value out of range changes nothing but the log, and a head state without a raster holds the loop in OFF): a
write of a PLL configuration register with EN = 1 after it restarts acquisition with the offset written; a write that clears EN stops
the PLL in OFF with its outputs; one that sets EN starts qualification from OFF; one with EN = 0 before and after changes the setting
alone; a write of RRU_PLL_CW is ignored. -/
def Obligations.PllRegisterWrites : Prop :=
  (∀ (s : State) (who : Initiator) (v : Word), busOpen s who = true → rruRangeOk s A.RRU_PLL_CTRL v = true →
    flagF s R.RRU_PLL_CTRL_EN = false → s.rru.pll = .off → v.getLsbD 0 = true → s.rru.acqAbandon = false →
    (pllMayRun s = true → exec (.pllEnable who v) s = .next (enterQual (plainWrite A.RRU_PLL_CTRL v s))) ∧
    (pllMayRun s = false → exec (.pllEnable who v) s = .next (plainWrite A.RRU_PLL_CTRL v s))) ∧
  (∀ (s : State) (who : Initiator) (v : Word), busOpen s who = true → rruRangeOk s A.RRU_PLL_CTRL v = true →
    flagF s R.RRU_PLL_CTRL_EN = true → v.getLsbD 0 = false → s.rru.acqAbandon = false →
    exec (.pllDisable who v) s = .next (stopPll (raise 0x0107 [.h 0x100] (plainWrite A.RRU_PLL_CTRL v s))) ∧
    (stopPll (raise 0x0107 [.h 0x100] (plainWrite A.RRU_PLL_CTRL v s))).rru.pll = .off ∧
    (stopPll (raise 0x0107 [.h 0x100] (plainWrite A.RRU_PLL_CTRL v s))).rru.outEn = 0) ∧
  (∀ (s : State) (who : Initiator) (reg : Fin 3) (v : Word), busOpen s who = true → rruRangeOk s (A.RRU_PLL_CTRL + 4 * reg.val) v = true →
    flagF s R.RRU_PLL_CTRL_EN = true → (reg.val = 0 → v.getLsbD 0 = true) → s.rru.pll ≠ .off →
    exec (.pllConfigWrite who reg v) s =
      .next (acqAbandons (acqRestart (0x100 + 4 * reg.val) (plainWrite (A.RRU_PLL_CTRL + 4 * reg.val) v s)))) ∧
  (∀ (s : State) (who : Initiator) (reg : Fin 3) (v : Word), busOpen s who = true → rruRangeOk s (A.RRU_PLL_CTRL + 4 * reg.val) v = true →
    flagF s R.RRU_PLL_CTRL_EN = false → (reg.val = 0 → v.getLsbD 0 = false) → s.rru.acqAbandon = false →
    exec (.pllConfigWrite who reg v) s = .next (plainWrite (A.RRU_PLL_CTRL + 4 * reg.val) v s)) ∧
  (∀ (s : State) (who : Initiator) (reg : Fin 3) (v : Word), busOpen s who = true → rruRangeOk s (A.RRU_PLL_CTRL + 4 * reg.val) v = false →
    s.rru.acqAbandon = false → exec (.pllConfigWrite who reg v) s = .next (raise 0x0111 [.h (0x100 + 4 * reg.val)] s)) ∧
  (∀ (s : State) (who : Initiator) (v : Word), busOpen s who = true → flagF s R.RRU_PLL_CTRL_EN = true → s.rru.pll ≠ .off →
    exec (.pllRestartGo who v) s = .next (acqAbandons (acqRestart 0x110 (plainWrite A.RRU_PLL_RESTART v s)))) ∧
  (∀ (s : State) (who : Initiator) (v : Word), busOpen s who = true → flagF s R.RRU_PLL_CTRL_EN = false → s.rru.acqAbandon = false →
    exec (.pllRestartGo who v) s = .next (plainWrite A.RRU_PLL_RESTART v s)) ∧
  (∀ (s : State) (who : Initiator) (v : Word), busOpen s who = true → s.rru.acqAbandon = false →
    ∃ t, exec (.registerWrite who A.RRU_PLL_CW v) s = .next t ∧ t.rru = s.rru ∧ ∀ a, rawReg t a = rawReg s a)

/-- R56, R57, R58, R69: after the 7 trials of 32 line events a band that covers the target starts pull-in with a control word that the
spec does not fix (log entry 4); no band is a band failure of the source, after which QUAL chooses again; the retry a second later
clears the failures; the lock count of 256 declares lock, logs event 0x0101 and ends ACQUIRING. Nothing else of the head changes. -/
def Obligations.RasterPllAcquisition : Prop :=
  (∀ (s : State) (b : BitVec 7), s.rru.pll = .search → 224 ≤ s.rru.searchLines → bandCovers s b.toNat = true →
    exec (.bandSearchDone (some b)) s = .next { s with
      rru := { s.rru with pll := .pull, bandCur := b, lockCount := 0, cw := (Config.freeValue s.freeCount).extractLsb' 0 24 }
      freeCount := s.freeCount + 1 }) ∧
  (∀ s : State, s.rru.pll = .search → 224 ≤ s.rru.searchLines →
    exec (.bandSearchDone none) s = .next (tryAcquire (bandFail (srcCode s.rru.active) s))) ∧
  (∀ s : State, s.rru.pll = .qual → s.rru.bandFailed ≠ [] → s.rru.failTb + second ≤ s.now →
    exec .bandFailRetry s = .next (tryAcquire { s with rru := { s.rru with bandFailed := [] } })) ∧
  (∀ s : State, s.rru.pll = .pull → 256 ≤ s.rru.lockCount → exec .lockDeclared s = .next (rasterUp (raise 0x0101
    [.h (srcCode s.rru.active), .h s.rru.bandCur.toNat]
    { s with rru := { s.rru with pll := .locked, bigErr := 0, pullAfterCoast := false, alignDue := !s.rru.rpValid } }))) ∧
  (∀ s : State, s.head.st = .acquiring → (rasterUp s).head.st = .running) ∧ (∀ s : State, s.head.st ≠ .acquiring → rasterUp s = s)

/-- R49 to R52, R977: COAST_MAX expired in COAST marks FREE for the next coasted boundary where the list has FREE and no source is
chosen; in QUAL it lets FREE count as qualified; the end of the active frame after a revert was marked freezes the control word and
coasts with the marked source chosen. -/
def Obligations.CoastAndRevert : Prop :=
  (∀ s : State, s.rru.pll = .coast → coastMax s ≠ 0 → s.rru.coastTb + coastMax s ≤ s.now → (effList s).contains 0 = true →
    s.rru.chosen = none → exec .coastMaxExpired s = .next { s with rru := { s.rru with freeDue := true } }) ∧
  (∀ s : State, s.rru.pll = .qual → coastMax s ≠ 0 → s.rru.qualTb + coastMax s ≤ s.now → (effList s).contains 0 = true →
    (effList s).takeWhile (· != 0) ≠ [] → ((effList s).takeWhile (· != 0)).all (fun c => !(rateOk s c && isQualified s c)) = true →
    exec .qualCoastMaxExpired s = .next (tryAcquire { s with rru := { s.rru with freeCounts := true } })) ∧
  (∀ (s : State) (src : Source), s.rru.pll = .locked → s.rru.revertTo = some src → s.rru.boundaryDue = true →
    ∃ t, exec .revertFreeze s = .next t ∧ t.rru.pll = .coast ∧ t.rru.chosen = some src ∧ t.rru.cw = s.rru.cw ∧
      t.rru.coastFrom = s.rru.active ∧ t.rru.coastTb = s.now ∧ t.rru.frameCoast = true ∧ t.rru.f = s.rru.f ∧ t.mem = s.mem ∧ t.regs = s.regs)

/-- R25, R30, R31, R43, R46, R47: the active edge of DIGITAL, a line of MOSAIC or OPTICAL, a scheduled line of PTP_SCHEDULE, a line of
FREE and a pulse of SYNC_IN of the right shape are line events of their monitored source; one of a source that is not active, inside its
acceptance window and at a good spacing, counts towards the 64 good lines; a line event whose window ends without it clears them and
counts as missing; FREE misses none. The monitors of the other sources, the loop and the rest of the head stay. -/
def Obligations.SourceLineEvents : Prop :=
  (∀ (s : State) (t : Nat) (err : Int) (pos neg line : Nat), monitored s 2 = true → activeEdge s (pos != 0) (neg != 0) = true →
    exec (.sourceLineEvent .digital t err pos neg line) s = .next (lineEvent 2 t err line s)) ∧
  (∀ (s : State) (t : Nat) (err : Int) (pos neg line : Nat), monitored s 5 = true →
    exec (.sourceLineEvent .mosaic t err pos neg line) s = .next (lineEvent 5 t err line s)) ∧
  (∀ (s : State) (t : Nat) (err : Int) (pos neg line : Nat), monitored s 4 = true → crossCheck s = false →
    exec (.sourceLineEvent .optical t err pos neg line) s = .next (lineEvent 4 t err line s)) ∧
  (∀ (s : State) (t u : Nat) (err k : Int) (pos neg line : Nat), monitored s 3 = true → scheduleLine s = some (k, u) →
    s.tmb.todState = .locked → exec (.sourceLineEvent .ptpSchedule t err pos neg line) s = .next (lineEvent 3 u err line s)) ∧
  (∀ (s : State) (t u : Nat) (err : Int) (pos neg line : Nat), monitored s 0 = true → freeLine s t = some u →
    exec (.sourceLineEvent .free t err pos neg line) s = .next (lineEvent 0 u err line s)) ∧
  (∀ (s : State) (t : Nat) (err : Int) (pos neg line : Nat), monitored s 1 = true → amplitudeOk s pos neg = true →
    exec (.sourceLineEvent .syncIn t err pos neg line) s =
      .next (lineEvent 1 t err line { s with rru := { s.rru with mon := s.rru.mon.modify 1 fun m => { m with badAmpl := 0 } } })) ∧
  (∀ (s : State) (src : Source) (t : Nat) (err : Int) (line last : Nat), src ≠ .optical → (getMon s (srcCode src)).lastEvent = some last →
    (getMon s (srcCode src)).skipped = 0 → srcCode src < s.rru.mon.length → Machine.inWindow s (srcCode src) t line = true →
    spacingOk s (t - last) 65536 = true → s.rru.active ≠ src →
    ∃ u, lineEvent (srcCode src) t err line s = u ∧
      (getMon u (srcCode src)).goodLines = min 64 ((getMon s (srcCode src)).goodLines + 1) ∧ (getMon u (srcCode src)).missLines = 0 ∧
      (getMon u (srcCode src)).lastEvent = some t ∧ (∀ c, c ≠ srcCode src → getMon u c = getMon s c) ∧
      u = { s with rru := { s.rru with mon := u.rru.mon } }) ∧
  (∀ (s : State) (src : Source), src = .syncIn ∨ src = .digital ∨ src = .ptpSchedule ∨ src = .optical →
    monitored s (srcCode src) = true → windowEnded s (srcCode src) = true →
    srcCode src < s.rru.mon.length → s.rru.active ≠ src → (getMon s (srcCode src)).qualified = false →
    ∃ u, exec (.lineEventMissing src) s = .next u ∧ (getMon u (srcCode src)).goodLines = 0 ∧
      (getMon u (srcCode src)).missLines = (getMon s (srcCode src)).missLines + 1 ∧ (∀ c, c ≠ srcCode src → getMon u c = getMon s c) ∧
      u = { s with rru := { s.rru with mon := u.rru.mon } }) ∧
  (∀ s : State, exec (.lineEventMissing .free) s = .next s) ∧
  (∀ s : State, exec (.lineEventMissing .mosaic) s = .next (mosaicMissing s))

/-- R37, R39, R43, R45: an accepted vertical event of a monitored source of a progressive raster that is not active and not qualified
restarts its line count; one at a wrong line count is ignored with event 0x0109; an edge of VSYNC that is not the active one is no
vertical event; the active raster that passes its last permitted line without one ends its frame and counts event 0x0109. -/
def Obligations.SourceFrames : Prop :=
  (∀ (s : State) (diff : Int), monitored s 2 = true → s.rru.pll = .locked →
    s.rru.active ≠ .digital → flagF s R.RRU_GEOM_INTERLACE = false → 2 < s.rru.mon.length → (getMon s 2).qualified = false →
    (getMon s 2).goodLines < 64 → countOk s 2 (getMon s 2).parity (getMon s 2).lineCount = true →
    ∃ u, exec (.sourceVerticalEvent .digital (flagF s R.RRU_GEOM_VS_POL) diff) s = .next u ∧ (getMon u 2).lineCount = 0 ∧
      (getMon u 2).vertSeen = true ∧ (getMon u 2).lastVert = some (s.now * 262144) ∧
      (∀ c, c ≠ 2 → getMon u c = getMon s c) ∧ u = { s with rru := { s.rru with mon := u.rru.mon } }) ∧
  (∀ (s : State) (diff : Int), monitored s 2 = true → s.rru.pll = .locked → s.rru.active ≠ .digital →
    (getMon s 2).vertSeen = true → countOk s 2 (getMon s 2).parity (getMon s 2).lineCount = false →
    exec (.sourceVerticalEvent .digital (flagF s R.RRU_GEOM_VS_POL) diff) s = .next (raise 0x0109 [.h (getMon s 2).lineCount] s)) ∧
  (∀ (s : State) (diff : Int), exec (.sourceVerticalEvent .digital (!flagF s R.RRU_GEOM_VS_POL) diff) s = .next s) ∧
  (∀ (s : State) (src : Source) (parity : Bool) (diff : Int), src = .free ∨ src = .mosaic → monitored s (srcCode src) = true →
    s.rru.pll ≠ .off → exec (.sourceVerticalEvent src parity diff) s = .next (verticalEvent (srcCode src) (s.now * 262144) parity s)) ∧
  (∀ s : State, s.rru.active = .free → s.rru.pll = .locked → s.rru.rpValid = true → s.rru.boundaryDue = false →
    flagF s R.RRU_GEOM_INTERLACE = false → frameLimit s s.rru.field true ≤ s.rru.l + 1 →
    ∃ u, exec (.flywheelFrameEnd .free) s = .next u ∧ u.rru.boundaryDue = true ∧ getF u (evtField 0x0109) = 1 ∧
      u.rru.f = s.rru.f ∧ u.mem = s.mem)

/-- R10, R35: a due frame boundary, outside a reconciliation of the mosaic, makes F + 1 (modulo 2^40; 0 for the first frame after
power-on), whatever the boundary drives in the rest of the head; one in a reconciliation takes the root's number or waits for it (R755); a line boundary inside a frame makes L + 1 and leaves F. -/
def Obligations.BoundariesCountFramesAndLines : Prop :=
  (∀ (s : State) (stalled : Bool), boundaryReady s = true → s.sup.dieDown = false → reconCase s = .none →
    ∃ t, exec (.rasterFrameBoundary stalled) s = .next t ∧ t.rru.f = nextF s) ∧
  (∀ (s : State) (stalled : Bool), boundaryReady s = true → s.sup.dieDown = false →
    (∀ f, reconCase s = .go f → ∃ t, exec (.rasterFrameBoundary stalled) s = .next t ∧ t.rru.f = f) ∧
    (reconCase s = .wait → exec (.rasterFrameBoundary stalled) s = .next (reconWaits s) ∧ (reconWaits s).rru.f = s.rru.f)) ∧
  (∀ s : State, rasterRuns s = true → boundaryReady s = false → s.sup.dieDown = false →
    ∃ t, exec .rasterLineBoundary s = .next t ∧ t.rru.f = s.rru.f ∧ t.rru.l = s.rru.l + 1 ∧ t.mem = s.mem ∧ t.tmb.tb = s.tmb.tb)

/-- R76, R78, R79, R80, R92: the loss of the external 10 MHz logs event 0x010B and coasts; under FAILOVER_EN it adopts the crystal with
event 0x010C, and without it the return of the 10 MHz lets the loop pull in; loss of lock with the reference present is a ladder event
with TB held; lock starts TB with a control word that the spec does not fix (log entry 4), and an image whose application waited for it
goes on. -/
def Obligations.SystemPll : Prop :=
  (∀ s : State, s.rru.sysRefExt = true → s.rru.sysPll ≠ .off → s.rru.sysPll ≠ .coast → flagF s R.RRU_SYS_CTRL_FAILOVER_EN = true →
    exec .sysRefLost s = .next (raise 0x010C [] ((raise 0x010B [.h 1] (s.onRru fun r =>
      { r with extPresent := false, sysPll := .coast })).onRru fun r => { r with sysRefExt := false, sysFailedOver := true }))) ∧
  (∀ s : State, s.rru.sysRefExt = true → s.rru.sysPll ≠ .off → s.rru.sysPll ≠ .coast → flagF s R.RRU_SYS_CTRL_FAILOVER_EN = false →
    exec .sysRefLost s = .next (raise 0x010B [.h 1] (s.onRru fun r => { r with extPresent := false, sysPll := .coast }))) ∧
  (∀ s : State, s.rru.sysRefExt = true → s.rru.sysPll = .coast →
    exec .ext10mhzReturn s = .next { s with rru := { s.rru with extPresent := true, sysPll := .pull } }) ∧
  (∀ (s : State) (err : Int), s.rru.sysPll = .locked →
    exec (.sysLockLost err) s = .next (raiseLadder 0x010D [.w (signed32 err)] false
      { s with rru := { s.rru with sysPll := .search }, tmb := { s.tmb with run := false } })) ∧
  (∀ (s : State) (slow : Nat), s.rru.sysPll = .search ∨ s.rru.sysPll = .pull → s.head.st ≠ .off → s.sup.dieDown = false →
    s.head.st ≠ .sleep → s.cfg.applyWait = none → exec (.systemPllLock slow) s = .next { s with
      rru := { s.rru with sysPll := .locked, sysCw := (Config.freeValue s.freeCount).extractLsb' 0 24 }
      tmb := { s.tmb with run := true }, freeCount := s.freeCount + 1 }) ∧
  (∀ (s : State) (slow : Nat), s.rru.sysPll = .search ∨ s.rru.sysPll = .pull → s.head.st ≠ .off → s.sup.dieDown = false →
    s.head.st ≠ .sleep → exec (.systemPllLock slow) s = .next (resumeApply (sysLocks s)))

/-- R102, R104 to R107: writes of the time of day. A write of TMB_TOD_SET_SEC_LO only stages; a write of TMB_TOD_SET_NS commits the staged
seconds with the nanoseconds at the next tick, and one out of range is ignored with event 0x020B; a write of TMB_TOD_ADJ steps at the next
tick; while SERVO_EN is 1, the writes of TMB_TOD_SET_NS, TMB_TOD_ADJ and TMB_TOD_FREQ are ignored with event 0x0208; SERVO_EN set enters
ACQUIRING and cleared enters FREE; a timeout in LOCKED enters HOLDOVER with event 0x0207. -/
def Obligations.TimeOfDayWrites : Prop :=
  (∀ (s : State) (who : Initiator) (v : Word), busOpen s who = true →
    exec (.registerWrite who A.TMB_TOD_SET_SEC_LO v) s = .next (plainWrite A.TMB_TOD_SET_SEC_LO v s) ∧
    exec (.registerWrite who A.TMB_TOD_SET_SEC_HI v) s = .next (plainWrite A.TMB_TOD_SET_SEC_HI v s) ∧
    (plainWrite A.TMB_TOD_SET_SEC_LO v s).tmb = s.tmb ∧ (plainWrite A.TMB_TOD_SET_SEC_HI v s).tmb = s.tmb) ∧
  (∀ (s : State) (who : Initiator) (v : Word), busOpen s who = true → flagF s R.TMB_TOD_CTRL_SERVO_EN = false → v.toNat % 2 ^ 30 < 1000000000 →
    exec (.todSetNsWrite who v) s = .next { s with tmb := { s.tmb with
      commit := some (BitVec.ofNat 48 (getF s R.TMB_TOD_SET_SEC_HI * 2 ^ 32 + getF s R.TMB_TOD_SET_SEC_LO), v.toNat % 2 ^ 30) } }) ∧
  (∀ (s : State) (who : Initiator) (v : Word), busOpen s who = true → flagF s R.TMB_TOD_CTRL_SERVO_EN = false → 1000000000 ≤ v.toNat % 2 ^ 30 →
    exec (.todSetNsWrite who v) s = .next (raise 0x020B [.h 0x58] s)) ∧
  (∀ (s : State) (sec : BitVec 48) (ns : Nat), s.tmb.run = true → s.tmb.commit = some (sec, ns) →
    (tick s).tmb.todSec = sec ∧ (tick s).tmb.todNs = ns ∧ (tick s).tmb.commit = none ∧ (tick s).tmb.adj = none) ∧
  (∀ (s : State) (who : Initiator) (v : Word), busOpen s who = true → flagF s R.TMB_TOD_CTRL_SERVO_EN = false → -500000000 ≤ v.toInt →
    v.toInt ≤ 500000000 → exec (.todAdjWrite who v) s = .next { s with tmb := { s.tmb with adj := some v.toInt } }) ∧
  (∀ (s : State) (who : Initiator) (v : Word), busOpen s who = true → flagF s R.TMB_TOD_CTRL_SERVO_EN = true →
    exec (.todSetNsWrite who v) s = .next (raise 0x0208 [.h 0x58] s) ∧ exec (.todAdjWrite who v) s = .next (raise 0x0208 [.h 0x5C] s) ∧
    exec (.registerWrite who A.TMB_TOD_FREQ v) s = .next (raise 0x0208 [.h 0x60] s)) ∧
  (∀ (s : State) (who : Initiator) (v : Word), busOpen s who = true → flagF s R.TMB_TOD_CTRL_SERVO_EN = false →
    tmbRangeOk s A.TMB_TOD_CTRL v = true → v.getLsbD 31 = true →
    ∃ t, exec (.todServoEnable who v) s = .next t ∧ t.tmb.todState = .acquiring ∧ flagF t R.TMB_TOD_CTRL_SERVO_EN = true ∧
      (∀ a, a ≠ A.TMB_TOD_CTRL → rawReg t a = rawReg s a) ∧ t.mem = s.mem ∧ t.tmb.tb = s.tmb.tb) ∧
  (∀ (s : State) (who : Initiator) (v : Word), busOpen s who = true → flagF s R.TMB_TOD_CTRL_SERVO_EN = true →
    tmbRangeOk s A.TMB_TOD_CTRL v = true → v.getLsbD 31 = false →
    ∃ t, exec (.todServoDisable who v) s = .next t ∧ t.tmb.todState = .free ∧ flagF t R.TMB_TOD_CTRL_SERVO_EN = false ∧
      (∀ a, a ≠ A.TMB_TOD_CTRL → rawReg t a = rawReg s a) ∧ t.mem = s.mem ∧ t.tmb.tb = s.tmb.tb) ∧
  (∀ s : State, s.tmb.todState = .locked → exec .todTimeout s = .next (raise 0x0207 []
    { s with tmb := { s.tmb with todState := .holdover, todGood := 0, todBad := 0 } }))

/-- R91, R100, R103: the roll-over of the seconds is the end of a tick; in the tick in which the nanoseconds pass 999,999,999 they wrap, the
seconds increase by 1 and TB counts; a commit that falls in the same tick wins: TOD takes exactly the committed value and the roll-over
is not applied. -/
def Obligations.SecondRollOver : Prop :=
  (∀ s : State, rolloverDue s = true → exec .todSecondRollover s = .next (tick (settle s))) ∧
  (∀ s : State, s.tmb.run = true → rawReg s A.TMB_TOD_FREQ = 0 → s.tmb.todFrac = 0 → s.tmb.commit = none → s.tmb.adj = none →
    s.tmb.todNs < 1000000000 → 1000000000 ≤ s.tmb.todNs + 4 →
    rolloverDue s = true ∧ (tick s).tmb.todNs = s.tmb.todNs + 4 - 1000000000 ∧ (tick s).tmb.todSec = s.tmb.todSec + 1 ∧
      (tick s).tmb.tb = s.tmb.tb + 1 ∧ (tick s).mem = s.mem ∧ (tick s).regs = s.regs) ∧
  (∀ (s : State) (sec : BitVec 48) (ns : Nat), s.tmb.run = true → s.tmb.commit = some (sec, ns) →
    (tick s).tmb.todNs = ns ∧ (tick s).tmb.todSec = sec ∧ (tick s).tmb.commit = none ∧ (tick s).tmb.tb = s.tmb.tb + 1)

/-- R657, R658: with PTP running, the first Announce selects its clock as master and a better one replaces it; a two-step Sync of the
master records its arrival and its Follow_Up the origin, a Sync that carries its origin both; a Delay_Resp gives the delay; messages of
another clock change nothing; the end of the Delay_Req period sends a Delay_Req and keeps its time. -/
def Obligations.PtpClock : Prop :=
  (∀ (s : State) (port : Fin 5) (clock : Nat) (d : List Nat), ptpRuns s port = true → s.lnk.ptp.master = none →
    exec (.ptpMessageReceived port clock (.announce d)) s = .next { s with
      lnk := { s.lnk with ptp := { master := some (d ++ [clock]), reqTb := s.lnk.ptp.reqTb } } }) ∧
  (∀ (s : State) (port : Fin 5) (clock : Nat) (d m : List Nat), ptpRuns s port = true → s.lnk.ptp.master = some m →
    m.getLast? ≠ some clock → betterClock (d ++ [clock]) m = true → exec (.ptpMessageReceived port clock (.announce d)) s = .next { s with
      lnk := { s.lnk with ptp := { master := some (d ++ [clock]), reqTb := s.lnk.ptp.reqTb } } }) ∧
  (∀ (s : State) (port : Fin 5) (clock arrival : Nat) (m : List Nat), ptpRuns s port = true → s.lnk.ptp.master = some m →
    m.getLast? = some clock → exec (.ptpMessageReceived port clock (.sync none arrival)) s = .next { s with
      lnk := { s.lnk with ptp := { s.lnk.ptp with t1 := none, t2 := some (todAt s arrival) } } }) ∧
  (∀ (s : State) (port : Fin 5) (clock arrival : Nat) (origin : Int) (m : List Nat), ptpRuns s port = true →
    s.lnk.ptp.master = some m → m.getLast? = some clock → exec (.ptpMessageReceived port clock (.sync (some origin) arrival)) s =
      .next (ptpOffset { s with lnk := { s.lnk with ptp := { s.lnk.ptp with t1 := some origin, t2 := some (todAt s arrival) } } })) ∧
  (∀ (s : State) (port : Fin 5) (clock : Nat) (origin : Int) (m : List Nat), ptpRuns s port = true →
    s.lnk.ptp.master = some m → m.getLast? = some clock → s.lnk.ptp.t2 ≠ none →
    exec (.ptpMessageReceived port clock (.followUp origin)) s =
      .next (ptpOffset { s with lnk := { s.lnk with ptp := { s.lnk.ptp with t1 := some origin } } })) ∧
  (∀ (s : State) (port : Fin 5) (clock : Nat) (receipt t1 t2 t3 d : Int) (m : List Nat), ptpRuns s port = true →
    s.lnk.ptp.master = some m → m.getLast? = some clock → s.lnk.ptp.t1 = some t1 → s.lnk.ptp.t2 = some t2 → s.lnk.ptp.t3 = some t3 →
    s.lnk.ptp.delay = some d → exec (.ptpMessageReceived port clock (.delayResp receipt)) s = .next { s with
      lnk := { s.lnk with ptp := { s.lnk.ptp with t4 := some receipt, delay := some (((t2 - t1) + (receipt - t3)) / 2) } } }) ∧
  (∀ (s : State) (port : Fin 5) (clock arrival : Nat) (o : Option Int) (m : List Nat), ptpRuns s port = true →
    s.lnk.ptp.master = some m → m.getLast? ≠ some clock → exec (.ptpMessageReceived port clock (.sync o arrival)) s = .next s) ∧
  (∀ s : State, ptpRuns s (getF s R.LNK_PTP_PORT) = true → s.lnk.ptp.master ≠ none → s.lnk.ptp.reqTb + delayReqPeriod s ≤ s.now →
    exec .ptpDelayReqTimer s = .next { s with lnk := { s.lnk with
      ptp := { s.lnk.ptp with t3 := some (todAt s (16 * s.now)), reqTb := s.now }
      control := (getF s R.LNK_PTP_PORT, 2) :: s.lnk.control } })

/-- R111 to R114, R117 to R119: a source event of an unlinked unit whose prescale count is complete increments CNT, or wraps it at TOP, and
what the increment raises follows at the end of the tick; any other event only counts; a linked unit clears CNT one tick after its
source's pulse; an enabled TB channel at its target clears EN and sets MATCH, and a periodic one keeps EN and moves on by its period; a
write that sets EN of a TB channel whose target has passed sets LATE with event 0x0202. After a write of CNT in the same tick the
increment is lost (R113). -/
def Obligations.TimerUnitsAndChannels : Prop :=
  (∀ (s : State) (u : Fin 8), unitHolds s u = false → getF s (R.TMB_U_CTRL_LINK_ACT u) = 0 →
    getF s (R.TMB_U_CTRL_CNT_SRC u) ≠ 0 → (getUnit s u).pscOf = getF s (R.TMB_U_CTRL_PSC_M1 u) →
    (getUnit s u).psc = getF s (R.TMB_U_CTRL_PSC_M1 u) → getF s (R.TMB_U_CNT u) ≠ getF s (R.TMB_U_TOP u) →
    getF s (R.TMB_U_CNT u) ≠ 0xFFFFFFFF → (getUnit s u).cntAt ≠ some s.now → u.val < s.tmb.units.length →
    ∃ t, exec (.timerSourceEvent u false) s = .next t ∧ getF t (R.TMB_U_CNT u) = getF s (R.TMB_U_CNT u) + 1 ∧
      (getUnit t u).reached = (getUnit s u).reached ++ [(getF s (R.TMB_U_CNT u) + 1, false)] ∧ (getUnit t u).psc = 0 ∧
      (∀ a, a ≠ A.TMB_U_CNT u → rawReg t a = rawReg s a) ∧ t.mem = s.mem ∧ t.rru = s.rru) ∧
  (∀ (s : State) (u : Fin 8), unitHolds s u = false → getF s (R.TMB_U_CTRL_LINK_ACT u) = 0 →
    getF s (R.TMB_U_CTRL_CNT_SRC u) ≠ 0 → (getUnit s u).pscOf = getF s (R.TMB_U_CTRL_PSC_M1 u) →
    (getUnit s u).psc = getF s (R.TMB_U_CTRL_PSC_M1 u) → getF s (R.TMB_U_CNT u) = getF s (R.TMB_U_TOP u) →
    (getUnit s u).cntAt ≠ some s.now → u.val < s.tmb.units.length →
    ∃ t, exec (.timerSourceEvent u false) s = .next t ∧ getF t (R.TMB_U_CNT u) = 0 ∧
      (getUnit t u).reached = (getUnit s u).reached ++ [(0, true)] ∧ (∀ a, a ≠ A.TMB_U_CNT u → rawReg t a = rawReg s a)) ∧
  (∀ (s : State) (u : Fin 8), unitHolds s u = false → getF s (R.TMB_U_CTRL_LINK_ACT u) = 0 →
    getF s (R.TMB_U_CTRL_CNT_SRC u) ≠ 0 → (getUnit s u).pscOf = getF s (R.TMB_U_CTRL_PSC_M1 u) →
    (getUnit s u).psc < getF s (R.TMB_U_CTRL_PSC_M1 u) →
    exec (.timerSourceEvent u false) s = .next (modUnit u (fun x => { x with psc := (getUnit s u).psc + 1, pscOf := (getUnit s u).pscOf }) s)) ∧
  (∀ (s : State) (u : Fin 8), getF s (R.TMB_U_CTRL_CNT_SRC u) = 0 → getF s (R.TMB_U_CTRL_LINK_ACT u) = 0 →
    exec (.timerSourceEvent u false) s = .next s) ∧
  (∀ (s : State) (u : Fin 8) (t : Nat) (rest : List Nat), unitHolds s u = false → getF s (R.TMB_U_CTRL_LINK_ACT u) = 2 →
    (getUnit s u).links = t :: rest → t < s.now → exec (.timerSourceEvent u true) s =
      .next (setF (R.TMB_U_CNT u) 0 (holdCounter u (modUnit u (fun x => { x with links := rest }) s)))) ∧
  (∀ (s : State) (k : Fin 32), compareDue s (k.val / 4) (k.val % 4) = true →
    getF s (R.TMB_CH_CTRL_MODE (k.val / 4) (k.val % 4)) = 0 →
    exec (.compareMatch k) s = .next (channelReaches k (matchChannel (k.val / 4) (k.val % 4)
      (setF (R.TMB_CH_CTRL_EN (k.val / 4) (k.val % 4)) 0 s)))) ∧
  (∀ (s : State) (k : Fin 32), compareDue s (k.val / 4) (k.val % 4) = true →
    getF s (R.TMB_CH_CTRL_MODE (k.val / 4) (k.val % 4)) = 1 →
    exec (.compareMatch k) s = .next (channelReaches k (matchChannel (k.val / 4) (k.val % 4) (modUnit (k.val / 4)
      (fun x => { x with addDue := (x.addDue.filter (· != k.val % 4)) ++ [k.val % 4] }) s)))) ∧
  (∀ (s : State) (who : Initiator) (k : Fin 32) (v : Word), busOpen s who = true →
    flagF s (R.TMB_CH_CTRL_EN (k.val / 4) (k.val % 4)) = false → v.getLsbD 31 = true → v.extractLsb' 0 2 = 0 →
    s.now ≤ cmpValue s (k.val / 4) (k.val % 4) →
    exec (.compareEnable who k v) s = .next (modUnit (k.val / 4) (fun x => { x with spent := x.spent.set (k.val % 4) none })
      (plainWrite (A.TMB_CH_CTRL (k.val / 4) (k.val % 4)) v s))) ∧
  (∀ (s : State) (who : Initiator) (k : Fin 32) (v : Word), busOpen s who = true →
    flagF s (R.TMB_CH_CTRL_EN (k.val / 4) (k.val % 4)) = false → v.getLsbD 31 = true → v.extractLsb' 0 2 = 0 →
    cmpValue s (k.val / 4) (k.val % 4) < s.now →
    exec (.compareEnable who k v) s = .next (setLate (k.val / 4) (k.val % 4) (modUnit (k.val / 4)
      (fun x => { x with spent := x.spent.set (k.val % 4) none }) (plainWrite (A.TMB_CH_CTRL (k.val / 4) (k.val % 4)) v s)))) ∧
  (∀ (s : State) (u : Fin 8), unitHolds s u = false → getF s (R.TMB_U_CTRL_LINK_ACT u) = 0 →
    getF s (R.TMB_U_CTRL_CNT_SRC u) ≠ 0 → (getUnit s u).pscOf = getF s (R.TMB_U_CTRL_PSC_M1 u) →
    (getUnit s u).psc = getF s (R.TMB_U_CTRL_PSC_M1 u) → (getUnit s u).cntAt = some s.now →
    exec (.timerSourceEvent u false) s = .next (modUnit u (fun x => { x with psc := 0, pscOf := (getUnit s u).pscOf }) s))

/-- R128, R132, R158, R549, R832, R898, R939: a halt through an enabled JTAG port holds the core, and its end lets firmware send an EVENT
for each flag that is set; a tick at a multiple of 1 ms without a raster stands in for a frame boundary, and is ignored at any other TB; in
SLEEP a rising edge of a trigger line with WAKE set, and a compare channel with WAKE set whose target the slow tick is the first to reach,
wake the head with cause WAKE and their source code. -/
def Obligations.HaltTickAndWakes : Prop :=
  (∀ s : State, s.tmb.halted = false → jtagEnabled s = true →
    exec .debugHalt s = .next { s with tmb := { s.tmb with halted := true } }) ∧
  (∀ s : State, jtagEnabled s = false → exec .debugHalt s = .next s) ∧
  (∀ s : State, s.tmb.halted = true →
    exec .debugHaltEnd s = .next (sendSetFlags false { s with tmb := { s.tmb with halted := false } })) ∧
  (∀ s : State, s.now % 250000 = 0 → s.rru.rpValid = false → s.tmb.run = true → exec .periodicMsTick s = .next (avTick (openSwitches s))) ∧
  (∀ s : State, s.now % 250000 ≠ 0 → exec .periodicMsTick s = .next s) ∧
  (∀ (s : State) (n : Fin 16), asleep s = true → s.pwr.pf = .normal → s.pwr.aon = true → (rawReg s (lineReg n)).getLsbD 8 = true →
    ∃ t, exec (.trgWakeEdge n) s = .next t ∧ t.head.waking = true ∧ t.head.wakeSrc = 1 ∧ t.head.cause = .wake ∧ t.rru.sysPll = .search ∧
      t.mem = s.mem) ∧
  (∀ (s : State) (k : Fin 32) (slow : Nat), asleep s = true → s.pwr.pf = .normal → s.pwr.aon = true →
    getF s (R.TMB_CH_CTRL_MODE (k.val / 4) (k.val % 4)) = 0 → flagF s (R.TMB_CH_CTRL_WAKE (k.val / 4) (k.val % 4)) = true →
    flagF s (R.TMB_CH_CTRL_EN (k.val / 4) (k.val % 4)) = true → s.now < cmpValue s (k.val / 4) (k.val % 4) →
    s.now + (slow - 1) * 1953125 / 256 < cmpValue s (k.val / 4) (k.val % 4) →
    cmpValue s (k.val / 4) (k.val % 4) ≤ s.now + slow * 1953125 / 256 →
    ∃ t, exec (.compareWake k slow) s = .next t ∧ t.head.waking = true ∧ t.head.wakeSrc = 2 ∧ t.head.wakeCh = some k.val ∧
      t.head.cause = .wake ∧ t.mem = s.mem)

/-- R158 to R160: a ramping tile whose rail settles flushes, a flushed one is READY; an overcurrent of a powered tile makes it FAULT with
its current and event 0x0304 and drops it from the open exposures; each leaves every other tile and the rest of the head. A write of FAULT_CLR to a tile in FAULT turns it OFF;
a write that sets FORCE_OFF of a powered tile logs event 0x0307 and drops the tile from the open exposures, and opens the switch at the
next frame boundary. -/
def Obligations.TilePowerDomains : Prop :=
  (∀ (s : State) (t : Fin 240), (getTile s t).st = .ramp → ∃ u, exec (.tileRailSettled t) s = .next u ∧
    getTile u t = { getTile s t with st := .flush } ∧ (∀ i, i ≠ t.val → getTile u i = getTile s i) ∧ u = { s with sns := u.sns }) ∧
  (∀ (s : State) (t : Fin 240), (getTile s t).st = .flush → ∃ u, exec (.tileFlushDone t) s = .next u ∧
    getTile u t = { getTile s t with st := .ready } ∧ (∀ i, i ≠ t.val → getTile u i = getTile s i) ∧ u = { s with sns := u.sns }) ∧
  (∀ (s : State) (t : Fin 240) (c : BitVec 16), (getTile s t).st.powered = true → ∃ u, exec (.tileOvercurrent t c) s = .next u ∧
    getTile u t = { getTile s t with st := .fault, current := c } ∧ (∀ i, i ≠ t.val → getTile u i = getTile s i) ∧
    getF u (evtField 0x0304) = 1 ∧ u.mem = s.mem ∧ u.rru = s.rru ∧ u.exs = (dropExposures t s).exs) ∧
  (∀ (s : State) (who : Initiator) (t : Fin 240) (v : Word), busOpen s who = true → (getTile s t).st = .fault → v.getLsbD 1 = true →
    v.getLsbD 0 = false → ∃ u, exec (.tileFaultClr who t v) s = .next u ∧
    getTile u t = { getTile s t with st := .off, current := 0 } ∧ (∀ i, i ≠ t.val → getTile u i = getTile s i) ∧
    (∀ a, a ≠ A.SNS_TILE_CTRL t → rawReg u a = rawReg s a) ∧ u.mem = s.mem) ∧
  (∀ (s : State) (who : Initiator) (t : Fin 240) (v : Word), busOpen s who = true → (getTile s t).st.powered = true →
    flagF s (R.SNS_TILE_CTRL_FORCE_OFF t) = false → v.getLsbD 0 = true →
    exec (.tileForceOff who t v) s = .next (forceTileOff t (plainWrite (A.SNS_TILE_CTRL t) v s)) ∧
    flagF (plainWrite (A.SNS_TILE_CTRL t) v s) (R.SNS_TILE_CTRL_FORCE_OFF t) = true)

/-- R165 to R168, R170: the hundredth good sample in a row makes the temperature STABLE with event 0x0301; in STABLE a sample outside
0.1 °C goes back to SETTLING with event 0x0302; a hot side of 75 °C or above is FAULT with event 0x0305; 1 s at the cap sets saturation
with event 0x0303. A write of a new setpoint restarts the settling, a write of FAULT_CLR in FAULT with a hot side below 60 °C turns the
cooler OFF, and a setpoint out of range changes nothing but logs event 0x0308. -/
def Obligations.Cooler : Prop :=
  (∀ (s : State) (hot sensor power : BitVec 16) (ok : Bool), s.sns.temp = .settling → s.sns.inBand = 99 → hot.toInt < 7500 →
    (sensor.toInt - setpoint (rawReg s A.SNS_COOL_CTRL)).natAbs ≤ 10 → ∃ u, exec (.coolerSample hot sensor power ok) s = .next u ∧
    u.sns.temp = .stable ∧ u.sns.sensor = sensor ∧ u.sns.hotSide = hot ∧ u.sns.coolPwr = power ∧ u.sns.tiles = s.sns.tiles ∧
    u.rru = s.rru ∧ u.mem = s.mem) ∧
  (∀ s : State, s.sns.temp = .stable → s.sns.hotSide.toInt < 7500 →
    10 < (s.sns.sensor.toInt - setpoint (rawReg s A.SNS_COOL_CTRL)).natAbs →
    tempStep true s = raise 0x0302 [.h (signed16 s.sns.sensor.toInt)] { s with sns := { s.sns with temp := .settling, inBand := 0 } }) ∧
  (∀ (s : State) (ok : Bool), s.sns.temp = .stable ∨ s.sns.temp = .settling → 7500 ≤ s.sns.hotSide.toInt →
    tempStep ok s = raise 0x0305 [.h (signed16 s.sns.hotSide.toInt)] { s with sns := { s.sns with temp := .fault, coolOn := false, inBand := 0 } }) ∧
  (∀ s : State, s.sns.coolOn = true → s.sns.coolSat = false → exec .coolerSaturated s = .next (raise 0x0303
    [.h (signed16 s.sns.hotSide.toInt), .h (coolCap s / 100)] { s with sns := { s.sns with coolSat := true } })) ∧
  (∀ (s : State) (who : Initiator) (v : Word), busOpen s who = true → -1000 ≤ setpoint v → setpoint v ≤ 2500 → v.getLsbD 30 = false →
    v.getLsbD 31 = true → setpoint v ≠ setpoint (rawReg s A.SNS_COOL_CTRL) → s.sns.temp = .stable →
    exec (.setpointWrite who v) s = .next ((plainWrite A.SNS_COOL_CTRL v s).onSns fun x => { x with temp := .settling, inBand := 0 })) ∧
  (∀ (s : State) (who : Initiator) (v : Word), busOpen s who = true → setpoint v < -1000 ∨ 2500 < setpoint v →
    exec (.setpointWrite who v) s = .next (raise 0x0308 [.h 0x10] s)) ∧
  (∀ (s : State) (who : Initiator) (v : Word), busOpen s who = true → -1000 ≤ setpoint v → setpoint v ≤ 2500 → v.getLsbD 30 = true →
    s.sns.temp = .fault → s.sns.hotSide.toInt < 6000 →
    exec (.coolerFaultClr who v) s = .next ((plainWrite A.SNS_COOL_CTRL v s).onSns fun x => { x with temp := .off })) ∧
  (∀ (s : State) (who : Initiator) (v : Word), busOpen s who = true → -1000 ≤ setpoint v → setpoint v ≤ 2500 → v.getLsbD 30 = true →
    s.sns.temp = .fault → 6000 ≤ s.sns.hotSide.toInt →
    exec (.coolerFaultClr who v) s = .next (plainWrite A.SNS_COOL_CTRL v s))

/-- R198, R221: a ramping sub-bank whose rail settles trims, and a trimmed one is READY (the edge sub-banks also unseed their bank's black
clamp); an overcurrent of a powered one makes it FAULT with event 0x0401; FAULT_CLR in FAULT turns it OFF; FORCE_OFF of a powered one
logs event 0x0403. No other sub-bank changes. -/
def Obligations.SubBankPowerDomains : Prop :=
  (∀ (s : State) (d : Fin 40), (getSb s d).st = .ramp → ∃ u, exec (.subbankRailSettled d) s = .next u ∧
    getSb u d = { getSb s d with st := .trim } ∧ (∀ i, i ≠ d.val → getSb u i = getSb s i) ∧ u = { s with cro := u.cro }) ∧
  (∀ (s : State) (d : Fin 40), (getSb s d).st = .trim → ∃ u, exec (.subbankTrimDone d) s = .next u ∧
    getSb u d = { getSb s d with st := .ready } ∧ (∀ i, i ≠ d.val → getSb u i = getSb s i) ∧ u = { s with cro := u.cro } ∧
    (d.val % 20 ≠ 0 → d.val % 20 ≠ 19 → u.cro.clamps = s.cro.clamps)) ∧
  (∀ (s : State) (d : Fin 40) (c : BitVec 16), (getSb s d).st.powered = true → ∃ u, exec (.subbankOvercurrent d c) s = .next u ∧
    getSb u d = { getSb s d with st := .fault, current := c } ∧ (∀ i, i ≠ d.val → getSb u i = getSb s i) ∧
    getF u (evtField 0x0401) = 1 ∧ u.mem = s.mem ∧ u.exs = s.exs) ∧
  (∀ (s : State) (who : Initiator) (d : Fin 40) (v : Word), busOpen s who = true → (getSb s d).st = .fault → v.getLsbD 1 = true →
    v.getLsbD 0 = false → ∃ u, exec (.subbankFaultClr who d v) s = .next u ∧
    getSb u d = { getSb s d with st := .off, current := 0 } ∧ (∀ i, i ≠ d.val → getSb u i = getSb s i) ∧
    (∀ a, a ≠ A.CRO_SB_CTRL d → rawReg u a = rawReg s a) ∧ u.mem = s.mem) ∧
  (∀ (s : State) (who : Initiator) (d : Fin 40) (v : Word), busOpen s who = true → (getSb s d).st.powered = true →
    flagF s (R.CRO_SB_CTRL_FORCE_OFF d) = false → v.getLsbD 0 = true →
    exec (.subbankForceOff who d v) s = .next (raise 0x0403 [.h d] (plainWrite (A.CRO_SB_CTRL d) v s)) ∧
    flagF (plainWrite (A.CRO_SB_CTRL d) v s) (R.CRO_SB_CTRL_FORCE_OFF d) = true)

/-- R204, R207, R217, R231: more than 16 CRC errors of a lane in 1 s retrain it with event 0x0404; a training that succeeds brings it up, one
that fails retrains it, and the third failure within 10 s marks it FAILED with event 0x0405; a row packet of a read of a lane goes to the
correction of its exposure, once, and one of a bank that reads nothing, or whose read found no usable lane, is dropped. A write of a word of a geometry descriptor in use changes
nothing and logs event 0x0409, and of a free, not VALID descriptor sets the word. -/
def Obligations.SensorLinkAndGeometry : Prop :=
  (∀ (s : State) (l : Fin 96), (getLink s l).st = .up → 16 < ((getLink s l).errs.filter fun t => s.now < t + second).length →
    exec (.laneRetrain l) s = .next (lanesFell (l.val / 48) (openWindow 0 0x0404 [4, laneMark l] (raise 0x0404 [.h l]
      (modLink l (fun x => { x with st := .training, errs := [], retrains := recentRetrains s l ++ [s.now] }) s))))) ∧
  (∀ (s : State) (l : Fin 96), (getLink s l).st = .training →
    exec (.laneRetrainDone l true) s = .next (closeLane l (lanesRose (l.val / 48) (modLink l (fun x => { x with st := .up }) s)))) ∧
  (∀ (s : State) (l : Fin 96) (fails : List Nat), (getLink s l).st = .training →
    fails = ((getLink s l).fails.filter fun t => s.now < t + tenSeconds) ++ [s.now] →
    (fails.length < 3 → exec (.laneRetrainDone l false) s = .next (retrainLane l (modLink l (fun x => { x with fails := fails }) s))) ∧
    (3 ≤ fails.length → exec (.laneRetrainDone l false) s = .next (lanesFell (l.val / 48) (closeLane l (raise 0x0405 [.h l]
      (modLink l (fun x => { x with st := .failed, errs := [] }) (modLink l (fun x => { x with fails := fails }) s))))))) ∧
  (∀ (s : State) (p : RowPacket) (rd : BankRead) (b : Booking) (e : ExpEntry), s.cro.reading.getD p.bank none = some rd → rd.lane ≠ 4 →
    rd.dead = false → rd.got.contains p.row.val = false →
    findBooking s rd.lane rd.exp rd.frame rd.rg = some b → (laneProg s rd.lane).exps[rd.exp]? = some e →
    p.row.val < rowsPerGroup (geoOf s e.geo).bin → exec (.rowPacketReceived p) s = .next (laneRow b e rd p { s with
      cro := { s.cro with reading := s.cro.reading.set p.bank (some { rd with got := rd.got ++ [p.row.val] }) } })) ∧
  (∀ (s : State) (p : RowPacket), s.cro.reading.getD p.bank none = none → exec (.rowPacketReceived p) s = .next s) ∧
  (∀ (s : State) (p : RowPacket) (rd : BankRead), s.cro.reading.getD p.bank none = some rd → rd.dead = true ∨ rd.got.contains p.row.val = true →
    exec (.rowPacketReceived p) s = .next s) ∧
  (∀ (s : State) (who : Initiator) (n : Fin 16) (reg : Fin 50) (v : Word), busOpen s who = true → geoInUse s n = true →
    exec (.geoDescriptorWrite who n reg v) s = .next (raise 0x0409 [.h n] s)) ∧
  (∀ (s : State) (who : Initiator) (n : Fin 16) (reg : Fin 50) (v : Word), busOpen s who = true → geoInUse s n = false →
    (geoOf (plainWrite (geoRegister n reg) v s) n).valid = false → (geoOf (plainWrite (geoRegister n reg) v s) n).bin ≠ 3 →
    (geoOf (plainWrite (geoRegister n reg) v s) n).c0 ≤ 1279 → (geoOf (plainWrite (geoRegister n reg) v s) n).c1 ≤ 1279 →
    exec (.geoDescriptorWrite who n reg v) s = .next (plainWrite (geoRegister n reg) v s))

/-- R245, R259, R279, R283, R191, R452: at T_n an absolute program issues its exposures and its next T_n is a period later; a reset target
that is reached places, in their order, every target that comes before it and its own: with the measurement gate open the reset is placed,
with the gate closed the row group is abandoned; none is placed while the head may not place; a booked reset begins at the first tick at or
after its time and not before, in the frame that holds its time; a booked read begins on its free banks; a calibration read that ends frees
its bank. -/
def Obligations.InstancesResetsAndReads : Prop :=
  (∀ (s : State) (m : Fin 4) (t : Nat), (getLane s m).st = .running → (getLane s m).nextAbs = some t → t ≤ s.now →
    (laneProg s m).period ≠ 0 → exec (.absInstanceDue m) s = .next (forEach (laneExps s m) (fun x u => issue m x.1 t x.2 u)
      (modLane m (fun x => { x with nextAbs := some (t + (laneProg s m).period) }) s))) ∧
  (∀ (s : State) (m : Fin 4) (t : Nat), (getLane s m).nextAbs = some t → s.now < t → exec (.absInstanceDue m) s = .next s) ∧
  (∀ (s : State) (m : Fin 4) (exp key rg : Nat), mayPlace s = true →
    exec (.resetTargetReached m exp key rg) s = .next (forEach (targetsUpTo s m exp key rg) placeTarget s)) ∧
  (∀ (s : State) (m : Fin 4) (exp key rg : Nat), mayPlace s = false → exec (.resetTargetReached m exp key rg) s = .next s) ∧
  (∀ (s : State) (t : Target), s.ctg.gate = true → placeTarget t s =
    drainCheck t.inst.lane (place t.inst t.rg t.tb t.exp (takeGroup t.inst.lane t.inst.exp t.inst.frame t.rg s))) ∧
  (∀ (s : State) (t : Target), s.ctg.gate = false → placeTarget t s =
    drainCheck t.inst.lane (abandonMember t.inst.lane t.inst.frame t.rg t.inst.exp
      (abandonUnplaced t.inst t.rg (takeGroup t.inst.lane t.inst.exp t.inst.frame t.rg s)))) ∧
  (∀ (s : State) (l : Fin 5) (exp key rg : Nat) (b : Booking) (e : ExpEntry), l.val ≠ 4 → findBooking s l exp key rg = some b →
    (laneProg s l).exps[exp]? = some e → b.resetDone = false → b.resetTb ≤ s.now → exec (.rowGroupResetStart l exp key rg) s =
      .next (modBooking l exp key rg (fun c => { c with resetDone := true, attr := frameAt s c.resetTb, pos := s.ctg.pos,
                                                        dropped := c.dropped ++ deadTiles s (geoOf s e.geo) rg }) s)) ∧
  (∀ (s : State) (l : Fin 5) (exp key rg : Nat) (b : Booking), l.val ≠ 4 → findBooking s l exp key rg = some b → s.now < b.resetTb →
    exec (.rowGroupResetStart l exp key rg) s = .next s) ∧
  (∀ (s : State) (l : Fin 5) (exp key rg : Nat) (b : Booking) (e : ExpEntry), l.val ≠ 4 → findBooking s l exp key rg = some b →
    (laneProg s l).exps[exp]? = some e → b.resetDone = true → b.reading = false → b.readTb ≤ s.now →
    (banksOf (geoOf s e.geo).bin rg).all (fun k => (s.cro.reading.getD k none).isNone) = true →
    (∀ k ∈ banksOf (geoOf s e.geo).bin rg, s.cro.freeAt.getD k 0 ≤ b.readTb) →
    deadSubBanks s (geoOf s e.geo).sbEn (banksOf (geoOf s e.geo).bin rg) = [] →
    ∃ t, exec (.rowGroupReadStart l exp key rg) s = .next t ∧
      t.exs = { s.exs with bookings := s.exs.bookings.map fun b => if b.is l exp key rg then { b with reading := true } else b } ∧
      t.cro.gain = s.cro.gain.mapIdx (fun k r => if (banksOf (geoOf s e.geo).bin rg).contains k then e.gain else r) ∧
      t.cro.freeAt = s.cro.freeAt.mapIdx (fun k r => if (banksOf (geoOf s e.geo).bin rg).contains k then b.readTb + b.slot else r) ∧
      t.mem = s.mem ∧ t.rru = s.rru ∧ t.pat = s.pat) ∧
  (∀ (s : State) (rg : Nat) (stuck : BitVec 16) (r : CalRead), calReadEnds s rg 0 = true → lostRows s (calBank rg) 8 = [] →
    (s.cal.reads.find? fun r => r.rg == rg && r.gain == 2 && r.reading) = some r →
    r.drift = false → (s.cal.rgLeft.filter (· != rg)) ≠ [] → exec (.rowGroupReadComplete 4 0 0 rg stuck) s =
      .next ((freeBanks [calBank rg] s).onCal fun c => { c with reads := c.reads.filter (· != r), rgLeft := c.rgLeft.filter (· != rg) }))

/-- R191, R262, R324: a read in progress ends when its slot has passed: its banks are free, its row group is no longer open as a LONG
exposure, the exposure is delivered and its booking is gone before the fusion sets with nothing outstanding close; the read of an exposure
that was abandoned meanwhile only frees its banks; a read that is not in progress, or whose slot has not passed, does not end. -/
def Obligations.EndOfALaneRead : Prop :=
  (∀ (s : State) (l : Fin 5) (exp key rg : Nat) (stuck : BitVec 16) (b : Booking) (e : ExpEntry), l.val ≠ 4 →
    findBooking s l exp key rg = some b → (laneProg s l).exps[exp]? = some e → banksReading s l exp key rg ≠ [] →
    (∀ k ∈ banksReading s l exp key rg, s.cro.freeAt.getD k 0 ≤ s.now) →
    (∀ k ∈ banksReading s l exp key rg, lostRows s k (rowsPerGroup (geoOf s e.geo).bin) = []) →
    exec (.rowGroupReadComplete l exp key rg stuck) s =
      .next (deliverRead b e stuck (closeLong l rg (freeBanks (banksReading s l exp key rg) s)))) ∧
  (∀ (s : State) (b : Booking) (e : ExpEntry) (stuck : BitVec 16), ∃ u, deliverRead b e stuck s = drainCheck b.lane (closeFinished stuck u) ∧
    findBooking u b.lane b.exp b.frame b.rg = none) ∧
  (∀ (s : State) (l : Fin 5) (exp key rg : Nat) (stuck : BitVec 16), l.val ≠ 4 → findBooking s l exp key rg = none →
    banksReading s l exp key rg ≠ [] → (∀ k ∈ banksReading s l exp key rg, s.cro.freeAt.getD k 0 ≤ s.now) →
    exec (.rowGroupReadComplete l exp key rg stuck) s = .next (freeBanks (banksReading s l exp key rg) s)) ∧
  (∀ (s : State) (l : Fin 5) (exp key rg : Nat) (stuck : BitVec 16), l.val ≠ 4 →
    (banksReading s l exp key rg = [] ∨ ∃ k ∈ banksReading s l exp key rg, s.now < s.cro.freeAt.getD k 0) →
    exec (.rowGroupReadComplete l exp key rg stuck) s = .next s)

/-- R329, R353, R381, R394, R858: a frame that has ended and has nothing left to read or fuse closes for its lane; a hand-off sends the
results of the oldest closed buffer; a slice whose pipe has held a row for 64 µs logs event 0x0606, is declared stuck and is reset;
a write of a word of a window of an idle set stores its defined bits, and one whose sets are busy changes nothing and logs 0x0608. -/
def Obligations.FrameCloseAndHandOff : Prop :=
  (∀ (s : State) (m : Fin 4), (getLane s m).st = .running ∨ (getLane s m).st = .draining → (getLane s m).openFrame < s.rru.f →
    frameQuiet s m (getLane s m).openFrame = true →
    exec (.laneFrameClose m) s = .next (settleSets (closeHeadFrames (modLane m (fun x => { x with openFrame := x.openFrame + 1 }) s)))) ∧
  (∀ (s : State) (m : Fin 4), s.rru.f ≤ (getLane s m).openFrame ∨ frameQuiet s m (getLane s m).openFrame = false →
    exec (.laneFrameClose m) s = .next s) ∧
  (∀ (s : State) (set : Fin 256) (h : HandOff) (rest : List HandOff), (getSet s set).handing = h :: rest →
    exec (.handoffComplete set) s = .next (forEach (h.results set) sendResult (modSet set (fun x => { x with handing := rest }) s))) ∧
  (∀ (s : State) (i : Fin 16) (pipe : Fin 2), ((s.pat.slices.getD i {}).held.filter fun h => h.pipe == pipe.val).any
      (fun h => decide (h.tb + sliceTimeout ≤ s.now)) = true →
    exec (.sliceStuck i pipe) s = .next (respondStuck 1 i (resetSlice i (declareStuck 1 i (raise 0x0606 [.h i, .h pipe] s))))) ∧
  (∀ (s : State) (who : Initiator) (w : Nat) (v : Word), busOpen s who = true → w < poolBase → Memory.wf s.mem = true →
    (getSet s ((memWord s (winAddr w)).toNat % 256)).st.idle = true → (getSet s (v.toNat % 256)).st.idle = true → v.getLsbD 31 = false →
    exec (.memoryWindowWrite who (winAddr w) v) s = .next (setMemWord (winAddr w) (v &&& 0xCFFF00FF) s)) ∧
  (∀ (s : State) (who : Initiator) (w : Nat) (v : Word), busOpen s who = true → w < poolBase →
    (getSet s ((memWord s (winAddr w)).toNat % 256)).st.idle = false →
    exec (.memoryWindowWrite who (winAddr w) v) s = .next (raise 0x0608 [.w (winAddr w)] s))

/-- R410 to R415, R428: REQ and FORCE make a calibration due with event 0x0701, FORCE also opens a slot at the next boundary; the 1 s mean
of the temperature and the age of the set make one due when their condition begins to hold, and not while it goes on holding; a due
calibration that passes STALE_MAX sets STALE once with event 0x0705; CANCEL aborts a run and does nothing without one. -/
def Obligations.CalibrationDue : Prop :=
  (∀ s : State, s.cal.due = none → ∃ t, exec .calRequest s = .next t ∧ t.cal = { s.cal with due := some (.request, s.now), requested := true } ∧
    getF t (evtField 0x0701) = 1 ∧ t.mem = s.mem ∧ t.rru = s.rru ∧ t.exs = s.exs) ∧
  (∀ s : State, s.cal.due = none → ∃ t, exec .calForce s = .next t ∧
    t.cal = { s.cal with due := some (.request, s.now), requested := true, force := true, forceLogged := false } ∧ t.mem = s.mem ∧ t.rru = s.rru) ∧
  (∀ s : State, s.cal.phase ≠ .idle → s.cal.aborted = false → exec .calCancel s =
    .next (raise 0x0704 [.h AbortCause.cancel.code] (addF R.CAL_CNT_ABORTS 1 (endAborted true s)))) ∧
  (∀ s : State, s.cal.phase = .idle → exec .calCancel s = .next s) ∧
  (∀ s : State, s.cal.secN ≠ 0 → s.cal.src ≠ 0 → s.cal.arisen = [] →
    getF s R.CAL_TRIG_TEMP_DELTA < (roundDiv s.cal.secSum s.cal.secN - s.cal.active.tCal).natAbs →
    exec .calTempMean s = .next (makeDue .temp (s.onCal fun c =>
      { c with meanTemp := roundDiv s.cal.secSum s.cal.secN, secSum := 0, secN := 0, arisen := [.temp] }))) ∧
  (∀ s : State, s.cal.secN ≠ 0 → s.cal.arisen = [] →
    (roundDiv s.cal.secSum s.cal.secN - s.cal.active.tCal).natAbs ≤ getF s R.CAL_TRIG_TEMP_DELTA →
    exec .calTempMean s = .next { s with cal := { s.cal with meanTemp := roundDiv s.cal.secSum s.cal.secN, secSum := 0, secN := 0 } }) ∧
  (∀ s : State, getF s R.CAL_TRIG_MAX_AGE ≠ 0 → s.cal.src ≠ 0 → s.cal.arisen.contains .age = false →
    getF s R.CAL_TRIG_MAX_AGE * 60 * second < setAge s →
    exec .calAgeExpired s = .next (makeDue .age (s.onCal fun c => { c with arisen := c.arisen ++ [.age] }))) ∧
  (∀ (s : State) (r : CalReason) (t : Nat), s.cal.due = some (r, t) → s.cal.stale = false → t + getF s R.CAL_STALE_MAX * second < s.now →
    exec .calStaleEnter s = .next (raise 0x0705 [.h r.code] { s with cal := { s.cal with stale := true } })) ∧
  (∀ s : State, s.cal.due = none → exec .calStaleEnter s = .next s)

/-- R419, R424, R433 to R437: the dark phase begins 2 ms after the shutter reports closed; 2 ms after it reports open a completed run takes
its new set for the next frame with event 0x0702 and starts its store, and an aborted run only ends; a completed eMMC command of the
calibration store moves on, and the last one marks the copy stored with event 0x0706; loading ends with the newest good copy, or with
event 0x0709 and a calibration due when neither copy is good. -/
def Obligations.CalibrationRun : Prop :=
  (∀ s : State, s.cal.phase = .closing → s.ctg.shutClosed = true → s.ctg.shutCmd = true →
    max s.ctg.shutRepTb s.cal.stepTb + 500000 ≤ s.now →
    exec .calDarkBegin s = .next { s with cal := { s.cal with phase := .dark, frame := 0, rgLeft := calGroups, tileSums := [] } }) ∧
  (∀ s : State, s.cal.phase = .closing → s.now < max s.ctg.shutRepTb s.cal.stepTb + 500000 → exec .calDarkBegin s = .next s) ∧
  (∀ s : State, s.cal.phase = .opening → s.ctg.shutClosed = s.ctg.shutCmd → s.cal.aborted = true →
    max s.ctg.shutRepTb s.cal.stepTb + 500000 ≤ s.now →
    exec .calRunComplete s = .next { s with cal := { s.cal with phase := .idle, aborted := false } }) ∧
  (∀ s : State, s.cal.phase = .opening → s.ctg.shutClosed = s.ctg.shutCmd → s.cal.aborted = false →
    max s.ctg.shutRepTb s.cal.stepTb + 500000 ≤ s.now →
    ∃ t, exec .calRunComplete s = .next t ∧ t.cal.phase = .idle ∧ t.cal.next = some (measuredSet s, 3) ∧ t.cal.due = none ∧
      t.cal.suspect = false ∧ t.cal.abortsConsec = 0 ∧ getF t (evtField 0x0702) = 1 ∧ t.mem = s.mem ∧ t.rru = s.rru) ∧
  (∀ (s : State) (c : CalStore), storeRuns s .calibration = true → s.cal.store = some c → c.again = false → calRecordBytes ≤ c.done + 131072 →
    ∃ t, exec (.emmcCommandComplete true) s = .next t ∧ t.cal.store = none ∧ t.cal.copies = s.cal.copies.set c.copy (some c.set) ∧
      getF t (evtField 0x0706) = 1 ∧ t.mem = s.mem) ∧
  (∀ (s : State) (c : CalStore), storeRuns s .calibration = true → s.cal.store = some c → c.again = false → c.done + 131072 < calRecordBytes →
    exec (.emmcCommandComplete true) s =
      .next (takeLease 5 7 ((endStore .calibration s).onCal fun x => { x with store := some { c with done := c.done + 131072 } }))) ∧
  (∀ (s : State) (k : Nat) (c : CalSet), s.cal.loading = true → newestCopy s = some (k, c) → s.cal.copies.all Option.isSome = true →
    s.cal.copies.length = 2 →
    exec (.calLoadComplete true true) s = .next { s with cal := { s.cal with loading := false, next := some (c, k + 1) } }) ∧
  (∀ s : State, s.cal.loading = true → s.cal.copies = [none, none] → ∃ t, exec (.calLoadComplete true true) s = .next t ∧
    t.cal.loading = false ∧ t.cal.next = s.cal.next ∧ getF t (evtField 0x0709) = 1 ∧ t.mem = s.mem)

/-- R447 to R451, R457: a write of POS of at most 4 asks for a move when it differs from the position, and a larger one changes nothing and
logs event 0x080B; the slider in position starts to settle there, and has settled 2 ms later; a slider or a shutter that reports too late
is a fault with event 0x080A or 0x0809; the shutter that reports takes its commanded state; a write of SHUT drives it. -/
def Obligations.SliderAndShutter : Prop :=
  (∀ (s : State) (who : Initiator) (v : Word), busOpen s who = true → v.toNat % 8 ≤ 4 → s.ctg.moving = false →
    exec (.filterPosWrite who v) s = .next ((plainWrite A.CTG_FILTER v s).onCtg fun c => { c with moveReq := decide (v.toNat % 8 ≠ s.ctg.pos) })) ∧
  (∀ (s : State) (who : Initiator) (v : Word), busOpen s who = true → v.toNat % 8 ≤ 4 → s.ctg.moving = true →
    exec (.filterPosWrite who v) s = .next ((plainWrite A.CTG_FILTER v s).onCtg fun c => { c with moveReq := decide (v.toNat % 8 ≠ s.ctg.target) })) ∧
  (∀ (s : State) (who : Initiator) (v : Word), busOpen s who = true → 4 < v.toNat % 8 →
    exec (.filterPosWrite who v) s = .next (raise 0x080B [.h 0xC] s)) ∧
  (∀ s : State, s.ctg.moving = true → s.ctg.st = .ready → exec .sliderInPosition s = .next { s with ctg := { s.ctg with
    moving := false, settling := true, pos := s.ctg.target, inPosTb := s.now } }) ∧
  (∀ s : State, s.ctg.settling = true → s.ctg.inPosTb + 500000 ≤ s.now →
    exec .sliderSettled s = .next { s with ctg := { s.ctg with settling := false } }) ∧
  (∀ s : State, s.now < s.ctg.inPosTb + 500000 → exec .sliderSettled s = .next s) ∧
  (∀ s : State, s.ctg.st = .ready → s.ctg.moving = true → s.ctg.moveTb + moveLimit s ≤ s.now →
    exec .filterFault s = .next (abortRun .cartridge (raise 0x080A [.h s.ctg.target] (ctgFault s)))) ∧
  (∀ (s : State) (who : Initiator) (v : Word), busOpen s who = true → v.getLsbD 3 = false →
    exec (.shutWrite who v) s = .next (driveShutter (plainWrite A.CTG_CTRL v s))) ∧
  (∀ s : State, s.ctg.st = .ready → s.ctg.shutClosed ≠ s.ctg.shutCmd →
    exec .shutterReported s = .next { s with ctg := { s.ctg with shutClosed := s.ctg.shutCmd, shutRepTb := s.now } }) ∧
  (∀ s : State, s.ctg.shutClosed = s.ctg.shutCmd → exec .shutterReported s = .next s) ∧
  (∀ s : State, s.ctg.st = .ready → s.ctg.shutClosed ≠ s.ctg.shutCmd → s.ctg.shutTb + 6250000 ≤ s.now →
    exec .shutterFault s = .next (abortRun .shutter (raise 0x0809 [.h (bit s.ctg.shutCmd)] (ctgFault s))))

/-- R455 to R466: a cartridge whose contact has held is taken up with event 0x0801 when firmware runs; its identity memory, when good, leads
to authentication with a challenge that the spec does not fix (log entry 4); a signature or certificate that does not verify, or no
answer within 100 ms, rejects it with event 0x0804; valid ones start the homing, which faults after 500 ms (the dates are skipped while
the time of day is not known, log entry 80); RETRY reads it again, and keeps the counters of a cartridge in FAULT. -/
def Obligations.CartridgeAuthentication : Prop :=
  (∀ s : State, s.ctg.contact = false → s.ctg.st = .absent → s.head.fwReady = true → s.sup.dieDown = false → asleep s = false →
    exec .ctgInserted s = .next (startReading (raise 0x0801 [] { s with ctg := { s.ctg with contact := true } }))) ∧
  (∀ s : State, s.ctg.st ≠ .absent → s.sup.dieDown = false → asleep s = false →
    exec .ctgRemoved s = .next (abortRun .cartridge (removeCartridge { s with ctg := { s.ctg with contact := false } }))) ∧
  (∀ (s : State) (mem : List (Nat × Byte)), s.ctg.st = .reading → badRegion (Mem.normal erased mem) = none →
    ∃ t, exec (.ctgReadComplete mem) s = .next t ∧ t.ctg.st = .auth ∧
      t.ctg.mem = Mem.normal erased mem ∧ t.ctg.id = ctgIdOf (Mem.normal erased mem) ∧ t.ctg.challenge = Config.freeValue s.freeCount ∧
      t.freeCount = s.freeCount + 1 ∧ t.rru = s.rru ∧ t.mem = s.mem ∧
      (if ctgCrcOk (Mem.normal erased mem) 0x1000 0xFFC then t.regs = s.regs ∧ t.ctg.specBad = s.ctg.specBad else t.ctg.specBad = true)) ∧
  (∀ (s : State) (ok : Bool), s.ctg.st = .auth → s.now ≤ s.ctg.stepTb + 25000000 →
    exec (.ctgAuthReply false ok) s = .next (authFail 0 s)) ∧
  (∀ (s : State) (c ok : Bool), s.ctg.st = .auth → s.ctg.stepTb + 25000000 < s.now → exec (.ctgAuthReply c ok) s = .next (authFail 3 s)) ∧
  (∀ (s : State) (ok : Bool), s.ctg.st = .auth → s.now ≤ s.ctg.stepTb + 25000000 → s.tmb.todState = .locked →
    todDays s < s.ctg.id.validFrom ∨ s.ctg.id.validTo < todDays s → exec (.ctgAuthReply true ok) s = .next (authFail 1 s)) ∧
  (∀ s : State, s.ctg.st = .auth → s.now ≤ s.ctg.stepTb + 25000000 → (s.tmb.todState = .free ∨ s.ctg.id.validFrom ≤ todDays s ∧ todDays s ≤ s.ctg.id.validTo) →
    exec (.ctgAuthReply true false) s = .next (authFail 2 s)) ∧
  (∀ s : State, s.ctg.st = .auth → s.now ≤ s.ctg.stepTb + 25000000 → s.tmb.todState = .locked → s.ctg.id.validFrom ≤ todDays s → todDays s ≤ s.ctg.id.validTo →
    exec (.ctgAuthReply true true) s = .next (startHoming { s with ctg := { s.ctg with dateUnchecked := false } })) ∧
  (∀ s : State, s.ctg.st = .auth → s.now ≤ s.ctg.stepTb + 25000000 → s.tmb.todState = .free →
    exec (.ctgAuthReply true true) s = .next (startHoming { s with ctg := { s.ctg with dateUnchecked := true } })) ∧
  (∀ s : State, s.ctg.st = .auth → s.ctg.stepTb + 25000000 ≤ s.now → ∃ t, exec .ctgAuthTimeout s = .next t ∧ t.ctg.st = .rejected ∧
    getF t (evtField 0x0804) = 1 ∧ t.mem = s.mem ∧ t.rru = s.rru) ∧
  (∀ s : State, s.ctg.st = .homing → s.ctg.stepTb + 125000000 ≤ s.now →
    exec .ctgHomingTimeout s = .next (raise 0x080A [.h s.ctg.target] (ctgFault s))) ∧
  (∀ (s : State) (who : Initiator) (v : Word), busOpen s who = true → v.getLsbD 3 = true →
    exec (.ctgRetry who v) s = .next (retryCartridge (driveShutter (plainWrite A.CTG_CTRL v s)))) ∧
  (∀ s : State, s.ctg.contact = true → s.ctg.st = .rejected ∨ s.ctg.st = .fault → retryCartridge s = startReading (rememberCartridge s))

/-- R463, R472 to R474: a due checkpoint in READY asks for its store; an accepted one keeps the counters that were sent as the stored ones and
moves the sequence on; a refused one raises the counters to the stored ones and asks again; a read of CTG_MEM_DATA adds 4 to the address. -/
def Obligations.CartridgeCheckpoints : Prop :=
  (∀ s : State, s.ctg.st = .ready → checkpointDue s = true → s.pwr.pf = .normal → s.sup.coreDown = false → s.head.coreRestart = false → leaseOpen s 6 8 = true →
    exec .ctgCheckpointDue s = .next (askStore .checkpoint .checkpoint (takeLease 6 8 s))) ∧
  (∀ s : State, checkpointDue s = false → exec .ctgCheckpointDue s = .next s) ∧
  (∀ (s : State) (stored : List Nat), storeRuns s .checkpoint = true → ∃ t, exec (.ctgCheckpointReply true stored) s = .next t ∧
    t.ctg.stored = s.ctg.ckptSent ∧ t.ctg.counters = s.ctg.counters ∧ t.ctg.sequence = s.ctg.sequence + 1 ∧ t.ctg.ckptTb = s.now ∧
    t.ctg.ckptRetry = none ∧ t.mem = s.mem ∧ t.rru = s.rru) ∧
  (∀ (s : State) (stored : List Nat), storeRuns s .checkpoint = true →
    (∀ n, n < 7 → stored.getD n 0 ≤ s.ctg.ckptSent.getD n 0) → exec (.ctgCheckpointReply false stored) s =
      .next (askCheckpoint ((endStore .checkpoint s).onCtg fun c => { c with counters := c.counters.mapIdx fun n v => max v (stored.getD n 0) }))) ∧
  (∀ (s : State) (who : Initiator), busOpen s who = true →
    exec (.ctgMemDataRead who) s = .next (setF R.CTG_MEM_ADDR_A (getF s R.CTG_MEM_ADDR_A + 4) s))

/-- R516, R519, R533 to R535: in its slot a running thread executes the legal word at its PC, has its effect, goes to the next word when
that is in its group's range, and executes again after the word's delay: NOP has none, IN shifts bits into the shifter, OUT shifts them out
to its destination, MOV writes its function of the source, SET its value. Outside its slot nothing happens. -/
def Obligations.ThreadComputation : Prop :=
  (∀ (s : State) (e : Fin 4) (t : Fin 16) (w : Nat), threadWord s e t = w → maySlot s e t .run = true →
    legalWord (jumpRich s e) w = true →
    (opOf w = 0 → exec (.instrNop e t) s = .next (finishSlot e t w .next s)) ∧
    (opOf w = 3 → exec (.instrIn e t) s = .next (finishSlot e t w .next (modThread e t (fun _ => shiftIn (getThread s e t)
      (operand w 0 5 + 1) (inSource s e t (slotCycle s t) (getThread s e t) (operand w 7 2))) s))) ∧
    (opOf w = 4 → exec (.instrOut e t) s = .next (finishSlot e t w .next (outOp e t w s))) ∧
    (opOf w = 7 → exec (.instrMov e t) s = .next (finishSlot e t w .next (movDest e t (operand w 6 3) (movFn (operand w 0 3)
      (BitVec.ofNat 32 (movSource s e t (slotCycle s t) (getThread s e t) (operand w 3 3)))) s))) ∧
    (opOf w = 8 → exec (.instrSet e t) s = .next (finishSlot e t w .next (setOp e t w s)))) ∧
  (∀ (s : State) (e : Fin 4) (t : Fin 16) (w : Nat), inRange s e (threadGroup s e t) ((getThread s e t).pc + 1).toNat = true →
    e.val < s.tge.engines.length → t.val < (getEngine s e).threads.length →
    getThread (finishSlot e t w .next s) e t =
      { getThread s e t with st := .run, pc := (getThread s e t).pc + 1, ready := s.now + 8 * (delayOf w + 1) } ∧
    (∀ i, i ≠ t.val → getThread (finishSlot e t w .next s) e i = getThread s e i) ∧
    (∀ k, k ≠ e.val → getEngine (finishSlot e t w .next s) k = getEngine s k)) ∧
  (∀ (s : State) (e : Fin 4) (t : Fin 16), s.now % 8 ≠ t.val / 2 → exec (.instrNop e t) s = .next s ∧ exec (.instrIn e t) s = .next s ∧
    exec (.instrOut e t) s = .next s ∧ exec (.instrMov e t) s = .next s ∧ exec (.instrSet e t) s = .next s)

/-- R533, R536 to R538: a JMP whose condition holds goes to the displaced PC, else to the next word; a WAIT whose condition holds goes on
and clears the IRQ that it awaited, else the thread waits and goes on when it holds; a PUSH to a full FIFO and a PULL of an empty one
block unless the word says otherwise, and go on when there is room or a word. -/
def Obligations.ThreadFlow : Prop :=
  (∀ (s : State) (e : Fin 4) (t : Fin 16) (w : Nat), threadWord s e t = w → maySlot s e t .run = true →
    legalWord (jumpRich s e) w = true → opOf w = 1 → operand w 6 3 = 0 → e.val < s.tge.engines.length →
    t.val < (getEngine s e).threads.length →
    exec (.instrJmp e t) s = .next (finishSlot e t w (.jump (operand w 0 6)) (modThread e t (fun _ => getThread s e t) s))) ∧
  (∀ (s : State) (e : Fin 4) (t : Fin 16) (w d : Nat), inRange s e (threadGroup s e t) (displaced ((getThread s e t).pc + 1) d).toNat = true →
    e.val < s.tge.engines.length → t.val < (getEngine s e).threads.length → getThread (finishSlot e t w (.jump d) s) e t =
      { getThread s e t with st := .run, pc := displaced ((getThread s e t).pc + 1) d, ready := s.now + 8 * (delayOf w + 1) }) ∧
  (∀ (s : State) (e : Fin 4) (t : Fin 16) (w : Nat), threadWord s e t = w → maySlot s e t .run = true →
    legalWord (jumpRich s e) w = true → opOf w = 2 →
    (waitHolds s e t w (slotCycle s t) = true → exec (.instrWait e t) s = .next (finishSlot e t w .next (waitProceeds e w s))) ∧
    (waitHolds s e t w (slotCycle s t) = false →
      exec (.instrWait e t) s = .next (modThread e t (fun x => { x with st := .wait, ready := s.now + 8 }) s))) ∧
  (∀ (s : State) (e : Fin 4) (t : Fin 16) (w : Nat), threadWord s e t = w → maySlot s e t .wait = true → opOf w = 2 →
    (waitHolds s e t w (slotCycle s t) = true → exec (.waitProceed e t) s = .next (finishSlot e t w .next (waitProceeds e w s))) ∧
    (waitHolds s e t w (slotCycle s t) = false → exec (.waitProceed e t) s = .next s)) ∧
  (∀ (s : State) (e : Fin 4) (t : Fin 16) (w : Nat), threadWord s e t = w → maySlot s e t .run = true →
    legalWord (jumpRich s e) w = true → opOf w = 5 →
    ((getThread s e t).rxf.length < 4 → exec (.instrPush e t) s = .next (finishSlot e t w .next (pushWord e t w s).2)) ∧
    (4 ≤ (getThread s e t).rxf.length → operand w 7 1 = 0 →
      exec (.instrPush e t) s = .next (modThread e t (fun x => { x with st := .blocked, ready := s.now + 8 }) s))) ∧
  (∀ (s : State) (e : Fin 4) (t : Fin 16) (w : Nat), threadWord s e t = w → maySlot s e t .run = true →
    legalWord (jumpRich s e) w = true → opOf w = 6 →
    (∀ v l, (getThread s e t).txf = v :: l → exec (.instrPull e t) s =
      .next (finishSlot e t w .next (modThread e t (fun _ => { getThread s e t with sh := v, shCount := 32, txf := l }) s))) ∧
    ((getThread s e t).txf = [] → operand w 7 1 = 0 →
      exec (.instrPull e t) s = .next (modThread e t (fun x => { x with st := .blocked, ready := s.now + 8 }) s))) ∧
  (∀ (s : State) (e : Fin 4) (t : Fin 16) (w : Nat), threadWord s e t = w → maySlot s e t .blocked = true →
    (opOf w = 5 → (getThread s e t).rxf.length < 4 → exec (.pushResume e t) s = .next (finishSlot e t w .next (pushWord e t w s).2)) ∧
    (opOf w = 5 → 4 ≤ (getThread s e t).rxf.length → operand w 7 1 = 0 → exec (.pushResume e t) s = .next s) ∧
    (opOf w = 6 → (getThread s e t).txf ≠ [] → exec (.pullResume e t) s = .next (finishSlot e t w .next (pullWord e t w s).2)) ∧
    (opOf w = 6 → (getThread s e t).txf = [] → operand w 7 1 = 0 → exec (.pullResume e t) s = .next s)) ∧
  (∀ (s : State) (e : Fin 4) (t : Fin 16) (w : Nat), (getThread s e t).rxf.length < 4 → e.val < s.tge.engines.length →
    t.val < (getEngine s e).threads.length → (getThread (pushWord e t w s).2 e t).rxf = (getThread s e t).rxf ++ [(getThread s e t).sh])

/-- R530, R533, R548, R549: FLAG marks its flag to be set, cleared or toggled in the thread's engine cycle; IRQ sets a local IRQ, sets it and
sends an event, requests the injected sequence, or clears it. Each then goes on with the next word. A write of TGE_FLAG_SET or
TGE_FLAG_CLR marks the flags of its word. -/
def Obligations.FlagsAndIrqs : Prop :=
  (∀ (s : State) (e : Fin 4) (t : Fin 16) (w : Nat), threadWord s e t = w → maySlot s e t .run = true →
    legalWord (jumpRich s e) w = true → opOf w = 9 →
    (operand w 7 2 = 1 → exec (.flagSet e t) s = .next (finishSlot e t w .next (threadFlag 1 (operand w 0 7) (slotCycle s t) s))) ∧
    (operand w 7 2 = 2 → exec (.flagClear e t) s = .next (finishSlot e t w .next (threadFlag 2 (operand w 0 7) (slotCycle s t) s))) ∧
    (operand w 7 2 = 3 → exec (.flagToggle e t) s = .next (finishSlot e t w .next (threadFlag 3 (operand w 0 7) (slotCycle s t) s)))) ∧
  (∀ (s : State) (f c : Nat), (threadFlag 1 f c s).tge.fSet = (openCycle c s).tge.fSet ||| (1#128 <<< f) ∧
    (threadFlag 2 f c s).tge.fClr = (openCycle c s).tge.fClr ||| (1#128 <<< f) ∧
    (threadFlag 3 f c s).tge.fTog = (openCycle c s).tge.fTog ^^^ (1#128 <<< f)) ∧
  (∀ (s : State) (e : Fin 4) (t : Fin 16) (w : Nat), threadWord s e t = w → maySlot s e t .run = true →
    legalWord (jumpRich s e) w = true → opOf w = 10 →
    (operand w 7 2 = 0 → exec (.irqSet e t) s =
      .next (finishSlot e t w .next (modEngine e (fun x => { x with irq := x.irq ||| (1#8 <<< operand w 0 3) }) s))) ∧
    (operand w 7 2 = 1 → exec (.irqSetEvent e t) s = .next (finishSlot e t w .next (threadEvent e t (operand w 0 3)
      (modEngine e (fun x => { x with irq := x.irq ||| (1#8 <<< operand w 0 3) }) s)))) ∧
    (operand w 7 2 = 2 → exec (.irqTrackerRequest e t) s = .next (finishSlot e t w .next (doInjectedTrigger (.engine e) s))) ∧
    (operand w 7 2 = 3 → exec (.irqClear e t) s =
      .next (finishSlot e t w .next (modEngine e (fun x => { x with irq := x.irq &&& ~~~(1#8 <<< operand w 0 3) }) s)))) ∧
  (∀ (s : State) (who : Initiator) (w : Fin 4) (v : Word), busOpen s who = true →
    exec (.tgeFlagSetWrite who w v) s = .next (stewardFlags false (v.setWidth 128 <<< (32 * w.val)) s) ∧
    exec (.tgeFlagClrWrite who w v) s = .next (stewardFlags true (v.setWidth 128 <<< (32 * w.val)) s)) ∧
  (∀ (s : State) (m : BitVec 128), (stewardFlags false m s).tge.wSet = (openCycle (2 * s.now) s).tge.wSet ||| m ∧
    (stewardFlags true m s).tge.wClr = (openCycle (2 * s.now) s).tge.wClr ||| m)

/-- R526, R541 to R547: a write of TGE_ENG_INJ with a legal word for a thread that is on takes the injection, and an illegal word refuses it
with event 0x0A05; the injection executes in the thread's next slot; a stall condition that has held for 1,024 cycles is declared with event
0x0A01 and has its response; a write of TGE_THR_TXF appends a word or, at 4 words, logs event 0x0A07; a read of TGE_THR_RXF drops the
oldest word; a level change of a pin is seen. -/
def Obligations.InjectionStallAndFifos : Prop :=
  (∀ (s : State) (who : Initiator) (e : Fin 4) (v : Word), busOpen s who = true → legalWord (jumpRich s e) (v.toNat % 65536) = true →
    (getThread s e (v.toNat / 65536 % 16)).st ≠ .off → (getThread s e (v.toNat / 65536 % 16)).st ≠ .halted → (getEngine s e).inj = none →
    exec (.engInjWrite who e v) s = .next (modEngine e
      (fun x => { x with inj := some (v.toNat / 65536 % 16, BitVec.ofNat 16 (v.toNat % 65536)), injResult := 0 }) s)) ∧
  (∀ (s : State) (who : Initiator) (e : Fin 4) (v : Word), busOpen s who = true → legalWord (jumpRich s e) (v.toNat % 65536) = false →
    exec (.engInjWrite who e v) s = .next (raise 0x0A05 [.h e, .h (v.toNat / 65536 % 16), .h 0]
      (modEngine e (fun x => { x with injResult := 3 }) s))) ∧
  (∀ (s : State) (e : Fin 4) (t : Nat) (w : BitVec 16), (getEngine s e).inj = some (t, w) → slotOpen s t = true → opOf w.toNat = 0 →
    exec (.injectionExecute e) s = .next (modThread e t (fun x => { x with ready := max x.ready (s.now + 8) })
      (modEngine e (fun x => { x with inj := none, injResult := 1 }) s))) ∧
  (∀ (s : State) (e : Fin 4), (getEngine s e).inj = none → exec (.injectionExecute e) s = .next s) ∧
  (∀ (s : State) (e : Fin 4) (t : Nat) (w : BitVec 16), (getEngine s e).inj = some (t, w) → slotOpen s t = false →
    exec (.injectionExecute e) s = .next s) ∧
  (∀ (s : State) (e : Fin 4) (t : Nat), (getEngine s e).stallFrom = some t → (getEngine s e).stalled = false → t + 512 ≤ s.now →
    exec (.stall e) s = .next (respondStuck 3 e (stallResponse e (declareStuck 3 e (addF (R.TGE_ENG_CNT_STALLS e) 1
      (raise 0x0A01 [.h e, .h ((List.range 16).filter fun t => (getThread s e t).st == .wait).length]
        (modEngine e (fun x => { x with stalled := true }) s))))))) ∧
  (∀ (s : State) (e : Fin 4) (t : Nat), (getEngine s e).stallFrom = some t → s.now < t + 512 → exec (.stall e) s = .next s) ∧
  (∀ (s : State) (who : Initiator) (e : Fin 4) (t : Fin 16) (v : Word), busOpen s who = true → (getThread s e t).txf.length < 4 →
    exec (.tgeThrTxfWrite who e t v) s = .next (modThread e t (fun x => { x with txf := x.txf ++ [v] }) s)) ∧
  (∀ (s : State) (who : Initiator) (e : Fin 4) (t : Fin 16) (v : Word), busOpen s who = true → 4 ≤ (getThread s e t).txf.length →
    exec (.tgeThrTxfWrite who e t v) s = .next (raise 0x0A07 [.h e, .h t] s)) ∧
  (∀ (s : State) (who : Initiator) (e : Fin 4) (t : Fin 16), busOpen s who = true →
    exec (.tgeThrRxfRead who e t) s = .next (modThread e t (fun x => { x with rxf := x.rxf.drop 1 }) s)) ∧
  (∀ (s : State) (pin : Fin 20) (level : Bool), exec (.trgInputChange pin level) s =
    .next { s with tge := { s.tge with inLevel := setLine s.tge.inLevel pin level } })

/-- R486 to R494, R499, R858: a step of the sequencer ends 25 TB after it started and not before; the 100 ms rotation hands the position with
the oldest calibration to a READY spare; a good calibration of a slice makes it READY at its TB and a bad one FAULTY with event 0x0901; a
reference settles for 2 ms; a regular sequence that has not passed for 10 ms is starved with event 0x0908. -/
def Obligations.TrackerSlices : Prop :=
  (∀ (s : State) (p0 p1 p2 p3 : Option (BitVec 16)) (k : Nat), s.now < s.trc.stepTb + 25 →
    exec (.trackerStepComplete p0 p1 p2 p3 k) s = .next s) ∧
  (∀ (s : State) (p0 p1 p2 p3 : Option (BitVec 16)) (k : Nat), s.trc.injStep = none →
    exec (.trackerStepComplete p0 p1 p2 p3 k) s = .next (trackerStep p0 p1 p2 p3 k s)) ∧
  (∀ (s : State) (a b sp : Nat), s.trc.run = true → s.trc.rotTb + 25000000 ≤ s.now → s.trc.spare = some sp → (s.trc.slices.getD sp {}).st = .ready → s.trc.handover = none →
    s.trc.positions = [some a, some b, none, none] → (s.trc.slices.getD b {}).calTb < (s.trc.slices.getD a {}).calTb →
    exec .sliceRotation s = .next { s with trc := { s.trc with rotTb := s.now, handover := some (1, sp) } }) ∧
  (∀ s : State, s.trc.run = true → s.trc.rotTb + 25000000 ≤ s.now → s.trc.spare = none →
    exec .sliceRotation s = .next { s with trc := { s.trc with rotTb := s.now } }) ∧
  (∀ s : State, s.now < s.trc.rotTb + 25000000 → exec .sliceRotation s = .next s) ∧
  (∀ (s : State) (n : Fin 5) (offset gain : Int) (mv : Nat), (s.trc.slices.getD n {}).st = .calibrating → s.trc.run = true →
    (s.trc.slices.getD n {}).startTb + 500000 ≤ s.now → offset.natAbs ≤ 8 → gain.natAbs ≤ 1000 → s.trc.refActive = 0 →
    exec (.sliceCalComplete n offset gain mv) s =
      .next { s with trc := { s.trc with slices := s.trc.slices.modify n fun y => { y with st := .ready, calTb := s.now } } }) ∧
  (∀ (s : State) (n : Fin 5) (offset gain : Int) (mv : Nat), (s.trc.slices.getD n {}).st = .calibrating → s.trc.run = true →
    (s.trc.slices.getD n {}).startTb + 500000 ≤ s.now → 8 < offset.natAbs ∨ 1000 < gain.natAbs → s.trc.refActive = 0 →
    exec (.sliceCalComplete n offset gain mv) s = .next (noSpareLeft (raise 0x0901 [.h n, .h (signed16 offset), .h (signed16 gain)]
      { s with trc := { s.trc with slices := s.trc.slices.modify n (fun y => { y with st := .faulty }), spare := none, handover := none } }))) ∧
  (∀ (s : State) (t : Nat), s.trc.settling = some t → t + 500000 ≤ s.now → ∃ u, exec .refSettlingEnd s = .next u ∧
    u.trc = { s.trc with settling := none } ∧ u.mem = s.mem ∧ u.regs = s.regs ∧ u.rru = s.rru) ∧
  (∀ (s : State) (t : Nat), s.trc.settling = some t → s.now < t + 500000 → exec .refSettlingEnd s = .next s) ∧
  (∀ s : State, s.trc.run = true → s.trc.starved = false → s.trc.passTb + 2500000 ≤ s.now →
    exec .regStarved s = .next (respondStuck 4 0 (declareStuck 4 0 (accrueAccs (raise 0x0908 [.w ((s.now - s.trc.passTb) / 250)]
      { s with trc := { s.trc with starved := true, injHeld := true } })))))

/-- R491, R496, R497, R501, R643, R819: a trigger whose condition does not hold has no effect, one that finds an injected run in progress and
none pending is pended and counted, and one in the tick of the run's own trigger merges; a dropped energy request is repeated 1 µs later; a
TIME window that has lasted closes and the next opens where it ends; a partial TRACK packet is flushed 1 ms after its first record; a write
of TRC_CTRL selects the reference. -/
def Obligations.TriggersAndWindows : Prop :=
  (∀ (s : State) (t : InjTrigger), triggerOpen s t = false → exec (.injectedTrigger t) s = .next s) ∧
  (∀ (s : State) (t : InjTrigger) (k : Nat) (x : InjTrigger × Nat), triggerOpen s t = true → t ≠ .energy → s.trc.run = true →
    s.trc.injStep = some k → s.trc.injTrig = some x → x.2 ≠ s.now → s.trc.pending = none → s.trc.stepTb < s.now → s.now < s.trc.stepTb + 25 →
    exec (.injectedTrigger t) s = .next (addF R.TRC_CNT2_PENDED 1 { s with trc := { s.trc with pending := some (t, s.now) } })) ∧
  (∀ (s : State) (t : InjTrigger) (k : Nat) (x : InjTrigger × Nat), triggerOpen s t = true → t ≠ .energy → s.trc.run = true →
    s.trc.injStep = some k → s.trc.injTrig = some x → x.2 = s.now → exec (.injectedTrigger t) s = .next s) ∧
  (∀ (s : State) (t : Nat), s.trc.energyDrop = some t → t + 250 ≤ s.now →
    exec .energyRequestRepeat s = .next (doInjectedTrigger .energy { s with trc := { s.trc with energyDrop := none } })) ∧
  (∀ (s : State) (a : Fin 256), a.val < 244 → (getAcc s a).openW = true → getF s (R.TRC_ACC_CFG_MODE a) = 0 →
    (getAcc s a).firstTb + (getF s (R.TRC_ACC_LEN a) + 1) * 250 ≤ s.now → exec (.accTimeWindowClose a) s =
      .next (openAcc a ((getAcc s a).firstTb + (getF s (R.TRC_ACC_LEN a) + 1) * 250) (closeAcc a 0 s))) ∧
  (∀ (s : State) (a : Fin 256), (getAcc s a).openW = false → exec (.accTimeWindowClose a) s = .next s) ∧
  (∀ (s : State) (sid : Nat) (b : TrackBuf), (getStream s sid).track = some b → b.firstTb + 250000 ≤ s.now →
    exec (.trackFlushTimeout sid) s = .next (flushTrack sid s)) ∧
  (∀ (s : State) (sid : Nat), (getStream s sid).track = none → exec (.trackFlushTimeout sid) s = .next s) ∧
  (∀ (s : State) (who : Initiator) (v : Word), busOpen s who = true → trcRangeOk s A.TRC_CTRL v = true →
    exec (.refSelWrite who v) s = .next (writeTrcCtrl A.TRC_CTRL v s))

/-- R711 to R713, R719 to R722: the operations of an open session that is served and owes no answer. READ of 1 to 4 defined words and BULK
read of 1 to 1,024 that fit the MTU answer them in order; WRITE, RMW and BULK write act on the bus and answer; a count of 0 words and an
undefined address are answered RANGE (3) and change nothing but the reply; a write to the fuse block is answered DENIED (8) and one to a
register whose fields are read-only LOCKED (9); NOP answers OK; CLOSE answers OK and ends the session. -/
def Obligations.SessionRegisterOperations : Prop :=
  ∀ (s : State) (n : Fin 4), (getSession s n).opened = true → served s 4 = true → (getSession s n).busy = none →
  (∀ (a c : Nat), 1 ≤ c → c ≤ 4 → 40 + 4 * c ≤ (getSession s n).mtu - (getSession s n).overhead → badAddress (addresses false a c) = none →
    exec (.read n a c) s = .next (answerSession n (getSession (readWords (.lcp n) (addresses false a c) s).2 n).cur
      ⟨0, 0, (readWords (.lcp n) (addresses false a c) s).1⟩ (readWords (.lcp n) (addresses false a c) s).2)) ∧
  (∀ a : Nat, exec (.read n a 0) s = .next (answerSession n (getSession s n).cur ⟨3, 0, []⟩ s)) ∧
  (∀ (fixed : Bool) (a c : Nat), 1 ≤ c → c ≤ 1024 → 40 + 4 * c ≤ (getSession s n).mtu - (getSession s n).overhead →
    badAddress (addresses fixed a c) = none →
    exec (.bulkRead n fixed a c) s = .next (answerSession n (getSession (readWords (.lcp n) (addresses fixed a c) s).2 n).cur
      ⟨0, 0, (readWords (.lcp n) (addresses fixed a c) s).1⟩ (readWords (.lcp n) (addresses fixed a c) s).2)) ∧
  (∀ (a : Nat) (v : Word), wordDefined a = true → a / 0x10000 ≠ 0xE → accessRefused s a = false →
    exec (.write n a v) s = .next (answerSession n (getSession (busWrite (.lcp n) a v s).2 n).cur
      (writeAnswer (busWrite (.lcp n) a v s).1) (busWrite (.lcp n) a v s).2)) ∧
  (∀ (a : Nat) (v : Word), wordDefined a = false → exec (.write n a v) s = .next (answerSession n (getSession s n).cur ⟨3, 0, []⟩ s)) ∧
  (∀ (a : Nat) (v : Word), wordDefined a = true → a / 0x10000 = 0xE →
    exec (.write n a v) s = .next (answerSession n (getSession s n).cur ⟨8, 0, []⟩ s)) ∧
  (∀ (a : Nat) (v : Word), wordDefined a = true → a / 0x10000 ≠ 0xE → accessRefused s a = true →
    exec (.write n a v) s = .next (answerSession n (getSession s n).cur ⟨9, 0, []⟩ s)) ∧
  (∀ (a : Nat) (mask v : Word), wordDefined a = true → v &&& ~~~mask = 0 → a / 0x10000 ≠ 0xE →
    ((fieldsAt a).any fun d => d.acc == .rc) = false → accessRefused s a = false →
    let old := (busRead (.lcp n) a s).1
    let r := busWrite (.lcp n) a (rmwWord a mask v old) (busRead (.lcp n) a s).2
    exec (.rmw n a mask v) s = .next (answerSession n (getSession r.2 n).cur
      (if (writeAnswer r.1).status = 0 then ⟨0, 0, [old, rmwWord a mask v old]⟩ else writeAnswer r.1) r.2)) ∧
  (∀ (fixed : Bool) (a : Nat) (l : List Word), 1 ≤ l.length → l.length ≤ 1024 → badAddress (addresses fixed a l.length) = none →
    exec (.bulkWrite n fixed a l) s = .next (answerSession n
      (getSession (writeWords (.lcp n) ((addresses fixed a l.length).zip l) 0 s).2 n).cur
      (writeWords (.lcp n) ((addresses fixed a l.length).zip l) 0 s).1 (writeWords (.lcp n) ((addresses fixed a l.length).zip l) 0 s).2)) ∧
  (exec (.nop n) s = .next (answerSession n (getSession s n).cur .ok s)) ∧
  (∃ t, exec (.close n) s = .next t ∧ t = endSession 0 n (answerSession n (getSession s n).cur .ok s) ∧ (getSession t n).opened = false)

/-- R701 to R709, R724: a good INIT opens the lowest free session with a key and a salt that depend on free values (log entry 4) and event
0x1231, an INIT that fails a check logs event 0x1232, and one without a free session is refused; a new REQ of an open session with a good
tag is kept and runs; a bad tag is dropped and counted; a session ends TIMEOUT after its last request; the entries of a session leave 10 ms
after the first. -/
def Obligations.SessionsOpenAndEnd : Prop :=
  (∀ (s : State) (port : Fin 5) (v6 : Bool) (key : List Byte) (nonce : BitVec 128) (mtu flags sev : Nat) (serial : BitVec 64),
    served s port = true → initFault s key true mtu flags sev serial = none → s.head.coreRestart = false →
    (getSession s 0).opened = false → s.lcp.sessions.length = 4 →
    ∃ t, exec (.init port v6 true key true nonce mtu flags sev serial) s = .next t ∧ (getSession t 0).opened = true ∧
      (getSession t 0).mtu = mtu ∧ (getSession t 0).port = port ∧ (getSession t 0).lastTb = s.now ∧ (∃ a, a.session = 0 ∧ t.lcp.accepts = some a :: s.lcp.accepts) ∧
      t.freeCount = s.freeCount + 7 ∧ getF t (evtField 0x1231) = 1 ∧ t.mem = s.mem ∧ t.rru = s.rru) ∧
  (∀ (s : State) (port : Fin 5) (v6 sig : Bool) (key : List Byte) (nonce : BitVec 128) (mtu flags sev c : Nat) (serial : BitVec 64),
    served s port = true → initFault s key sig mtu flags sev serial = some c →
    exec (.init port v6 true key sig nonce mtu flags sev serial) s = .next (raise 0x1232 [.h c] s)) ∧
  (∀ (s : State) (port : Fin 5) (v6 : Bool) (key : List Byte) (nonce : BitVec 128) (mtu flags sev : Nat) (serial : BitVec 64),
    served s port = true → initFault s key true mtu flags sev serial = none → (∀ n, n < 4 → (getSession s n).opened = true) →
    exec (.init port v6 true key true nonce mtu flags sev serial) s = .next (s.onLcp fun l => { l with accepts := none :: l.accepts })) ∧
  (∀ (s : State) (n : Fin 4) (port : Fin 5) (req : BitVec 64) (op : LcpOp), served s port = true → (getSession s n).opened = true →
    (getSession s n).busy = none → (getSession s n).lastReq < req →
    exec (.stewardReq n port true true req op) s = .next (runRequest n op (touchChange n (modSession n (fun x => { x with
      lastReq := req, lastTb := s.now, cache := ((req, op, none) :: x.cache).take 16
      waitq := if x.busy = none then x.waitq else x.waitq ++ [(req, op)], cur := if x.busy = none then req else x.cur }) s)))) ∧
  (∀ (s : State) (n : Fin 4) (port : Fin 5) (req : BitVec 64) (op : LcpOp), served s port = true →
    exec (.stewardReq n port true false req op) s = .next (authFailed n s) ∧
    exec (.stewardReq n port false true req op) s = .next (dropDatagram s)) ∧
  (∀ (s : State) (n : Fin 4), (getSession s n).opened = true →
    (getSession s n).lastTb + getF s R.CFG_LCP_TIMEOUT_TIMEOUT * second ≤ s.now → exec (.sessionTimeout n) s = .next (endSession 1 n s)) ∧
  (∀ (s : State) (n : Fin 4), (getSession s n).opened = true →
    s.now < (getSession s n).lastTb + getF s R.CFG_LCP_TIMEOUT_TIMEOUT * second → exec (.sessionTimeout n) s = .next s) ∧
  (∀ (s : State) (n : Fin 4), (getSession s n).opened = true → (getSession s n).evq ≠ [] → (getSession s n).evqTb + 2500000 ≤ s.now →
    eventsRun s = true → exec (.eventFlush n) s = .next (sendEvents n s))

/-- R578 to R583, R716, R819, R820: an IMAGE_WRITE opens on a free target with tombstones and erases queued and is answered OK, and answered
BUSY (1) while the target has one; data inside the declared size and the closing message wait for the controller and are answered
later, data outside it RANGE (10); an abort ends the sequence; a flash operation ends for its own controller; checks that wait retry after
10 ms and fail after 1 ms without a sample. -/
def Obligations.ImageWritesAndFlash : Prop :=
  (∀ (s : State) (n : Fin 4), (getSession s n).opened = true → served s 4 = true → (getSession s n).busy = none → s.head.coreRestart = false →
    (∀ (t : WriteTarget) (total : Nat), getWrite s (targetCtl t) = none → s.cfg.reading = none → s.cfg.keyUsable = true → totalOk t total = true →
      exec (.imageWriteOpen n t total) s =
        .next (answerSession n (getSession (imageOpen t total s).2 n).cur .ok (imageOpen t total s).2) ∧
      getWrite (imageOpen t total s).2 (targetCtl t) = if targetCtl t < s.cfg.writes.length then
        some { target := t, slot := targetSlot s (targetCtl t), total := total } else none) ∧
    (∀ (t : WriteTarget) (total : Nat), getWrite s (targetCtl t) ≠ none →
      exec (.imageWriteOpen n t total) s = .next (answerSession n (getSession s n).cur ⟨1, 0, []⟩ s)) ∧
    (∀ (t : WriteTarget) (ofs : Nat) (data : List Byte) (w : ImageWrite), getWrite s (targetCtl t) = some w → w.asker = none →
      ofs + data.length ≤ w.total → exec (.imageWriteData n t ofs data) s = .next (deferAnswer n (setWrite (targetCtl t)
        (some { w with data := some (ofs, data), started := false, asker := some (currentReq s n) }) s))) ∧
    (∀ (t : WriteTarget) (ofs : Nat) (data : List Byte) (w : ImageWrite), getWrite s (targetCtl t) = some w → w.asker = none →
      w.total < ofs + data.length →
      exec (.imageWriteData n t ofs data) s = .next (answerSession n (getSession s n).cur ⟨0xA, 0, []⟩ s)) ∧
    (∀ (t : WriteTarget) (sig : Bool) (w : ImageWrite), getWrite s (targetCtl t) = some w → w.asker = none →
      exec (.imageWriteClose n t sig) s = .next (deferAnswer n (setWrite (targetCtl t)
        (some { w with closing := some sig, asker := some (currentReq s n) }) s))) ∧
    (∀ (t : WriteTarget) (w : ImageWrite), getWrite s (targetCtl t) = some w → w.asker = none →
      exec (.imageWriteAbort n t) s = .next (answerSession n
        (getSession (endSequence (targetCtl t) (setWrite (targetCtl t) none s)) n).cur .ok
        (endSequence (targetCtl t) (setWrite (targetCtl t) none s))))) ∧
  (∀ (s : State) (ok : Bool) (held : Option (List Byte)), storeRuns s .keyFlash = true →
    exec (.flashOperationComplete 1 ok held) s = .next (flashStepEnds 1 ok held s)) ∧
  (∀ (s : State) (ok : Bool) (held : Option (List Byte)), (∀ r ∈ s.pwr.running, norUser r.user = false) →
    exec (.flashOperationComplete 0 ok held) s = .next s) ∧
  (∀ s : State, exec .energyCheckRetry s = .next { s with pwr := { s.pwr with
    checking := s.pwr.checking ++ (s.pwr.waiting.filter (retryDue s)).map fun w => { w with last := s.now }
    waiting := s.pwr.waiting.filter fun w => !retryDue s w } }) ∧
  (∀ s : State, s.trc.settling = none →
    exec .energyCheckTimeout s = .next (forEach (s.pwr.checking.filter (checkExpired s)) failCheck s)) ∧
  (∀ s : State, s.trc.settling ≠ none → exec .energyCheckTimeout s = .next s)

/-- R597 to R605, R616: a STOP for a frame at least two ahead whose functions run opens the change set with the staging lease of its session;
one for an earlier frame is answered LATE (2), and in HOLD every message STATE (14); a STAGE without a set is answered STATE; a RESTART
before the stop frame's successor is answered LATE, one with DISCARD arms the set without its items, and one whose combined checks pass
arms the set; the copy's end is kept; the lease's expiry discards the set. -/
def Obligations.ChangeSet : Prop :=
  (∀ (s : State) (n : Fin 4) (ok : Bool) (f : Nat) (fns : List Nat), (getSession s n).opened = true →
    changeBarred (touchChange n s) = none → (touchChange n s).chg.st = .idle → (touchChange n s).rru.f + 2 ≤ f →
    f ≤ (touchChange n s).rru.f + 65536 → fns ≠ [] → fns.length ≤ 64 → fns.contains 0x4000 = false → stopFault (touchChange n s) fns = none →
    exec (.changeStop n ok f fns) s = .next (answerCurrent n .ok (openChange (0x80 + n) n false ok f fns (touchChange n s)))) ∧
  (∀ (s : State) (ok : Bool) (owner n f : Nat) (fns : List Nat), (openChange owner n false ok f fns s).chg.st = .stopping ∧
    (openChange owner n false ok f fns s).chg.fns = fns ∧ (openChange owner n false ok f fns s).chg.stopF = f ∧
    (openChange owner n false ok f fns s).chg.session = n) ∧
  (∀ (s : State) (n : Fin 4) (ok : Bool) (f : Nat) (fns : List Nat), (getSession s n).opened = true →
    changeBarred (touchChange n s) = none → (touchChange n s).chg.st = .idle → f < (touchChange n s).rru.f + 2 →
    exec (.changeStop n ok f fns) s = .next (answerCurrent n ⟨2, 0, []⟩ (touchChange n s))) ∧
  (∀ (s : State) (n : Fin 4) (ok d : Bool) (f : Nat) (fns : List Nat) (items : List ChgItem) (a : Answer), (getSession s n).opened = true →
    changeBarred (touchChange n s) = some a → exec (.changeStop n ok f fns) s = .next (answerCurrent n a (touchChange n s)) ∧
    exec (.changeStage n items) s = .next (answerCurrent n a (touchChange n s)) ∧
    exec (.changeRestart n d f) s = .next (answerCurrent n a (touchChange n s))) ∧
  (∀ s : State, s.head.coreRestart = false → s.head.st = .hold → changeBarred s = some ⟨0xE, 0, []⟩) ∧
  (∀ (s : State) (n : Fin 4) (items : List ChgItem), (getSession s n).opened = true → changeBarred (touchChange n s) = none →
    (touchChange n s).chg.st = .idle → (getLease s 7).former = none → exec (.changeStage n items) s = .next (answerCurrent n ⟨0xE, 0, []⟩ (touchChange n s))) ∧
  (∀ (s : State) (n : Fin 4) (items : List ChgItem), (getSession s n).opened = true → changeBarred (touchChange n s) = none →
    (touchChange n s).chg.st = .stopped → (touchChange n s).chg.mosaic = false → (touchChange n s).chg.session = n →
    stageFault (touchChange n s) items = none → (touchChange n s).chg.used + (items.map itemCost).sum ≤ 4194304 →
    ∃ t u, t = noteStaged (modChg (fun c => { c with items := c.items ++ items, used := c.used + (items.map itemCost).sum }) u) ∧
      u = touchChange n s ∧ exec (.changeStage n items) s = .next (answerCurrent n ⟨0, 0, [BitVec.ofNat 32 t.chg.used]⟩ t)) ∧
  (∀ (s : State) (n : Fin 4) (f : Nat), (getSession s n).opened = true → changeBarred (touchChange n s) = none →
    (touchChange n s).chg.st = .stopped → (touchChange n s).chg.session = n → (getLease (touchChange n s) 7).former = none →
    f < (touchChange n s).chg.stopF + 1 →
    exec (.changeRestart n false f) s = .next (answerCurrent n ⟨2, 0, []⟩ (touchChange n s))) ∧
  (∀ (s : State) (n : Fin 4) (f : Nat), (getSession s n).opened = true → changeBarred (touchChange n s) = none →
    (touchChange n s).chg.st = .stopped → (touchChange n s).chg.session = n → (getLease (touchChange n s) 7).former = none →
    (touchChange n s).chg.stopF + 1 ≤ f →
    exec (.changeRestart n true f) s = .next (raise 0x1227 [.h 0] (armChange true false f (some (currentReq (touchChange n s) n))
      ((touchChange n s).onChg fun c => { c with items := [], pend := [], kept := [], geoIdx := [], geoRegs := [], refs := [] })))) ∧
  (∀ (s : State) (n : Fin 4) (f : Nat), (getSession s n).opened = true → changeBarred (touchChange n s) = none →
    (touchChange n s).chg.st = .stopped → (touchChange n s).chg.session = n → (getLease (touchChange n s) 7).former = none →
    (touchChange n s).chg.stopF + 1 ≤ f → inChg (touchChange n s) 4 0 = false →
    chgCheck (touchChange n s) (chgScratch (touchChange n s) (chgItems (touchChange n s))) [] = none →
    exec (.changeRestart n false f) s = .next (armChange false false f (some (currentReq (touchChange n s) n))
      ((touchChange n s).onChg fun c => { c with laneStep := [] }))) ∧
  (∀ s : State, s.chg.st = .armed → exec .changeCopyComplete s = .next { s with chg := { s.chg with copied := true } }) ∧
  (∀ s : State, s.chg.st = .stopped → s.chg.mosaic = false → (getLease s 7).expires ≤ s.now →
    exec .changeLeaseExpired s = .next (changeRevoked (leaseRevoked 7 s))) ∧
  (∀ s : State, s.chg.st = .idle → exec .changeLeaseExpired s = .next s)

/-- R717, R728, R830 to R832, R862, R866: HEAD_CMD SLEEP in RUNNING or UNCONFIGURED starts the entry into SLEEP and is answered OK; the entry
completes in SLEEP with firmware, TB and the links off; RELEASE in HOLD leaves it; a WAKE datagram with the head's serial number, and the
watchdog's expiry in SLEEP, wake the head with their source, and a datagram with another serial number does not. -/
def Obligations.SleepAndWake : Prop :=
  (∀ (s : State) (n : Fin 4), (getSession s n).opened = true → served s 4 = true → (getSession s n).busy = none → s.head.coreRestart = false →
    (s.head.st = .running ∨ s.head.st = .unconfigured) → s.pwr.sleeping = false →
    exec (.headCmdSleep n) s = .next (answerSession n (getSession (startSleep s) n).cur .ok (startSleep s))) ∧
  (∀ (s : State) (n : Fin 4), (getSession s n).opened = true → served s 4 = true → (getSession s n).busy = none → s.head.coreRestart = false →
    s.head.st = .hold → exec (.headCmdRelease n) s = .next (answerSession n (getSession (releaseHold s) n).cur .ok (releaseHold s)) ∧
      exec (.headCmdSleep n) s = .next (answerSession n (getSession s n).cur ⟨0xE, 0, []⟩ s)) ∧
  (∀ s : State, s.pwr.sleeping = true → s.sup.dieDown = false → s.pwr.pf = .normal → s.pwr.running = [] → s.pwr.checking = [] →
    ∃ t, exec .sleepEntryComplete s = .next t ∧ t.head.st = .sleep ∧ t.head.fwReady = false ∧ t.head.waking = false ∧ t.tmb.run = false ∧
      t.rru.sysPll = .off ∧ t.tmb.tb = s.tmb.tb ∧ t.fus.wires = s.fus.wires ∧ busUp t = false) ∧
  (∀ s : State, s.pwr.sleeping = false → exec .sleepEntryComplete s = .next s) ∧
  (∀ s : State, asleep s = true → s.pwr.pf = .normal → s.pwr.aon = true → ∃ t, exec (.wake (serialNo s)) s = .next t ∧ t.head.waking = true ∧
    t.head.wakeSrc = 0 ∧ t.head.cause = .wake ∧ t.rru.sysPll = .search ∧ t.mem = s.mem ∧ t.regs = s.regs) ∧
  (∀ (s : State) (serial : BitVec 64), serial ≠ serialNo s → exec (.wake serial) s = .next s) ∧
  (∀ s : State, asleep s = false → exec (.wake (serialNo s)) s = .next s ∧ exec .sleepWatchdogWake s = .next s) ∧
  (∀ s : State, asleep s = true → s.pwr.pf = .normal → s.pwr.aon = true → s.sup.wdgRun = true →
    ∃ t, exec .sleepWatchdogWake s = .next t ∧ t.head.waking = true ∧ t.head.wakeSrc = 3 ∧ t.head.cause = .wake ∧ t.mem = s.mem)

/-- R7, R555 to R573: mains on an OFF head enters BOOT with cause mains and the always-on domain on, and on a running head has no effect;
firmware with no good slot does not start, and the boot ROM serves; a key inserted in UNCONFIGURED logs event 0x1201 and is discovered, and once firmware runs its
removal logs 0x1202; an image that was read and passes its checks is applied, one that fails a check is rejected for its fault and a read
error for reason 16. -/
def Obligations.FromMainsToTheImage : Prop :=
  (∀ s : State, s.head.st = .off → s.pwr.aon = false → ∃ t, exec .mainsApplied s = .next t ∧ t.head.st = .boot ∧ t.head.cause = .mains ∧
    t.pwr.aon = true ∧ t.head.fwReady = false ∧ t.rru.sysPll = .search ∧ t.mem = []) ∧
  (∀ s : State, s.head.st ≠ .off → exec .mainsApplied s = .next s) ∧
  (∀ (s : State) (okA okB : Bool), s.head.fwReady = false → s.head.coreRestart = false → s.sup.dieDown = false →
    s.sup.coreDown = false → s.rru.sysPll = .locked → s.head.st = .boot → s.pwr.pf = .normal → s.fus.sensed = true →
    (bootOrder s).find? (fun k => (if k = 0 then okA else okB) && !unitFails s 3) = none →
    exec (.firmwareReady okA okB) s = .next { s with head := { s.head with romServes := true } }) ∧
  (∀ (s : State) (okA okB : Bool), s.head.fwReady = true ∨ s.rru.sysPll ≠ .locked → exec (.firmwareReady okA okB) s = .next s) ∧
  (∀ (s : State) (okA okB : Bool) (slot : Nat), s.head.fwReady = false → s.head.coreRestart = false → s.sup.dieDown = false →
    s.sup.coreDown = false → s.rru.sysPll = .locked → s.head.st = .boot → s.pwr.pf = .normal → s.fus.sensed = true → s.head.cause = .mains →
    (bootOrder s).find? (fun k => (if k = 0 then okA else okB) && !unitFails s 3) = some slot → (bootOrder s).getD 0 slot = slot →
    exec (.firmwareReady okA okB) s = .next (let t := firmwareStarts (flushHeld (bootChecks (({ s with cfg := { s.cfg with
      fwSlot := slot, runVer := slotVersion s slot, fwFallback := false
      fwVer := [0, 1].map (fun k => if (if k = 0 then okA else okB) && !unitFails s 3 then slotVersion s k else 0)
      bootMs := s.now / milli, readyTb := s.now } } : State).onHead fun h => { h with fwReady := true })))
      match t.head.st with
      | .boot => discoverKey t
      | .sleep => beginRead t
      | _ => t)) ∧
  (∀ (s : State) (p : KeyParams) (mem : List (Nat × Byte)), s.cfg.keyInSlot = false → s.head.fwReady = false →
    exec (.keyInserted p mem) s = .next { s with cfg := { s.cfg with keyInSlot := true, keyParams := p, keyMem := Mem.normal erased mem } }) ∧
  (∀ (s : State) (p : KeyParams) (mem : List (Nat × Byte)), s.cfg.keyInSlot = false → s.head.fwReady = true → s.head.coreRestart = false →
    s.head.st = .running → exec (.keyInserted p mem) s = .next (readKeyTable (raise 0x1201 [] { s with
      cfg := { s.cfg with keyInSlot := true, keyParams := p, keyMem := Mem.normal erased mem } }))) ∧
  (∀ s : State, s.cfg.keyInSlot = true → s.head.fwReady = false → exec .keyRemoved s = .next (endWrite 1 (some ⟨0xF, 16, []⟩)
    { s with cfg := { s.cfg with keyInSlot := false, keyPresent := false, keyUsable := false, keyMem := [] } })) ∧
  (∀ s : State, s.cfg.keyInSlot = true → s.head.fwReady = true → s.head.st = .running → s.cfg.reading = none →
    ∃ u, u = endWrite 1 (some ⟨0xF, 16, []⟩)
      { s with cfg := { s.cfg with keyInSlot := false, keyPresent := false, keyUsable := false, keyMem := [] } } ∧
      exec .keyRemoved s = .next (raise 0x1202 [.h u.head.st.code] u)) ∧
  (∀ s : State, s.cfg.keyInSlot = false → exec .keyRemoved s = .next s) ∧
  (∀ (s : State) (slot : Nat), s.cfg.reading = some slot → s.head.fwReady = true → s.head.coreRestart = false → s.sup.dieDown = false →
    s.pwr.pf = .normal →
    (∀ sig, exec (.imageReadComplete sig true) s = .next (rejectImage slot (headerFault 16 0) s)) ∧
    (∀ (e : DirEntry) (f : ImgFault) (sig : Bool), newestOfSlot s 1 slot = some e →
      checkImage s (slotImage s 1 slot (max 256 e.length)) e.length sig = .error f →
      exec (.imageReadComplete sig false) s = .next (rejectImage slot f
        (noteBreak (slotImage s 1 slot (max 256 e.length)) f (if 9 ≤ f.reason then verified s else s)))) ∧
    (∀ (e : DirEntry) (l : List Record) (sig : Bool), newestOfSlot s 1 slot = some e →
      checkImage s (slotImage s 1 slot (max 256 e.length)) e.length sig = .ok l → exec (.imageReadComplete sig false) s =
      .next (applyImage ((slotImage s 1 slot (max 256 e.length)).take e.length) l (slot + 1) slot s.cfg.readMode
        (skipUnknown l (verified s))))) ∧
  (∀ (s : State) (sig err : Bool), s.cfg.reading = none → exec (.imageReadComplete sig err) s = .next s)

/-- R624 to R626, R646, R649, R653, R858, R926: a port that comes up or goes down says so, and logs event 0x0B01 or 0x0B02 for a data port; a
frame with a bad FCS is counted, and an address resolution resolves the streams that wait for it; a constant-rate period sends the packet
at the head of the stream, or an empty one; a port that may send takes the next packet of its round; an unresolved next hop is asked again
after 1 s with event 0x0B07 once; a refused module logs event 0x0B0F; a scheduler stuck for 1 ms has its buckets filled. -/
def Obligations.LinkPortsAndStreams : Prop :=
  (∀ (s : State) (p : Fin 5), (s.lnk.ports.getD p {}).up = false → exec (.portUp p) s =
    .next (if p.val < 4 then raise 0x0B01 [.h p] (s.onLnk fun l => { l with ports := l.ports.modify p fun q => { q with up := true } })
      else s.onLnk fun l => { l with ports := l.ports.modify p fun q => { q with up := true } })) ∧
  (∀ (s : State) (p : Fin 5), (s.lnk.ports.getD p {}).up = true → exec (.portDown p) s =
    .next (if p.val < 4 then raise 0x0B02 [.h p] (s.onLnk fun l => { l with ports := l.ports.modify p fun q => { q with up := false } })
      else s.onLnk fun l => { l with ports := l.ports.modify p fun q => { q with up := false } })) ∧
  (∀ (s : State) (p : Fin 5), (s.lnk.ports.getD p {}).up = true → exec (.portUp p) s = .next s) ∧
  (∀ (s : State) (p : Fin 5), p.val < 4 → exec (.ethFrameReceived p .badFcs) s = .next (addF (R.LNK_P_STAT_RX_DROP p) 1 s)) ∧
  (∀ (s : State) (p : Fin 5), exec (.ethFrameReceived p .fragment) s = .next s) ∧
  (∀ (s : State) (p : Fin 5) (v6 : Bool) (a : Nat), s.head.fwReady = true → s.head.coreRestart = false → portAddr s p v6 = a → a ≠ 0 →
    exec (.ethFrameReceived p (.solicit v6 a)) s = .next { s with lnk := { s.lnk with control := (p.val, 0) :: s.lnk.control } }) ∧
  (∀ (s : State) (p : Fin 5) (v6 : Bool) (a : Nat), s.head.fwReady = true → s.head.coreRestart = false →
    exec (.ethFrameReceived p (.resolved v6 a)) s = .next (forEach (streamIds s) (fun i u =>
      if (getStream u i).st != .off && !(getStream u i).resolved && (streamCfg u i).port == p.val && (streamCfg u i).ipv6 == v6 &&
          nextHop u (streamCfg u i) == a then modStream i (fun x => { x with resolved := true }) u else u) s)) ∧
  (∀ (s : State) (p : Fin 5), portOpen s p = false → exec (.linkTransmit p) s = .next s) ∧
  (∀ (s : State) (p : Fin 5) (i : Nat) (d : Nat) (pkt : Packet), portOpen s p = true → leaseOpen s 1 0xB = true →
    crWaiting s p = none → robin s p = some (i, d) →
    sendable s p i = some (pkt, false) → exec (.linkTransmit p) s = .next
      ((modStream i (fun x => { x with queue := x.queue.drop 1
                                       deficit := if x.retx.isEmpty && (x.queue.drop 1).isEmpty then 0 else d - pkt.size })
        (sendPacket p i pkt false s)).onLnk fun l => { l with ports := l.ports.modify p fun q => { q with rrCur := i } })) ∧
  (∀ (s : State) (sid : Nat) (pkt : Packet), (streamCfg s sid).cr = true → (getStream s sid).st = .running → (getStream s sid).crNext ≤ s.now →
    keyOk s (streamCfg s sid) = true → headPacket (getStream s sid) = some (pkt, false) → exec (.crSlotDue sid) s =
      .next (modStream sid (fun x => { x with queue := x.queue.drop 1, crDue := x.crDue ++ [pkt] })
        (modStream sid (fun x => { x with crNext := x.crNext + max 1 (streamCfg s sid).crPeriod }) s))) ∧
  (∀ (s : State) (sid : Nat), s.now < (getStream s sid).crNext → exec (.crSlotDue sid) s = .next s) ∧
  (∀ (s : State) (sid : Nat), (getStream s sid).st ≠ .off → (getStream s sid).resolved = false → (getStream s sid).resTb + second ≤ s.now →
    s.head.fwReady = true → s.head.coreRestart = false → (getStream s sid).failLogged = true →
    exec (.resolveRetry sid) s = .next (askNextHop sid s)) ∧
  (∀ s : State, exec (.qsfpModuleChange true true true) s = .next { s with lnk := { s.lnk with module := true } }) ∧
  (∀ (s : State) (present media power : Bool), (present && media && power) = false →
    exec (.qsfpModuleChange present media power) s = .next (raise 0x0B0F [] { s with lnk := { s.lnk with module := false } })) ∧
  (∀ (s : State) (p : Fin 5) (t : Nat), (s.lnk.ports.getD p {}).readyTb = some t → t + 250000 ≤ s.now →
    ∃ u, u = declareStuck 2 p (s.onLnk fun l => { l with ports := l.ports.modify p fun q => { q with readyTb := some s.now } }) ∧
      exec (.linkSchedulerStuck p) s = .next (respondStuck 2 p (forEach (u.lnk.streams.map Prod.fst) (fun i w =>
        modStream i (fun x => { x with deficit := 0, bucket := bucketDepth w (streamCfg w i), bucketTb := w.now }) w) u))) ∧
  (∀ (s : State) (p : Fin 5), (s.lnk.ports.getD p {}).readyTb = none → exec (.linkSchedulerStuck p) s = .next s)

/-- R655, R669, R674, R680 to R687, R386, R389: a write with GO commits the context it names; a steward session installs and erases the key of
the slot, and from any other initiator the write of the key command changes nothing but the log (event 0x0C07); a tenant request with a
good tag, a new REQ and room in its bucket is queued, and one for an unknown tenant or with a bad tag is dropped; the core takes the next
request in turn; SUBSCRIBE, TENANT_WINDOW and RETRANSMIT of a tenant answer once. -/
def Obligations.TenantsAndRequests : Prop :=
  (∀ (s : State) (who : Initiator) (v : Word), busOpen s who = true → v.getLsbD 31 = true →
    exec (.tenCommit who v) s = .next (commitContext (v.toNat % 4096) s).2) ∧
  (∀ (s : State) (who : Initiator) (v : Word), busOpen s who = true → v.getLsbD 31 = false → exec (.tenCommit who v) s = .next s) ∧
  (∀ (s : State) (n : Nat), busUp s = true → exec (.tenKeyInstall (.lcp n)) s = .next (installKey s) ∧
    exec (.tenKeyErase (.lcp n)) s = .next (eraseKey s)) ∧
  (∀ (s : State) (who : Initiator), busOpen s who = true → who = .core ∨ who = .jtag →
    exec (.tenKeyInstall who) s = .next (raise 0x0C07 [.h (initiatorCode who), .h 2] s) ∧
    exec (.tenKeyErase who) s = .next (raise 0x0C07 [.h (initiatorCode who), .h 2] s)) ∧
  (∀ (s : State) (t : Nat) (req : BitVec 64) (op : LcpOp), s.head.st = .running → s.pwr.pf = .normal → tenantsHeard s = true →
    t < tenantLimit s → (getCtx s t).st ≠ .empty → Tbl.get? s.ten.keys t ≠ none → req.extractLsb' 40 24 = s.lnk.epoch →
    (getCtx s t).lastReq.extractLsb' 0 40 < req.extractLsb' 0 40 → 2500000 ≤ bucketOf s (getCtx s t) → (getCtx s t).queue.length < 4 →
    exec (.tenantReq t true req op) s = .next (modCtx t (fun c => { c with
      bucket := bucketOf s (getCtx s t) - 2500000, bucketTb := s.now, lastReq := req, reqOk := satAdd 32 c.reqOk 1
      queue := c.queue ++ [⟨req, op⟩] }) s)) ∧
  (∀ (s : State) (t : Nat) (auth : Bool) (req : BitVec 64) (op : LcpOp), s.head.st = .running → s.pwr.pf = .normal →
    tenantLimit s ≤ t → exec (.tenantReq t auth req op) s = .next (dropUnknown s)) ∧
  (∀ (s : State) (t : Nat) (req : BitVec 64) (op : LcpOp), s.head.st = .running → s.pwr.pf = .normal → tenantsHeard s = true →
    t < tenantLimit s → (getCtx s t).st ≠ .empty → exec (.tenantReq t false req op) s = .next (dropUnauthentic t s)) ∧
  (∀ (s : State) (t : Nat) (r : TenReq) (l : List TenReq), tenantsServed s = true → nextTenant s = some t →
    (getCtx s t).queue = r :: l → exec .tenantRequestDequeue s =
      .next (runTenant t r.req r.op (modCtx t (fun c => { c with queue := l }) (s.onTen fun x => { x with rr := (t + 1) % 4096 })))) ∧
  (∀ s : State, nextTenant s = none → exec .tenantRequestDequeue s = .next s) ∧
  (∀ (s : State) (t : Fin 4096), tenantsServed s = true → (getCtx s t).st ≠ .empty → s.head.st ≠ .hold →
    (∀ (a b : Bool) (l : List Nat), exec (.subscribe t a b l) s =
      .next (answerTenant t (getCtx s t).lastReq (subscribeTenant t a b l s).1 (subscribeTenant t a b l s).2)) ∧
    (∀ w set x0 x1 y0 y1 : Nat, exec (.tenantWindowSet t w set x0 x1 y0 y1) s = .next (answerTenant t (getCtx s t).lastReq
      (setTenantWindow t w set x0 x1 y0 y1 s).1 (setTenantWindow t w set x0 x1 y0 y1 s).2)) ∧
    (∀ w : Nat, exec (.tenantWindowRemove t w) s =
      .next (answerTenant t (getCtx s t).lastReq (removeTenantWindow t w 0 s).1 (removeTenantWindow t w 0 s).2)) ∧
    (∀ (n : Fin 4) (sid count first : Nat), exec (.retransmit (some t) n sid count first) s = .next (answerTenant t (getCtx s t).lastReq
      (askRetransmit (some t) sid count first s).1 (askRetransmit (some t) sid count first s).2))) ∧
  (∀ (s : State) (n : Fin 4) (sid count first : Nat), (getSession s n).opened = true → served s 4 = true → (getSession s n).busy = none →
    exec (.retransmit none n sid count first) s = .next (answerSession n (getSession (askRetransmit none sid count first s).2 n).cur
      (askRetransmit none sid count first s).1 (askRetransmit none sid count first s).2))

/-- R737, R740 to R744, R753: with a MOSAIC record, every millisecond a HELLO and a DELAY_REQ leave on both ports, a DELAY_REQ is answered with
its times, and 16 exchanges give the hop delay and bring the link up, or are a fault above the limit with event 0x0D13; a link that goes up
measures again with event 0x0D04 and one that goes down is counted with event 0x0D03; the root sends its time; a head that has been silent
for 10 ms leaves the view, and so long without a HELLO of its own it sees no ring; a view that has settled for 5 ms decides the mosaic state. -/
def Obligations.MosaicLinksAndView : Prop :=
  (∀ s : State, s.mos.record = true →
    exec .helloTimer s = .next (sendCell .hello 1 0 (let m := s.mos
      [(serialNo s).toNat, bit (flagF s R.MOS_CFG_ROOT_CLAIM) + bit m.discordant * 2 + bit (s.head.st == .hold) * 4 + bit (m.st == .refused) * 8,
        m.st.code, m.rootId.getD 0, m.rootHops, m.received]) (sendCell .hello 0 0 (let m := s.mos
      [(serialNo s).toNat, bit (flagF s R.MOS_CFG_ROOT_CLAIM) + bit m.discordant * 2 + bit (s.head.st == .hold) * 4 + bit (m.st == .refused) * 8,
        m.st.code, m.rootId.getD 0, m.rootHops, m.received]) s)) ∧
    exec .delayReqTimer s = .next (sendCell .delayReq 1 0 [16 * s.now] (sendCell .delayReq 0 0 [16 * s.now] s))) ∧
  (∀ s : State, s.mos.record = false → exec .helloTimer s = .next s ∧ exec .delayReqTimer s = .next s) ∧
  (∀ s : State, distributes s = true → s.tmb.todState = .locked →
    exec .timeCellTimer s = .next (sendCell .time 2 0 [s.tmb.todSec.toNat, s.tmb.todNs, 2] s)) ∧
  (∀ s : State, distributes s = false → exec .timeCellTimer s = .next s) ∧
  (∀ (s : State) (p : Fin 2) (t1 t2 t3 : Nat), s.mos.record = true → s.mos.txOn = true → portUp s p = true →
    exec (.delayReq p true t1 t2 t3) s = .next (sendCell .delayResp p 0 [t1, t2, t3] s) ∧
    exec (.delayReq p false t1 t2 t3) s = .next (countCrc p s)) ∧
  (∀ (s : State) (p : Fin 2) (t1 t2 t3 t4 : Nat), s.mos.record = true → s.mos.txOn = true → (getPort s p).link = .measuring →
    (getPort s p).exch.length < 15 → exec (.delayResp p true t1 t2 t3 t4) s = .next (modPort p (fun q => { q with
      exch := ((((t4 : Int) - t1) - ((t3 : Int) - t2)) :: (getPort s p).exch).take 16 }) s)) ∧
  (∀ (s : State) (p : Fin 2), s.mos.record = true → (getPort s p).link = .down → exec (.mosaicPortLinkChange p true) s =
    .next (raise 0x0D04 [.h p] (modPort p (fun q => { q with link := .measuring, exch := [] }) s))) ∧
  (∀ (s : State) (p : Fin 2), s.mos.record = true → (getPort s p).link ≠ .down → exec (.mosaicPortLinkChange p false) s =
    .next (portGone p (raise 0x0D03 [.h p] (addF (R.MOS_PORT_CNT_LINK_DOWN p) 1
      (modPort p (fun q => { q with link := .down, delay := 0, neighbour := 0 }) s))))) ∧
  (∀ s : State, s.now < s.mos.ringTb + 2500000 → exec .viewHeadTimeout s = .next (pruneView (s.onMos fun m => { m with
      view := m.view.map fun h => { h with
        east := h.east.filter (fun t => decide (s.now < t + 2500000)), west := h.west.filter (fun t => decide (s.now < t + 2500000)) } }))) ∧
  (∀ s : State, s.mos.ringTb + 2500000 ≤ s.now → exec .viewHeadTimeout s = .next (pruneView (s.onMos fun m => { m with
      ring := false, view := m.view.map fun h => { h with
        east := h.east.filter (fun t => decide (s.now < t + 2500000)), west := h.west.filter (fun t => decide (s.now < t + 2500000)) } }))) ∧
  (∀ s : State, s.mos.st ≠ .solo → s.mos.viewTb + 1250000 ≤ s.now → exec .viewSettled s = .next (checkTopology (moveMosaic true s))) ∧
  (∀ s : State, s.now < s.mos.viewTb + 1250000 → exec .viewSettled s = .next s)

/-- R736, R738, R743, R750, R753, R758, R763 to R766: a cell that is heard, whose CRC is good that comes from another head and has
made fewer than 511 hops is forwarded and used: a HELLO updates the view, the RASTER and TIME cells of the root steer a member, a STATE cell gives a member the root's digest, a
REPORT of READY counts towards the root's START. A cell with a bad CRC is only counted, one of the head's own comes to nothing (its HELLO shows the ring), as
one of 511 hops does, and one that is not heard changes nothing. -/
def Obligations.MosaicCells : Prop :=
  (∀ (s : State) (c : CellHead), cellHeard s c = true → c.crcOk = true → c.origin ≠ mosaicId s → c.hops < 511 →
    (∀ (serial : BitVec 64) (flags st r h q : Nat), exec (.hello c serial flags st r h q) s =
      .next (takeHello c serial flags st r h q (forwardCell .hello c [serial.toNat, flags, st, r, h, q] s))) ∧
    (∀ (f l flags tl src : Nat) (err ofs : Int) (t : State), forwardCell .raster c [f, l, flags, tl, src] s = t →
      t.mos.rootId = some c.origin → distributes t = false → (getPort t c.port).link = .up →
      exec (.rasterCell c f l flags tl src err ofs) s =
        .next (takeRaster c ⟨f, l, flags, c.arrival - (c.delayAcc + (getPort t c.port).delay), err, ofs⟩ t)) ∧
    (∀ (sec ns ts : Nat) (t : State), forwardCell .time c [sec, ns, ts] s = t → t.mos.rootId = some c.origin → distributes t = false →
      (getPort t c.port).link = .up → flagF t R.TMB_TOD_CTRL_SERVO_EN = true → exec (.time c sec ns ts) s =
        .next (servoOffset ((todAt t (c.arrival / 64) -
          (((sec * 1000000000 + ns : Nat) : Int) * 4 + ((c.delayAcc : Int) + (getPort t c.port).delay) / 64)) / 4) t)) ∧
    (∀ (sec ns ts : Nat) (t : State), forwardCell .time c [sec, ns, ts] s = t → t.mos.rootId ≠ some c.origin →
      exec (.time c sec ns ts) s = .next t) ∧
    (∀ (f q minor heads : Nat) (d : List Byte) (t u : State), forwardCell .state c ([f, q, minor, heads] ++ d.map BitVec.toNat) s = t →
      t.mos.rootId = some c.origin → t.mos.st = .member ∨ t.mos.st = .partitioned →
      followBarriers (t.onMos fun m => { m with rootDigest := d, rootBseq := q, minor := minor }) = u →
      (u.mos.st = .member → u.mos.joinCheck = true ∨ f % 1024 = 0 → exec (.state c f q minor heads d) s =
        .next (askReplay (compareDigests (u.onMos fun m => { m with joinCheck := false })))) ∧
      (u.mos.st ≠ .member → exec (.state c f q minor heads d) s = .next (askReplay u))) ∧
    (∀ (q reason st flags : Nat) (ofs : Int) (t : State), forwardCell .report c [q, 0, reason, st, flags, (BitVec.ofInt 32 ofs).toNat] s = t →
      t.mos.st = .root → t.mos.armTb ≠ none → exec (.report c q 0 reason st flags ofs) s =
        .next (armReady (t.onMos fun m => { m with ready := (c.origin :: m.ready).eraseDups }))) ∧
    (∀ (q reason st flags : Nat) (ofs : Int) (t : State), forwardCell .report c [q, 2, reason, st, flags, (BitVec.ofInt 32 ofs).toNat] s = t →
      t.mos.st = .root → exec (.report c q 2 reason st flags ofs) s = .next (raise 0x0D0E [.h c.origin, .h reason] t))) ∧
  (∀ (s : State) (c : CellHead), cellHeard s c = true → c.crcOk = false →
    (∀ sec ns ts, exec (.time c sec ns ts) s = .next (countCrc c.port s)) ∧
    (∀ a b d e f g, exec (.hello c a b d e f g) s = .next (countCrc c.port s))) ∧
  (∀ (s : State) (c : CellHead), cellHeard s c = true → c.crcOk = true → c.origin = mosaicId s →
    (∀ sec ns ts, exec (.time c sec ns ts) s = .next s) ∧ (∀ f q minor heads d, exec (.state c f q minor heads d) s = .next s) ∧
    (∀ flags st r h q, exec (.hello c (serialNo s) flags st r h q) s = .next (s.onMos fun m => { m with ring := true, ringTb := s.now }))) ∧
  (∀ (s : State) (c : CellHead), cellHeard s c = true → c.crcOk = true → 511 ≤ c.hops →
    (∀ sec ns ts, exec (.time c sec ns ts) s = .next s) ∧ (∀ f q minor heads d, exec (.state c f q minor heads d) s = .next s)) ∧
  (∀ (s : State) (c : CellHead), cellHeard s c = false → (∀ sec ns ts, exec (.time c sec ns ts) s = .next s) ∧
    (∀ a b d e f g, exec (.hello c a b d e f g) s = .next s))

/-- R757 to R761, R773: a write of MOS_BREQ on the root issues an ARM, or a STOP or START for a frame that is far enough and with none waiting;
from a head that is not the root it changes nothing but the log (event 0x0D12); a member latches a BARRIER cell of its root in the order of
BSEQ and takes it when it is whole; ARM_TIMEOUT makes the root start without the missing heads, with event 0x0D10. -/
def Obligations.MosaicBarriers : Prop :=
  (∀ (s : State) (who : Initiator) (v : Word), busOpen s who = true → v.toNat / 2 ^ 30 = 1 → v.toNat % 128 ≤ 64 → s.mos.st = .root →
    s.pwr.pf = .normal → barrierPart s = true → s.mos.reqF = none → exec (.barrierReqArm who v) s = .next (issueArm s)) ∧
  (∀ (s : State) (who : Initiator) (v : Word) (f : Nat), busOpen s who = true → v.toNat / 2 ^ 30 = 2 → v.toNat % 128 ≤ 64 → s.mos.st = .root →
    s.pwr.pf = .normal → barrierPart s = true → s.mos.reqF = none →
    f = (rawReg s A.MOS_BREQ_F_HI).toNat % 256 * 2 ^ 32 + (rawReg s A.MOS_BREQ_F_LO).toNat → leadFrame s ≤ f →
    exec (.barrierReqStop who v) s = .next (takeBarriers false (issueBarrier 2 (v.getLsbD 29) (v.getLsbD 28) f
      (requestedFns { s with mos := { s.mos with reqF := some f } } (v.toNat % 128)) { s with mos := { s.mos with reqF := some f } }))) ∧
  (∀ (s : State) (who : Initiator) (v : Word) (f : Nat), busOpen s who = true → v.toNat / 2 ^ 30 = 3 → v.toNat % 128 ≤ 64 → s.mos.st = .root →
    s.pwr.pf = .normal → barrierPart s = true → s.mos.reqF = none →
    f = (rawReg s A.MOS_BREQ_F_HI).toNat % 256 * 2 ^ 32 + (rawReg s A.MOS_BREQ_F_LO).toNat → leadFrame s ≤ f →
    exec (.barrierReqStart who v) s = .next (takeBarriers false (issueBarrier 3 (v.getLsbD 29) (v.getLsbD 28) f
      (requestedFns { s with mos := { s.mos with reqF := some f } } (v.toNat % 128)) { s with mos := { s.mos with reqF := some f } }))) ∧
  (∀ (s : State) (who : Initiator) (v : Word), busOpen s who = true → v.toNat / 2 ^ 30 ≠ 0 → v.toNat % 128 ≤ 64 → s.mos.st ≠ .root →
    exec (.barrierReqArm who v) s = .next (raise 0x0D12 [.h 0x70, .h 0] s)) ∧
  (∀ (s : State) (c : CellHead) (q cmd flags f part n : Nat) (fns : List Nat) (t : State), cellHeard s c = true → c.crcOk = true →
    c.origin ≠ mosaicId s → c.hops < 511 →
    forwardCell .barrier c ([q, cmd, flags, f, part, n, fns.length] ++ fns ++ List.replicate (18 - fns.length) 0) s = t →
    t.mos.st = .member → t.mos.rootId = some c.origin → barrierPart t = true →
    exec (.barrier c q cmd flags f part n fns) s = .next (takeBarriers false (latchPart q cmd flags f part n (fns.take 18) t))) ∧
  (∀ (s : State) (q cmd flags f part n : Nat) (fns : List Nat), q ≠ s.mos.received + 1 → latchPart q cmd flags f part n fns s = s) ∧
  (∀ (s : State) (t : Nat), s.mos.armTb = some t → s.mos.st = .root → s.head.st ≠ .hold → s.mos.startIssued = false →
    t + getF s R.MOS_TIMING_ARM_TIMEOUT * 2500000 ≤ s.now → s.pwr.pf = .normal → s.mos.ready.length < s.mos.expected →
    exec .armTimeout s = .next (issueStart (raise 0x0D10 [.h s.mos.expected, .h s.mos.ready.length, .h (viewHeads s)] s))) ∧
  (∀ s : State, s.mos.armTb = none → exec .armTimeout s = .next s)

/-- R791 to R804: fuse commands of JTAG while no command runs. A word that the life cycle permits becomes the one word to program; a
command outside the permissions is refused LIFECYCLE (2) and one beside a command in progress BUSY (4), with event 0x0E06; ADVANCE begins
with the words that finalise units; no step follows RETIRED. The end of a word ORs the bits read back into copies A and B: event 0x0E03
and the end of a PROGRAM, or event 0x0E04, `FUS_CNT.PROG_FAIL` and REFUSED 1 when a bit reads 0 in both. A steward's JTAG_UNLOCK in
DEPLOYED enables the JTAG port with event 0x0E08 and programs no fuse; with a word or a value beside it, it is answered status 3. -/
def Obligations.FuseProgramming : Prop :=
  (∀ (s : State) (w : Nat) (v : Word), busOpen s .jtag = true → s.fus.cmd = none → fusePath s .jtag = true → fuseWordOk s w = true →
    exec (.fuseProgramWord none w v) s = .next ((setF R.FUS_PROG_WORD_WORD w (setF R.FUS_PROG_VALUE_VALUE v.toNat s)).onFus fun f =>
      { f with cmd := some ⟨.jtag, 1, [(w, v)], none, none, false, none, none, false⟩, result := 0, detail := 0 })) ∧
  (∀ (s : State) (w : Nat) (v : Word) (c : FuseCmd), busOpen s .jtag = true → s.fus.cmd = some c →
    exec (.fuseProgramWord none w v) s = .next (raise 0x0E06 [.h 0, .h w, .h 4]
      ((setF R.FUS_PROG_WORD_WORD w (setF R.FUS_PROG_VALUE_VALUE v.toNat s)).onFus fun f => { f with result := 4, detail := 0 }))) ∧
  (∀ (s : State) (w : Nat) (v : Word), busOpen s .jtag = true → s.fus.cmd = none → fusePath s .jtag = false →
    exec (.fuseProgramWord none w v) s = .next (raise 0x0E06 [.h 0, .h w, .h 2]
      ((setF R.FUS_PROG_WORD_WORD w (setF R.FUS_PROG_VALUE_VALUE v.toNat s)).onFus fun f => { f with result := 2, detail := 0 })) ∧
    exec (.fuseAdvance none w v) s = .next (raise 0x0E06 [.h 0, .h 3, .h 2] (s.onFus fun f => { f with result := 2, detail := 0 }))) ∧
  (∀ s : State, s.fus.lc = .deployed ∨ s.fus.lc = .retired ∨ s.fus.wires.rmJtag = true → fusePath s .jtag = false) ∧
  (∀ (s : State) (w : Nat) (v : Word), busOpen s .jtag = true → s.fus.cmd = none → s.fus.lc = .factory → s.fus.wires.rmJtag = false →
    orderMismatch s = false → finalWords s [0, 1, 2, 3, 5] ≠ [] →
    exec (.fuseAdvance none w v) s = .next (s.onFus fun f => { f with
      cmd := some ⟨.jtag, 2, finalWords s [0, 1, 2, 3, 5], none, some .provisioned, false, none, none, false⟩, result := 0, detail := 0 })) ∧
  (∀ (s : State) (w : Nat) (v : Word), busOpen s .jtag = true → s.fus.cmd = none → s.fus.lc = .factory → s.fus.wires.rmJtag = false →
    orderMismatch s = true → exec (.fuseAdvance none w v) s = .next (raise 0x0E06 [.h 0, .h 3, .h 5]
      ((raise 0x0E09 [.h ((fuseWord s 2).toNat % 4), .h ((fuseWord s 8).toNat % 32)] s).onFus fun f =>
        { f with result := 5, detail := 2 }))) ∧
  LcState.retired.next = none ∧
  (∀ (s : State) (init : FuseInit) (w : Nat) (v a b : Word) (x : Option (Nat × BitVec 64)) (t0 : Option Nat) (lg : Bool), s.fus.cmd =
    some ⟨init, 1, [], some (w, v), none, false, x, t0, lg⟩ →
    ∃ t : State, t = (endStore .fuse s).onFus (fun f => { f with
          a := Tbl.put f.a w 0 (Tbl.getD f.a w 0 ||| (a &&& v)), b := Tbl.put f.b w 0 (Tbl.getD f.b w 0 ||| (b &&& v))
          cmd := some ⟨init, 1, [], none, none, false, x, t0, lg⟩ }) ∧
      (v &&& ~~~fuseWord t w = 0 → exec (.fuseWordComplete a b) s = .next (endFuse 1 0 (raise 0x0E03 [.h w, .w v.toNat] t))) ∧
      (v &&& ~~~fuseWord t w ≠ 0 → exec (.fuseWordComplete a b) s = .next (endFuse 5 1 (raise 0x0E04 [.h w, .w (v &&& ~~~fuseWord t w).toNat]
        (addF R.FUS_CNT_PROG_FAIL 1 t)))) ∧
      fuseWord t w = fuseWord s w ||| ((a ||| b) &&& v) ∧ (∀ k, k ≠ w → fuseWord t k = fuseWord s k)) ∧
  (∀ (s : State) (n : Fin 4), (getSession s n).opened = true → served s 4 = true →
    (getSession s n).busy = none → s.head.coreRestart = false → fuseOpen s = true → s.fus.cmd = none → s.fus.lc = .deployed →
    s.fus.wires.rmJtag = false →
    ∃ t u : State, exec (.fuseJtagUnlock (some n) 0 0) s = .next t ∧ u = raise 0x0E08 [] ((deferAnswer n s).onFus fun f =>
        { f with unlocked := true, result := 1, detail := 0 }) ∧
      t = answerLate n (getSession (deferAnswer n s) n).cur (fuseAnswer u 1 0 0) u ∧ t.fus.unlocked = true ∧ jtagEnabled t = true ∧
      (∀ k, fuseWord t k = fuseWord s k)) ∧
  (∀ (s : State) (n : Fin 4) (w : Nat) (v : Word), w ≠ 0 ∨ v ≠ 0 → (getSession s n).opened = true → served s 4 = true →
    (getSession s n).busy = none → s.head.coreRestart = false → fuseOpen s = true → exec (.fuseJtagUnlock (some n) w v) s =
      .next (answerSession n (getSession s n).cur ⟨3, 0, []⟩ s)) ∧
  (∀ (s : State) (w : Nat) (v : Word), busOpen s .jtag = true → s.fus.cmd = none →
    exec (.fuseJtagUnlock none w v) s = .next (raise 0x0E06 [.h 0, .h 0, .h 2] (s.onFus fun f => { f with result := 2, detail := 0 })))

/-- R806, R812, R823, R824, R833: a domain in RAMP becomes READY; an overcurrent puts a domain in FAULT with event 0x0F07 and a handling
window; a write of `PWR_DOM_FCLR` clears the FAULT of the domains it names; the mains input out of its range is kept and logged with event
0x0F08, at most once in 60 s. The warning, from NORMAL, outside OFF and SLEEP: EMERGENCY begins, the lanes stop, the mains counts as lost,
TB and frame number stand, and the energy of the store is computed from V_bulk; in SLEEP and OFF a warning starts no sequence. -/
def Obligations.DomainsAndWarning : Prop :=
  (∀ (s : State) (d : Fin 316), 280 ≤ d.val → getDom s d = .ramp →
    exec (.domainReady d) s = .next { s with pwr := { s.pwr with doms := Tbl.put s.pwr.doms d .off .ready } }) ∧
  (∀ (s : State) (d : Fin 316), 296 ≤ d.val → d.val < 315 → (getDom s d = .ramp ∨ getDom s d = .ready) →
    ∃ t, exec (.domainOvercurrent d) s = .next t ∧ t = openWindow 0 0x0F07 [domBlock d] (raise 0x0F07 [.h d] (setDom d .fault s)) ∧
      getDom t d = .fault ∧ (∀ k, k ≠ d.val → getDom t k = getDom s k) ∧ t.mem = s.mem ∧ t.rru = s.rru ∧ t.tmb = s.tmb) ∧
  (∀ (s : State) (who : Initiator) (w : Fin 10) (v : Word), busOpen s who = true →
    exec (.pwrDomFclrWrite who w v) s = .next (clearDomFaults w v s)) ∧
  (∀ s : State, getDom s 300 = .fault → getDom (clearDomFaults 9 (BitVec.ofNat 32 (2 ^ 12)) s) 300 = .off) ∧
  (∀ (s : State) (v f : BitVec 16), s.head.st ≠ .off → 8500 ≤ v.toNat → v.toNat ≤ 26500 → 47000 ≤ f.toNat → f.toNat ≤ 63000 →
    exec (.mainsOutOfRange v f) s = .next { s with pwr := { s.pwr with mainsV := v, mainsF := f } }) ∧
  (∀ (s : State) (v f : BitVec 16), s.head.st ≠ .off → v.toNat < 8500 ∨ 26500 < v.toNat ∨ f.toNat < 47000 ∨ 63000 < f.toNat →
    exec (.mainsOutOfRange v f) s = .next (raiseLimited 0 (60 * second) 0x0F08 [.h v.toNat, .h f.toNat]
      { s with pwr := { s.pwr with mainsV := v, mainsF := f } })) ∧
  (∀ (s : State) (cause : Fin 2) (bulk : BitVec 16), s.head.st ≠ .off → asleep s = false → s.pwr.pf = .normal →
    ∃ t, exec (.pfWarning cause bulk) s = .next t ∧ t.pwr.pf = .emergency ∧ t.pwr.mainsOk = (s.pwr.mainsOk && cause.val != 0) ∧ t.pwr.warnTb = s.now ∧
      t.pwr.eAvail = availMj s bulk.toNat ∧ t.pwr.stepsDone = [3] ∧ t.pwr.sleeping = false ∧ t.tmb.tb = s.tmb.tb ∧ t.rru.f = s.rru.f ∧
      t.fus.wires = s.fus.wires ∧ t.head.locks = s.head.locks) ∧
  (∀ (s : State) (cause : Fin 2) (bulk : BitVec 16), s.head.st = .off ∨ asleep s = true ∨ s.pwr.pf ≠ .normal →
    exec (.pfWarning cause bulk) s = .next s)

/-- R825, R828, R829, R833: LINK_HOLD after the warning, the ports are disabled and step 4 ends; with steps 4 and 5 ended the head parks
with event 0x0F02; EMERG_MAX after the warning it logs event 0x0F0D with the steps left and parks. A parked head is OFF, its converters
off and TB held. Mains that returns to it starts BOOT, keeping the fault log's ring, the fuse wires and the image of the key, with TB at 0.
The always-on domain of a parked or sleeping head goes off with the store, and the head is OFF. -/
def Obligations.ParkAndReturn : Prop :=
  (∀ s : State, s.pwr.pf = .emergency → 4 ∉ s.pwr.stepsDone → s.pwr.warnTb + getF s R.PWR_POLICY_LINK_HOLD * milli ≤ s.now →
    exec .linkHoldExpired s = .next { s with
      lnk := { s.lnk with txEn := false }, mos := { s.mos with txOn := false }
      pwr := { s.pwr with stepsDone := s.pwr.stepsDone ++ [4] } }) ∧
  (∀ s : State, s.pwr.pf = .normal → s.pwr.sleeping = true → s.pwr.warnTb + getF s R.PWR_POLICY_LINK_HOLD * milli ≤ s.now →
    exec .linkHoldExpired s = .next { s with lnk := { s.lnk with txEn := false }, mos := { s.mos with txOn := false } }) ∧
  (∀ s : State, s.pwr.pf = .emergency → 4 ∈ s.pwr.stepsDone → 5 ∈ s.pwr.stepsDone →
    exec .parked s = .next (park s) ∧ exec .emergOverrun s = .next s) ∧
  (∀ s : State, s.pwr.pf = .emergency → s.pwr.warnTb + 37500000 ≤ s.now → 4 ∈ s.pwr.stepsDone → 5 ∉ s.pwr.stepsDone →
    exec .emergOverrun s = .next (park (raise 0x0F0D [.h 32] s)) ∧ exec .parked s = .next s) ∧
  (∀ s : State, s.pwr.pf = .emergency → s.pwr.warnTb + 37500000 ≤ s.now → 4 ∉ s.pwr.stepsDone → 5 ∈ s.pwr.stepsDone →
    exec .emergOverrun s = .next (park (raise 0x0F0D [.h 16] s))) ∧
  (∀ s : State, (park s).pwr.pf = .parking ∧ (park s).pwr.parked = true ∧ (park s).head.st = .off ∧ (park s).tmb.run = false ∧
    (park s).rru.sysPll = .off ∧ (park s).head.fwReady = false ∧ (park s).tmb.tb = s.tmb.tb ∧ (park s).fus.wires = s.fus.wires) ∧
  (∀ (s : State) (ms : Nat), s.pwr.parked = true → s.pwr.aon = true → s.sup.hold = false →
    ∃ t, exec (.parkRestart ms) s = .next t ∧ t.head.st = .boot ∧ t.head.cause = .park ∧ t.pwr.parked = false ∧ t.pwr.mainsOk = true ∧
      t.pwr.pf = .normal ∧ t.pwr.parkMs = ms ∧ t.tmb.tb = 0 ∧ t.tmb.run = false ∧ t.rru.sysPll = .search ∧ t.flt.ring = s.flt.ring ∧
      t.flt.windows = [] ∧ t.fus = s.fus ∧ t.sup.powerOn = satAdd 32 s.sup.powerOn 1 ∧ t.sup.causes = s.sup.causes ∧
      t.sup.bootPer = true ∧ t.cfg.nor = s.cfg.nor ∧ t.cfg.keyMem = s.cfg.keyMem ∧ t.mem = []) ∧
  (∀ (s : State) (ms : Nat), s.pwr.parked = false ∨ s.pwr.aon = false → exec (.parkRestart ms) s = .next s) ∧
  (∀ s : State, s.pwr.aon = true → s.pwr.parked = true ∨ s.head.st = .sleep →
    ∃ t, exec .alwaysOnPowerLoss s = .next t ∧ t.head.st = .off ∧ t.pwr.aon = false ∧ t.pwr.parked = false ∧ t.sup.wdgRun = false ∧
      t.tmb.run = false ∧ t.rru.sysPll = .off ∧ t.regs = s.regs ∧ t.mem = s.mem ∧ t.cfg = s.cfg)

/-- R838 to R843, R846, R847, R864: the service value 0xC35A from the management core or JTAG, in the window, restarts the count at 0, ends
the boot period, brings PERIOD into force and closes the level-1 windows; too early it is an expiry with cause 1, any other value one with
cause 2 while the watchdog runs, and both do nothing to a watchdog that is off but close that window; a service of the LCP engine only logs
event 0x100D. EN = 1 starts the watchdog with event 0x100B. A full count is an expiry with cause 0, a clock trip one with cause 3 and event
0x100A, which puts the fallback in force. An expiry counts, restarts the count and asks the ladder for its event 0x1001. -/
def Obligations.WatchdogAndClockMonitor : Prop :=
  (∀ (s : State) (who : Initiator), busOpen s who = true → who = .core ∨ who = .jtag → s.sup.wdgRun = true → wdgOpen s = true →
    exec (.wdgService who 0xC35A) s = .next { s with
      sup := { s.sup with elapsed := 0, elapsedPart := 0, bootPer := false, periodInForce := getF s R.SUP_WDG_CTRL_PERIOD }
      flt := { s.flt with windows := s.flt.windows.filter fun w => w.level != 1 } }) ∧
  (∀ (s : State) (who : Initiator), busOpen s who = true → who = .core ∨ who = .jtag → s.sup.wdgRun = true → wdgOpen s = false →
    exec (.wdgService who 0xC35A) s = .next (expire 1 s)) ∧
  (∀ (s : State) (who : Initiator) (v : Word), busOpen s who = true → who = .core ∨ who = .jtag → s.sup.wdgRun = true → v ≠ 0xC35A →
    exec (.wdgService who v) s = .next (expire 2 s)) ∧
  (∀ (s : State) (who : Initiator) (v : Word), busOpen s who = true → who = .core ∨ who = .jtag → s.sup.wdgRun = false → v ≠ 0xC35A →
    exec (.wdgService who v) s = .next s) ∧
  (∀ (s : State) (n : Fin 4) (v : Word), busUp s = true → exec (.wdgService (.lcp n) v) s = .next (raise 0x100D [.h 2] s)) ∧
  (∀ (s : State) (who : Initiator) (v : Word), busOpen s who = true → lockedBlock s 0x10 = false → s.sup.wdgRun = false → v.getLsbD 31 = true →
    1 ≤ v.toNat % 2 ^ 14 → v.toNat % 2 ^ 14 ≤ 16000 →
    ∃ t u : State, exec (.wdgEnable who v) s = .next t ∧ u = plainWrite A.SUP_WDG_CTRL v s ∧ t = raise 0x100B [.h (v.toNat % 2 ^ 14)]
      { u with sup := { u.sup with wdgRun := true, elapsed := 0, elapsedPart := 0, periodInForce := v.toNat % 2 ^ 14 } }) ∧
  (∀ s : State, s.sup.wdgRun = true → asleep s = false → s.head.st ≠ .off → s.head.romServes = false → s.sup.fallback = false →
    exec .wdgExpiry s = .next (expire 0 { s with sup := { s.sup with elapsed := wdgCycles s } })) ∧
  (∀ s : State, s.sup.wdgRun = false → exec .wdgExpiry s = .next s) ∧
  (∀ (s : State) (n : Nat), s.head.st ≠ .off → asleep s = false → s.tmb.run = true → s.rru.sysPll = .locked → 3000 ≤ n → n ≤ 5000 →
    exec (.clockMonitorWindow n) s = .next { s with sup := { s.sup with monCount := n } }) ∧
  (∀ (s : State) (n : Nat), s.head.st ≠ .off → asleep s = false → s.tmb.run = true → s.rru.sysPll = .locked → s.sup.fallback = false →
    n < 3000 ∨ 5000 < n → n < 65536 →
    exec (.clockMonitorWindow n) s = .next (expire 3 (raise 0x100A [.h n] { s with sup := { s.sup with monCount := n, fallback := true } }))) ∧
  (∀ (s : State) (n : Nat), s.head.st ≠ .off → asleep s = false → s.tmb.run = false → 2930 ≤ n → n ≤ 4882 →
    exec (.clockMonitorWindow n) s = .next { s with sup := { s.sup with monCount := n } }) ∧
  (∀ (s : State) (cause : Nat), (expire cause s).sup.elapsed = 0 ∧ (expire cause s).sup.wdgTotal = satAdd 32 s.sup.wdgTotal 1 ∧
    (∃ e, (expire cause s).sup.requests.getLast? = some e ∧ e.code = 0x1001 ∧ e.expiry = true) ∧ getF (expire cause s) (evtField 0x1001) = 1 ∧
    (expire cause s).tmb = s.tmb ∧ (expire cause s).rru = s.rru ∧ (expire cause s).mem = s.mem)

/-- R131, R842, R850, R855, R856, R892: a management core that has restarted serves again: it frees the tokens kept for its recovery, takes
the firmware of the newest slot, writes the entries held for it, sends what waited and takes up a due checkpoint and a key that was inserted. The die's restart ends with TB made up by its slow
ticks and counting, the frame number and the fuse wires as the reset left them, and no LOCK bit gone. Level 1 restarts the core with the boot
period, counts, and opens a handling window. A deferral that has lasted 2.5 s ends in the reset of the die with event 0x1006, then event
0x100E for each operation that still runs; before that nothing happens. -/
def Obligations.RestartsEnd : Prop :=
  (∀ s : State, s.head.coreRestart = true → s.sup.dieDown = false → s.sup.coreDown = false → s.head.st ≠ .off → s.head.fwReady = false →
    exec .coreRestartComplete s = .next (freeRecovered { s with head := { s.head with coreRestart := false } })) ∧
  (∀ s : State, s.head.coreRestart = true → s.sup.dieDown = false → s.sup.coreDown = false → s.head.st ≠ .off → s.head.fwReady = true →
    ∃ t u : State, exec .coreRestartComplete s = .next t ∧
      u = doCtgCheckpointDue (flushThreadEvents (sendSetFlags true (flushHeld (takeFirmware (freeRecovered
        { s with head := { s.head with coreRestart := false } }))))) ∧
      t = (if u.cfg.keyInSlot && !u.cfg.keyPresent then takeUpKey u else u) ∧ t.tmb.tb = s.tmb.tb ∧ t.rru.f = s.rru.f ∧
      t.fus.wires = s.fus.wires ∧ t.head.locks = s.head.locks) ∧
  (∀ s : State, s.head.coreRestart = false ∨ s.sup.dieDown = true → exec .coreRestartComplete s = .next s) ∧
  (∀ (s : State) (e : LadderEvent), (level1 e s).sup.l1 = satAdd 32 s.sup.l1 1 ∧ (level1 e s).head.coreRestart = true ∧
    (level1 e s).sup.bootPer = true ∧ (level1 e s).sup.elapsed = 0 ∧ (level1 e s).tmb.halted = false ∧ getF (level1 e s) (evtField 0x1002) = 1) ∧
  (∀ (s : State) (slow : Nat) (c t i : Bool), s.sup.dieDown = true → s.head.st = .boot →
    ∃ u, exec (.dieRestartComplete slow c t i) s = .next u ∧ u.sup.dieDown = false ∧ u.sup.coreDown = false ∧ u.sup.deferred = none ∧
      u.rru.sysPll = .locked ∧ u.tmb.run = true ∧ u.tmb.tb = BitVec.ofNat 64 (s.tmb.tb.toNat + slow * 1953125 / 256) ∧
      u.sup.held = [] ∧ u.head.st = .boot ∧ u.head.fwReady = s.head.fwReady) ∧
  (∀ (s : State) (slow : Nat) (c t i : Bool), s.sup.dieDown = true → s.head.st ≠ .off →
    ∃ u, exec (.dieRestartComplete slow c t i) s = .next u ∧ u.tmb.tb = BitVec.ofNat 64 (s.tmb.tb.toNat + slow * 1953125 / 256) ∧
      u.rru.f = s.rru.f ∧ u.fus.wires = s.fus.wires ∧ (∀ b ∈ s.head.locks, b ∈ u.head.locks)) ∧
  (∀ (s : State) (slow : Nat) (c t i : Bool), s.sup.dieDown = false → exec (.dieRestartComplete slow c t i) s = .next s) ∧
  (∀ (s : State) (t : Nat) (e : LadderEvent), s.sup.deferred = some (t, e) → s.now < t + 625000000 → exec .deferTimeout s = .next s) ∧
  (∀ (s : State) (t : Nat) (e : LadderEvent), s.sup.deferred = some (t, e) → t + 625000000 ≤ s.now →
    exec .deferTimeout s = .next (dieReset e (closeLevel 2 ((forEach s.pwr.running
      (fun r u => raise 0x100E [.h r.op.code, .w (spoilDevice r u).1] (spoilDevice r u).2)
      (raise 0x1006 [.h s.sup.deferOp, .h ((s.now - t) / 250000)] s)).onPwr fun p => { p with running := [] }))))

/-- R877, R878, R880, R882, R887 to R891: a write of a SEQ or of ACK_ALL by the steward marks the unacknowledged CRITICAL entries concerned
and logs event 0x1107, and event 0x1101 where entries were lost; with none it changes nothing; the management core, JTAG and a tenant acknowledge nothing. A long-log block
takes the eMMC controller's token and asks for its write. A level-0 window closes 1 s after its last error and no other. A held lease that
has run out is revoked at once when none of its users runs a store operation, and waits otherwise, for at most 2.5 s; before it runs out
nothing happens, and a free one has nothing to revoke. -/
def Obligations.AcknowledgementAndLeases : Prop :=
  (∀ (s : State) (n : Nat) (v : Word), busUp s = true → s.flt.lostSince = 0 →
    (∃ e ∈ s.flt.ring, e.unackCritical = true ∧ e.seq = v) →
    exec (.fltAckWrite (.lcp n) v) s = .next (raise 0x1107 [.w v.toNat] { s with flt := { s.flt with
      ring := s.flt.ring.map fun e => if e.unackCritical && e.seq == v then { e with acked := true } else e } })) ∧
  (∀ (s : State) (n : Nat), busUp s = true → s.flt.lostSince = 0 → (∃ e ∈ s.flt.ring, e.unackCritical = true) →
    exec (.fltAckAll (.lcp n)) s = .next (raise 0x1107 [.w 0xFFFF] { s with flt := { s.flt with
      ring := s.flt.ring.map fun e => if e.unackCritical then { e with acked := true } else e } })) ∧
  (∀ (s : State) (who : Initiator) (v : Word), busOpen s who = true → (∀ e ∈ s.flt.ring, e.unackCritical = true → e.seq ≠ v) →
    exec (.fltAckWrite who v) s = .next s) ∧
  (∀ (s : State) (who : Initiator) (n : Nat) (v : Word), busOpen s who = true → who ∈ [.core, .jtag, .tenant n] →
    exec (.fltAckWrite who v) s = .next s ∧ exec (.fltAckAll who) s = .next s) ∧
  (∀ s : State, s.flt.pendingLong ≠ [] → storeRuns s .longLog = false → storeAsked s .longLog = false → (getLease s 5).st = .free →
    s.pwr.pf = .normal → s.head.fwReady = true →
    ∃ t, exec .longLogAppend s = .next t ∧ t = askStore .emmcWrite .longLog (takeLease 5 longLogOwner s) ∧ storeAsked t .longLog = true) ∧
  (∀ s : State, s.flt.pendingLong = [] → exec .longLogAppend s = .next s) ∧
  (∀ s : State, exec .handlingWindowClose s = .next { s with flt := { s.flt with
    windows := s.flt.windows.filter fun w => !(w.level == 0 && decide (w.lastTb + 250000000 ≤ s.now)) } }) ∧
  (∀ (s : State) (r : Fin 8), r.val ≠ 7 → (getLease s r).st = .held → (getLease s r).expires ≤ s.now →
    (∀ u ∈ leaseUsers r, storeRuns s u = false) → exec (.leaseExpired r) s = .next (revoke r s)) ∧
  (∀ (s : State) (r : Fin 8), r.val ≠ 7 → (getLease s r).st = .held → (getLease s r).expires ≤ s.now →
    (∃ u ∈ leaseUsers r, storeRuns s u = true) →
    exec (.leaseExpired r) s = .next (modLease r (fun x => { x with st := .revoking, waitFrom := some s.now }) s)) ∧
  (∀ (s : State) (r : Fin 8) (t : Nat), r.val ≠ 7 → (getLease s r).st = .revoking → (getLease s r).waitFrom = some t → t + 625000000 ≤ s.now →
    exec (.leaseExpired r) s = .next (revoke r s)) ∧
  (∀ (s : State) (r : Fin 8), r.val ≠ 7 → (getLease s r).st = .held → s.now < (getLease s r).expires → exec (.leaseExpired r) s = .next s) ∧
  (∀ s : State, (getLease s 7).st = .held → (getLease s 7).expires ≤ s.now → s.chg.st = .stopped → s.chg.mosaic = false →
    exec (.leaseExpired 7) s = .next (changeRevoked (leaseRevoked 7 s)))

/-- R94: a read of TMB_TB_LO answers the low half of TB and copies the high half into the reader's shadow of TMB_TB_HI; a read of TMB_TB_HI
answers what that shadow holds, in every state, so whatever it last held. As a command, the read changes nothing else: no register, no
memory, and not the shadows of the other initiators (R96). -/
def Obligations.LatchedTimebase : Prop :=
  (∀ (s : State) (who : Initiator), (busRead who A.TMB_TB_LO s).1 = s.tmb.tb.extractLsb' 0 32) ∧
  (∀ (s : State) (who : Initiator), Tbl.getD (shadowsOf (busRead who A.TMB_TB_LO s).2 who) A.TMB_TB_HI 0 = s.tmb.tb.extractLsb' 32 32) ∧
  (∀ (s : State) (who : Initiator), (busRead who A.TMB_TB_HI s).1 = Tbl.getD (shadowsOf s who) A.TMB_TB_HI 0) ∧
  (∀ (s : State) (who other : Initiator), busUp s = true →
    ∃ t, exec (.latchedLowRead who A.TMB_TB_LO) s = .next t ∧ t = (busRead who A.TMB_TB_LO s).2 ∧ t.regs = s.regs ∧ t.mem = s.mem ∧
      t.tmb = s.tmb ∧ (shadowOwner other ≠ shadowOwner who → shadowsOf t other = shadowsOf s other))

/-- R15, R18, R19, R960, R970, R971: an invalid access only counts. A read of an RC counter clears it (the read of PWR_CNT; a register
without RC fields is read without effect), and one in the tick of an increment answers the count before it and leaves the increment. CNT_CLR of a block writes 0 into its counters. A LOCK bit written 1 is set, with every register and
the memory as before, and from then on a write leaves the RWL fields of the block; set already, it stays. Blocks without the bit take no
such write. -/
def Obligations.BusAccesses : Prop :=
  (∀ s : State, busUp s = true → exec (.busInvalidAccess true) s = .next (addF R.GLB_BUS_ERR_WRITES 1 s) ∧
    exec (.busInvalidAccess false) s = .next (addF R.GLB_BUS_ERR_READS 1 s)) ∧
  (∀ (s : State) (who : Initiator), busOpen s who = true → Tbl.get? s.fresh A.PWR_CNT = none →
    ∃ t, exec (.registerReadClear who A.PWR_CNT) s = .next t ∧ rawReg t A.PWR_CNT = 0 ∧ (∀ a, a ≠ A.PWR_CNT → rawReg t a = rawReg s a) ∧
      t.mem = s.mem ∧ t.shadows = s.shadows ∧ (busRead who A.PWR_CNT s).1 = rawReg s A.PWR_CNT) ∧
  (∀ (s : State) (who : Initiator) (n : Fresh), busOpen s who = true → Tbl.get? s.fresh A.PWR_CNT = some n →
    ∃ t, exec (.registerReadClear who A.PWR_CNT) s = .next t ∧ rawReg t A.PWR_CNT = n.news ∧ (busRead who A.PWR_CNT s).1 = n.base ∧
      (∀ a, a ≠ A.PWR_CNT → rawReg t a = rawReg s a)) ∧
  (∀ (s : State) (who : Initiator), busOpen s who = true → exec (.registerReadClear who A.PWR_POLICY) s = .next s) ∧
  (∀ (s : State), busUp s = true →
    exec (.counterClearWrite 0) s = .next (setRaw A.GLB_BUS_ERR 0 s) ∧ exec (.counterClearWrite 4) s = .next (setRaw A.CRO_CNT 0 s) ∧
    exec (.counterClearWrite 6) s = .next (setRaw A.PAT_CNT 0 s) ∧ exec (.counterClearWrite 14) s = .next (setRaw A.FUS_CNT 0 s) ∧
    exec (.counterClearWrite 15) s = .next (setRaw A.PWR_CNT 0 s) ∧
    exec (.counterClearWrite 17) s = .next (setRaw A.FLT_CNT 0 (setRaw A.FLT_CNT2 0 s)) ∧
    exec (.counterClearWrite 18) s = .next (setRaw (A.CFG_FLASH_CNT 0) 0 (setRaw (A.CFG_FLASH_CNT 1) 0 s))) ∧
  (∀ s : State, exec (.counterClearWrite 2) s = .next s ∧ exec (.lockBitSet 2) s = .next s) ∧
  (∀ (s : State) (b : Fin 18), busUp s = true → b.val = 1 ∨ b.val = 4 ∨ b.val = 11 ∨ b.val = 13 ∨ b.val = 15 ∨ b.val = 16 →
    s.rru.acqAbandon = false → lockedBlock s b = false → exec (.lockBitSet b) s = .next { s with head := { s.head with locks := b.val :: s.head.locks } }) ∧
  (∀ (s : State) (b : Fin 18), busUp s = true → b.val = 1 ∨ b.val = 4 ∨ b.val = 11 ∨ b.val = 13 ∨ b.val = 15 ∨ b.val = 16 →
    s.rru.acqAbandon = false → lockedBlock s b = true → exec (.lockBitSet b) s = .next s) ∧
  (∀ (s : State) (who : Initiator) (v : Word), busOpen s who = true → lockedBlock s 0x10 = true → 1 ≤ getF s R.SUP_WDG_CTRL_PERIOD →
    getF s R.SUP_WDG_CTRL_PERIOD ≤ 16000 → s.sup.wdgRun = true →
    ∃ t, exec (.registerWrite who A.SUP_WDG_CTRL v) s = .next t ∧ getF t R.SUP_WDG_CTRL_PERIOD = getF s R.SUP_WDG_CTRL_PERIOD ∧
      t.sup = s.sup ∧ (∀ a, a ≠ A.SUP_WDG_CTRL → rawReg t a = rawReg s a))
end

