-- ==== Sys2Proof/Machine/Keeps.lean ====
section
/-! DEFINITION. What every operation of the model keeps: the queue, the fuse wires and the invariant of Safety.lean. One lemma for each
operation, by which a statement about all commands unfolds none of them. -/

namespace Sys2Proof.Machine

/-- The parts that a change may leave alone: the fuse wires, the memory windows, the timebase, the LOCK bits and the frame
number. -/
structure What where
  wires : Bool
  mem : Bool
  tb : Bool
  locks : Bool
  f : Bool
  deriving DecidableEq, Repr

/-- All of them. -/
def What.all : What := ⟨true, true, true, true, true⟩

/-- What leads from s to t leaves the queue, leaves the parts that wh names (no LOCK bit that is set goes away), and keeps the
invariant. -/
structure Keeps (wh : What) (s t : State) : Prop where
  queue : t.pending = s.pending
  wires : wh.wires = true → t.fus.wires = s.fus.wires
  mem : wh.mem = true → t.mem = s.mem
  tb : wh.tb = true → t.tmb.tb = s.tmb.tb
  locks : wh.locks = true → ∀ b ∈ s.head.locks, b ∈ t.head.locks
  f : wh.f = true → t.rru.f = s.rru.f
  inv : s.Inv → t.Inv

@[simp] theorem keeps_refl {wh : What} {s : State} : Keeps wh s s :=
  ⟨rfl, fun _ => rfl, fun _ => rfl, fun _ => rfl, fun _ _ h => h, fun _ => rfl, id⟩

theorem Keeps.trans {wh : What} {s t u : State} (h : Keeps wh s t) (h' : Keeps wh t u) : Keeps wh s u :=
  ⟨h'.queue.trans h.queue, fun e => (h'.wires e).trans (h.wires e), fun e => (h'.mem e).trans (h.mem e), fun e => (h'.tb e).trans (h.tb e),
    fun e b hb => h'.locks e b (h.locks e b hb), fun e => (h'.f e).trans (h.f e), fun i => h'.inv (h.inv i)⟩

@[simp] theorem keeps_ite {wh : What} {s0 a b : State} {c : Prop} [Decidable c] :
    Keeps wh s0 (if c then a else b) ↔ (c → Keeps wh s0 a) ∧ (¬c → Keeps wh s0 b) := by by_cases h : c <;> simp [h]

@[simp] theorem keeps_snd_ite {α : Type} {wh : What} {s0 : State} {c : Prop} [Decidable c] {a b : α × State} :
    Keeps wh s0 (if c then a else b).2 ↔ (c → Keeps wh s0 a.2) ∧ (¬c → Keeps wh s0 b.2) := by by_cases h : c <;> simp [h]

/-- A change that leaves the queue, the parts and every bounded part alone. -/
theorem keeps_of_same {wh : What} {s0 s t : State} (h : Keeps wh s0 s) (hp : t.pending = s.pending) (hw : t.fus = s.fus)
    (hm : t.mem = s.mem) (hf : t.flt = s.flt) (hl : t.lcp = s.lcp) (ht : t.tge = s.tge) (hb : t.tmb.tb = s.tmb.tb)
    (hk : t.head.locks = s.head.locks) (hF : t.rru.f = s.rru.f) : Keeps wh s0 t :=
  h.trans ⟨hp, fun _ => by rw [hw], fun _ => hm, fun _ => hb, fun _ b hb => hk ▸ hb, fun _ => hF,
    fun i => ⟨by rw [hm]; exact i.mem, by rw [hf]; exact i.flt, by rw [hl]; exact i.lcp, by rw [ht]; exact i.tge⟩⟩

@[simp] theorem keeps_onRru {wh : What} {s0 s : State} {f : Rru → Rru} (h : Keeps wh s0 s) (hf : (f s.rru).f = s.rru.f) :
    Keeps wh s0 (s.onRru f) := keeps_of_same h rfl rfl rfl rfl rfl rfl rfl rfl hf

theorem keeps_onRru' {wh : What} {s0 s : State} {f : Rru → Rru} (h : Keeps wh s0 s) (hn : wh.f = false := by assumption) :
    Keeps wh s0 (s.onRru f) :=
  h.trans ⟨rfl, fun _ => rfl, fun _ => rfl, fun _ => rfl, fun _ _ h => h, fun e => absurd e (by simp [hn]), fun i => ⟨i.mem, i.flt, i.lcp, i.tge⟩⟩

@[simp] theorem keeps_onSns {wh : What} {s0 s : State} {f : Sns → Sns} (h : Keeps wh s0 s) : Keeps wh s0 (s.onSns f) :=
  keeps_of_same h rfl rfl rfl rfl rfl rfl rfl rfl rfl
@[simp] theorem keeps_onCro {wh : What} {s0 s : State} {f : Cro → Cro} (h : Keeps wh s0 s) : Keeps wh s0 (s.onCro f) :=
  keeps_of_same h rfl rfl rfl rfl rfl rfl rfl rfl rfl
@[simp] theorem keeps_onExs {wh : What} {s0 s : State} {f : Exs → Exs} (h : Keeps wh s0 s) : Keeps wh s0 (s.onExs f) :=
  keeps_of_same h rfl rfl rfl rfl rfl rfl rfl rfl rfl
@[simp] theorem keeps_onPat {wh : What} {s0 s : State} {f : Pat → Pat} (h : Keeps wh s0 s) : Keeps wh s0 (s.onPat f) :=
  keeps_of_same h rfl rfl rfl rfl rfl rfl rfl rfl rfl
@[simp] theorem keeps_onCal {wh : What} {s0 s : State} {f : Cal → Cal} (h : Keeps wh s0 s) : Keeps wh s0 (s.onCal f) :=
  keeps_of_same h rfl rfl rfl rfl rfl rfl rfl rfl rfl
@[simp] theorem keeps_onCtg {wh : What} {s0 s : State} {f : Ctg → Ctg} (h : Keeps wh s0 s) : Keeps wh s0 (s.onCtg f) :=
  keeps_of_same h rfl rfl rfl rfl rfl rfl rfl rfl rfl
@[simp] theorem keeps_onTrc {wh : What} {s0 s : State} {f : Trc → Trc} (h : Keeps wh s0 s) : Keeps wh s0 (s.onTrc f) :=
  keeps_of_same h rfl rfl rfl rfl rfl rfl rfl rfl rfl
@[simp] theorem keeps_onCfg {wh : What} {s0 s : State} {f : Cfg → Cfg} (h : Keeps wh s0 s) : Keeps wh s0 (s.onCfg f) :=
  keeps_of_same h rfl rfl rfl rfl rfl rfl rfl rfl rfl
@[simp] theorem keeps_onChg {wh : What} {s0 s : State} {f : Chg → Chg} (h : Keeps wh s0 s) : Keeps wh s0 (s.onChg f) :=
  keeps_of_same h rfl rfl rfl rfl rfl rfl rfl rfl rfl
@[simp] theorem keeps_onLnk {wh : What} {s0 s : State} {f : Lnk → Lnk} (h : Keeps wh s0 s) : Keeps wh s0 (s.onLnk f) :=
  keeps_of_same h rfl rfl rfl rfl rfl rfl rfl rfl rfl
@[simp] theorem keeps_onTen {wh : What} {s0 s : State} {f : Ten → Ten} (h : Keeps wh s0 s) : Keeps wh s0 (s.onTen f) :=
  keeps_of_same h rfl rfl rfl rfl rfl rfl rfl rfl rfl
@[simp] theorem keeps_onMos {wh : What} {s0 s : State} {f : Mos → Mos} (h : Keeps wh s0 s) : Keeps wh s0 (s.onMos f) :=
  keeps_of_same h rfl rfl rfl rfl rfl rfl rfl rfl rfl
@[simp] theorem keeps_onPwr {wh : What} {s0 s : State} {f : Pwr → Pwr} (h : Keeps wh s0 s) : Keeps wh s0 (s.onPwr f) :=
  keeps_of_same h rfl rfl rfl rfl rfl rfl rfl rfl rfl
@[simp] theorem keeps_onSup {wh : What} {s0 s : State} {f : Sup → Sup} (h : Keeps wh s0 s) : Keeps wh s0 (s.onSup f) :=
  keeps_of_same h rfl rfl rfl rfl rfl rfl rfl rfl rfl

@[simp] theorem keeps_onHead {wh : What} {s0 s : State} {f : Head → Head} (h : Keeps wh s0 s) (hf : (f s.head).locks = s.head.locks) :
    Keeps wh s0 (s.onHead f) := keeps_of_same h rfl rfl rfl rfl rfl rfl rfl hf rfl

theorem keeps_onHead' {wh : What} {s0 s : State} {f : Head → Head} (h : Keeps wh s0 s)
    (hf : wh.locks = true → ∀ b ∈ s.head.locks, b ∈ (f s.head).locks) : Keeps wh s0 (s.onHead f) :=
  h.trans ⟨rfl, fun _ => rfl, fun _ => rfl, fun _ => rfl, hf, fun _ => rfl, fun i => ⟨i.mem, i.flt, i.lcp, i.tge⟩⟩

@[simp] theorem keeps_onTmb {wh : What} {s0 s : State} {f : Tmb → Tmb} (h : Keeps wh s0 s) (hf : (f s.tmb).tb = s.tmb.tb) :
    Keeps wh s0 (s.onTmb f) := keeps_of_same h rfl rfl rfl rfl rfl rfl hf rfl rfl

theorem keeps_onTmb' {wh : What} {s0 s : State} {f : Tmb → Tmb} (h : Keeps wh s0 s) (hf : wh.tb = false) : Keeps wh s0 (s.onTmb f) :=
  h.trans ⟨rfl, fun _ => rfl, fun _ => rfl, fun e => absurd e (by simp [hf]), fun _ _ h => h, fun _ => rfl, fun i => ⟨i.mem, i.flt, i.lcp, i.tge⟩⟩

@[simp] theorem keeps_onFus {wh : What} {s0 s : State} {f : Fus → Fus} (h : Keeps wh s0 s) (hf : (f s.fus).wires = s.fus.wires) :
    Keeps wh s0 (s.onFus f) :=
  h.trans ⟨rfl, fun _ => hf, fun _ => rfl, fun _ => rfl, fun _ _ h => h, fun _ => rfl, fun i => ⟨i.mem, i.flt, i.lcp, i.tge⟩⟩

theorem keeps_onFlt' {wh : What} {s0 s : State} {f : Flt → Flt} (h : Keeps wh s0 s) (hf : s.flt.bounded → (f s.flt).bounded) :
    Keeps wh s0 (s.onFlt f) := h.trans ⟨rfl, fun _ => rfl, fun _ => rfl, fun _ => rfl, fun _ _ h => h, fun _ => rfl, fun i => ⟨i.mem, hf i.flt, i.lcp, i.tge⟩⟩

theorem keeps_onLcp' {wh : What} {s0 s : State} {f : Lcp → Lcp} (h : Keeps wh s0 s) (hf : s.lcp.bounded → (f s.lcp).bounded) :
    Keeps wh s0 (s.onLcp f) := h.trans ⟨rfl, fun _ => rfl, fun _ => rfl, fun _ => rfl, fun _ _ h => h, fun _ => rfl, fun i => ⟨i.mem, i.flt, hf i.lcp, i.tge⟩⟩

theorem keeps_onTge' {wh : What} {s0 s : State} {f : Tge → Tge} (h : Keeps wh s0 s) (hf : s.tge.bounded → (f s.tge).bounded) :
    Keeps wh s0 (s.onTge f) := h.trans ⟨rfl, fun _ => rfl, fun _ => rfl, fun _ => rfl, fun _ _ h => h, fun _ => rfl, fun i => ⟨i.mem, i.flt, i.lcp, hf i.tge⟩⟩

@[simp] theorem keeps_onFlt {wh : What} {s0 s : State} {f : Flt → Flt} (h : Keeps wh s0 s) (hr : (f s.flt).ring = s.flt.ring)
    (hm : (f s.flt).mirror = s.flt.mirror) : Keeps wh s0 (s.onFlt f) := keeps_onFlt' h fun b => ⟨hr ▸ b.1, hm ▸ b.2⟩

@[simp] theorem keeps_onLcp {wh : What} {s0 s : State} {f : Lcp → Lcp} (h : Keeps wh s0 s) (hf : (f s.lcp).sessions = s.lcp.sessions) :
    Keeps wh s0 (s.onLcp f) := keeps_onLcp' h fun b x hx => b x (hf ▸ hx)

@[simp] theorem keeps_onTge {wh : What} {s0 s : State} {f : Tge → Tge} (h : Keeps wh s0 s) (hf : (f s.tge).engines = s.tge.engines) :
    Keeps wh s0 (s.onTge f) := keeps_onTge' h fun b x hx => b x (hf ▸ hx)

/-- A property of every element stays when one element is changed by what keeps it. -/
theorem forall_mem_modify {α : Type} {p : α → Prop} {l : List α} {n : Nat} {f : α → α} (h : ∀ x ∈ l, p x) (hf : ∀ x, p x → p (f x)) :
    ∀ x ∈ l.modify n f, p x := by
  intro x hx
  obtain ⟨i, hi, rfl⟩ := List.mem_iff_getElem.mp hx
  rw [List.getElem_modify]
  have hi' : i < l.length := by simpa using hi
  split
  · exact hf _ (h _ (List.getElem_mem hi'))
  · exact h _ (List.getElem_mem hi')

theorem keeps_modSession' {wh : What} {s0 s : State} {n : Nat} {f : Session → Session} (h : Keeps wh s0 s)
    (hf : ∀ x : Session, x.bounded → (f x).bounded) : Keeps wh s0 (modSession n f s) :=
  keeps_onLcp' h fun b => forall_mem_modify (p := Session.bounded) b hf

@[simp] theorem keeps_modSession {wh : What} {s0 s : State} {n : Nat} {f : Session → Session} (h : Keeps wh s0 s)
    (hf : ∀ x : Session, (f x).evq = x.evq) : Keeps wh s0 (modSession n f s) :=
  keeps_modSession' h fun x b => by unfold Session.bounded at *; rw [hf]; exact b

theorem keeps_modEngine' {wh : What} {s0 s : State} {e : Nat} {f : Engine → Engine} (h : Keeps wh s0 s)
    (hf : ∀ x : Engine, x.bounded → (f x).bounded) : Keeps wh s0 (modEngine e f s) :=
  keeps_onTge' h fun b => forall_mem_modify (p := Engine.bounded) b hf

@[simp] theorem keeps_modEngine {wh : What} {s0 s : State} {e : Nat} {f : Engine → Engine} (h : Keeps wh s0 s)
    (hf : ∀ x : Engine, (f x).threads = x.threads) : Keeps wh s0 (modEngine e f s) :=
  keeps_modEngine' h fun x b => by unfold Engine.bounded at *; rw [hf]; exact b

theorem keeps_modThread' {wh : What} {s0 s : State} {e t : Nat} {f : Thread → Thread} (h : Keeps wh s0 s)
    (hf : ∀ x : Thread, x.bounded → (f x).bounded) : Keeps wh s0 (modThread e t f s) :=
  keeps_modEngine' h fun _ b => forall_mem_modify (p := Thread.bounded) b hf

@[simp] theorem keeps_modThread {wh : What} {s0 s : State} {e t : Nat} {f : Thread → Thread} (h : Keeps wh s0 s)
    (ht : ∀ x : Thread, (f x).txf = x.txf) (hr : ∀ x : Thread, (f x).rxf = x.rxf) : Keeps wh s0 (modThread e t f s) :=
  keeps_modThread' h fun x b => by unfold Thread.bounded at *; rw [ht, hr]; exact b

@[simp] theorem keeps_forEach {α : Type} {wh : What} {s0 s : State} {l : List α} {f : α → State → State} (h : Keeps wh s0 s)
    (hf : ∀ x t, Keeps wh t (f x t)) : Keeps wh s0 (forEach l f s) := by
  unfold forEach
  induction l generalizing s with
  | nil => exact h
  | cons a l ih => exact ih (h.trans (hf a s))

@[simp] theorem keeps_when {wh : What} {s0 s : State} {c : Bool} {f : State → State} (h : Keeps wh s0 s) (hf : c = true → Keeps wh s (f s)) :
    Keeps wh s0 (when c f s) := by
  unfold when
  split
  · exact h.trans (hf ‹_›)
  · exact h

/-! ## The memory windows -/

theorem Mem.wfFrom_mono {d : Nat → Byte} {m : List Host.Cell} {a b : Nat} (h : a ≤ b) (w : Mem.wfFrom d b m = true) :
    Mem.wfFrom d a m = true := by
  cases m with
  | nil => rfl
  | cons c t => simp only [Mem.wfFrom, Bool.and_eq_true, decide_eq_true_eq] at w ⊢; exact ⟨⟨by omega, w.1.2⟩, w.2⟩

/-- A write of one byte keeps the canonical form. -/
theorem Mem.wfFrom_write {d : Nat → Byte} {m : List Host.Cell} {lo n : Nat} {v : Byte} (h : lo ≤ n) (w : Mem.wfFrom d lo m = true) :
    Mem.wfFrom d lo (Mem.write d m n v) = true := by
  induction m generalizing lo with
  | nil => unfold Mem.write; split <;> simp [Mem.wfFrom, *]
  | cons c t ih =>
    simp only [Mem.wfFrom, Bool.and_eq_true, decide_eq_true_eq, bne_iff_ne, ne_eq] at w
    obtain ⟨⟨h1, h2⟩, h3⟩ := w
    unfold Mem.write
    split
    · split
      · simp [Mem.wfFrom, h1, h2, h3]
      · simp only [Mem.wfFrom, Bool.and_eq_true, decide_eq_true_eq, bne_iff_ne, ne_eq]
        exact ⟨⟨h, ‹_›⟩, ⟨by omega, h2⟩, h3⟩
    · split
      · split
        · exact Mem.wfFrom_mono (by omega) h3
        · subst n; simp only [Mem.wfFrom, Bool.and_eq_true, decide_eq_true_eq, bne_iff_ne, ne_eq]
          exact ⟨⟨h1, ‹_›⟩, h3⟩
      · simp only [Mem.wfFrom, Bool.and_eq_true, decide_eq_true_eq, bne_iff_ne, ne_eq]
        exact ⟨⟨h1, h2⟩, ih (by omega) h3⟩

/-- A write of bytes keeps the canonical form. -/
theorem Memory.wf_writeBytes {m : List Host.Cell} {a : Nat} {bs : List Byte} (w : Memory.wf m = true) :
    Memory.wf (Mem.writeBytes memDefault m a bs) = true := by
  induction bs generalizing m a with
  | nil => exact w
  | cons b bs ih => exact ih (Mem.wfFrom_write (Nat.zero_le _) w)

/-- Leaving out cells keeps the canonical form. -/
theorem Mem.wfFrom_filter {d : Nat → Byte} {m : List Host.Cell} {lo : Nat} {p : Host.Cell → Bool} (w : Mem.wfFrom d lo m = true) :
    Mem.wfFrom d lo (m.filter p) = true := by
  induction m generalizing lo with
  | nil => rfl
  | cons c t ih =>
    simp only [Mem.wfFrom, Bool.and_eq_true, decide_eq_true_eq] at w
    rw [List.filter_cons]
    split
    · simp only [Mem.wfFrom, Bool.and_eq_true, decide_eq_true_eq]; exact ⟨w.1, ih w.2⟩
    · exact ih (Mem.wfFrom_mono (by omega) w.2)

theorem keeps_mem {wh : What} {s0 s t : State} (h : Keeps wh s0 s) (hp : t.pending = s.pending) (hw : t.fus = s.fus)
    (hm : Memory.wf s.mem = true → Memory.wf t.mem = true) (hf : t.flt = s.flt) (hl : t.lcp = s.lcp) (ht : t.tge = s.tge)
    (hb : t.tmb.tb = s.tmb.tb) (hk : t.head.locks = s.head.locks) (hF : t.rru.f = s.rru.f) (hn : wh.mem = false := by assumption) : Keeps wh s0 t :=
  h.trans ⟨hp, fun _ => by rw [hw], fun e => absurd e (by simp [hn]), fun _ => hb, fun _ b hb => hk ▸ hb, fun _ => hF,
    fun i => ⟨hm i.mem, by rw [hf]; exact i.flt, by rw [hl]; exact i.lcp, by rw [ht]; exact i.tge⟩⟩

@[simp] theorem keeps_setMemWord {wh : What} {s0 s : State} {a : Nat} {v : Word} (h : Keeps wh s0 s) (hn : wh.mem = false := by assumption) :
    Keeps wh s0 (setMemWord a v s) := keeps_mem h rfl rfl Memory.wf_writeBytes rfl rfl rfl rfl rfl rfl

theorem keeps_writeBytes {wh : What} {s0 s : State} {a : Nat} {l : List Byte} (h : Keeps wh s0 s) (hn : wh.mem = false := by assumption) :
    Keeps wh s0 { s with mem := Mem.writeBytes memDefault s.mem a l } := keeps_mem h rfl rfl Memory.wf_writeBytes rfl rfl rfl rfl rfl rfl

/-! ## The fault log -/

theorem dropOldest_length {ring : List LogEntry} (h : ringFull ring = false) (h256 : ring.length = 256) : (dropOldest ring).length = 255 := by
  simp only [ringFull, h256, Nat.le_refl, decide_true, Bool.true_and] at h
  unfold dropOldest
  split
  · rename_i i hi
    have hl := (List.findIdx?_eq_some_iff_getElem.mp hi).1
    rw [List.length_reverse, List.length_eraseIdx_of_lt hl, List.length_reverse, h256]
  · rename_i hi
    rw [List.findIdx?_eq_none_iff] at hi
    rw [← Bool.not_eq_true, List.all_eq_true] at h
    exact absurd (fun x hx => by simpa using hi x (by simpa using hx)) h

theorem Session.take_bounded {now : Nat} {e : LogEntry} {x : Session} (h : x.bounded) : (x.take now e).bounded := by
  unfold Session.take Session.bounded at *
  split
  · simp only [List.length_append, List.length_cons, List.length_nil]; omega
  · exact h

@[simp] theorem keeps_pushToSessions {wh : What} {s0 s : State} {e : LogEntry} {all : Bool} (h : Keeps wh s0 s) :
    Keeps wh s0 (pushToSessions e all s) := by
  refine keeps_onLcp' h fun b x hx => ?_
  obtain ⟨y, hy, rfl⟩ := List.mem_map.mp hx
  split
  · exact Session.take_bounded (b y hy)
  · exact b y hy

@[simp] theorem keeps_setRaw {wh : What} {s0 s : State} {a : Nat} {v : Word} (h : Keeps wh s0 s) : Keeps wh s0 (setRaw a v s) :=
  keeps_of_same h rfl rfl rfl rfl rfl rfl rfl rfl rfl

@[simp] theorem keeps_takeFree {wh : What} {s0 s : State} (h : Keeps wh s0 s) : Keeps wh s0 (takeFree s).2 :=
  keeps_of_same h rfl rfl rfl rfl rfl rfl rfl rfl rfl

/-! ## The trigger engines -/

theorem getThread_bounded {s : State} {e t : Nat} (h : s.tge.bounded) : (getThread s e t).bounded := by
  have hd : ∀ {α : Type} {p : α → Prop} {l : List α} {n : Nat} {d : α}, (∀ x ∈ l, p x) → p d → p (l.getD n d) := by
    intro α p l n d hl hp
    rw [List.getD_eq_getElem?_getD]
    rcases hn : l[n]? with _ | x
    · exact hp
    · exact hl x (List.mem_of_getElem? hn)
  have e0 : (({} : Engine)).bounded := by
    intro x hx
    have : x = {} := by simpa using List.eq_of_mem_replicate hx
    subst this; exact ⟨by simp, by simp⟩
  exact hd (hd h e0) ⟨by simp, by simp⟩

theorem keeps_setThread' {wh : What} {s0 s : State} {e t : Nat} {y : Thread} (h : Keeps wh s0 s) (hy : s.tge.bounded → y.bounded) :
    Keeps wh s0 (modThread e t (fun _ => y) s) :=
  by unfold modThread modEngine
     exact keeps_onTge' h fun b => forall_mem_modify (p := Engine.bounded) b fun x b' => forall_mem_modify (p := Thread.bounded) b' fun _ _ => hy b

@[simp] theorem keeps_setThread {wh : What} {s0 s : State} {e t : Nat} {y : Thread} (h : Keeps wh s0 s)
    (ht : y.txf = (getThread s e t).txf) (hr : y.rxf = (getThread s e t).rxf) : Keeps wh s0 (modThread e t (fun _ => y) s) :=
  keeps_setThread' h fun b => by have := getThread_bounded (e := e) (t := t) b; unfold Thread.bounded at *; rwa [ht, hr]

theorem forall_mem_modify_at {α : Type} {p : α → Prop} {l : List α} {n : Nat} {f : α → α} (h : ∀ x ∈ l, p x)
    (hf : ∀ hn : n < l.length, p (f l[n])) : ∀ x ∈ l.modify n f, p x := by
  intro x hx
  obtain ⟨i, hi, rfl⟩ := List.mem_iff_getElem.mp hx
  rw [List.getElem_modify]
  have hi' : i < l.length := by simpa using hi
  split
  · subst_vars; exact hf hi'
  · exact h _ (List.getElem_mem hi')

theorem keeps_staged {wh : What} {s0 s : State} {l : List (Nat × Word)} (h : Keeps wh s0 s) : Keeps wh s0 { s with staged := l } :=
  keeps_of_same h rfl rfl rfl rfl rfl rfl rfl rfl rfl



@[simp] theorem keeps_setF {wh : What} {s0 : State} {f : Fld} {x : Nat} {s : State} (h : Keeps wh s0 s) :
    Keeps wh s0 (setF f x s) := by
  simp (maxDischargeDepth := 60) [setF, h]

@[simp] theorem keeps_noteFresh {wh : What} {s0 : State} {f : Fld} {x : Nat} {s : State} (h : Keeps wh s0 s) :
    Keeps wh s0 (noteFresh f x s) := by
  exact keeps_of_same h rfl rfl rfl rfl rfl rfl rfl rfl rfl

@[simp] theorem keeps_raiseF {wh : What} {s0 : State} {f : Fld} {x : Nat} {s : State} (h : Keeps wh s0 s) :
    Keeps wh s0 (raiseF f x s) := by
  simp (maxDischargeDepth := 60) [raiseF, h]

@[simp] theorem keeps_addF {wh : What} {s0 : State} {f : Fld} {x : Nat} {s : State} (h : Keeps wh s0 s) :
    Keeps wh s0 (addF f x s) := by
  simp (maxDischargeDepth := 60) [addF, h]

@[simp] theorem keeps_setStream {wh : What} {s0 : State} {sid : Nat} {x : Stream} {s : State} (h : Keeps wh s0 s) :
    Keeps wh s0 (setStream sid x s) := by
  simp (maxDischargeDepth := 60) [setStream, h]

@[simp] theorem keeps_modStream {wh : What} {s0 : State} {sid : Nat} {f : Stream → Stream} {s : State} (h : Keeps wh s0 s) :
    Keeps wh s0 (modStream sid f s) := by
  simp (maxDischargeDepth := 60) [modStream, h]

@[simp] theorem keeps_modCtx {wh : What} {s0 : State} {t : Nat} {f : Ctx → Ctx} {s : State} (h : Keeps wh s0 s) :
    Keeps wh s0 (modCtx t f s) := by
  simp (maxDischargeDepth := 60) [modCtx, h]

@[simp] theorem keeps_pushPacket {wh : What} {s0 : State} {sid : Nat} {p : Packet} {s : State} (h : Keeps wh s0 s) :
    Keeps wh s0 (pushPacket sid p s) := by
  simp (maxDischargeDepth := 60) [pushPacket, h]

@[simp] theorem keeps_pushEvent {wh : What} {s0 : State} {e : LogEntry} {sid : Nat} {s : State} (h : Keeps wh s0 s) :
    Keeps wh s0 (pushEvent e sid s) := by
  simp (maxDischargeDepth := 60) [pushEvent, h]

@[simp] theorem keeps_pushToStreams {wh : What} {s0 : State} {e : LogEntry} {s : State} (h : Keeps wh s0 s) :
    Keeps wh s0 (pushToStreams e s) := by
  simp (maxDischargeDepth := 60) [pushToStreams, h]

@[simp] theorem keeps_storeEntry {wh : What} {s0 : State} {e : LogEntry} {s : State} (h : Keeps wh s0 s) :
    Keeps wh s0 (storeEntry e s) := by
  unfold storeEntry
  simp only []
  split
  · simp (maxDischargeDepth := 9) [addF, setF, h]
  · rename_i hr
    refine keeps_pushToStreams (keeps_pushToSessions (keeps_onFlt' (s := s.onFlt _) (keeps_onFlt h rfl rfl) fun b => ⟨?_, b.2⟩))
    have b1 := b.1
    simp only [State.onFlt, Bool.not_eq_true] at hr b1 ⊢
    have hl : ∀ l : List LogEntry, ringFull l = false → l.length ≤ 256 → (if l.length < 256 then l else dropOldest l).length ≤ 255 := by
      intro l h1 h2
      split
      · omega
      · exact Nat.le_of_eq (dropOldest_length h1 (by omega))
    rw [List.length_cons]
    exact Nat.succ_le_succ (hl _ hr b1)

@[simp] theorem keeps_logEntry {wh : What} {s0 : State} {e : LogEntry} {s : State} (h : Keeps wh s0 s) :
    Keeps wh s0 (logEntry e s) := by
  simp (maxDischargeDepth := 60) [logEntry, h]

@[simp] theorem keeps_requestLadder {wh : What} {s0 : State} {e : LadderEvent} {s : State} (h : Keeps wh s0 s) :
    Keeps wh s0 (requestLadder e s) := by
  simp (maxDischargeDepth := 60) [requestLadder, h]

@[simp] theorem keeps_touchWindows {wh : What} {s0 : State}  {s : State} (h : Keeps wh s0 s) :
    Keeps wh s0 (touchWindows s) := by
  simp (maxDischargeDepth := 60) [touchWindows, h]

@[simp] theorem keeps_raiseSev {wh : What} {s0 : State} {code : Nat} {sev : Severity} {level : Nat} {fs : List DetailField} {s : State} (h : Keeps wh s0 s) :
    Keeps wh s0 (raiseSev code sev level fs s) := by
  unfold raiseSev
  simp only []
  (repeat' split) <;> simp (maxDischargeDepth := 60) [*]

@[simp] theorem keeps_raise {wh : What} {s0 : State} {code : Nat} {fs : List DetailField} {s : State} (h : Keeps wh s0 s) :
    Keeps wh s0 (raise code fs s) := by
  simp (maxDischargeDepth := 60) [raise, h]

@[simp] theorem keeps_raiseLadder {wh : What} {s0 : State} {code : Nat} {fs : List DetailField} {expiry : Bool} {s : State} (h : Keeps wh s0 s) :
    Keeps wh s0 (raiseLadder code fs expiry s) := by
  simp (maxDischargeDepth := 60) [raiseLadder, h]

@[simp] theorem keeps_raiseLimited {wh : What} {s0 : State} {key period code : Nat} {fs : List DetailField} {s : State} (h : Keeps wh s0 s) :
    Keeps wh s0 (raiseLimited key period code fs s) := by
  simp (maxDischargeDepth := 60) [raiseLimited, h]

@[simp] theorem keeps_raiseFor {wh : What} {s0 : State} {sid code : Nat} {fs : List DetailField} {s : State} (h : Keeps wh s0 s) :
    Keeps wh s0 (raiseFor sid code fs s) := by
  simp (maxDischargeDepth := 60) [raiseFor, h]

@[simp] theorem keeps_openWindow {wh : What} {s0 : State} {level code : Nat} {resets : List Nat} {s : State} (h : Keeps wh s0 s) :
    Keeps wh s0 (openWindow level code resets s) := by
  simp (maxDischargeDepth := 60) [openWindow, h]

@[simp] theorem keeps_closeLevel {wh : What} {s0 : State} {level : Nat} {s : State} (h : Keeps wh s0 s) :
    Keeps wh s0 (closeLevel level s) := by
  simp (maxDischargeDepth := 60) [closeLevel, h]

@[simp] theorem keeps_flushHeld {wh : What} {s0 : State}  {s : State} (h : Keeps wh s0 s) :
    Keeps wh s0 (flushHeld s) := by
  simp (maxDischargeDepth := 60) [flushHeld, h]

@[simp] theorem keeps_setHead {wh : What} {s0 : State} {st : HeadState} {s : State} (h : Keeps wh s0 s) :
    Keeps wh s0 (setHead st s) := by
  simp (maxDischargeDepth := 60) [setHead, h]

@[simp] theorem keeps_plainWrite {wh : What} {s0 : State} {a : Nat} {v : Word} {s : State} (h : Keeps wh s0 s) :
    Keeps wh s0 (plainWrite a v s) := by
  have h1 : ∀ x y w, Keeps wh s0 { setRaw a w { s with fresh := x } with justStaged := y } := fun x y w =>
    keeps_of_same (s := setRaw a w { s with fresh := x }) (keeps_setRaw (keeps_of_same h rfl rfl rfl rfl rfl rfl rfl rfl rfl))
      rfl rfl rfl rfl rfl rfl rfl rfl rfl
  have h2 : ∀ y w, Keeps wh s0 { setRaw a w s with justStaged := y } := fun y w =>
    keeps_of_same (s := setRaw a w s) (keeps_setRaw h) rfl rfl rfl rfl rfl rfl rfl rfl rfl
  unfold plainWrite
  simp only []
  cases Tbl.get? s.fresh a with
  | none =>
    split
    · exact keeps_setRaw h
    · exact h2 _ _
  | some n =>
    split
    · exact keeps_setRaw (keeps_of_same h rfl rfl rfl rfl rfl rfl rfl rfl rfl)
    · exact h1 _ _ _

@[simp] theorem keeps_applyStaged {wh : What} {s0 : State}  {s : State} (h : Keeps wh s0 s) :
    Keeps wh s0 (applyStaged s) := by
  unfold applyStaged
  exact keeps_forEach (keeps_of_same h rfl rfl rfl rfl rfl rfl rfl rfl rfl) fun _ _ => keeps_setRaw keeps_refl

@[simp] theorem keeps_endFresh {wh : What} {s0 : State}  {s : State} (h : Keeps wh s0 s) :
    Keeps wh s0 (endFresh s) := by
  exact keeps_of_same h rfl rfl rfl rfl rfl rfl rfl rfl rfl

@[simp] theorem keeps_rejectWrite {wh : What} {s0 : State} {code a : Nat} {s : State} (h : Keeps wh s0 s) :
    Keeps wh s0 (rejectWrite code a s).2 := by
  simp (maxDischargeDepth := 60) [rejectWrite, h]

@[simp] theorem keeps_declareStuck {wh : What} {s0 : State} {m i : Nat} {s : State} (h : Keeps wh s0 s) :
    Keeps wh s0 (declareStuck m i s) := by
  simp (maxDischargeDepth := 60) [declareStuck, h]

@[simp] theorem keeps_respondStuck {wh : What} {s0 : State} {m i : Nat} {s : State} (h : Keeps wh s0 s) :
    Keeps wh s0 (respondStuck m i s) := by
  simp (maxDischargeDepth := 60) [respondStuck, h]

@[simp] theorem keeps_machineMoves {wh : What} {s0 : State} {m i : Nat} {s : State} (h : Keeps wh s0 s) :
    Keeps wh s0 (machineMoves m i s) := by
  simp (maxDischargeDepth := 60) [machineMoves, h]

@[simp] theorem keeps_modLease {wh : What} {s0 : State} {r : Nat} {f : Lease → Lease} {s : State} (h : Keeps wh s0 s) :
    Keeps wh s0 (modLease r f s) := by
  simp (maxDischargeDepth := 60) [modLease, h]

@[simp] theorem keeps_closeRevoked {wh : What} {s0 : State} {r : Nat} {s : State} (h : Keeps wh s0 s) :
    Keeps wh s0 (closeRevoked r s) := by
  simp (maxDischargeDepth := 60) [closeRevoked, h]

@[simp] theorem keeps_takeLease {wh : What} {s0 : State} {r owner : Nat} {s : State} (h : Keeps wh s0 s) :
    Keeps wh s0 (takeLease r owner s) := by
  simp (maxDischargeDepth := 60) [takeLease, h]

@[simp] theorem keeps_leaseRevoked {wh : What} {s0 : State} {r : Nat} {s : State} (h : Keeps wh s0 s) :
    Keeps wh s0 (leaseRevoked r s) := by
  simp (maxDischargeDepth := 60) [leaseRevoked, h]

@[simp] theorem keeps_freeLease {wh : What} {s0 : State} {r : Nat} {s : State} (h : Keeps wh s0 s) :
    Keeps wh s0 (freeLease r s) := by
  simp (maxDischargeDepth := 60) [freeLease, h]

@[simp] theorem keeps_refusedHolder {wh : What} {s0 : State} {r owner : Nat} {s : State} (h : Keeps wh s0 s) :
    Keeps wh s0 (refusedHolder r owner s) := by
  simp (maxDischargeDepth := 60) [refusedHolder, h]

@[simp] theorem keeps_formerActs {wh : What} {s0 : State} {r owner : Nat} {s : State} (h : Keeps wh s0 s) :
    Keeps wh s0 (formerActs r owner s) := by
  simp (maxDischargeDepth := 60) [formerActs, h]

@[simp] theorem keeps_leaveLease {wh : What} {s0 : State} {r owner : Nat} {s : State} (h : Keeps wh s0 s) :
    Keeps wh s0 (leaveLease r owner s) := by
  simp (maxDischargeDepth := 60) [leaveLease, h]

@[simp] theorem keeps_askStore {wh : What} {s0 : State} {op : StoreOp} {u : StoreUser} {s : State} (h : Keeps wh s0 s) :
    Keeps wh s0 (askStore op u s) := by
  simp (maxDischargeDepth := 60) [askStore, h]

@[simp] theorem keeps_dropStore {wh : What} {s0 : State} {u : StoreUser} {s : State} (h : Keeps wh s0 s) :
    Keeps wh s0 (dropStore u s) := by
  simp (maxDischargeDepth := 60) [dropStore, h]

@[simp] theorem keeps_endStore {wh : What} {s0 : State} {u : StoreUser} {s : State} (h : Keeps wh s0 s) :
    Keeps wh s0 (endStore u s) := by
  simp (maxDischargeDepth := 60) [endStore, h]

@[simp] theorem keeps_waitStore {wh : What} {s0 : State} {w : WaitStore} {s : State} (h : Keeps wh s0 s) :
    Keeps wh s0 (waitStore w s) := by
  simp (maxDischargeDepth := 60) [waitStore, h]

@[simp] theorem keeps_runStore {wh : What} {s0 : State} {w : WaitStore} {s : State} (h : Keeps wh s0 s) :
    Keeps wh s0 (runStore w s) := by
  simp (maxDischargeDepth := 60) [runStore, h]

@[simp] theorem keeps_doEnergyCheckRetry {wh : What} {s0 : State}  {s : State} (h : Keeps wh s0 s) :
    Keeps wh s0 (doEnergyCheckRetry s) := by
  simp (maxDischargeDepth := 60) [doEnergyCheckRetry, h]

@[simp] theorem keeps_modMon {wh : What} {s0 : State} {src : Nat} {f : SourceMon → SourceMon} {s : State} (h : Keeps wh s0 s) :
    Keeps wh s0 (modMon src f s) := by
  simp (maxDischargeDepth := 60) [modMon, h]

@[simp] theorem keeps_newControlWord {wh : What} {s0 : State}  {s : State} (h : Keeps wh s0 s) :
    Keeps wh s0 (newControlWord s) := by
  simp (maxDischargeDepth := 60) [newControlWord, h]

@[simp] theorem keeps_rasterUp {wh : What} {s0 : State}  {s : State} (h : Keeps wh s0 s) :
    Keeps wh s0 (rasterUp s) := by
  simp (maxDischargeDepth := 60) [rasterUp, h]

@[simp] theorem keeps_stopOutputs {wh : What} {s0 : State}  {s : State} (h : Keeps wh s0 s) :
    Keeps wh s0 (stopOutputs s) := by
  simp (maxDischargeDepth := 60) [stopOutputs, h]

@[simp] theorem keeps_bandFail {wh : What} {s0 : State} {src : Nat} {s : State} (h : Keeps wh s0 s) :
    Keeps wh s0 (bandFail src s) := by
  simp (maxDischargeDepth := 60) [bandFail, h]

@[simp] theorem keeps_tryAcquireN {wh : What} {s0 : State} {n : Nat} {s : State} (h : Keeps wh s0 s) : Keeps wh s0 (tryAcquireN n s) := by
  induction n generalizing s with
  | zero => exact h
  | succ n ih =>
    unfold tryAcquireN
    simp only []
    (repeat' split) <;> simp (maxDischargeDepth := 60) [*]


@[simp] theorem keeps_tryAcquire {wh : What} {s0 : State}  {s : State} (h : Keeps wh s0 s) :
    Keeps wh s0 (tryAcquire s) := by
  simp (maxDischargeDepth := 60) [tryAcquire, h]

@[simp] theorem keeps_enterQual {wh : What} {s0 : State}  {s : State} (h : Keeps wh s0 s) :
    Keeps wh s0 (enterQual s) := by
  simp (maxDischargeDepth := 60) [enterQual, h]

@[simp] theorem keeps_noteMove {wh : What} {s0 : State} {code : Nat} {l : List Nat} {s : State} (h : Keeps wh s0 s) :
    Keeps wh s0 (noteMove code l s) := by
  simp (maxDischargeDepth := 60) [noteMove, h]

@[simp] theorem keeps_logMoves {wh : What} {s0 : State}  {s : State} (h : Keeps wh s0 s) :
    Keeps wh s0 (logMoves s) := by
  simp (maxDischargeDepth := 60) [logMoves, h]

@[simp] theorem keeps_chooseInCoast {wh : What} {s0 : State}  {s : State} (h : Keeps wh s0 s) :
    Keeps wh s0 (chooseInCoast s) := by
  simp (maxDischargeDepth := 60) [chooseInCoast, h]

@[simp] theorem keeps_beginCoast {wh : What} {s0 : State}  {s : State} (h : Keeps wh s0 s) :
    Keeps wh s0 (beginCoast s) := by
  simp (maxDischargeDepth := 60) [beginCoast, h]

@[simp] theorem keeps_loseActive {wh : What} {s0 : State} {cause : Nat} {s : State} (h : Keeps wh s0 s) :
    Keeps wh s0 (loseActive cause s) := by
  unfold loseActive
  (repeat' split) <;> simp (maxDischargeDepth := 60) [*]

@[simp] theorem keeps_disqualify {wh : What} {s0 : State} {src cause : Nat} {s : State} (h : Keeps wh s0 s) :
    Keeps wh s0 (disqualify src cause s) := by
  simp (maxDischargeDepth := 60) [disqualify, h]

@[simp] theorem keeps_qualify {wh : What} {s0 : State} {src : Nat} {s : State} (h : Keeps wh s0 s) :
    Keeps wh s0 (qualify src s) := by
  simp (maxDischargeDepth := 60) [qualify, h]

@[simp] theorem keeps_markRevert {wh : What} {s0 : State} {src : Nat} {s : State} (h : Keeps wh s0 s) :
    Keeps wh s0 (markRevert src s) := by
  simp (maxDischargeDepth := 60) [markRevert, h]

@[simp] theorem keeps_adopt {wh : What} {s0 : State} {src : Nat} {s : State} (h : Keeps wh s0 s) :
    Keeps wh s0 (adopt src s) := by
  simp (maxDischargeDepth := 60) [adopt, h]

@[simp] theorem keeps_judgeAmplitude {wh : What} {s0 : State} {pos neg : Nat} {s : State} (h : Keeps wh s0 s) :
    Keeps wh s0 (judgeAmplitude pos neg s) := by
  simp (maxDischargeDepth := 60) [judgeAmplitude, h]

@[simp] theorem keeps_lineMonitor {wh : What} {s0 : State} {src t line : Nat} {s : State} (h : Keeps wh s0 s) :
    Keeps wh s0 (lineMonitor src t line s) := by
  unfold lineMonitor
  simp only []
  (repeat' split) <;> simp (maxDischargeDepth := 60) [*]

@[simp] theorem keeps_searchEvent {wh : What} {s0 : State}  {s : State} (h : Keeps wh s0 s) :
    Keeps wh s0 (searchEvent s) := by
  simp (maxDischargeDepth := 60) [searchEvent, h]

@[simp] theorem keeps_phaseCheck {wh : What} {s0 : State} {err : Int} {lines : Nat} {s : State} (h : Keeps wh s0 s) :
    Keeps wh s0 (phaseCheck err lines s) := by
  unfold phaseCheck
  (repeat' split) <;> simp (maxDischargeDepth := 60) [*]

@[simp] theorem keeps_lineEvent {wh : What} {s0 : State} {src t : Nat} {err : Int} {line : Nat} {s : State} (h : Keeps wh s0 s) :
    Keeps wh s0 (lineEvent src t err line s) := by
  simp (maxDischargeDepth := 60) [lineEvent, h]

@[simp] theorem keeps_lineMissing {wh : What} {s0 : State} {src : Nat} {s : State} (h : Keeps wh s0 s) :
    Keeps wh s0 (lineMissing src s) := by
  simp (maxDischargeDepth := 60) [lineMissing, h]

@[simp] theorem keeps_doSourceLineEvent {wh : What} {s0 : State} {src : Source} {t : Nat} {err : Int} {pos neg line : Nat} {s : State} (h : Keeps wh s0 s) :
    Keeps wh s0 (doSourceLineEvent src t err pos neg line s) := by
  unfold doSourceLineEvent
  generalize scheduleLine s = o
  generalize freeLine s t = u
  extract_lets c
  split
  · exact keeps_modMon h
  · split
    · exact h
    · cases src with
      | free => cases u with
        | none => exact h
        | some t => exact keeps_lineEvent h
      | syncIn => dsimp only; split <;> first | exact keeps_lineEvent (keeps_judgeAmplitude h) | exact keeps_judgeAmplitude h
      | digital => dsimp only; split <;> first | exact keeps_lineEvent h | exact h
      | ptpSchedule => cases o with
        | none => exact h
        | some p => dsimp only; split <;> first | exact keeps_lineEvent h | exact h
      | optical => exact keeps_lineEvent h
      | mosaic => exact keeps_lineEvent h

@[simp] theorem keeps_doLineEventMissing {wh : What} {s0 : State} {src : Source} {s : State} (h : Keeps wh s0 s) :
    Keeps wh s0 (doLineEventMissing src s) := by
  simp (maxDischargeDepth := 60) [doLineEventMissing, h]

@[simp] theorem keeps_takeParity {wh : What} {s0 : State} {src : Nat} {parity : Bool} {s : State} (h : Keeps wh s0 s) :
    Keeps wh s0 (takeParity src parity s) := by
  simp (maxDischargeDepth := 60) [takeParity, h]

@[simp] theorem keeps_vertMissing {wh : What} {s0 : State} {src : Nat} {s : State} (h : Keeps wh s0 s) :
    Keeps wh s0 (vertMissing src s) := by
  simp (maxDischargeDepth := 60) [vertMissing, h]

@[simp] theorem keeps_countVertical {wh : What} {s0 : State} {src : Nat} {s : State} (h : Keeps wh s0 s) :
    Keeps wh s0 (countVertical src s) := by
  simp (maxDischargeDepth := 60) [countVertical, h]

@[simp] theorem keeps_endSourceFrame {wh : What} {s0 : State} {src c vtb : Nat} {s : State} (h : Keeps wh s0 s) :
    Keeps wh s0 (endSourceFrame src c vtb s) := by
  simp (maxDischargeDepth := 60) [endSourceFrame, h]

@[simp] theorem keeps_verticalEvent {wh : What} {s0 : State} {src vtb : Nat} {parity : Bool} {s : State} (h : Keeps wh s0 s) :
    Keeps wh s0 (verticalEvent src vtb parity s) := by
  simp (maxDischargeDepth := 60) [verticalEvent, h]

@[simp] theorem keeps_xcheckFrame {wh : What} {s0 : State} {diff : Int} {s : State} (h : Keeps wh s0 s) :
    Keeps wh s0 (xcheckFrame diff s) := by
  simp (maxDischargeDepth := 60) [xcheckFrame, h]

@[simp] theorem keeps_doSourceVerticalEvent {wh : What} {s0 : State} {src : Source} {parity : Bool} {diff : Int} {s : State} (h : Keeps wh s0 s) :
    Keeps wh s0 (doSourceVerticalEvent src parity diff s) := by
  unfold doSourceVerticalEvent
  simp only []
  (repeat' split) <;> simp (maxDischargeDepth := 60) [h]

@[simp] theorem keeps_ownFrameEnd {wh : What} {s0 : State} {src c : Nat} {s : State} (h : Keeps wh s0 s) :
    Keeps wh s0 (ownFrameEnd src c s) := by
  simp (maxDischargeDepth := 60) [ownFrameEnd, h]

@[simp] theorem keeps_activeFrameEnd {wh : What} {s0 : State}  {s : State} (h : Keeps wh s0 s) :
    Keeps wh s0 (activeFrameEnd s) := by
  simp (maxDischargeDepth := 60) [activeFrameEnd, h]

@[simp] theorem keeps_doFlywheelFrameEnd {wh : What} {s0 : State} {src : Source} {s : State} (h : Keeps wh s0 s) :
    Keeps wh s0 (doFlywheelFrameEnd src s) := by
  simp (maxDischargeDepth := 60) [doFlywheelFrameEnd, h]

@[simp] theorem keeps_revertFreezes {wh : What} {s0 : State}  {s : State} (h : Keeps wh s0 s) :
    Keeps wh s0 (revertFreezes s) := by
  unfold revertFreezes
  (repeat' split) <;> simp (maxDischargeDepth := 60) [*]

@[simp] theorem keeps_doRevertFreeze {wh : What} {s0 : State}  {s : State} (h : Keeps wh s0 s) :
    Keeps wh s0 (doRevertFreeze s) := by
  unfold doRevertFreeze
  (repeat' split) <;> simp (maxDischargeDepth := 60) [*]

@[simp] theorem keeps_doCoastMaxExpired {wh : What} {s0 : State}  {s : State} (h : Keeps wh s0 s) :
    Keeps wh s0 (doCoastMaxExpired s) := by
  simp (maxDischargeDepth := 60) [doCoastMaxExpired, h]

@[simp] theorem keeps_doQualCoastMaxExpired {wh : What} {s0 : State}  {s : State} (h : Keeps wh s0 s) :
    Keeps wh s0 (doQualCoastMaxExpired s) := by
  simp (maxDischargeDepth := 60) [doQualCoastMaxExpired, h]

@[simp] theorem keeps_doBandSearchDone {wh : What} {s0 : State} {band : Option (BitVec 7)} {s : State} (h : Keeps wh s0 s) :
    Keeps wh s0 (doBandSearchDone band s) := by
  unfold doBandSearchDone
  (repeat' split) <;> simp (maxDischargeDepth := 60) [*]

@[simp] theorem keeps_doBandFailRetry {wh : What} {s0 : State}  {s : State} (h : Keeps wh s0 s) :
    Keeps wh s0 (doBandFailRetry s) := by
  simp (maxDischargeDepth := 60) [doBandFailRetry, h]

@[simp] theorem keeps_doLockDeclared {wh : What} {s0 : State}  {s : State} (h : Keeps wh s0 s) :
    Keeps wh s0 (doLockDeclared s) := by
  simp (maxDischargeDepth := 60) [doLockDeclared, h]

@[simp] theorem keeps_driveOutputs {wh : What} {s0 : State} {l : Nat} {s : State} (h : Keeps wh s0 s) :
    Keeps wh s0 (driveOutputs l s) := by
  simp (maxDischargeDepth := 60) [driveOutputs, h]

@[simp] theorem keeps_nextLine {wh : What} {s0 : State}  {s : State} (h : Keeps wh s0 s) :
    Keeps wh s0 (nextLine s) := by
  simp (maxDischargeDepth := 60) [nextLine, h]

@[simp] theorem keeps_adoptFree {wh : What} {s0 : State}  {s : State} (h : Keeps wh s0 s) :
    Keeps wh s0 (adoptFree s) := by
  simp (maxDischargeDepth := 60) [adoptFree, h]

@[simp] theorem keeps_startFrame {wh : What} {s0 : State} {f : Nat} {s : State} (h : Keeps wh s0 s) (nf : wh.f = false := by assumption) :
    Keeps wh s0 (startFrame f s) := by
  unfold startFrame
  exact keeps_onRru' h nf

@[simp] theorem keeps_dropSource {wh : What} {s0 : State} {src : Nat} {s : State} (h : Keeps wh s0 s) :
    Keeps wh s0 (dropSource src s) := by
  simp (maxDischargeDepth := 60) [dropSource, h]

@[simp] theorem keeps_listChanged {wh : What} {s0 : State} {old seen : List Nat} {s : State} (h : Keeps wh s0 s) :
    Keeps wh s0 (listChanged old seen s) := by
  unfold listChanged
  simp only []
  (repeat' split) <;> simp (maxDischargeDepth := 60) [*]

@[simp] theorem keeps_stagedBoundary {wh : What} {s0 : State}  {s : State} (h : Keeps wh s0 s) :
    Keeps wh s0 (stagedBoundary s) := by
  simp (maxDischargeDepth := 60) [stagedBoundary, h]

@[simp] theorem keeps_rasterBoundary {wh : What} {s0 : State} {f : Nat} {s : State} (h : Keeps wh s0 s) (nf : wh.f = false := by assumption) :
    Keeps wh s0 (rasterBoundary f s) := by
  simp (maxDischargeDepth := 60) [rasterBoundary, h, nf]

@[simp] theorem keeps_acqRestart {wh : What} {s0 : State} {ofs : Nat} {s : State} (h : Keeps wh s0 s) :
    Keeps wh s0 (acqRestart ofs s) := by
  simp (maxDischargeDepth := 60) [acqRestart, h]

@[simp] theorem keeps_enablePll {wh : What} {s0 : State}  {s : State} (h : Keeps wh s0 s) :
    Keeps wh s0 (enablePll s) := by
  simp (maxDischargeDepth := 60) [enablePll, h]

@[simp] theorem keeps_stopPll {wh : What} {s0 : State}  {s : State} (h : Keeps wh s0 s) :
    Keeps wh s0 (stopPll s) := by
  simp (maxDischargeDepth := 60) [stopPll, h]

@[simp] theorem keeps_writePll {wh : What} {s0 : State} {a : Nat} {v : Word} {s : State} (h : Keeps wh s0 s) :
    Keeps wh s0 (writePll a v s).2 := by
  simp (maxDischargeDepth := 60) [writePll, h]

@[simp] theorem keeps_changeSysRef {wh : What} {s0 : State} {ext : Bool} {s : State} (h : Keeps wh s0 s) :
    Keeps wh s0 (changeSysRef ext s) := by
  simp (maxDischargeDepth := 60) [changeSysRef, h]

@[simp] theorem keeps_writeRru {wh : What} {s0 : State} {a : Nat} {v : Word} {s : State} (h : Keeps wh s0 s) :
    Keeps wh s0 (writeRru a v s).2 := by
  unfold writeRru
  (repeat' split) <;> simp (maxDischargeDepth := 60) [*]

@[simp] theorem keeps_newSysWord {wh : What} {s0 : State}  {s : State} (h : Keeps wh s0 s) :
    Keeps wh s0 (newSysWord s) := by
  simp (maxDischargeDepth := 60) [newSysWord, h]

@[simp] theorem keeps_sysLocks {wh : What} {s0 : State}  {s : State} (h : Keeps wh s0 s) :
    Keeps wh s0 (sysLocks s) := by
  simp (maxDischargeDepth := 60) [sysLocks, h]

@[simp] theorem keeps_doSysRefLost {wh : What} {s0 : State}  {s : State} (h : Keeps wh s0 s) :
    Keeps wh s0 (doSysRefLost s) := by
  simp (maxDischargeDepth := 60) [doSysRefLost, h]

@[simp] theorem keeps_sysPullIn {wh : What} {s0 : State}  {s : State} (h : Keeps wh s0 s) :
    Keeps wh s0 (sysPullIn s) := by
  simp (maxDischargeDepth := 60) [sysPullIn, h]

@[simp] theorem keeps_doExt10mhzReturn {wh : What} {s0 : State}  {s : State} (h : Keeps wh s0 s) :
    Keeps wh s0 (doExt10mhzReturn s) := by
  simp (maxDischargeDepth := 60) [doExt10mhzReturn, h]

@[simp] theorem keeps_modUnit {wh : What} {s0 : State} {u : Nat} {f : TimerUnit → TimerUnit} {s : State} (h : Keeps wh s0 s) :
    Keeps wh s0 (modUnit u f s) := by
  simp (maxDischargeDepth := 60) [modUnit, h]

@[simp] theorem keeps_timerEvent {wh : What} {s0 : State} {u code number : Nat} {restarted : Bool} {s : State} (h : Keeps wh s0 s) :
    Keeps wh s0 (timerEvent u code number restarted s) := by
  simp (maxDischargeDepth := 60) [timerEvent, h]

@[simp] theorem keeps_pulseUev {wh : What} {s0 : State} {u sel : Nat} {s : State} (h : Keeps wh s0 s) :
    Keeps wh s0 (pulseUev u sel s) := by
  simp (maxDischargeDepth := 60) [pulseUev, h]

@[simp] theorem keeps_matchChannel {wh : What} {s0 : State} {u c : Nat} {s : State} (h : Keeps wh s0 s) :
    Keeps wh s0 (matchChannel u c s) := by
  simp (maxDischargeDepth := 60) [matchChannel, h]

@[simp] theorem keeps_wrapCounter {wh : What} {s0 : State} {u : Nat} {s : State} (h : Keeps wh s0 s) :
    Keeps wh s0 (wrapCounter u s) := by
  simp (maxDischargeDepth := 60) [wrapCounter, h]

@[simp] theorem keeps_incrementCounter {wh : What} {s0 : State} {u : Nat} {s : State} (h : Keeps wh s0 s) :
    Keeps wh s0 (incrementCounter u s) := by
  simp (maxDischargeDepth := 60) [incrementCounter, h]

@[simp] theorem keeps_holdCounter {wh : What} {s0 : State} {u : Nat} {s : State} (h : Keeps wh s0 s) :
    Keeps wh s0 (holdCounter u s) := by
  simp (maxDischargeDepth := 60) [holdCounter, h]

@[simp] theorem keeps_prescale {wh : What} {s0 : State} {u : Nat} {s : State} (h : Keeps wh s0 s) :
    Keeps wh s0 (prescale u s) := by
  simp (maxDischargeDepth := 60) [prescale, h]

@[simp] theorem keeps_linkedEvent {wh : What} {s0 : State} {u : Nat} {s : State} (h : Keeps wh s0 s) :
    Keeps wh s0 (linkedEvent u s) := by
  unfold linkedEvent
  simp only []
  (repeat' split) <;> simp (maxDischargeDepth := 60) [*]

@[simp] theorem keeps_sourceEvent {wh : What} {s0 : State} {u : Nat} {s : State} (h : Keeps wh s0 s) :
    Keeps wh s0 (sourceEvent u s) := by
  unfold sourceEvent
  (repeat' split) <;> simp (maxDischargeDepth := 60) [*]

@[simp] theorem keeps_doTimerSourceEvent {wh : What} {s0 : State} {u : Fin 8} {linked : Bool} {s : State} (h : Keeps wh s0 s) :
    Keeps wh s0 (doTimerSourceEvent u linked s) := by
  simp (maxDischargeDepth := 60) [doTimerSourceEvent, h]

@[simp] theorem keeps_setCmp {wh : What} {s0 : State} {u c v : Nat} {s : State} (h : Keeps wh s0 s) :
    Keeps wh s0 (setCmp u c v s) := by
  simp (maxDischargeDepth := 60) [setCmp, h]

@[simp] theorem keeps_spendChannel {wh : What} {s0 : State} {u c : Nat} {s : State} (h : Keeps wh s0 s) :
    Keeps wh s0 (spendChannel u c s) := by
  simp (maxDischargeDepth := 60) [spendChannel, h]

@[simp] theorem keeps_compareMatch {wh : What} {s0 : State} {u c : Nat} {s : State} (h : Keeps wh s0 s) :
    Keeps wh s0 (compareMatch u c s) := by
  unfold compareMatch
  (repeat' split) <;> simp (maxDischargeDepth := 60) [*]

@[simp] theorem keeps_addPeriods {wh : What} {s0 : State} {u : Nat} {s : State} (h : Keeps wh s0 s) :
    Keeps wh s0 (addPeriods u s) := by
  simp (maxDischargeDepth := 60) [addPeriods, h]

@[simp] theorem keeps_setLate {wh : What} {s0 : State} {u c : Nat} {s : State} (h : Keeps wh s0 s) :
    Keeps wh s0 (setLate u c s) := by
  simp (maxDischargeDepth := 60) [setLate, h]

@[simp] theorem keeps_enableChannel {wh : What} {s0 : State} {u c : Nat} {s : State} (h : Keeps wh s0 s) :
    Keeps wh s0 (enableChannel u c s) := by
  unfold enableChannel
  simp only []
  (repeat' split) <;> simp (maxDischargeDepth := 60) [*]

@[simp] theorem keeps_setMissed {wh : What} {s0 : State} {u c cause : Nat} {s : State} (h : Keeps wh s0 s) :
    Keeps wh s0 (setMissed u c cause s) := by
  simp (maxDischargeDepth := 60) [setMissed, h]

@[simp] theorem keeps_missedAtFrameEnd {wh : What} {s0 : State}  {s : State} (h : Keeps wh s0 s) :
    Keeps wh s0 (missedAtFrameEnd s) := by
  simp (maxDischargeDepth := 60) [missedAtFrameEnd, h]

@[simp] theorem keeps_haltMissed {wh : What} {s0 : State}  {s : State} (h : Keeps wh s0 s) :
    Keeps wh s0 (haltMissed s) := by
  simp (maxDischargeDepth := 60) [haltMissed, h]

@[simp] theorem keeps_doDebugHalt {wh : What} {s0 : State}  {s : State} (h : Keeps wh s0 s) :
    Keeps wh s0 (doDebugHalt s) := by
  simp (maxDischargeDepth := 60) [doDebugHalt, h]

@[simp] theorem keeps_sendSetFlags {wh : What} {s0 : State} {restarted : Bool} {s : State} (h : Keeps wh s0 s) :
    Keeps wh s0 (sendSetFlags restarted s) := by
  simp (maxDischargeDepth := 60) [sendSetFlags, h]

@[simp] theorem keeps_doDebugHaltEnd {wh : What} {s0 : State}  {s : State} (h : Keeps wh s0 s) :
    Keeps wh s0 (doDebugHaltEnd s) := by
  simp (maxDischargeDepth := 60) [doDebugHaltEnd, h]

@[simp] theorem keeps_moveTod {wh : What} {s0 : State} {d : Int} {s : State} (h : Keeps wh s0 s) :
    Keeps wh s0 (moveTod d s) := by
  simp (maxDischargeDepth := 60) [moveTod, h]

@[simp] theorem keeps_tickTod {wh : What} {s0 : State}  {s : State} (h : Keeps wh s0 s) :
    Keeps wh s0 (tickTod s) := by
  unfold tickTod
  simp only []
  (repeat' split) <;> simp (maxDischargeDepth := 60) [*]

@[simp] theorem keeps_rcTick {wh : What} {s0 : State}  {s : State} (h : Keeps wh s0 s) :
    Keeps wh s0 (rcTick s) := by
  simp (maxDischargeDepth := 60) [rcTick, h]

@[simp] theorem keeps_tick {wh : What} {s0 : State}  {s : State} (h : Keeps wh s0 s) (nt : wh.tb = false := by assumption) :
    Keeps wh s0 (tick s) := by
  unfold tick
  simp only []
  have h1 : Keeps wh s0 (endFresh s) := keeps_endFresh h
  split
  · exact h1
  · split
    · exact keeps_onHead (keeps_tickTod (keeps_rcTick (keeps_onTmb' h1 nt))) rfl
    · exact keeps_tickTod (keeps_rcTick (keeps_onTmb' h1 nt))

@[simp] theorem keeps_makeUp {wh : What} {s0 : State} {ticks : Nat} {s : State} (h : Keeps wh s0 s) (nt : wh.tb = false := by assumption) :
    Keeps wh s0 (makeUp ticks s) := by
  unfold makeUp
  exact keeps_raise (keeps_moveTod (keeps_onTmb' h nt))

@[simp] theorem keeps_acquireTod {wh : What} {s0 : State}  {s : State} (h : Keeps wh s0 s) :
    Keeps wh s0 (acquireTod s) := by
  simp (maxDischargeDepth := 60) [acquireTod, h]

@[simp] theorem keeps_freeTod {wh : What} {s0 : State}  {s : State} (h : Keeps wh s0 s) :
    Keeps wh s0 (freeTod s) := by
  simp (maxDischargeDepth := 60) [freeTod, h]

@[simp] theorem keeps_servoFrequency {wh : What} {s0 : State}  {s : State} (h : Keeps wh s0 s) :
    Keeps wh s0 (servoFrequency s) := by
  simp (maxDischargeDepth := 60) [servoFrequency, h]

@[simp] theorem keeps_servoOffset {wh : What} {s0 : State} {off : Int} {s : State} (h : Keeps wh s0 s) :
    Keeps wh s0 (servoOffset off s) := by
  unfold servoOffset
  simp only []
  (repeat' split) <;> simp (maxDischargeDepth := 60) [*]

@[simp] theorem keeps_doTodTimeout {wh : What} {s0 : State}  {s : State} (h : Keeps wh s0 s) :
    Keeps wh s0 (doTodTimeout s) := by
  simp (maxDischargeDepth := 60) [doTodTimeout, h]

@[simp] theorem keeps_enabledFlags {wh : What} {s0 : State} {u : Nat} {old v : Word} {s : State} (h : Keeps wh s0 s) :
    Keeps wh s0 (enabledFlags u old v s) := by
  unfold enabledFlags
  refine keeps_when (keeps_forEach h fun _ _ => keeps_when keeps_refl fun _ => keeps_timerEvent keeps_refl) fun _ => keeps_timerEvent keeps_refl

@[simp] theorem keeps_writeTodCtrl {wh : What} {s0 : State} {a : Nat} {v : Word} {s : State} (h : Keeps wh s0 s) :
    Keeps wh s0 (writeTodCtrl a v s) := by
  simp (maxDischargeDepth := 60) [writeTodCtrl, h]

@[simp] theorem keeps_writeUnit {wh : What} {s0 : State} {u ofs a : Nat} {v : Word} {s : State} (h : Keeps wh s0 s) :
    Keeps wh s0 (writeUnit u ofs a v s) := by
  simp (maxDischargeDepth := 60) [writeUnit, h]

@[simp] theorem keeps_writeTmb {wh : What} {s0 : State} {a : Nat} {v : Word} {s : State} (h : Keeps wh s0 s) :
    Keeps wh s0 (writeTmb a v s).2 := by
  simp (maxDischargeDepth := 60) [writeTmb, h]

@[simp] theorem keeps_captureBoundary {wh : What} {s0 : State}  {s : State} (h : Keeps wh s0 s) :
    Keeps wh s0 (captureBoundary s) := by
  simp (maxDischargeDepth := 60) [captureBoundary, h]

@[simp] theorem keeps_modLane {wh : What} {s0 : State} {m : Nat} {f : ExLane → ExLane} {s : State} (h : Keeps wh s0 s) :
    Keeps wh s0 (modLane m f s) := by
  simp (maxDischargeDepth := 60) [modLane, h]

@[simp] theorem keeps_modTile {wh : What} {s0 : State} {t : Nat} {f : Tile → Tile} {s : State} (h : Keeps wh s0 s) :
    Keeps wh s0 (modTile t f s) := by
  simp (maxDischargeDepth := 60) [modTile, h]

@[simp] theorem keeps_modSb {wh : What} {s0 : State} {d : Nat} {f : SubBank → SubBank} {s : State} (h : Keeps wh s0 s) :
    Keeps wh s0 (modSb d f s) := by
  simp (maxDischargeDepth := 60) [modSb, h]

@[simp] theorem keeps_modLink {wh : What} {s0 : State} {l : Nat} {f : LinkLane → LinkLane} {s : State} (h : Keeps wh s0 s) :
    Keeps wh s0 (modLink l f s) := by
  simp (maxDischargeDepth := 60) [modLink, h]

@[simp] theorem keeps_closeTiles {wh : What} {s0 : State} {geos : List Geo} {s : State} (h : Keeps wh s0 s) :
    Keeps wh s0 (closeTiles geos s) := by
  simp (maxDischargeDepth := 60) [closeTiles, h]

@[simp] theorem keeps_closeSubBanks {wh : What} {s0 : State} {geos : List Geo} {s : State} (h : Keeps wh s0 s) :
    Keeps wh s0 (closeSubBanks geos s) := by
  simp (maxDischargeDepth := 60) [closeSubBanks, h]

@[simp] theorem keeps_closeSwitches {wh : What} {s0 : State}  {s : State} (h : Keeps wh s0 s) :
    Keeps wh s0 (closeSwitches s) := by
  simp (maxDischargeDepth := 60) [closeSwitches, h]

@[simp] theorem keeps_openSwitches {wh : What} {s0 : State}  {s : State} (h : Keeps wh s0 s) :
    Keeps wh s0 (openSwitches s) := by
  simp (maxDischargeDepth := 60) [openSwitches, h]

@[simp] theorem keeps_shedSwitches {wh : What} {s0 : State}  {s : State} (h : Keeps wh s0 s) :
    Keeps wh s0 (shedSwitches s) := by
  simp (maxDischargeDepth := 60) [shedSwitches, h]

@[simp] theorem keeps_doPeriodicMsTick {wh : What} {s0 : State}  {s : State} (h : Keeps wh s0 s) :
    Keeps wh s0 (doPeriodicMsTick s) := by
  simp (maxDischargeDepth := 60) [doPeriodicMsTick, h]

@[simp] theorem keeps_doTileRailSettled {wh : What} {s0 : State} {t : Fin 240} {s : State} (h : Keeps wh s0 s) :
    Keeps wh s0 (doTileRailSettled t s) := by
  simp (maxDischargeDepth := 60) [doTileRailSettled, h]

@[simp] theorem keeps_doTileFlushDone {wh : What} {s0 : State} {t : Fin 240} {s : State} (h : Keeps wh s0 s) :
    Keeps wh s0 (doTileFlushDone t s) := by
  simp (maxDischargeDepth := 60) [doTileFlushDone, h]

@[simp] theorem keeps_dropExposures {wh : What} {s0 : State} {t : Nat} {s : State} (h : Keeps wh s0 s) :
    Keeps wh s0 (dropExposures t s) := by
  simp (maxDischargeDepth := 60) [dropExposures, h]

@[simp] theorem keeps_doTileOvercurrent {wh : What} {s0 : State} {t : Fin 240} {current : BitVec 16} {s : State} (h : Keeps wh s0 s) :
    Keeps wh s0 (doTileOvercurrent t current s) := by
  simp (maxDischargeDepth := 60) [doTileOvercurrent, h]

@[simp] theorem keeps_forceTileOff {wh : What} {s0 : State} {t : Nat} {s : State} (h : Keeps wh s0 s) :
    Keeps wh s0 (forceTileOff t s) := by
  simp (maxDischargeDepth := 60) [forceTileOff, h]

@[simp] theorem keeps_coolerOff {wh : What} {s0 : State}  {s : State} (h : Keeps wh s0 s) :
    Keeps wh s0 (coolerOff s) := by
  simp (maxDischargeDepth := 60) [coolerOff, h]

@[simp] theorem keeps_startCooler {wh : What} {s0 : State}  {s : State} (h : Keeps wh s0 s) :
    Keeps wh s0 (startCooler s) := by
  simp (maxDischargeDepth := 60) [startCooler, h]

@[simp] theorem keeps_tempStep {wh : What} {s0 : State} {plateOk : Bool} {s : State} (h : Keeps wh s0 s) :
    Keeps wh s0 (tempStep plateOk s) := by
  unfold tempStep
  simp only []
  (repeat' split) <;> simp (maxDischargeDepth := 60) [*]

@[simp] theorem keeps_coolerSample {wh : What} {s0 : State} {hot sensor : BitVec 16} {power : BitVec 16} {plateOk : Bool} {s : State} (h : Keeps wh s0 s) :
    Keeps wh s0 (coolerSample hot sensor power plateOk s) := by
  simp (maxDischargeDepth := 60) [coolerSample, h]

@[simp] theorem keeps_doCoolerSaturated {wh : What} {s0 : State}  {s : State} (h : Keeps wh s0 s) :
    Keeps wh s0 (doCoolerSaturated s) := by
  simp (maxDischargeDepth := 60) [doCoolerSaturated, h]

@[simp] theorem keeps_coolWritten {wh : What} {s0 : State} {old v : Word} {s : State} (h : Keeps wh s0 s) :
    Keeps wh s0 (coolWritten old v s) := by
  have hc : ∀ t, Keeps wh s0 t → Keeps wh s0 (if v.getLsbD 30 ∧ t.sns.temp = .fault then
      (if t.sns.hotSide.toInt < 6000 then t.onSns fun x => { x with temp := .off } else t)
    else if !v.getLsbD 31 then coolerOff t else startCooler t) := by
    intro t ht
    (repeat' split) <;> simp [ht]
  unfold coolWritten
  refine hc _ ?_
  split <;> simp [h]

@[simp] theorem keeps_tileWritten {wh : What} {s0 : State} {t : Nat} {was : Bool} {v : Word} {s : State} (h : Keeps wh s0 s) :
    Keeps wh s0 (tileWritten t was v s) := by
  unfold tileWritten
  (repeat' split) <;> simp (maxDischargeDepth := 60) [*]

@[simp] theorem keeps_writeSns {wh : What} {s0 : State} {a : Nat} {v : Word} {s : State} (h : Keeps wh s0 s) :
    Keeps wh s0 (writeSns a v s).2 := by
  simp (maxDischargeDepth := 60) [writeSns, h]

@[simp] theorem keeps_doSubbankRailSettled {wh : What} {s0 : State} {d : Fin 40} {s : State} (h : Keeps wh s0 s) :
    Keeps wh s0 (doSubbankRailSettled d s) := by
  simp (maxDischargeDepth := 60) [doSubbankRailSettled, h]

@[simp] theorem keeps_unseedBank {wh : What} {s0 : State} {bank : Nat} {s : State} (h : Keeps wh s0 s) :
    Keeps wh s0 (unseedBank bank s) := by
  simp (maxDischargeDepth := 60) [unseedBank, h]

@[simp] theorem keeps_doSubbankTrimDone {wh : What} {s0 : State} {d : Fin 40} {s : State} (h : Keeps wh s0 s) :
    Keeps wh s0 (doSubbankTrimDone d s) := by
  simp (maxDischargeDepth := 60) [doSubbankTrimDone, h]

@[simp] theorem keeps_doSubbankOvercurrent {wh : What} {s0 : State} {d : Fin 40} {current : BitVec 16} {s : State} (h : Keeps wh s0 s) :
    Keeps wh s0 (doSubbankOvercurrent d current s) := by
  simp (maxDischargeDepth := 60) [doSubbankOvercurrent, h]

@[simp] theorem keeps_killRead {wh : What} {s0 : State} {bank : Nat} {s : State} (h : Keeps wh s0 s) :
    Keeps wh s0 (killRead bank s) := by
  simp (maxDischargeDepth := 60) [killRead, h]

@[simp] theorem keeps_linkDegraded {wh : What} {s0 : State} {bank u : Nat} {s : State} (h : Keeps wh s0 s) :
    Keeps wh s0 (linkDegraded bank u s) := by
  simp (maxDischargeDepth := 60) [linkDegraded, h]

@[simp] theorem keeps_lanesFell {wh : What} {s0 : State} {bank : Nat} {s : State} (h : Keeps wh s0 s) :
    Keeps wh s0 (lanesFell bank s) := by
  simp (maxDischargeDepth := 60) [lanesFell, h]

@[simp] theorem keeps_lanesRose {wh : What} {s0 : State} {bank : Nat} {s : State} (h : Keeps wh s0 s) :
    Keeps wh s0 (lanesRose bank s) := by
  simp (maxDischargeDepth := 60) [lanesRose, h]

@[simp] theorem keeps_closeLane {wh : What} {s0 : State} {l : Nat} {s : State} (h : Keeps wh s0 s) :
    Keeps wh s0 (closeLane l s) := by
  simp (maxDischargeDepth := 60) [closeLane, h]

@[simp] theorem keeps_retrainLane {wh : What} {s0 : State} {l : Nat} {s : State} (h : Keeps wh s0 s) :
    Keeps wh s0 (retrainLane l s) := by
  simp (maxDischargeDepth := 60) [retrainLane, h]

@[simp] theorem keeps_retrainFails {wh : What} {s0 : State} {l : Nat} {s : State} (h : Keeps wh s0 s) :
    Keeps wh s0 (retrainFails l s) := by
  simp (maxDischargeDepth := 60) [retrainFails, h]

@[simp] theorem keeps_doLaneRetrain {wh : What} {s0 : State} {l : Fin 96} {s : State} (h : Keeps wh s0 s) :
    Keeps wh s0 (doLaneRetrain l s) := by
  simp (maxDischargeDepth := 60) [doLaneRetrain, h]

@[simp] theorem keeps_doLaneRetrainDone {wh : What} {s0 : State} {l : Fin 96} {ok : Bool} {s : State} (h : Keeps wh s0 s) :
    Keeps wh s0 (doLaneRetrainDone l ok s) := by
  simp (maxDischargeDepth := 60) [doLaneRetrainDone, h]

@[simp] theorem keeps_trainLink {wh : What} {s0 : State}  {s : State} (h : Keeps wh s0 s) :
    Keeps wh s0 (trainLink s) := by
  simp (maxDischargeDepth := 60) [trainLink, h]

@[simp] theorem keeps_linkOff {wh : What} {s0 : State}  {s : State} (h : Keeps wh s0 s) :
    Keeps wh s0 (linkOff s) := by
  simp (maxDischargeDepth := 60) [linkOff, h]

@[simp] theorem keeps_rowLost {wh : What} {s0 : State} {bank row : Nat} {s : State} (h : Keeps wh s0 s) :
    Keeps wh s0 (rowLost bank row s) := by
  simp (maxDischargeDepth := 60) [rowLost, h]

@[simp] theorem keeps_rowCrcError {wh : What} {s0 : State} {bank l row : Nat} {s : State} (h : Keeps wh s0 s) :
    Keeps wh s0 (rowCrcError bank l row s) := by
  simp (maxDischargeDepth := 60) [rowCrcError, h]

@[simp] theorem keeps_writeGeo {wh : What} {s0 : State} {n a : Nat} {v : Word} {s : State} (h : Keeps wh s0 s) :
    Keeps wh s0 (writeGeo n a v s).2 := by
  simp (maxDischargeDepth := 60) [writeGeo, h]

@[simp] theorem keeps_sbWritten {wh : What} {s0 : State} {d : Nat} {was : Bool} {v : Word} {s : State} (h : Keeps wh s0 s) :
    Keeps wh s0 (sbWritten d was v s) := by
  have hc : ∀ t, Keeps wh s0 t → Keeps wh s0 (if v.getLsbD 0 && !was && (getSb t d).st.powered then raise 0x0403 [.h d] t else t) := by
    intro t ht
    split <;> simp [ht]
  unfold sbWritten
  refine hc _ ?_
  split <;> simp [h]

@[simp] theorem keeps_writeCro {wh : What} {s0 : State} {a : Nat} {v : Word} {s : State} (h : Keeps wh s0 s) :
    Keeps wh s0 (writeCro a v s).2 := by
  unfold writeCro
  (repeat' split) <;> simp (maxDischargeDepth := 60) [*]

@[simp] theorem keeps_admissionEvent {wh : What} {s0 : State} {m : Nat} {a : Admission} {s : State} (h : Keeps wh s0 s) :
    Keeps wh s0 (admissionEvent m a s) := by
  unfold admissionEvent
  (repeat' split) <;> simp (maxDischargeDepth := 60) [*]

@[simp] theorem keeps_noteFlags {wh : What} {s0 : State} {lane first last flags : Nat} {s : State} (h : Keeps wh s0 s) :
    Keeps wh s0 (noteFlags lane first last flags s) := by
  simp (maxDischargeDepth := 60) [noteFlags, h]

@[simp] theorem keeps_noteStopped {wh : What} {s0 : State} {m start : Nat} {s : State} (h : Keeps wh s0 s) :
    Keeps wh s0 (noteStopped m start s) := by
  unfold noteStopped
  (repeat' split) <;> simp (maxDischargeDepth := 60) [*]

@[simp] theorem keeps_armLane {wh : What} {s0 : State} {m : Nat} {start : Option Nat} {s : State} (h : Keeps wh s0 s) :
    Keeps wh s0 (armLane m start s) := by
  simp (maxDischargeDepth := 60) [armLane, h]

@[simp] theorem keeps_startLane {wh : What} {s0 : State} {m : Nat} {start : Option Nat} {s : State} (h : Keeps wh s0 s) :
    Keeps wh s0 (startLane m start s) := by
  unfold startLane
  (repeat' split) <;> simp (maxDischargeDepth := 60) [*]

@[simp] theorem keeps_markStarts {wh : What} {s0 : State}  {s : State} (h : Keeps wh s0 s) :
    Keeps wh s0 (markStarts s) := by
  simp (maxDischargeDepth := 60) [markStarts, h]

@[simp] theorem keeps_abandonUnplaced {wh : What} {s0 : State} {i : Inst} {g : Nat} {s : State} (h : Keeps wh s0 s) :
    Keeps wh s0 (abandonUnplaced i g s) := by
  simp (maxDischargeDepth := 60) [abandonUnplaced, h]

@[simp] theorem keeps_closeLong {wh : What} {s0 : State} {lane rg : Nat} {s : State} (h : Keeps wh s0 s) :
    Keeps wh s0 (closeLong lane rg s) := by
  simp (maxDischargeDepth := 60) [closeLong, h]

@[simp] theorem keeps_abandonMember {wh : What} {s0 : State} {lane frame rg exp : Nat} {s : State} (h : Keeps wh s0 s) :
    Keeps wh s0 (abandonMember lane frame rg exp s) := by
  simp (maxDischargeDepth := 60) [abandonMember, h]

@[simp] theorem keeps_releaseBooking {wh : What} {s0 : State} {b : Booking} {s : State} (h : Keeps wh s0 s) :
    Keeps wh s0 (releaseBooking b s) := by
  simp (maxDischargeDepth := 60) [releaseBooking, h]

@[simp] theorem keeps_abandonBooking {wh : What} {s0 : State} {b : Booking} {s : State} (h : Keeps wh s0 s) :
    Keeps wh s0 (abandonBooking b s) := by
  simp (maxDischargeDepth := 60) [abandonBooking, h]

@[simp] theorem keeps_abandonInsts {wh : What} {s0 : State} {which : Inst → Bool} {s : State} (h : Keeps wh s0 s) :
    Keeps wh s0 (abandonInsts which s) := by
  simp (maxDischargeDepth := 60) [abandonInsts, h]

@[simp] theorem keeps_abandonLane {wh : What} {s0 : State} {m : Nat} {s : State} (h : Keeps wh s0 s) :
    Keeps wh s0 (abandonLane m s) := by
  simp (maxDischargeDepth := 60) [abandonLane, h]

@[simp] theorem keeps_lanesOff {wh : What} {s0 : State} {keepStopped : Bool} {s : State} (h : Keeps wh s0 s) :
    Keeps wh s0 (lanesOff keepStopped s) := by
  simp (maxDischargeDepth := 60) [lanesOff, h]

@[simp] theorem keeps_drainCheck {wh : What} {s0 : State} {m : Nat} {s : State} (h : Keeps wh s0 s) :
    Keeps wh s0 (drainCheck m s) := by
  simp (maxDischargeDepth := 60) [drainCheck, h]

@[simp] theorem keeps_stopLane {wh : What} {s0 : State} {m : Nat} {s : State} (h : Keeps wh s0 s) :
    Keeps wh s0 (stopLane m s) := by
  unfold stopLane
  (repeat' split) <;> simp (maxDischargeDepth := 60) [*]

@[simp] theorem keeps_issue {wh : What} {s0 : State} {m exp key : Nat} {e : ExpEntry} {s : State} (h : Keeps wh s0 s) :
    Keeps wh s0 (issue m exp key e s) := by
  simp (maxDischargeDepth := 60) [issue, h]

@[simp] theorem keeps_issueLane {wh : What} {s0 : State} {m : Nat} {s : State} (h : Keeps wh s0 s) :
    Keeps wh s0 (issueLane m s) := by
  simp (maxDischargeDepth := 60) [issueLane, h]

@[simp] theorem keeps_runLane {wh : What} {s0 : State} {m : Nat} {s : State} (h : Keeps wh s0 s) :
    Keeps wh s0 (runLane m s) := by
  unfold runLane
  simp only []
  (repeat' split) <;> simp (maxDischargeDepth := 60) [*]

@[simp] theorem keeps_doAbsInstanceDue {wh : What} {s0 : State} {m : Fin 4} {s : State} (h : Keeps wh s0 s) :
    Keeps wh s0 (doAbsInstanceDue m s) := by
  unfold doAbsInstanceDue
  simp only []
  (repeat' split) <;> simp (maxDischargeDepth := 60) [*]

@[simp] theorem keeps_countSlip {wh : What} {s0 : State} {m phi : Nat} {s : State} (h : Keeps wh s0 s) :
    Keeps wh s0 (countSlip m phi s) := by
  simp (maxDischargeDepth := 60) [countSlip, h]

@[simp] theorem keeps_abandonAtPlacement {wh : What} {s0 : State} {i : Inst} {g : Nat} {s : State} (h : Keeps wh s0 s) :
    Keeps wh s0 (abandonAtPlacement i g s) := by
  simp (maxDischargeDepth := 60) [abandonAtPlacement, h]

@[simp] theorem keeps_book {wh : What} {s0 : State} {i : Inst} {g : Nat} {e : ExpEntry} {bin readTb len slot slip : Nat} {s : State} (h : Keeps wh s0 s) :
    Keeps wh s0 (book i g e bin readTb len slot slip s) := by
  simp (maxDischargeDepth := 60) [book, h]

@[simp] theorem keeps_place {wh : What} {s0 : State} {i : Inst} {g target : Nat} {e : ExpEntry} {s : State} (h : Keeps wh s0 s) :
    Keeps wh s0 (place i g target e s) := by
  unfold place
  simp only []
  (repeat' split) <;> simp (maxDischargeDepth := 60) [*]

@[simp] theorem keeps_takeGroup {wh : What} {s0 : State} {m exp key g : Nat} {s : State} (h : Keeps wh s0 s) :
    Keeps wh s0 (takeGroup m exp key g s) := by
  simp (maxDischargeDepth := 60) [takeGroup, h]

@[simp] theorem keeps_modBooking {wh : What} {s0 : State} {m exp key g : Nat} {f : Booking → Booking} {s : State} (h : Keeps wh s0 s) :
    Keeps wh s0 (modBooking m exp key g f s) := by
  simp (maxDischargeDepth := 60) [modBooking, h]

@[simp] theorem keeps_laneResetStart {wh : What} {s0 : State} {m exp key g : Nat} {s : State} (h : Keeps wh s0 s) :
    Keeps wh s0 (laneResetStart m exp key g s) := by
  unfold laneResetStart
  (repeat' split) <;> simp (maxDischargeDepth := 60) [*]

@[simp] theorem keeps_reattribute {wh : What} {s0 : State} {f : Nat} {s : State} (h : Keeps wh s0 s) :
    Keeps wh s0 (reattribute f s) := by
  simp (maxDischargeDepth := 60) [reattribute, h]

@[simp] theorem keeps_deadEvents {wh : What} {s0 : State} {domains : List Nat} {g : Nat} {s : State} (h : Keeps wh s0 s) :
    Keeps wh s0 (deadEvents domains g s) := by
  simp (maxDischargeDepth := 60) [deadEvents, h]

@[simp] theorem keeps_readDelayed {wh : What} {s0 : State} {m exp key g start : Nat} {s : State} (h : Keeps wh s0 s) :
    Keeps wh s0 (readDelayed m exp key g start s) := by
  unfold readDelayed
  (repeat' split) <;> simp (maxDischargeDepth := 60) [*]

@[simp] theorem keeps_laneReadStart {wh : What} {s0 : State} {m exp key g : Nat} {s : State} (h : Keeps wh s0 s) :
    Keeps wh s0 (laneReadStart m exp key g s) := by
  unfold laneReadStart
  (repeat' split) <;> simp (maxDischargeDepth := 60) [*]

@[simp] theorem keeps_freeBanks {wh : What} {s0 : State} {banks : List Nat} {s : State} (h : Keeps wh s0 s) :
    Keeps wh s0 (freeBanks banks s) := by
  simp (maxDischargeDepth := 60) [freeBanks, h]

@[simp] theorem keeps_abandonRaster {wh : What} {s0 : State}  {s : State} (h : Keeps wh s0 s) :
    Keeps wh s0 (abandonRaster s) := by
  simp (maxDischargeDepth := 60) [abandonRaster, h]

@[simp] theorem keeps_acqAbandons {wh : What} {s0 : State}  {s : State} (h : Keeps wh s0 s) :
    Keeps wh s0 (acqAbandons s) := by
  simp (maxDischargeDepth := 60) [acqAbandons, h]

@[simp] theorem keeps_resetScheduler {wh : What} {s0 : State}  {s : State} (h : Keeps wh s0 s) :
    Keeps wh s0 (resetScheduler s) := by
  unfold resetScheduler
  refine keeps_raise (keeps_onExs (keeps_forEach h fun _ _ => ?_))
  split <;> simp (maxDischargeDepth := 60)

@[simp] theorem keeps_heartbeat {wh : What} {s0 : State} {stalled : Bool} {s : State} (h : Keeps wh s0 s) :
    Keeps wh s0 (heartbeat stalled s) := by
  simp (maxDischargeDepth := 60) [heartbeat, h]

@[simp] theorem keeps_forgetBooked {wh : What} {s0 : State} {t : Nat} {s : State} (h : Keeps wh s0 s) :
    Keeps wh s0 (forgetBooked t s) := by
  simp (maxDischargeDepth := 60) [forgetBooked, h]

@[simp] theorem keeps_laneBusyReject {wh : What} {s0 : State} {m a : Nat} {s : State} (h : Keeps wh s0 s) :
    Keeps wh s0 (laneBusyReject m a s).2 := by
  simp (maxDischargeDepth := 60) [laneBusyReject, h]

@[simp] theorem keeps_writeExs {wh : What} {s0 : State} {a : Nat} {v : Word} {s : State} (h : Keeps wh s0 s) :
    Keeps wh s0 (writeExs a v s).2 := by
  unfold writeExs
  (repeat' split) <;> simp (maxDischargeDepth := 60) [*]

@[simp] theorem keeps_writeScheduler {wh : What} {s0 : State} {a : Nat} {v : Word} {s : State} (h : Keeps wh s0 s) (nm : wh.mem = false := by assumption) :
    Keeps wh s0 (writeScheduler a v s).2 := by
  simp (maxDischargeDepth := 60) [writeScheduler, h, nm]

@[simp] theorem keeps_dropUnit {wh : What} {s0 : State} {sid : Nat} {t : PktType} {frame set slot : Nat} {s : State} (h : Keeps wh s0 s) :
    Keeps wh s0 (dropUnit sid t frame set slot s) := by
  simp (maxDischargeDepth := 60) [dropUnit, h]

@[simp] theorem keeps_noteKeyMissing {wh : What} {s0 : State} {sid : Nat} {s : State} (h : Keeps wh s0 s) :
    Keeps wh s0 (noteKeyMissing sid s) := by
  simp (maxDischargeDepth := 60) [noteKeyMissing, h]

@[simp] theorem keeps_enqueueUnit {wh : What} {s0 : State} {sid : Nat} {t : PktType} {frame set slot : Nat} {pkts : List Packet} {s : State} (h : Keeps wh s0 s) :
    Keeps wh s0 (enqueueUnit sid t frame set slot pkts s) := by
  simp (maxDischargeDepth := 60) [enqueueUnit, h]

@[simp] theorem keeps_sendRow {wh : What} {s0 : State} {r : RowUnit} {s : State} (h : Keeps wh s0 s) :
    Keeps wh s0 (sendRow r s) := by
  unfold sendRow
  simp only []
  (repeat' first | with_reducible refine keeps_forEach ?_ fun _ _ => ?_ | split) <;> simp (maxDischargeDepth := 60) [*]

@[simp] theorem keeps_sendResult {wh : What} {s0 : State} {r : ResultUnit} {s : State} (h : Keeps wh s0 s) :
    Keeps wh s0 (sendResult r s) := by
  simp (maxDischargeDepth := 60) [sendResult, h]

@[simp] theorem keeps_flushTrack {wh : What} {s0 : State} {sid : Nat} {s : State} (h : Keeps wh s0 s) :
    Keeps wh s0 (flushTrack sid s) := by
  unfold flushTrack
  (repeat' split) <;> simp (maxDischargeDepth := 60) [*]

@[simp] theorem keeps_addTrack {wh : What} {s0 : State} {sid kind : Nat} {fields : List Nat} {s : State} (h : Keeps wh s0 s) :
    Keeps wh s0 (addTrack sid kind fields s) := by
  simp (maxDischargeDepth := 60) [addTrack, h]

@[simp] theorem keeps_sendTrack {wh : What} {s0 : State} {kind : Nat} {fields : List Nat} {tenants : Bool} {s : State} (h : Keeps wh s0 s) :
    Keeps wh s0 (sendTrack kind fields tenants s) := by
  simp (maxDischargeDepth := 60) [sendTrack, h]

@[simp] theorem keeps_doTrackFlushTimeout {wh : What} {s0 : State} {sid : Nat} {s : State} (h : Keeps wh s0 s) :
    Keeps wh s0 (doTrackFlushTimeout sid s) := by
  unfold doTrackFlushTimeout
  (repeat' split) <;> simp (maxDischargeDepth := 60) [*]

@[simp] theorem keeps_putWindow {wh : What} {s0 : State} {w : Window} {s : State} (h : Keeps wh s0 s) (nm : wh.mem = false := by assumption) :
    Keeps wh s0 (putWindow w s) := by
  simp (maxDischargeDepth := 60) [putWindow, h, nm]

@[simp] theorem keeps_clearWindow {wh : What} {s0 : State} {w : Nat} {s : State} (h : Keeps wh s0 s) (nm : wh.mem = false := by assumption) :
    Keeps wh s0 (clearWindow w s) := by
  simp (maxDischargeDepth := 60) [clearWindow, h, nm]

@[simp] theorem keeps_modSet {wh : What} {s0 : State} {n : Nat} {f : WinSet → WinSet} {s : State} (h : Keeps wh s0 s) :
    Keeps wh s0 (modSet n f s) := by
  simp (maxDischargeDepth := 60) [modSet, h]

@[simp] theorem keeps_sendGap {wh : What} {s0 : State} {set first start : Nat} {s : State} (h : Keeps wh s0 s) :
    Keeps wh s0 (sendGap set first start s) := by
  simp (maxDischargeDepth := 60) [sendGap, h]

@[simp] theorem keeps_sendOwed {wh : What} {s0 : State}  {s : State} (h : Keeps wh s0 s) :
    Keeps wh s0 (sendOwed s) := by
  simp (maxDischargeDepth := 60) [sendOwed, h]

@[simp] theorem keeps_closeInterval {wh : What} {s0 : State} {set : Nat} {iv : Interval} {extra : Nat} {early : Bool} {s : State} (h : Keeps wh s0 s) :
    Keeps wh s0 (closeInterval set iv extra early s) := by
  simp (maxDischargeDepth := 60) [closeInterval, h]

@[simp] theorem keeps_doHandoffComplete {wh : What} {s0 : State} {set : Fin 256} {s : State} (h : Keeps wh s0 s) :
    Keeps wh s0 (doHandoffComplete set s) := by
  unfold doHandoffComplete
  (repeat' split) <;> simp (maxDischargeDepth := 60) [*]

@[simp] theorem keeps_finishHandoffs {wh : What} {s0 : State}  {s : State} (h : Keeps wh s0 s) :
    Keeps wh s0 (finishHandoffs s) := by
  simp (maxDischargeDepth := 60) [finishHandoffs, h]

@[simp] theorem keeps_applyTenantWindows {wh : What} {s0 : State} {set tb : Nat} {s : State} (h : Keeps wh s0 s) (nm : wh.mem = false := by assumption) :
    Keeps wh s0 (applyTenantWindows set tb s) := by
  unfold applyTenantWindows
  refine keeps_onPat (keeps_forEach h fun _ _ => ?_)
  simp only []
  (repeat' split) <;> simp (maxDischargeDepth := 60) [nm]

@[simp] theorem keeps_applySubs {wh : What} {s0 : State} {set f tb : Nat} {s : State} (h : Keeps wh s0 s) :
    Keeps wh s0 (applySubs set f tb s) := by
  unfold applySubs
  simp only []
  (repeat' first | with_reducible refine keeps_forEach ?_ fun _ _ => ?_ | split) <;> simp (maxDischargeDepth := 60) [*]

@[simp] theorem keeps_openInterval {wh : What} {s0 : State} {set : Nat} {s : State} (h : Keeps wh s0 s) (nm : wh.mem = false := by assumption) :
    Keeps wh s0 (openInterval set s) := by
  simp (maxDischargeDepth := 60) [openInterval, h, nm]

@[simp] theorem keeps_earlyClose {wh : What} {s0 : State} {set : Nat} {s : State} (h : Keeps wh s0 s) :
    Keeps wh s0 (earlyClose set s) := by
  unfold earlyClose
  (repeat' split) <;> simp (maxDischargeDepth := 60) [*]

@[simp] theorem keeps_ensureInterval {wh : What} {s0 : State} {set frame : Nat} {s : State} (h : Keeps wh s0 s) (nm : wh.mem = false := by assumption) :
    Keeps wh s0 (ensureInterval set frame s) := by
  simp (maxDischargeDepth := 60) [ensureInterval, h, nm]

@[simp] theorem keeps_noteOverflow {wh : What} {s0 : State} {set slot : Nat} {wins : List Nat} {s : State} (h : Keeps wh s0 s) :
    Keeps wh s0 (noteOverflow set slot wins s) := by
  simp (maxDischargeDepth := 60) [noteOverflow, h]

@[simp] theorem keeps_modInterval {wh : What} {s0 : State} {set first : Nat} {f : Interval → Interval} {s : State} (h : Keeps wh s0 s) :
    Keeps wh s0 (modInterval set first f s) := by
  simp (maxDischargeDepth := 60) [modInterval, h]

@[simp] theorem keeps_commitSet {wh : What} {s0 : State} {r : StatRow} {slices : List Nat} {set : Nat} {s : State} (h : Keeps wh s0 s) (nm : wh.mem = false := by assumption) :
    Keeps wh s0 (commitSet r slices set s) := by
  unfold commitSet
  simp only []
  (repeat' split) <;> simp (maxDischargeDepth := 60) [*]

@[simp] theorem keeps_commitRow {wh : What} {s0 : State} {r : StatRow} {slices : List Nat} {s : State} (h : Keeps wh s0 s) (nm : wh.mem = false := by assumption) :
    Keeps wh s0 (commitRow r slices s) := by
  simp (maxDischargeDepth := 60) [commitRow, h, nm]

@[simp] theorem keeps_modSlice {wh : What} {s0 : State} {i : Nat} {f : Slice → Slice} {s : State} (h : Keeps wh s0 s) :
    Keeps wh s0 (modSlice i f s) := by
  simp (maxDischargeDepth := 60) [modSlice, h]

@[simp] theorem keeps_releaseHeld {wh : What} {s0 : State} {pipe i : Nat} {s : State} (h : Keeps wh s0 s) (nm : wh.mem = false := by assumption) :
    Keeps wh s0 (releaseHeld pipe i s) := by
  simp (maxDischargeDepth := 60) [releaseHeld, h, nm]

@[simp] theorem keeps_loseRow {wh : What} {s0 : State} {i : Nat} {r : StatRow} {s : State} (h : Keeps wh s0 s) (nm : wh.mem = false := by assumption) :
    Keeps wh s0 (loseRow i r s) := by
  unfold loseRow
  simp only []
  (repeat' first | with_reducible refine keeps_forEach ?_ fun _ _ => ?_ | split) <;> simp (maxDischargeDepth := 60) [*]

@[simp] theorem keeps_feedRow {wh : What} {s0 : State} {r : StatRow} {stuck : BitVec 16} {s : State} (h : Keeps wh s0 s) (nm : wh.mem = false := by assumption) :
    Keeps wh s0 (feedRow r stuck s) := by
  simp (maxDischargeDepth := 60) [feedRow, h, nm]

@[simp] theorem keeps_resetSlice {wh : What} {s0 : State} {i : Nat} {s : State} (h : Keeps wh s0 s) (nm : wh.mem = false := by assumption) :
    Keeps wh s0 (resetSlice i s) := by
  simp (maxDischargeDepth := 60) [resetSlice, h, nm]

@[simp] theorem keeps_doSliceStuck {wh : What} {s0 : State} {i : Fin 16} {pipe : Fin 2} {s : State} (h : Keeps wh s0 s) (nm : wh.mem = false := by assumption) :
    Keeps wh s0 (doSliceStuck i pipe s) := by
  simp (maxDischargeDepth := 60) [doSliceStuck, h, nm]

@[simp] theorem keeps_planEvent {wh : What} {s0 : State} {set : Nat} {b : Nat × (Nat × Nat)} {s : State} (h : Keeps wh s0 s) :
    Keeps wh s0 (planEvent set b s) := by
  simp (maxDischargeDepth := 60) [planEvent, h]

@[simp] theorem keeps_startSet {wh : What} {s0 : State} {set : Nat} {start : Option Nat} {s : State} (h : Keeps wh s0 s) :
    Keeps wh s0 (startSet set start s) := by
  unfold startSet
  simp only []
  (repeat' split) <;> simp (maxDischargeDepth := 60) [*]

@[simp] theorem keeps_runSet {wh : What} {s0 : State} {set : Nat} {s : State} (h : Keeps wh s0 s) (nm : wh.mem = false := by assumption) :
    Keeps wh s0 (runSet set s) := by
  unfold runSet
  simp only []
  (repeat' split) <;> simp (maxDischargeDepth := 60) [*]

@[simp] theorem keeps_fillIntervals {wh : What} {s0 : State} {set : Nat} {s : State} (h : Keeps wh s0 s) (nm : wh.mem = false := by assumption) :
    Keeps wh s0 (fillIntervals set s) := by
  simp (maxDischargeDepth := 60) [fillIntervals, h, nm]

@[simp] theorem keeps_stopSet {wh : What} {s0 : State} {set : Nat} {s : State} (h : Keeps wh s0 s) :
    Keeps wh s0 (stopSet set s) := by
  unfold stopSet
  (repeat' split) <;> simp (maxDischargeDepth := 60) [*]

@[simp] theorem keeps_closeDue {wh : What} {s0 : State} {set : Nat} {s : State} (h : Keeps wh s0 s) :
    Keeps wh s0 (closeDue set s) := by
  unfold closeDue
  simp only []
  (repeat' split) <;> simp (maxDischargeDepth := 60) [*]

@[simp] theorem keeps_settleSets {wh : What} {s0 : State}  {s : State} (h : Keeps wh s0 s) (nm : wh.mem = false := by assumption) :
    Keeps wh s0 (settleSets s) := by
  simp (maxDischargeDepth := 60) [settleSets, h, nm]

@[simp] theorem keeps_truncateSets {wh : What} {s0 : State}  {s : State} (h : Keeps wh s0 s) :
    Keeps wh s0 (truncateSets s) := by
  simp (maxDischargeDepth := 60) [truncateSets, h]

@[simp] theorem keeps_sleepGaps {wh : What} {s0 : State}  {s : State} (h : Keeps wh s0 s) :
    Keeps wh s0 (sleepGaps s) := by
  simp (maxDischargeDepth := 60) [sleepGaps, h]

@[simp] theorem keeps_discardSets {wh : What} {s0 : State} {restarted : Bool} {s : State} (h : Keeps wh s0 s) :
    Keeps wh s0 (discardSets restarted s) := by
  simp (maxDischargeDepth := 60) [discardSets, h]

@[simp] theorem keeps_pruneNotes {wh : What} {s0 : State}  {s : State} (h : Keeps wh s0 s) :
    Keeps wh s0 (pruneNotes s) := by
  simp (maxDischargeDepth := 60) [pruneNotes, h]

@[simp] theorem keeps_noteHead {wh : What} {s0 : State} {flags : Nat} {s : State} (h : Keeps wh s0 s) :
    Keeps wh s0 (noteHead flags s) := by
  simp (maxDischargeDepth := 60) [noteHead, h]

@[simp] theorem keeps_writeWindow {wh : What} {s0 : State} {a : Nat} {v : Word} {s : State} (h : Keeps wh s0 s) (nm : wh.mem = false := by assumption) :
    Keeps wh s0 (writeWindow a v s).2 := by
  simp (maxDischargeDepth := 60) [writeWindow, h, nm]

@[simp] theorem keeps_writePat {wh : What} {s0 : State} {a : Nat} {v : Word} {s : State} (h : Keeps wh s0 s) :
    Keeps wh s0 (writePat a v s).2 := by
  unfold writePat
  (repeat' split) <;> simp (maxDischargeDepth := 60) [*]

@[simp] theorem keeps_lifeEvents {wh : What} {s0 : State} {n : Nat} {s : State} (h : Keeps wh s0 s) :
    Keeps wh s0 (lifeEvents n s) := by
  simp (maxDischargeDepth := 60) [lifeEvents, h]

@[simp] theorem keeps_countLife {wh : What} {s0 : State} {n v : Nat} {s : State} (h : Keeps wh s0 s) :
    Keeps wh s0 (countLife n v s) := by
  simp (maxDischargeDepth := 60) [countLife, h]

@[simp] theorem keeps_closeGate {wh : What} {s0 : State}  {s : State} (h : Keeps wh s0 s) :
    Keeps wh s0 (closeGate s) := by
  simp (maxDischargeDepth := 60) [closeGate, h]

@[simp] theorem keeps_gateBoundary {wh : What} {s0 : State}  {s : State} (h : Keeps wh s0 s) :
    Keeps wh s0 (gateBoundary s) := by
  simp (maxDischargeDepth := 60) [gateBoundary, h]

@[simp] theorem keeps_driveShutter {wh : What} {s0 : State}  {s : State} (h : Keeps wh s0 s) :
    Keeps wh s0 (driveShutter s) := by
  simp (maxDischargeDepth := 60) [driveShutter, h]

@[simp] theorem keeps_ctgFault {wh : What} {s0 : State}  {s : State} (h : Keeps wh s0 s) :
    Keeps wh s0 (ctgFault s) := by
  simp (maxDischargeDepth := 60) [ctgFault, h]

@[simp] theorem keeps_homed {wh : What} {s0 : State}  {s : State} (h : Keeps wh s0 s) :
    Keeps wh s0 (homed s) := by
  simp (maxDischargeDepth := 60) [homed, h]

@[simp] theorem keeps_startReading {wh : What} {s0 : State}  {s : State} (h : Keeps wh s0 s) :
    Keeps wh s0 (startReading s) := by
  simp (maxDischargeDepth := 60) [startReading, h]

@[simp] theorem keeps_takeUpCartridge {wh : What} {s0 : State}  {s : State} (h : Keeps wh s0 s) :
    Keeps wh s0 (takeUpCartridge s) := by
  simp (maxDischargeDepth := 60) [takeUpCartridge, h]

@[simp] theorem keeps_doCtgInserted {wh : What} {s0 : State}  {s : State} (h : Keeps wh s0 s) :
    Keeps wh s0 (doCtgInserted s) := by
  simp (maxDischargeDepth := 60) [doCtgInserted, h]

@[simp] theorem keeps_rememberCartridge {wh : What} {s0 : State}  {s : State} (h : Keeps wh s0 s) :
    Keeps wh s0 (rememberCartridge s) := by
  simp (maxDischargeDepth := 60) [rememberCartridge, h]

@[simp] theorem keeps_removeCartridge {wh : What} {s0 : State}  {s : State} (h : Keeps wh s0 s) :
    Keeps wh s0 (removeCartridge s) := by
  simp (maxDischargeDepth := 60) [removeCartridge, h]

@[simp] theorem keeps_ctgContactOpens {wh : What} {s0 : State}  {s : State} (h : Keeps wh s0 s) :
    Keeps wh s0 (ctgContactOpens s) := by
  simp (maxDischargeDepth := 60) [ctgContactOpens, h]

@[simp] theorem keeps_doCtgReadComplete {wh : What} {s0 : State} {mem : List (Nat × Byte)} {s : State} (h : Keeps wh s0 s) :
    Keeps wh s0 (doCtgReadComplete mem s) := by
  unfold doCtgReadComplete
  simp only []
  (repeat' split) <;> simp (maxDischargeDepth := 60) [*]

@[simp] theorem keeps_authFail {wh : What} {s0 : State} {cause : Nat} {s : State} (h : Keeps wh s0 s) :
    Keeps wh s0 (authFail cause s) := by
  simp (maxDischargeDepth := 60) [authFail, h]

@[simp] theorem keeps_freeCounters {wh : What} {s0 : State}  {s : State} (h : Keeps wh s0 s) :
    Keeps wh s0 (freeCounters s).2 := by
  have hf : ∀ (l : List Nat) (acc : List Nat × State), Keeps wh s0 acc.2 → Keeps wh s0 (l.foldl (fun (acc : List Nat × State) n =>
      (acc.1 ++ [(takeFree acc.2).1.toNat % 2 ^ (if n < 5 then 64 else 32)], (takeFree acc.2).2)) acc).2 := by
    intro l
    induction l with
    | nil => exact fun _ h => h
    | cons a l ih => exact fun _ h => ih _ (keeps_takeFree h)
  exact hf _ _ h

@[simp] theorem keeps_ctgRecord {wh : What} {s0 : State}  {s : State} (h : Keeps wh s0 s) :
    Keeps wh s0 (ctgRecord s).2.2 := by
  unfold ctgRecord
  simp only []
  split
  · exact h
  · exact keeps_takeFree (keeps_freeCounters h)

@[simp] theorem keeps_startMove {wh : What} {s0 : State} {pos : Nat} {s : State} (h : Keeps wh s0 s) :
    Keeps wh s0 (startMove pos s) := by
  simp (maxDischargeDepth := 60) [startMove, h]

@[simp] theorem keeps_startHoming {wh : What} {s0 : State}  {s : State} (h : Keeps wh s0 s) :
    Keeps wh s0 (startHoming s) := by
  simp (maxDischargeDepth := 60) [startHoming, h]

@[simp] theorem keeps_doCtgAuthReply {wh : What} {s0 : State} {certOk sigOk : Bool} {s : State} (h : Keeps wh s0 s) :
    Keeps wh s0 (doCtgAuthReply certOk sigOk s) := by
  simp (maxDischargeDepth := 60) [doCtgAuthReply, h]

@[simp] theorem keeps_doCtgAuthTimeout {wh : What} {s0 : State}  {s : State} (h : Keeps wh s0 s) :
    Keeps wh s0 (doCtgAuthTimeout s) := by
  simp (maxDischargeDepth := 60) [doCtgAuthTimeout, h]

@[simp] theorem keeps_doCtgHomingTimeout {wh : What} {s0 : State}  {s : State} (h : Keeps wh s0 s) :
    Keeps wh s0 (doCtgHomingTimeout s) := by
  simp (maxDischargeDepth := 60) [doCtgHomingTimeout, h]

@[simp] theorem keeps_moveBoundary {wh : What} {s0 : State}  {s : State} (h : Keeps wh s0 s) :
    Keeps wh s0 (moveBoundary s) := by
  simp (maxDischargeDepth := 60) [moveBoundary, h]

@[simp] theorem keeps_doSliderInPosition {wh : What} {s0 : State}  {s : State} (h : Keeps wh s0 s) :
    Keeps wh s0 (doSliderInPosition s) := by
  simp (maxDischargeDepth := 60) [doSliderInPosition, h]

@[simp] theorem keeps_doSliderSettled {wh : What} {s0 : State}  {s : State} (h : Keeps wh s0 s) :
    Keeps wh s0 (doSliderSettled s) := by
  simp (maxDischargeDepth := 60) [doSliderSettled, h]

@[simp] theorem keeps_doFilterFault {wh : What} {s0 : State}  {s : State} (h : Keeps wh s0 s) :
    Keeps wh s0 (doFilterFault s) := by
  simp (maxDischargeDepth := 60) [doFilterFault, h]

@[simp] theorem keeps_shutterReported {wh : What} {s0 : State}  {s : State} (h : Keeps wh s0 s) :
    Keeps wh s0 (shutterReported s) := by
  simp (maxDischargeDepth := 60) [shutterReported, h]

@[simp] theorem keeps_shutterFails {wh : What} {s0 : State}  {s : State} (h : Keeps wh s0 s) :
    Keeps wh s0 (shutterFails s) := by
  simp (maxDischargeDepth := 60) [shutterFails, h]

@[simp] theorem keeps_deferCheckpoint {wh : What} {s0 : State} {cause : Nat} {s : State} (h : Keeps wh s0 s) :
    Keeps wh s0 (deferCheckpoint cause s) := by
  simp (maxDischargeDepth := 60) [deferCheckpoint, h]

@[simp] theorem keeps_checkpointStarts {wh : What} {s0 : State}  {s : State} (h : Keeps wh s0 s) :
    Keeps wh s0 (checkpointStarts s) := by
  simp (maxDischargeDepth := 60) [checkpointStarts, h]

@[simp] theorem keeps_askCheckpoint {wh : What} {s0 : State}  {s : State} (h : Keeps wh s0 s) :
    Keeps wh s0 (askCheckpoint s) := by
  simp (maxDischargeDepth := 60) [askCheckpoint, h]

@[simp] theorem keeps_doCtgCheckpointDue {wh : What} {s0 : State}  {s : State} (h : Keeps wh s0 s) :
    Keeps wh s0 (doCtgCheckpointDue s) := by
  simp (maxDischargeDepth := 60) [doCtgCheckpointDue, h]

@[simp] theorem keeps_doCtgCheckpointReply {wh : What} {s0 : State} {accepted : Bool} {stored : List Nat} {s : State} (h : Keeps wh s0 s) :
    Keeps wh s0 (doCtgCheckpointReply accepted stored s) := by
  simp (maxDischargeDepth := 60) [doCtgCheckpointReply, h]

@[simp] theorem keeps_retryCartridge {wh : What} {s0 : State}  {s : State} (h : Keeps wh s0 s) :
    Keeps wh s0 (retryCartridge s) := by
  simp (maxDischargeDepth := 60) [retryCartridge, h]

@[simp] theorem keeps_writeCtg {wh : What} {s0 : State} {a : Nat} {v : Word} {s : State} (h : Keeps wh s0 s) :
    Keeps wh s0 (writeCtg a v s).2 := by
  unfold writeCtg
  (repeat' split) <;> simp (maxDischargeDepth := 60) [*]

@[simp] theorem keeps_stepMemAddr {wh : What} {s0 : State}  {s : State} (h : Keeps wh s0 s) :
    Keeps wh s0 (stepMemAddr s) := by
  simp (maxDischargeDepth := 60) [stepMemAddr, h]

@[simp] theorem keeps_pulse {wh : What} {s0 : State} {e k : Nat} {s : State} (h : Keeps wh s0 s) :
    Keeps wh s0 (pulse e k s) := by
  simp (maxDischargeDepth := 60) [pulse, h]

@[simp] theorem keeps_crossingPulses {wh : What} {s0 : State} {k : Nat} {s : State} (h : Keeps wh s0 s) :
    Keeps wh s0 (crossingPulses k s) := by
  simp (maxDischargeDepth := 60) [crossingPulses, h]

@[simp] theorem keeps_timerPulses {wh : What} {s0 : State} {k : Nat} {s : State} (h : Keeps wh s0 s) :
    Keeps wh s0 (timerPulses k s) := by
  simp (maxDischargeDepth := 60) [timerPulses, h]

@[simp] theorem keeps_linePulses {wh : What} {s0 : State}  {s : State} (h : Keeps wh s0 s) :
    Keeps wh s0 (linePulses s) := by
  simp (maxDischargeDepth := 60) [linePulses, h]

@[simp] theorem keeps_framePulses {wh : What} {s0 : State}  {s : State} (h : Keeps wh s0 s) :
    Keeps wh s0 (framePulses s) := by
  simp (maxDischargeDepth := 60) [framePulses, h]

@[simp] theorem keeps_openCycle {wh : What} {s0 : State} {cycle : Nat} {s : State} (h : Keeps wh s0 s) :
    Keeps wh s0 (openCycle cycle s) := by
  simp (maxDischargeDepth := 60) [openCycle, h]

@[simp] theorem keeps_threadFlag {wh : What} {s0 : State} {act f cycle : Nat} {s : State} (h : Keeps wh s0 s) :
    Keeps wh s0 (threadFlag act f cycle s) := by
  unfold threadFlag
  (repeat' split) <;> simp (maxDischargeDepth := 60) [*]

@[simp] theorem keeps_stewardFlags {wh : What} {s0 : State} {clear : Bool} {m : BitVec 128} {s : State} (h : Keeps wh s0 s) :
    Keeps wh s0 (stewardFlags clear m s) := by
  simp (maxDischargeDepth := 60) [stewardFlags, h]

@[simp] theorem keeps_activate {wh : What} {s0 : State} {c : CalSet} {src : Nat} {s : State} (h : Keeps wh s0 s) :
    Keeps wh s0 (activate c src s) := by
  simp (maxDischargeDepth := 60) [activate, h]

@[simp] theorem keeps_makeDue {wh : What} {s0 : State} {r : CalReason} {s : State} (h : Keeps wh s0 s) :
    Keeps wh s0 (makeDue r s) := by
  simp (maxDischargeDepth := 60) [makeDue, h]

@[simp] theorem keeps_conditionDue {wh : What} {s0 : State} {r : CalReason} {holds : Bool} {s : State} (h : Keeps wh s0 s) :
    Keeps wh s0 (conditionDue r holds s) := by
  simp (maxDischargeDepth := 60) [conditionDue, h]

@[simp] theorem keeps_calTemperature {wh : What} {s0 : State} {t : Int} {s : State} (h : Keeps wh s0 s) :
    Keeps wh s0 (calTemperature t s) := by
  simp (maxDischargeDepth := 60) [calTemperature, h]

@[simp] theorem keeps_doCalTempMean {wh : What} {s0 : State}  {s : State} (h : Keeps wh s0 s) :
    Keeps wh s0 (doCalTempMean s) := by
  simp (maxDischargeDepth := 60) [doCalTempMean, h]

@[simp] theorem keeps_doCalAgeExpired {wh : What} {s0 : State}  {s : State} (h : Keeps wh s0 s) :
    Keeps wh s0 (doCalAgeExpired s) := by
  simp (maxDischargeDepth := 60) [doCalAgeExpired, h]

@[simp] theorem keeps_doCalStaleEnter {wh : What} {s0 : State}  {s : State} (h : Keeps wh s0 s) :
    Keeps wh s0 (doCalStaleEnter s) := by
  unfold doCalStaleEnter
  (repeat' split) <;> simp (maxDischargeDepth := 60) [*]

@[simp] theorem keeps_calNeedTiles {wh : What} {s0 : State} {tiles : List Nat} {on : Bool} {s : State} (h : Keeps wh s0 s) :
    Keeps wh s0 (calNeedTiles tiles on s) := by
  simp (maxDischargeDepth := 60) [calNeedTiles, h]

@[simp] theorem keeps_calNeed {wh : What} {s0 : State} {on : Bool} {s : State} (h : Keeps wh s0 s) :
    Keeps wh s0 (calNeed on s) := by
  simp (maxDischargeDepth := 60) [calNeed, h]

@[simp] theorem keeps_driftNeed {wh : What} {s0 : State} {on : Bool} {s : State} (h : Keeps wh s0 s) :
    Keeps wh s0 (driftNeed on s) := by
  simp (maxDischargeDepth := 60) [driftNeed, h]

@[simp] theorem keeps_startRun {wh : What} {s0 : State} {byFlag : Bool} {s : State} (h : Keeps wh s0 s) :
    Keeps wh s0 (startRun byFlag s) := by
  simp (maxDischargeDepth := 60) [startRun, h]

@[simp] theorem keeps_endAborted {wh : What} {s0 : State} {opens : Bool} {s : State} (h : Keeps wh s0 s) :
    Keeps wh s0 (endAborted opens s) := by
  simp (maxDischargeDepth := 60) [endAborted, h]

@[simp] theorem keeps_countAbort {wh : What} {s0 : State}  {s : State} (h : Keeps wh s0 s) :
    Keeps wh s0 (countAbort s) := by
  simp (maxDischargeDepth := 60) [countAbort, h]

@[simp] theorem keeps_dropDrift {wh : What} {s0 : State}  {s : State} (h : Keeps wh s0 s) :
    Keeps wh s0 (dropDrift s) := by
  simp (maxDischargeDepth := 60) [dropDrift, h]

@[simp] theorem keeps_abortRun {wh : What} {s0 : State} {cause : AbortCause} {s : State} (h : Keeps wh s0 s) :
    Keeps wh s0 (abortRun cause s) := by
  unfold abortRun
  simp only []
  split
  · split
    · exact keeps_dropDrift h
    · exact keeps_dropDrift h
    · exact h
  · have hr := keeps_raise (code := 0x0704) (fs := [.h cause.code]) (keeps_addF (f := R.CAL_CNT_ABORTS) (x := 1)
      (keeps_endAborted (opens := match cause with | .temp | .flag | .cancel => true | _ => false) h))
    split
    · exact keeps_countAbort hr
    · exact hr

@[simp] theorem keeps_lightDetected {wh : What} {s0 : State} {place excess : Nat} {s : State} (h : Keeps wh s0 s) :
    Keeps wh s0 (lightDetected place excess s) := by
  simp (maxDischargeDepth := 60) [lightDetected, h]

@[simp] theorem keeps_flickerSample {wh : What} {s0 : State} {acc : Nat} {system enabled : Bool} {sum : Int} {count : Nat} {s : State} (h : Keeps wh s0 s) :
    Keeps wh s0 (flickerSample acc system enabled sum count s) := by
  unfold flickerSample
  simp only []
  (repeat' split) <;> simp (maxDischargeDepth := 60) [*]

@[simp] theorem keeps_clearHeld {wh : What} {s0 : State}  {s : State} (h : Keeps wh s0 s) :
    Keeps wh s0 (clearHeld s) := by
  simp (maxDischargeDepth := 60) [clearHeld, h]

@[simp] theorem keeps_doCalDarkBegin {wh : What} {s0 : State}  {s : State} (h : Keeps wh s0 s) :
    Keeps wh s0 (doCalDarkBegin s) := by
  simp (maxDischargeDepth := 60) [doCalDarkBegin, h]

@[simp] theorem keeps_calResetStart {wh : What} {s0 : State} {rg : Nat} {s : State} (h : Keeps wh s0 s) :
    Keeps wh s0 (calResetStart rg s) := by
  simp (maxDischargeDepth := 60) [calResetStart, h]

@[simp] theorem keeps_calStarts {wh : What} {s0 : State} {r : CalRead} {s : State} (h : Keeps wh s0 s) :
    Keeps wh s0 (calStarts r s) := by
  simp (maxDischargeDepth := 60) [calStarts, h]

@[simp] theorem keeps_calReadStart {wh : What} {s0 : State} {rg : Nat} {s : State} (h : Keeps wh s0 s) :
    Keeps wh s0 (calReadStart rg s) := by
  unfold calReadStart
  (repeat' split) <;> simp (maxDischargeDepth := 60) [*]

@[simp] theorem keeps_driftReadStart {wh : What} {s0 : State} {rg gain : Nat} {s : State} (h : Keeps wh s0 s) :
    Keeps wh s0 (driftReadStart rg gain s) := by
  simp (maxDischargeDepth := 60) [driftReadStart, h]

@[simp] theorem keeps_calSamples {wh : What} {s0 : State} {gain y : Nat} {l : List (Nat × Px)} {s : State} (h : Keeps wh s0 s) :
    Keeps wh s0 (calSamples gain y l s) := by
  simp (maxDischargeDepth := 60) [calSamples, h]

@[simp] theorem keeps_blackSamples {wh : What} {s0 : State} {drift : Bool} {bank gain : Nat} {l : List (Nat × Px)} {s : State} (h : Keeps wh s0 s) :
    Keeps wh s0 (blackSamples drift bank gain l s) := by
  simp (maxDischargeDepth := 60) [blackSamples, h]

@[simp] theorem keeps_calFrameEnds {wh : What} {s0 : State}  {s : State} (h : Keeps wh s0 s) :
    Keeps wh s0 (calFrameEnds s) := by
  unfold calFrameEnds
  simp only []
  (repeat' split) <;> simp (maxDischargeDepth := 60) [*]

@[simp] theorem keeps_driftCheck {wh : What} {s0 : State}  {s : State} (h : Keeps wh s0 s) :
    Keeps wh s0 (driftCheck s) := by
  simp (maxDischargeDepth := 60) [driftCheck, h]

@[simp] theorem keeps_calReadDone {wh : What} {s0 : State} {rg gain : Nat} {s : State} (h : Keeps wh s0 s) :
    Keeps wh s0 (calReadDone rg gain s) := by
  unfold calReadDone
  (repeat' split) <;> simp (maxDischargeDepth := 60) [*]

@[simp] theorem keeps_startStore {wh : What} {s0 : State} {c : CalSet} {s : State} (h : Keeps wh s0 s) :
    Keeps wh s0 (startStore c s) := by
  unfold startStore
  (repeat' split) <;> simp (maxDischargeDepth := 60) [*]

@[simp] theorem keeps_pumpCalStore {wh : What} {s0 : State}  {s : State} (h : Keeps wh s0 s) :
    Keeps wh s0 (pumpCalStore s) := by
  simp (maxDischargeDepth := 60) [pumpCalStore, h]

@[simp] theorem keeps_restartCalStore {wh : What} {s0 : State}  {s : State} (h : Keeps wh s0 s) :
    Keeps wh s0 (restartCalStore s) := by
  unfold restartCalStore
  (repeat' split) <;> simp (maxDischargeDepth := 60) [*]

@[simp] theorem keeps_endCalStore {wh : What} {s0 : State} {cause : Nat} {s : State} (h : Keeps wh s0 s) :
    Keeps wh s0 (endCalStore cause s) := by
  unfold endCalStore
  (repeat' split) <;> simp (maxDischargeDepth := 60) [*]

@[simp] theorem keeps_calCommandDone {wh : What} {s0 : State} {ok : Bool} {s : State} (h : Keeps wh s0 s) :
    Keeps wh s0 (calCommandDone ok s) := by
  unfold calCommandDone
  simp only []
  (repeat' split) <;> simp (maxDischargeDepth := 60) [*]

@[simp] theorem keeps_doCalRunComplete {wh : What} {s0 : State}  {s : State} (h : Keeps wh s0 s) :
    Keeps wh s0 (doCalRunComplete s) := by
  unfold doCalRunComplete
  simp only []
  split
  · split
    · simp (maxDischargeDepth := 60) [h]
    · refine keeps_startStore (keeps_raise (keeps_clearHeld (keeps_onCal ?_)))
      exact keeps_of_same h rfl rfl rfl rfl rfl rfl rfl rfl rfl
  · exact h

@[simp] theorem keeps_calLoad {wh : What} {s0 : State} {okA okB : Bool} {s : State} (h : Keeps wh s0 s) :
    Keeps wh s0 (calLoad okA okB s) := by
  unfold calLoad
  simp only []
  (repeat' split) <;> simp (maxDischargeDepth := 60) [*]

@[simp] theorem keeps_doCalLoadComplete {wh : What} {s0 : State} {okA okB : Bool} {s : State} (h : Keeps wh s0 s) :
    Keeps wh s0 (doCalLoadComplete okA okB s) := by
  simp (maxDischargeDepth := 60) [doCalLoadComplete, h]

@[simp] theorem keeps_startLoad {wh : What} {s0 : State}  {s : State} (h : Keeps wh s0 s) :
    Keeps wh s0 (startLoad s) := by
  simp (maxDischargeDepth := 60) [startLoad, h]

@[simp] theorem keeps_forceWaits {wh : What} {s0 : State}  {s : State} (h : Keeps wh s0 s) :
    Keeps wh s0 (forceWaits s) := by
  simp (maxDischargeDepth := 60) [forceWaits, h]

@[simp] theorem keeps_calBoundary {wh : What} {s0 : State}  {s : State} (h : Keeps wh s0 s) :
    Keeps wh s0 (calBoundary s) := by
  unfold calBoundary
  (repeat' split) <;> simp (maxDischargeDepth := 60) [*]

@[simp] theorem keeps_doCalRequest {wh : What} {s0 : State}  {s : State} (h : Keeps wh s0 s) :
    Keeps wh s0 (doCalRequest s) := by
  simp (maxDischargeDepth := 60) [doCalRequest, h]

@[simp] theorem keeps_doCalForce {wh : What} {s0 : State}  {s : State} (h : Keeps wh s0 s) :
    Keeps wh s0 (doCalForce s) := by
  simp (maxDischargeDepth := 60) [doCalForce, h]

@[simp] theorem keeps_doCalCancel {wh : What} {s0 : State}  {s : State} (h : Keeps wh s0 s) :
    Keeps wh s0 (doCalCancel s) := by
  simp (maxDischargeDepth := 60) [doCalCancel, h]

@[simp] theorem keeps_writeCal {wh : What} {s0 : State} {a : Nat} {v : Word} {s : State} (h : Keeps wh s0 s) :
    Keeps wh s0 (writeCal a v s).2 := by
  unfold writeCal
  (repeat' split) <;> simp (maxDischargeDepth := 60) [*]

@[simp] theorem keeps_modAcc {wh : What} {s0 : State} {a : Nat} {f : Acc → Acc} {s : State} (h : Keeps wh s0 s) :
    Keeps wh s0 (modAcc a f s) := by
  simp (maxDischargeDepth := 60) [modAcc, h]

@[simp] theorem keeps_modTrk {wh : What} {s0 : State} {k : Nat} {f : Trk → Trk} {s : State} (h : Keeps wh s0 s) :
    Keeps wh s0 (modTrk k f s) := by
  simp (maxDischargeDepth := 60) [modTrk, h]

@[simp] theorem keeps_accrueAccs {wh : What} {s0 : State}  {s : State} (h : Keeps wh s0 s) :
    Keeps wh s0 (accrueAccs s) := by
  simp (maxDischargeDepth := 60) [accrueAccs, h]

@[simp] theorem keeps_openAcc {wh : What} {s0 : State} {a tb : Nat} {s : State} (h : Keeps wh s0 s) :
    Keeps wh s0 (openAcc a tb s) := by
  simp (maxDischargeDepth := 60) [openAcc, h]

@[simp] theorem keeps_addSample {wh : What} {s0 : State} {a : Nat} {v : Int} {s : State} (h : Keeps wh s0 s) :
    Keeps wh s0 (addSample a v s) := by
  simp (maxDischargeDepth := 60) [addSample, h]

@[simp] theorem keeps_closeAcc {wh : What} {s0 : State} {a extra : Nat} {s : State} (h : Keeps wh s0 s) :
    Keeps wh s0 (closeAcc a extra s) := by
  simp (maxDischargeDepth := 60) [closeAcc, h]

@[simp] theorem keeps_doAccTimeWindowClose {wh : What} {s0 : State} {a : Fin 256} {s : State} (h : Keeps wh s0 s) :
    Keeps wh s0 (doAccTimeWindowClose a s) := by
  simp (maxDischargeDepth := 60) [doAccTimeWindowClose, h]

@[simp] theorem keeps_accLine {wh : What} {s0 : State} {l : Nat} {s : State} (h : Keeps wh s0 s) :
    Keeps wh s0 (accLine l s) := by
  simp (maxDischargeDepth := 60) [accLine, h]

@[simp] theorem keeps_accFrame {wh : What} {s0 : State}  {s : State} (h : Keeps wh s0 s) :
    Keeps wh s0 (accFrame s) := by
  simp (maxDischargeDepth := 60) [accFrame, h]

@[simp] theorem keeps_accInvalid {wh : What} {s0 : State}  {s : State} (h : Keeps wh s0 s) :
    Keeps wh s0 (accInvalid s) := by
  simp (maxDischargeDepth := 60) [accInvalid, h]

@[simp] theorem keeps_closeSteward {wh : What} {s0 : State} {extra : Nat} {s : State} (h : Keeps wh s0 s) :
    Keeps wh s0 (closeSteward extra s) := by
  simp (maxDischargeDepth := 60) [closeSteward, h]

@[simp] theorem keeps_discardSteward {wh : What} {s0 : State}  {s : State} (h : Keeps wh s0 s) :
    Keeps wh s0 (discardSteward s) := by
  simp (maxDischargeDepth := 60) [discardSteward, h]

@[simp] theorem keeps_openSteward {wh : What} {s0 : State}  {s : State} (h : Keeps wh s0 s) :
    Keeps wh s0 (openSteward s) := by
  simp (maxDischargeDepth := 60) [openSteward, h]

@[simp] theorem keeps_opticalVertical {wh : What} {s0 : State} {t : Nat} {s : State} (h : Keeps wh s0 s) :
    Keeps wh s0 (opticalVertical t s) := by
  simp (maxDischargeDepth := 60) [opticalVertical, h]

@[simp] theorem keeps_opticalLine {wh : What} {s0 : State} {t d : Nat} {s : State} (h : Keeps wh s0 s) :
    Keeps wh s0 (opticalLine t d s) := by
  simp (maxDischargeDepth := 60) [opticalLine, h]

@[simp] theorem keeps_opticalCrossing {wh : What} {s0 : State} {j t : Nat} {s : State} (h : Keeps wh s0 s) :
    Keeps wh s0 (opticalCrossing j t s) := by
  unfold opticalCrossing
  (repeat' split) <;> simp (maxDischargeDepth := 60) [*]

@[simp] theorem keeps_queueCrossing {wh : What} {s0 : State} {x : Xing} {s : State} (h : Keeps wh s0 s) :
    Keeps wh s0 (queueCrossing x s) := by
  simp (maxDischargeDepth := 60) [queueCrossing, h]

@[simp] theorem keeps_crossing {wh : What} {s0 : State} {k : Nat} {c : TrkCfg} {rising : Bool} {t : Nat} {s : State} (h : Keeps wh s0 s) :
    Keeps wh s0 (crossing k c rising t s) := by
  simp (maxDischargeDepth := 60) [crossing, h]

@[simp] theorem keeps_trackSample {wh : What} {s0 : State} {k : Nat} {c : TrkCfg} {v : Int} {tb : Nat} {s : State} (h : Keeps wh s0 s) :
    Keeps wh s0 (trackSample k c v tb s) := by
  simp (maxDischargeDepth := 60) [trackSample, h]

@[simp] theorem keeps_takeCrossings {wh : What} {s0 : State} {n : Nat} {s : State} (h : Keeps wh s0 s) :
    Keeps wh s0 (takeCrossings n s) := by
  simp (maxDischargeDepth := 60) [takeCrossings, h]

@[simp] theorem keeps_startInjected {wh : What} {s0 : State} {t : InjTrigger × Nat} {tb : Nat} {s : State} (h : Keeps wh s0 s) :
    Keeps wh s0 (startInjected t tb s) := by
  simp (maxDischargeDepth := 60) [startInjected, h]

@[simp] theorem keeps_dropTrigger {wh : What} {s0 : State} {t : InjTrigger} {s : State} (h : Keeps wh s0 s) :
    Keeps wh s0 (dropTrigger t s) := by
  simp (maxDischargeDepth := 60) [dropTrigger, h]

@[simp] theorem keeps_pendTrigger {wh : What} {s0 : State} {t : InjTrigger} {s : State} (h : Keeps wh s0 s) :
    Keeps wh s0 (pendTrigger t s) := by
  simp (maxDischargeDepth := 60) [pendTrigger, h]

@[simp] theorem keeps_thirdTrigger {wh : What} {s0 : State} {t : InjTrigger} {p : InjTrigger × Nat} {s : State} (h : Keeps wh s0 s) :
    Keeps wh s0 (thirdTrigger t p s) := by
  simp (maxDischargeDepth := 60) [thirdTrigger, h]

@[simp] theorem keeps_injectTrigger {wh : What} {s0 : State} {t : InjTrigger} {s : State} (h : Keeps wh s0 s) :
    Keeps wh s0 (injectTrigger t s) := by
  unfold injectTrigger
  simp only []
  (repeat' split) <;> simp (maxDischargeDepth := 60) [*]

@[simp] theorem keeps_doInjectedTrigger {wh : What} {s0 : State} {t : InjTrigger} {s : State} (h : Keeps wh s0 s) :
    Keeps wh s0 (doInjectedTrigger t s) := by
  simp (maxDischargeDepth := 60) [doInjectedTrigger, h]

@[simp] theorem keeps_channelReaches {wh : What} {s0 : State} {k : Nat} {s : State} (h : Keeps wh s0 s) :
    Keeps wh s0 (channelReaches k s) := by
  simp (maxDischargeDepth := 60) [channelReaches, h]

@[simp] theorem keeps_doEnergyRequestRepeat {wh : What} {s0 : State}  {s : State} (h : Keeps wh s0 s) :
    Keeps wh s0 (doEnergyRequestRepeat s) := by
  unfold doEnergyRequestRepeat
  (repeat' split) <;> simp (maxDischargeDepth := 60) [*]

@[simp] theorem keeps_performHandover {wh : What} {s0 : State}  {s : State} (h : Keeps wh s0 s) :
    Keeps wh s0 (performHandover s) := by
  unfold performHandover
  (repeat' split) <;> simp (maxDischargeDepth := 60) [*]

@[simp] theorem keeps_nextStep {wh : What} {s0 : State} {tb : Nat} {s : State} (h : Keeps wh s0 s) :
    Keeps wh s0 (nextStep tb s) := by
  unfold nextStep
  simp only []
  (repeat' split) <;> simp (maxDischargeDepth := 60) [*]

@[simp] theorem keeps_passEnds {wh : What} {s0 : State}  {s : State} (h : Keeps wh s0 s) :
    Keeps wh s0 (passEnds s) := by
  simp (maxDischargeDepth := 60) [passEnds, h]

@[simp] theorem keeps_advance {wh : What} {s0 : State}  {s : State} (h : Keeps wh s0 s) :
    Keeps wh s0 (advance s) := by
  unfold advance
  (repeat' split) <;> simp (maxDischargeDepth := 60) [*]

@[simp] theorem keeps_noSpareLeft {wh : What} {s0 : State}  {s : State} (h : Keeps wh s0 s) :
    Keeps wh s0 (noSpareLeft s) := by
  simp (maxDischargeDepth := 60) [noSpareLeft, h]

@[simp] theorem keeps_hardFault {wh : What} {s0 : State} {p : Nat} {s : State} (h : Keeps wh s0 s) :
    Keeps wh s0 (hardFault p s) := by
  unfold hardFault
  simp only []
  (repeat' split) <;> simp (maxDischargeDepth := 60) [*]

@[simp] theorem keeps_takeSample {wh : What} {s0 : State} {injected : Bool} {tb i : Nat} {v : BitVec 16} {s : State} (h : Keeps wh s0 s) :
    Keeps wh s0 (takeSample injected tb i v s) := by
  simp (maxDischargeDepth := 60) [takeSample, h]

@[simp] theorem keeps_loseSample {wh : What} {s0 : State} {injected : Bool} {i : Nat} {s : State} (h : Keeps wh s0 s) :
    Keeps wh s0 (loseSample injected i s) := by
  simp (maxDischargeDepth := 60) [loseSample, h]

@[simp] theorem keeps_stepPosition {wh : What} {s0 : State} {injected : Bool} {tb p i : Nat} {v : Option (BitVec 16)} {s : State} (h : Keeps wh s0 s) :
    Keeps wh s0 (stepPosition injected tb p i v s) := by
  unfold stepPosition
  (repeat' split) <;> simp (maxDischargeDepth := 60) [*]

@[simp] theorem keeps_trackerStep {wh : What} {s0 : State} {p0 p1 p2 p3 : Option (BitVec 16)} {taken : Nat} {s : State} (h : Keeps wh s0 s) :
    Keeps wh s0 (trackerStep p0 p1 p2 p3 taken s) := by
  simp (maxDischargeDepth := 60) [trackerStep, h]

@[simp] theorem keeps_pickHandover {wh : What} {s0 : State}  {s : State} (h : Keeps wh s0 s) :
    Keeps wh s0 (pickHandover s) := by
  unfold pickHandover
  simp only []
  (repeat' split) <;> simp (maxDischargeDepth := 60) [*]

@[simp] theorem keeps_doSliceRotation {wh : What} {s0 : State}  {s : State} (h : Keeps wh s0 s) :
    Keeps wh s0 (doSliceRotation s) := by
  simp (maxDischargeDepth := 60) [doSliceRotation, h]

@[simp] theorem keeps_changeRef {wh : What} {s0 : State} {new : Nat} {s : State} (h : Keeps wh s0 s) :
    Keeps wh s0 (changeRef new s) := by
  simp (maxDischargeDepth := 60) [changeRef, h]

@[simp] theorem keeps_doSliceCalComplete {wh : What} {s0 : State} {n : Fin 5} {offset gain : Int} {refMv : Nat} {s : State} (h : Keeps wh s0 s) :
    Keeps wh s0 (doSliceCalComplete n offset gain refMv s) := by
  simp (maxDischargeDepth := 60) [doSliceCalComplete, h]

@[simp] theorem keeps_doRefSettlingEnd {wh : What} {s0 : State}  {s : State} (h : Keeps wh s0 s) :
    Keeps wh s0 (doRefSettlingEnd s) := by
  unfold doRefSettlingEnd
  (repeat' split) <;> simp (maxDischargeDepth := 60) [*]

@[simp] theorem keeps_doRegStarved {wh : What} {s0 : State}  {s : State} (h : Keeps wh s0 s) :
    Keeps wh s0 (doRegStarved s) := by
  simp (maxDischargeDepth := 60) [doRegStarved, h]

@[simp] theorem keeps_startTracker {wh : What} {s0 : State}  {s : State} (h : Keeps wh s0 s) :
    Keeps wh s0 (startTracker s) := by
  simp (maxDischargeDepth := 60) [startTracker, h]

@[simp] theorem keeps_stopTracker {wh : What} {s0 : State}  {s : State} (h : Keeps wh s0 s) :
    Keeps wh s0 (stopTracker s) := by
  simp (maxDischargeDepth := 60) [stopTracker, h]

@[simp] theorem keeps_startSequences {wh : What} {s0 : State}  {s : State} (h : Keeps wh s0 s) :
    Keeps wh s0 (startSequences s) := by
  simp (maxDischargeDepth := 60) [startSequences, h]

@[simp] theorem keeps_stopSequences {wh : What} {s0 : State}  {s : State} (h : Keeps wh s0 s) :
    Keeps wh s0 (stopSequences s) := by
  simp (maxDischargeDepth := 60) [stopSequences, h]

@[simp] theorem keeps_writeTrcCtrl {wh : What} {s0 : State} {a : Nat} {v : Word} {s : State} (h : Keeps wh s0 s) :
    Keeps wh s0 (writeTrcCtrl a v s) := by
  simp (maxDischargeDepth := 60) [writeTrcCtrl, h]

@[simp] theorem keeps_writeStep {wh : What} {s0 : State} {a : Nat} {v : Word} {s : State} (h : Keeps wh s0 s) :
    Keeps wh s0 (writeStep a v s) := by
  simp (maxDischargeDepth := 60) [writeStep, h]

@[simp] theorem keeps_writeTrc {wh : What} {s0 : State} {a : Nat} {v : Word} {s : State} (h : Keeps wh s0 s) :
    Keeps wh s0 (writeTrc a v s).2 := by
  simp (maxDischargeDepth := 60) [writeTrc, h]

@[simp] theorem keeps_clearTrc {wh : What} {s0 : State} {a : Nat} {s : State} (h : Keeps wh s0 s) :
    Keeps wh s0 (clearTrc a s) := by
  simp (maxDischargeDepth := 60) [clearTrc, h]

@[simp] theorem keeps_writePin {wh : What} {s0 : State} {e g : Nat} {dir : Bool} {pin : Nat} {b : Bool} {s : State} (h : Keeps wh s0 s) :
    Keeps wh s0 (writePin e g dir pin b s) := by
  unfold writePin
  (repeat' split) <;> simp (maxDischargeDepth := 60) [*]

@[simp] theorem keeps_writeGroup {wh : What} {s0 : State} {e t : Nat} {dir : Bool} {v : Nat} {s : State} (h : Keeps wh s0 s) :
    Keeps wh s0 (writeGroup e t dir v s) := by
  simp (maxDischargeDepth := 60) [writeGroup, h]

@[simp] theorem keeps_lineIdle {wh : What} {s0 : State} {pin : Nat} {s : State} (h : Keeps wh s0 s) :
    Keeps wh s0 (lineIdle pin s) := by
  simp (maxDischargeDepth := 60) [lineIdle, h]

@[simp] theorem keeps_linesIdle {wh : What} {s0 : State} {e : Nat} {g : Option Nat} {s : State} (h : Keeps wh s0 s) :
    Keeps wh s0 (linesIdle e g s) := by
  simp (maxDischargeDepth := 60) [linesIdle, h]

@[simp] theorem keeps_waitProceeds {wh : What} {s0 : State} {e w : Nat} {s : State} (h : Keeps wh s0 s) :
    Keeps wh s0 (waitProceeds e w s) := by
  simp (maxDischargeDepth := 60) [waitProceeds, h]

@[simp] theorem keeps_movDest {wh : What} {s0 : State} {e t dst : Nat} {v : BitVec 32} {s : State} (h : Keeps wh s0 s) :
    Keeps wh s0 (movDest e t dst v s) := by
  unfold movDest
  (repeat' split) <;> simp (maxDischargeDepth := 60) [*]

@[simp] theorem keeps_pushWord {wh : What} {s0 : State} {e t w : Nat} {s : State} (h : Keeps wh s0 s) :
    Keeps wh s0 (pushWord e t w s).2 := by
  unfold pushWord
  simp only []
  have hc : ∀ x : Thread, (if operand w 8 1 = 1 then x else { x with sh := 0, shCount := 0 }).txf = x.txf ∧
      (if operand w 8 1 = 1 then x else { x with sh := 0, shCount := 0 }).rxf = x.rxf := by intro x; split <;> simp
  split
  · rename_i hl
    refine keeps_setThread' h fun b => ?_
    have hb := getThread_bounded (e := e) (t := t) b
    refine ⟨?_, ?_⟩
    · simp only [hc]; exact hb.1
    · simp only [List.length_append, List.length_cons, List.length_nil]; omega
  · split
    · exact h
    · refine keeps_setF (keeps_setThread h ?_ ?_)
      · simp only [hc]
      · simp only [hc]

@[simp] theorem keeps_pullWord {wh : What} {s0 : State} {e t w : Nat} {s : State} (h : Keeps wh s0 s) :
    Keeps wh s0 (pullWord e t w s).2 := by
  unfold pullWord
  simp only []
  split
  · rename_i v l hx
    refine keeps_setThread' h fun b => ?_
    have hb := getThread_bounded (e := e) (t := t) b
    refine ⟨?_, hb.2⟩
    have := hb.1
    rw [hx, List.length_cons] at this
    simp only []; omega
  · split <;> exact h

@[simp] theorem keeps_threadEvent {wh : What} {s0 : State} {e t n : Nat} {s : State} (h : Keeps wh s0 s) :
    Keeps wh s0 (threadEvent e t n s) := by
  simp (maxDischargeDepth := 60) [threadEvent, h]

@[simp] theorem keeps_flushThreadEvents {wh : What} {s0 : State}  {s : State} (h : Keeps wh s0 s) :
    Keeps wh s0 (flushThreadEvents s) := by
  simp (maxDischargeDepth := 60) [flushThreadEvents, h]

@[simp] theorem keeps_irqOp {wh : What} {s0 : State} {e t w : Nat} {s : State} (h : Keeps wh s0 s) :
    Keeps wh s0 (irqOp e t w s) := by
  unfold irqOp
  (repeat' split) <;> simp (maxDischargeDepth := 60) [*]

@[simp] theorem keeps_setOp {wh : What} {s0 : State} {e t w : Nat} {s : State} (h : Keeps wh s0 s) :
    Keeps wh s0 (setOp e t w s) := by
  unfold setOp
  (repeat' split) <;> simp (maxDischargeDepth := 60) [*]

@[simp] theorem keeps_outOp {wh : What} {s0 : State} {e t w : Nat} {s : State} (h : Keeps wh s0 s) :
    Keeps wh s0 (outOp e t w s) := by
  unfold outOp
  simp only []
  split <;> simp (maxDischargeDepth := 60) [shiftOut, h]

@[simp] theorem keeps_executeWord {wh : What} {s0 : State} {e t w : Nat} {s : State} (h : Keeps wh s0 s) :
    Keeps wh s0 (executeWord e t w s).2 := by
  have hj : ∀ c x j, (jumpTaken s e w c x j).2.txf = x.txf ∧ (jumpTaken s e w c x j).2.rxf = x.rxf := by
    intro c x j; unfold jumpTaken; simp only []; split <;> simp
  unfold executeWord
  simp only []
  (repeat' split) <;> simp (maxDischargeDepth := 60) [shiftIn, hj, h]

@[simp] theorem keeps_checkRange {wh : What} {s0 : State} {e t : Nat} {s : State} (h : Keeps wh s0 s) :
    Keeps wh s0 (checkRange e t s) := by
  simp (maxDischargeDepth := 60) [checkRange, h]

@[simp] theorem keeps_finishSlot {wh : What} {s0 : State} {e t w : Nat} {f : Flow} {s : State} (h : Keeps wh s0 s) :
    Keeps wh s0 (finishSlot e t w f s) := by
  unfold finishSlot
  (repeat' split) <;> simp (maxDischargeDepth := 60) [*]

@[simp] theorem keeps_runInstr {wh : What} {s0 : State} {kind : Nat → Bool} {e : Fin 4} {t : Fin 16} {s : State} (h : Keeps wh s0 s) :
    Keeps wh s0 (runInstr kind e t s) := by
  simp (maxDischargeDepth := 60) [runInstr, h]

@[simp] theorem keeps_resume {wh : What} {s0 : State} {st : ThrState} {op : Nat} {e : Fin 4} {t : Fin 16} {s : State} (h : Keeps wh s0 s) :
    Keeps wh s0 (resume st op e t s) := by
  unfold resume
  simp only []
  split
  · split
    · rename_i he
      have := keeps_executeWord (e := e) (t := t) (w := threadWord s e t) h
      rw [he] at this
      exact keeps_finishSlot this
    · exact h
  · exact h

@[simp] theorem keeps_doInstrNop {wh : What} {s0 : State} {e : Fin 4} {t : Fin 16} {s : State} (h : Keeps wh s0 s) :
    Keeps wh s0 (doInstrNop e t s) := by
  simp (maxDischargeDepth := 60) [doInstrNop, h]

@[simp] theorem keeps_doInstrJmp {wh : What} {s0 : State} {e : Fin 4} {t : Fin 16} {s : State} (h : Keeps wh s0 s) :
    Keeps wh s0 (doInstrJmp e t s) := by
  simp (maxDischargeDepth := 60) [doInstrJmp, h]

@[simp] theorem keeps_doInstrWait {wh : What} {s0 : State} {e : Fin 4} {t : Fin 16} {s : State} (h : Keeps wh s0 s) :
    Keeps wh s0 (doInstrWait e t s) := by
  simp (maxDischargeDepth := 60) [doInstrWait, h]

@[simp] theorem keeps_doInstrIn {wh : What} {s0 : State} {e : Fin 4} {t : Fin 16} {s : State} (h : Keeps wh s0 s) :
    Keeps wh s0 (doInstrIn e t s) := by
  simp (maxDischargeDepth := 60) [doInstrIn, h]

@[simp] theorem keeps_doInstrOut {wh : What} {s0 : State} {e : Fin 4} {t : Fin 16} {s : State} (h : Keeps wh s0 s) :
    Keeps wh s0 (doInstrOut e t s) := by
  simp (maxDischargeDepth := 60) [doInstrOut, h]

@[simp] theorem keeps_doInstrPush {wh : What} {s0 : State} {e : Fin 4} {t : Fin 16} {s : State} (h : Keeps wh s0 s) :
    Keeps wh s0 (doInstrPush e t s) := by
  simp (maxDischargeDepth := 60) [doInstrPush, h]

@[simp] theorem keeps_doInstrPull {wh : What} {s0 : State} {e : Fin 4} {t : Fin 16} {s : State} (h : Keeps wh s0 s) :
    Keeps wh s0 (doInstrPull e t s) := by
  simp (maxDischargeDepth := 60) [doInstrPull, h]

@[simp] theorem keeps_doInstrMov {wh : What} {s0 : State} {e : Fin 4} {t : Fin 16} {s : State} (h : Keeps wh s0 s) :
    Keeps wh s0 (doInstrMov e t s) := by
  simp (maxDischargeDepth := 60) [doInstrMov, h]

@[simp] theorem keeps_doInstrSet {wh : What} {s0 : State} {e : Fin 4} {t : Fin 16} {s : State} (h : Keeps wh s0 s) :
    Keeps wh s0 (doInstrSet e t s) := by
  simp (maxDischargeDepth := 60) [doInstrSet, h]

@[simp] theorem keeps_doFlagSet {wh : What} {s0 : State} {e : Fin 4} {t : Fin 16} {s : State} (h : Keeps wh s0 s) :
    Keeps wh s0 (doFlagSet e t s) := by
  simp (maxDischargeDepth := 60) [doFlagSet, h]

@[simp] theorem keeps_doFlagClear {wh : What} {s0 : State} {e : Fin 4} {t : Fin 16} {s : State} (h : Keeps wh s0 s) :
    Keeps wh s0 (doFlagClear e t s) := by
  simp (maxDischargeDepth := 60) [doFlagClear, h]

@[simp] theorem keeps_doFlagToggle {wh : What} {s0 : State} {e : Fin 4} {t : Fin 16} {s : State} (h : Keeps wh s0 s) :
    Keeps wh s0 (doFlagToggle e t s) := by
  simp (maxDischargeDepth := 60) [doFlagToggle, h]

@[simp] theorem keeps_doIrqSet {wh : What} {s0 : State} {e : Fin 4} {t : Fin 16} {s : State} (h : Keeps wh s0 s) :
    Keeps wh s0 (doIrqSet e t s) := by
  simp (maxDischargeDepth := 60) [doIrqSet, h]

@[simp] theorem keeps_doIrqSetEvent {wh : What} {s0 : State} {e : Fin 4} {t : Fin 16} {s : State} (h : Keeps wh s0 s) :
    Keeps wh s0 (doIrqSetEvent e t s) := by
  simp (maxDischargeDepth := 60) [doIrqSetEvent, h]

@[simp] theorem keeps_doIrqTrackerRequest {wh : What} {s0 : State} {e : Fin 4} {t : Fin 16} {s : State} (h : Keeps wh s0 s) :
    Keeps wh s0 (doIrqTrackerRequest e t s) := by
  simp (maxDischargeDepth := 60) [doIrqTrackerRequest, h]

@[simp] theorem keeps_doIrqClear {wh : What} {s0 : State} {e : Fin 4} {t : Fin 16} {s : State} (h : Keeps wh s0 s) :
    Keeps wh s0 (doIrqClear e t s) := by
  simp (maxDischargeDepth := 60) [doIrqClear, h]

@[simp] theorem keeps_doWaitProceed {wh : What} {s0 : State} {e : Fin 4} {t : Fin 16} {s : State} (h : Keeps wh s0 s) :
    Keeps wh s0 (doWaitProceed e t s) := by
  simp (maxDischargeDepth := 60) [doWaitProceed, h]

@[simp] theorem keeps_doPushResume {wh : What} {s0 : State} {e : Fin 4} {t : Fin 16} {s : State} (h : Keeps wh s0 s) :
    Keeps wh s0 (doPushResume e t s) := by
  simp (maxDischargeDepth := 60) [doPushResume, h]

@[simp] theorem keeps_doPullResume {wh : What} {s0 : State} {e : Fin 4} {t : Fin 16} {s : State} (h : Keeps wh s0 s) :
    Keeps wh s0 (doPullResume e t s) := by
  simp (maxDischargeDepth := 60) [doPullResume, h]

@[simp] theorem keeps_refuseInjection {wh : What} {s0 : State} {e t reason : Nat} {s : State} (h : Keeps wh s0 s) :
    Keeps wh s0 (refuseInjection e t reason s) := by
  simp (maxDischargeDepth := 60) [refuseInjection, h]

@[simp] theorem keeps_requestInjection {wh : What} {s0 : State} {e : Nat} {v : Word} {s : State} (h : Keeps wh s0 s) :
    Keeps wh s0 (requestInjection e v s) := by
  simp (maxDischargeDepth := 60) [requestInjection, h]

@[simp] theorem keeps_doInjectionExecute {wh : What} {s0 : State} {e : Fin 4} {s : State} (h : Keeps wh s0 s) :
    Keeps wh s0 (doInjectionExecute e s) := by
  unfold doInjectionExecute
  simp only []
  (repeat' split) <;> simp (maxDischargeDepth := 60) [*]

@[simp] theorem keeps_startThread {wh : What} {s0 : State} {e t : Nat} {s : State} (h : Keeps wh s0 s) :
    Keeps wh s0 (startThread e t s) := by
  unfold startThread
  exact keeps_setThread' h fun _ => ⟨by simp, by simp⟩

@[simp] theorem keeps_startGroup {wh : What} {s0 : State} {e g : Nat} {s : State} (h : Keeps wh s0 s) :
    Keeps wh s0 (startGroup e g s) := by
  simp (maxDischargeDepth := 60) [startGroup, h]

@[simp] theorem keeps_threadsOff {wh : What} {s0 : State} {e g : Nat} {st : GrpState} {s : State} (h : Keeps wh s0 s) :
    Keeps wh s0 (threadsOff e g st s) := by
  simp (maxDischargeDepth := 60) [threadsOff, h]

@[simp] theorem keeps_groupsBoundary {wh : What} {s0 : State}  {s : State} (h : Keeps wh s0 s) :
    Keeps wh s0 (groupsBoundary s) := by
  simp (maxDischargeDepth := 60) [groupsBoundary, h]

@[simp] theorem keeps_enginesOff {wh : What} {s0 : State} {undriven : Bool} {s : State} (h : Keeps wh s0 s) :
    Keeps wh s0 (enginesOff undriven s) := by
  simp (maxDischargeDepth := 60) [enginesOff, h]

@[simp] theorem keeps_startEngines {wh : What} {s0 : State}  {s : State} (h : Keeps wh s0 s) :
    Keeps wh s0 (startEngines s) := by
  simp (maxDischargeDepth := 60) [startEngines, h]

@[simp] theorem keeps_restartGroup {wh : What} {s0 : State} {e g f : Nat} {s : State} (h : Keeps wh s0 s) :
    Keeps wh s0 (restartGroup e g f s).2 := by
  simp (maxDischargeDepth := 60) [restartGroup, h]

@[simp] theorem keeps_watchStalls {wh : What} {s0 : State}  {s : State} (h : Keeps wh s0 s) :
    Keeps wh s0 (watchStalls s) := by
  simp (maxDischargeDepth := 60) [watchStalls, h]

@[simp] theorem keeps_stallResponse {wh : What} {s0 : State} {e : Nat} {s : State} (h : Keeps wh s0 s) :
    Keeps wh s0 (stallResponse e s) := by
  unfold stallResponse
  (repeat' split) <;> simp (maxDischargeDepth := 60) [*]

@[simp] theorem keeps_doStall {wh : What} {s0 : State} {e : Fin 4} {s : State} (h : Keeps wh s0 s) :
    Keeps wh s0 (doStall e s) := by
  unfold doStall
  simp only []
  (repeat' split) <;> simp (maxDischargeDepth := 60) [*]

@[simp] theorem keeps_doTrgInputChange {wh : What} {s0 : State} {pin : Fin 20} {level : Bool} {s : State} (h : Keeps wh s0 s) :
    Keeps wh s0 (doTrgInputChange pin level s) := by
  simp (maxDischargeDepth := 60) [doTrgInputChange, h]

@[simp] theorem keeps_writeTxf {wh : What} {s0 : State} {e t : Nat} {v : Word} {s : State} (h : Keeps wh s0 s) :
    Keeps wh s0 (writeTxf e t v s).2 := by
  unfold writeTxf
  split
  · rename_i hl
    show Keeps wh s0 (modThread e t _ s)
    unfold modThread modEngine
    refine keeps_onTge' h fun b => ?_
    have hb := getThread_bounded (e := e) (t := t) b
    by_cases he : e < s.tge.engines.length
    · refine forall_mem_modify_at (p := Engine.bounded) b fun hi => ?_
      have hx : s.tge.engines[e] = getEngine s e := by unfold getEngine; simp [List.getD_eq_getElem?_getD, he]
      rw [hx]
      have hE : (getEngine s e).bounded := hx ▸ b _ (List.getElem_mem hi)
      refine forall_mem_modify_at (p := Thread.bounded) hE fun ht => ?_
      have hy : (getEngine s e).threads[t] = getThread s e t := by unfold getThread; simp [List.getD_eq_getElem?_getD, ht]
      rw [hy]
      refine ⟨?_, hb.2⟩
      simp only [List.length_append, List.length_cons, List.length_nil]; omega
    · exact forall_mem_modify_at (p := Engine.bounded) b fun hi => absurd hi he
  · simp [h]

@[simp] theorem keeps_writeLine {wh : What} {s0 : State} {pin a : Nat} {v : Word} {s : State} (h : Keeps wh s0 s) :
    Keeps wh s0 (writeLine pin a v s).2 := by
  simp (maxDischargeDepth := 60) [writeLine, h]

@[simp] theorem keeps_writeEngine {wh : What} {s0 : State} {e o a : Nat} {v : Word} {s : State} (h : Keeps wh s0 s) :
    Keeps wh s0 (writeEngine e o a v s).2 := by
  simp (maxDischargeDepth := 60) [writeEngine, h]

@[simp] theorem keeps_writeTge {wh : What} {s0 : State} {a : Nat} {v : Word} {s : State} (h : Keeps wh s0 s) :
    Keeps wh s0 (writeTge a v s).2 := by
  unfold writeTge
  generalize a % 0x10000 = o
  simp only []
  (repeat' split) <;> simp (maxDischargeDepth := 60) [h]

@[simp] theorem keeps_writeCode {wh : What} {s0 : State} {a : Nat} {v : Word} {s : State} (h : Keeps wh s0 s) :
    Keeps wh s0 (writeCode a v s).2 := by
  simp (maxDischargeDepth := 60) [writeCode, h]

@[simp] theorem keeps_popRxf {wh : What} {s0 : State} {e t : Nat} {s : State} (h : Keeps wh s0 s) :
    Keeps wh s0 (popRxf e t s) := by
  unfold popRxf
  refine keeps_modThread' h fun x b => ⟨b.1, ?_⟩
  have := b.2
  simp only [List.length_drop]; omega

@[simp] theorem keeps_recordAdmission {wh : What} {s0 : State}  {s : State} (h : Keeps wh s0 s) :
    Keeps wh s0 (recordAdmission s) := by
  simp (maxDischargeDepth := 60) [recordAdmission, h]

@[simp] theorem keeps_admissionReject {wh : What} {s0 : State} {b : Nat × Nat} {s : State} (h : Keeps wh s0 s) :
    Keeps wh s0 (admissionReject b s) := by
  simp (maxDischargeDepth := 60) [admissionReject, h]

@[simp] theorem keeps_askNextHop {wh : What} {s0 : State} {sid : Nat} {s : State} (h : Keeps wh s0 s) :
    Keeps wh s0 (askNextHop sid s) := by
  simp (maxDischargeDepth := 60) [askNextHop, h]

@[simp] theorem keeps_armStream {wh : What} {s0 : State} {sid : Nat} {start : Option Nat} {s : State} (h : Keeps wh s0 s) :
    Keeps wh s0 (armStream sid start s) := by
  simp (maxDischargeDepth := 60) [armStream, h]

@[simp] theorem keeps_runStream {wh : What} {s0 : State} {sid : Nat} {s : State} (h : Keeps wh s0 s) :
    Keeps wh s0 (runStream sid s) := by
  unfold runStream
  simp only []
  (repeat' split) <;> simp (maxDischargeDepth := 60) [*]

@[simp] theorem keeps_stopStream {wh : What} {s0 : State} {sid : Nat} {s : State} (h : Keeps wh s0 s) :
    Keeps wh s0 (stopStream sid s) := by
  unfold stopStream
  (repeat' split) <;> simp (maxDischargeDepth := 60) [*]

@[simp] theorem keeps_drainStreams {wh : What} {s0 : State}  {s : State} (h : Keeps wh s0 s) :
    Keeps wh s0 (drainStreams s) := by
  simp (maxDischargeDepth := 60) [drainStreams, h]

@[simp] theorem keeps_finishStreams {wh : What} {s0 : State} {reason : Nat} {s : State} (h : Keeps wh s0 s) :
    Keeps wh s0 (finishStreams reason s) := by
  simp (maxDischargeDepth := 60) [finishStreams, h]

@[simp] theorem keeps_noteDiscarded {wh : What} {s0 : State}  {s : State} (h : Keeps wh s0 s) :
    Keeps wh s0 (noteDiscarded s) := by
  unfold noteDiscarded
  refine keeps_forEach h fun p t => ?_
  split
  · exact keeps_onFlt keeps_refl rfl rfl
  · exact keeps_refl

@[simp] theorem keeps_discardQueues {wh : What} {s0 : State}  {s : State} (h : Keeps wh s0 s) :
    Keeps wh s0 (discardQueues s) := by
  simp (maxDischargeDepth := 60) [discardQueues, h]

@[simp] theorem keeps_discardStreams {wh : What} {s0 : State}  {s : State} (h : Keeps wh s0 s) :
    Keeps wh s0 (discardStreams s) := by
  simp (maxDischargeDepth := 60) [discardStreams, h]

@[simp] theorem keeps_discardRings {wh : What} {s0 : State}  {s : State} (h : Keeps wh s0 s) :
    Keeps wh s0 (discardRings s) := by
  simp (maxDischargeDepth := 60) [discardRings, h]

@[simp] theorem keeps_discardRaw {wh : What} {s0 : State}  {s : State} (h : Keeps wh s0 s) :
    Keeps wh s0 (discardRaw s) := by
  simp (maxDischargeDepth := 60) [discardRaw, h]

@[simp] theorem keeps_advanceEpoch {wh : What} {s0 : State}  {s : State} (h : Keeps wh s0 s) :
    Keeps wh s0 (advanceEpoch s) := by
  simp (maxDischargeDepth := 60) [advanceEpoch, h]

@[simp] theorem keeps_epochStored {wh : What} {s0 : State}  {s : State} (h : Keeps wh s0 s) :
    Keeps wh s0 (epochStored s) := by
  simp (maxDischargeDepth := 60) [epochStored, h]

@[simp] theorem keeps_retain {wh : What} {s0 : State} {sid : Nat} {c : StrCfg} {p : Packet} {s : State} (h : Keeps wh s0 s) :
    Keeps wh s0 (retain sid c p s) := by
  simp (maxDischargeDepth := 60) [retain, h]

@[simp] theorem keeps_sendPacket {wh : What} {s0 : State} {port sid : Nat} {p : Packet} {again : Bool} {s : State} (h : Keeps wh s0 s) :
    Keeps wh s0 (sendPacket port sid p again s) := by
  simp (maxDischargeDepth := 60) [sendPacket, h]

@[simp] theorem keeps_doLinkTransmit {wh : What} {s0 : State} {port : Fin 5} {s : State} (h : Keeps wh s0 s) :
    Keeps wh s0 (doLinkTransmit port s) := by
  unfold doLinkTransmit
  (repeat' split) <;> simp (maxDischargeDepth := 60) [*]

@[simp] theorem keeps_doCrSlotDue {wh : What} {s0 : State} {sid : Nat} {s : State} (h : Keeps wh s0 s) :
    Keeps wh s0 (doCrSlotDue sid s) := by
  unfold doCrSlotDue
  simp only []
  (repeat' split) <;> simp (maxDischargeDepth := 60) [*]

@[simp] theorem keeps_watchPorts {wh : What} {s0 : State}  {s : State} (h : Keeps wh s0 s) :
    Keeps wh s0 (watchPorts s) := by
  simp (maxDischargeDepth := 60) [watchPorts, h]

@[simp] theorem keeps_doLinkSchedulerStuck {wh : What} {s0 : State} {port : Fin 5} {s : State} (h : Keeps wh s0 s) :
    Keeps wh s0 (doLinkSchedulerStuck port s) := by
  unfold doLinkSchedulerStuck
  (repeat' split) <;> simp (maxDischargeDepth := 60) [*]

@[simp] theorem keeps_retransmit {wh : What} {s0 : State} {sid first count : Nat} {s : State} (h : Keeps wh s0 s) :
    Keeps wh s0 (retransmit sid first count s) := by
  simp (maxDischargeDepth := 60) [retransmit, h]

@[simp] theorem keeps_doPortUp {wh : What} {s0 : State} {port : Fin 5} {s : State} (h : Keeps wh s0 s) :
    Keeps wh s0 (doPortUp port s) := by
  simp (maxDischargeDepth := 60) [doPortUp, h]

@[simp] theorem keeps_doPortDown {wh : What} {s0 : State} {port : Fin 5} {s : State} (h : Keeps wh s0 s) :
    Keeps wh s0 (doPortDown port s) := by
  simp (maxDischargeDepth := 60) [doPortDown, h]

@[simp] theorem keeps_doQsfpModuleChange {wh : What} {s0 : State} {present mediaOk powerOk : Bool} {s : State} (h : Keeps wh s0 s) :
    Keeps wh s0 (doQsfpModuleChange present mediaOk powerOk s) := by
  simp (maxDischargeDepth := 60) [doQsfpModuleChange, h]

@[simp] theorem keeps_doEthFrameReceived {wh : What} {s0 : State} {port : Fin 5} {frame : EthFrame} {s : State} (h : Keeps wh s0 s) :
    Keeps wh s0 (doEthFrameReceived port frame s) := by
  unfold doEthFrameReceived
  (repeat' split) <;> simp (maxDischargeDepth := 60) [*]

@[simp] theorem keeps_doResolveRetry {wh : What} {s0 : State} {sid : Nat} {s : State} (h : Keeps wh s0 s) :
    Keeps wh s0 (doResolveRetry sid s) := by
  simp (maxDischargeDepth := 60) [doResolveRetry, h]

@[simp] theorem keeps_ptpOffset {wh : What} {s0 : State}  {s : State} (h : Keeps wh s0 s) :
    Keeps wh s0 (ptpOffset s) := by
  unfold ptpOffset
  simp only []
  (repeat' split) <;> simp (maxDischargeDepth := 60) [*]

@[simp] theorem keeps_doPtpMessageReceived {wh : What} {s0 : State} {port : Fin 5} {clock : Nat} {msg : PtpMsg} {s : State} (h : Keeps wh s0 s) :
    Keeps wh s0 (doPtpMessageReceived port clock msg s) := by
  unfold doPtpMessageReceived
  (repeat' split) <;> simp (maxDischargeDepth := 60) [*]

@[simp] theorem keeps_doPtpDelayReqTimer {wh : What} {s0 : State}  {s : State} (h : Keeps wh s0 s) :
    Keeps wh s0 (doPtpDelayReqTimer s) := by
  simp (maxDischargeDepth := 60) [doPtpDelayReqTimer, h]

@[simp] theorem keeps_clearLnkCounters {wh : What} {s0 : State}  {s : State} (h : Keeps wh s0 s) :
    Keeps wh s0 (clearLnkCounters s) := by
  simp (maxDischargeDepth := 60) [clearLnkCounters, h]

@[simp] theorem keeps_writeLnk {wh : What} {s0 : State} {a : Nat} {v : Word} {s : State} (h : Keeps wh s0 s) :
    Keeps wh s0 (writeLnk a v s).2 := by
  unfold writeLnk
  generalize a % 0x10000 = o
  simp only []
  (repeat' split) <;> simp (maxDischargeDepth := 60) [h]

@[simp] theorem keeps_raiseTenant {wh : What} {s0 : State} {t code : Nat} {fs : List DetailField} {s : State} (h : Keeps wh s0 s) :
    Keeps wh s0 (raiseTenant t code fs s) := by
  simp (maxDischargeDepth := 60) [raiseTenant, h]

@[simp] theorem keeps_suppress {wh : What} {s0 : State} {code : Nat} {s : State} (h : Keeps wh s0 s) :
    Keeps wh s0 (suppress code s) := by
  simp (maxDischargeDepth := 60) [suppress, h]

@[simp] theorem keeps_bookWindow {wh : What} {s0 : State} {p : TwPending} {s : State} (h : Keeps wh s0 s) :
    Keeps wh s0 (bookWindow p s) := by
  simp (maxDischargeDepth := 60) [bookWindow, h]

@[simp] theorem keeps_dropWindow {wh : What} {s0 : State} {t win : Nat} {s : State} (h : Keeps wh s0 s) :
    Keeps wh s0 (dropWindow t win s) := by
  simp (maxDischargeDepth := 60) [dropWindow, h]

@[simp] theorem keeps_recheckWindows {wh : What} {s0 : State} {t : Nat} {old new : CtxWords} {s : State} (h : Keeps wh s0 s) :
    Keeps wh s0 (recheckWindows t old new s) := by
  unfold recheckWindows
  simp only []
  (repeat' first | with_reducible refine keeps_forEach ?_ fun _ _ => ?_ | split) <;> simp (maxDischargeDepth := 60) [*]

@[simp] theorem keeps_removeWindows {wh : What} {s0 : State} {t : Nat} {s : State} (h : Keeps wh s0 s) (nm : wh.mem = false := by assumption) :
    Keeps wh s0 (removeWindows t s) := by
  simp (maxDischargeDepth := 60) [removeWindows, h, nm]

@[simp] theorem keeps_removeTenantWindows {wh : What} {s0 : State}  {s : State} (h : Keeps wh s0 s) (nm : wh.mem = false := by assumption) :
    Keeps wh s0 (removeTenantWindows s) := by
  simp (maxDischargeDepth := 60) [removeTenantWindows, h, nm]

@[simp] theorem keeps_armContext {wh : What} {s0 : State} {t : Nat} {s : State} (h : Keeps wh s0 s) :
    Keeps wh s0 (armContext t s) := by
  simp (maxDischargeDepth := 60) [armContext, h]

@[simp] theorem keeps_activateContext {wh : What} {s0 : State} {t : Nat} {s : State} (h : Keeps wh s0 s) :
    Keeps wh s0 (activateContext t s) := by
  simp (maxDischargeDepth := 60) [activateContext, h]

@[simp] theorem keeps_emptyContext {wh : What} {s0 : State} {t : Nat} {s : State} (h : Keeps wh s0 s) (nm : wh.mem = false := by assumption) :
    Keeps wh s0 (emptyContext t s) := by
  simp (maxDischargeDepth := 60) [emptyContext, h, nm]

@[simp] theorem keeps_suspendContext {wh : What} {s0 : State} {t : Nat} {s : State} (h : Keeps wh s0 s) :
    Keeps wh s0 (suspendContext t s) := by
  simp (maxDischargeDepth := 60) [suspendContext, h]

@[simp] theorem keeps_resumeContext {wh : What} {s0 : State} {t : Nat} {s : State} (h : Keeps wh s0 s) :
    Keeps wh s0 (resumeContext t s) := by
  simp (maxDischargeDepth := 60) [resumeContext, h]

@[simp] theorem keeps_narrowContext {wh : What} {s0 : State} {t : Nat} {old new : CtxWords} {s : State} (h : Keeps wh s0 s) :
    Keeps wh s0 (narrowContext t old new s) := by
  simp (maxDischargeDepth := 60) [narrowContext, h]

@[simp] theorem keeps_applyCommit {wh : What} {s0 : State} {t : Nat} {new : CtxWords} {s : State} (h : Keeps wh s0 s) (nm : wh.mem = false := by assumption) :
    Keeps wh s0 (applyCommit t new s) := by
  unfold applyCommit
  simp only []
  (repeat' split) <;> simp (maxDischargeDepth := 60) [*]

@[simp] theorem keeps_refuseCommit {wh : What} {s0 : State} {t reason : Nat} {s : State} (h : Keeps wh s0 s) :
    Keeps wh s0 (refuseCommit t reason s) := by
  simp (maxDischargeDepth := 60) [refuseCommit, h]

@[simp] theorem keeps_commitContext {wh : What} {s0 : State} {t : Nat} {s : State} (h : Keeps wh s0 s) (nm : wh.mem = false := by assumption) :
    Keeps wh s0 (commitContext t s).2 := by
  unfold commitContext
  simp only []
  (repeat' split) <;> simp (maxDischargeDepth := 60) [*]

@[simp] theorem keeps_commitTick {wh : What} {s0 : State}  {s : State} (h : Keeps wh s0 s) (nm : wh.mem = false := by assumption) :
    Keeps wh s0 (commitTick s) := by
  unfold commitTick
  (repeat' split) <;> simp (maxDischargeDepth := 60) [*]

@[simp] theorem keeps_applyKeys {wh : What} {s0 : State}  {s : State} (h : Keeps wh s0 s) :
    Keeps wh s0 (applyKeys s) := by
  simp (maxDischargeDepth := 60) [applyKeys, h]

@[simp] theorem keeps_tenantBoundary {wh : What} {s0 : State}  {s : State} (h : Keeps wh s0 s) (nm : wh.mem = false := by assumption) :
    Keeps wh s0 (tenantBoundary s) := by
  unfold tenantBoundary
  simp only []
  (repeat' first | with_reducible refine keeps_forEach ?_ fun _ _ => ?_ | split) <;> simp (maxDischargeDepth := 60) [*]

@[simp] theorem keeps_storeKeys {wh : What} {s0 : State}  {s : State} (h : Keeps wh s0 s) :
    Keeps wh s0 (storeKeys s) := by
  simp (maxDischargeDepth := 60) [storeKeys, h]

@[simp] theorem keeps_pumpKeyStore {wh : What} {s0 : State}  {s : State} (h : Keeps wh s0 s) :
    Keeps wh s0 (pumpKeyStore s) := by
  simp (maxDischargeDepth := 60) [pumpKeyStore, h]

@[simp] theorem keeps_failKeyStore {wh : What} {s0 : State} {cause : Nat} {s : State} (h : Keeps wh s0 s) :
    Keeps wh s0 (failKeyStore cause s) := by
  unfold failKeyStore
  (repeat' split) <;> simp (maxDischargeDepth := 60) [*]

@[simp] theorem keeps_keyCommandDone {wh : What} {s0 : State} {ok : Bool} {s : State} (h : Keeps wh s0 s) :
    Keeps wh s0 (keyCommandDone ok s) := by
  unfold keyCommandDone
  simp only []
  (repeat' split) <;> simp (maxDischargeDepth := 60) [*]

@[simp] theorem keeps_clearKeyData {wh : What} {s0 : State}  {s : State} (h : Keeps wh s0 s) :
    Keeps wh s0 (clearKeyData s) := by
  simp (maxDischargeDepth := 60) [clearKeyData, h]

@[simp] theorem keeps_installKey {wh : What} {s0 : State}  {s : State} (h : Keeps wh s0 s) :
    Keeps wh s0 (installKey s) := by
  simp (maxDischargeDepth := 60) [installKey, h]

@[simp] theorem keeps_eraseKey {wh : What} {s0 : State}  {s : State} (h : Keeps wh s0 s) :
    Keeps wh s0 (eraseKey s) := by
  simp (maxDischargeDepth := 60) [eraseKey, h]

@[simp] theorem keeps_loadKeys {wh : What} {s0 : State}  {s : State} (h : Keeps wh s0 s) :
    Keeps wh s0 (loadKeys s) := by
  unfold loadKeys
  (repeat' split) <;> simp (maxDischargeDepth := 60) [*]

@[simp] theorem keeps_denyTenant {wh : What} {s0 : State} {t op detail : Nat} {s : State} (h : Keeps wh s0 s) :
    Keeps wh s0 (denyTenant t op detail s).2 := by
  simp (maxDischargeDepth := 60) [denyTenant, h]

@[simp] theorem keeps_subscribeTenant {wh : What} {s0 : State} {t : Nat} {rawSub rawSet : Bool} {sets : List Nat} {s : State} (h : Keeps wh s0 s) :
    Keeps wh s0 (subscribeTenant t rawSub rawSet sets s).2 := by
  unfold subscribeTenant
  simp only []
  (repeat' split) <;> simp (maxDischargeDepth := 60) [*]

@[simp] theorem keeps_refuseWindow {wh : What} {s0 : State} {t reason : Nat} {s : State} (h : Keeps wh s0 s) :
    Keeps wh s0 (refuseWindow t reason s).2 := by
  simp (maxDischargeDepth := 60) [refuseWindow, h]

@[simp] theorem keeps_planAhead {wh : What} {s0 : State}  {s : State} (h : Keeps wh s0 s) (nm : wh.mem = false := by assumption) :
    Keeps wh s0 (planAhead s) := by
  unfold planAhead
  refine keeps_forEach h fun _ _ => ?_
  split
  · exact keeps_putWindow keeps_refl
  · exact keeps_clearWindow keeps_refl

@[simp] theorem keeps_setTenantWindow {wh : What} {s0 : State} {t twin set x0 x1 y0 y1 : Nat} {s : State} (h : Keeps wh s0 s) (nm : wh.mem = false := by assumption) :
    Keeps wh s0 (setTenantWindow t twin set x0 x1 y0 y1 s).2 := by
  unfold setTenantWindow
  simp only []
  (repeat' first | split) <;> simp_all (maxDischargeDepth := 60)

@[simp] theorem keeps_removeTenantWindow {wh : What} {s0 : State} {t twin set : Nat} {s : State} (h : Keeps wh s0 s) :
    Keeps wh s0 (removeTenantWindow t twin set s).2 := by
  unfold removeTenantWindow
  (repeat' split) <;> simp (maxDischargeDepth := 60) [*]

@[simp] theorem keeps_askRetransmit {wh : What} {s0 : State} {tenant : Option Nat} {sid count first : Nat} {s : State} (h : Keeps wh s0 s) :
    Keeps wh s0 (askRetransmit tenant sid count first s).2 := by
  unfold askRetransmit askRetransmit.done
  simp only []
  (repeat' split) <;> simp (maxDischargeDepth := 60) [h]

@[simp] theorem keeps_dropUnknown {wh : What} {s0 : State}  {s : State} (h : Keeps wh s0 s) :
    Keeps wh s0 (dropUnknown s) := by
  simp (maxDischargeDepth := 60) [dropUnknown, h]

@[simp] theorem keeps_dropUnauthentic {wh : What} {s0 : State} {t : Nat} {s : State} (h : Keeps wh s0 s) :
    Keeps wh s0 (dropUnauthentic t s) := by
  simp (maxDischargeDepth := 60) [dropUnauthentic, h]

@[simp] theorem keeps_dropRate {wh : What} {s0 : State} {t : Nat} {s : State} (h : Keeps wh s0 s) :
    Keeps wh s0 (dropRate t s) := by
  simp (maxDischargeDepth := 60) [dropRate, h]

@[simp] theorem keeps_doTenantReq {wh : What} {s0 : State} {t : Nat} {auth : Bool} {req : BitVec 64} {op : LcpOp} {s : State} (h : Keeps wh s0 s) :
    Keeps wh s0 (doTenantReq t auth req op s) := by
  simp (maxDischargeDepth := 60) [doTenantReq, h]

@[simp] theorem keeps_applyTenantTable {wh : What} {s0 : State} {l : List (Nat × CtxWords)} {s : State} (h : Keeps wh s0 s) :
    Keeps wh s0 (applyTenantTable l s) := by
  simp (maxDischargeDepth := 60) [applyTenantTable, h]

@[simp] theorem keeps_restoreTenants {wh : What} {s0 : State} {image committed : List (Nat × CtxWords)} {ok : Bool} {s : State} (h : Keeps wh s0 s) :
    Keeps wh s0 (restoreTenants image committed ok s) := by
  simp (maxDischargeDepth := 60) [restoreTenants, h]

@[simp] theorem keeps_abandonCommit {wh : What} {s0 : State}  {s : State} (h : Keeps wh s0 s) :
    Keeps wh s0 (abandonCommit s) := by
  simp (maxDischargeDepth := 60) [abandonCommit, h]

@[simp] theorem keeps_writeCtx {wh : What} {s0 : State} {a : Nat} {v : Word} {s : State} (h : Keeps wh s0 s) :
    Keeps wh s0 (writeCtx a v s).2 := by
  simp (maxDischargeDepth := 60) [writeCtx, h]

@[simp] theorem keeps_clearTenCounters {wh : What} {s0 : State}  {s : State} (h : Keeps wh s0 s) :
    Keeps wh s0 (clearTenCounters s) := by
  simp (maxDischargeDepth := 60) [clearTenCounters, h]

@[simp] theorem keeps_writeTen {wh : What} {s0 : State} {a : Nat} {v : Word} {s : State} (h : Keeps wh s0 s) (nm : wh.mem = false := by assumption) :
    Keeps wh s0 (writeTen a v s).2 := by
  unfold writeTen
  generalize a % 0x10000 = o
  simp only []
  (repeat' split) <;> simp (maxDischargeDepth := 60) [h, nm]

@[simp] theorem keeps_modPort {wh : What} {s0 : State} {p : Nat} {f : MosPort → MosPort} {s : State} (h : Keeps wh s0 s) :
    Keeps wh s0 (modPort p f s) := by
  simp (maxDischargeDepth := 60) [modPort, h]

@[simp] theorem keeps_sendCell {wh : What} {s0 : State} {t : CellType} {port : Nat} {delay : Nat} {body : List Nat} {s : State} (h : Keeps wh s0 s) :
    Keeps wh s0 (sendCell t port delay body s) := by
  simp (maxDischargeDepth := 60) [sendCell, h]

@[simp] theorem keeps_forwardCell {wh : What} {s0 : State} {t : CellType} {c : CellHead} {body : List Nat} {s : State} (h : Keeps wh s0 s) :
    Keeps wh s0 (forwardCell t c body s) := by
  simp (maxDischargeDepth := 60) [forwardCell, h]

@[simp] theorem keeps_countCrc {wh : What} {s0 : State} {port : Nat} {s : State} (h : Keeps wh s0 s) :
    Keeps wh s0 (countCrc port s) := by
  simp (maxDischargeDepth := 60) [countCrc, h]

@[simp] theorem keeps_receiveCell {wh : What} {s0 : State} {t : CellType} {c : CellHead} {body : List Nat} {use : State → State} {s : State} (h : Keeps wh s0 s) (hu : ∀ t, Keeps wh t (use t)) :
    Keeps wh s0 (receiveCell t c body use s) := by
  unfold receiveCell
  split
  · exact h
  · split
    · exact keeps_countCrc h
    · split
      · exact h
      · exact (keeps_forwardCell h).trans (hu _)

@[simp] theorem keeps_doDelayReq {wh : What} {s0 : State} {port : Fin 2} {crcOk : Bool} {t1 t2 t3 : Nat} {s : State} (h : Keeps wh s0 s) :
    Keeps wh s0 (doDelayReq port crcOk t1 t2 t3 s) := by
  simp (maxDischargeDepth := 60) [doDelayReq, h]

@[simp] theorem keeps_doDelayReqTimer {wh : What} {s0 : State}  {s : State} (h : Keeps wh s0 s) :
    Keeps wh s0 (doDelayReqTimer s) := by
  simp (maxDischargeDepth := 60) [doDelayReqTimer, h]

@[simp] theorem keeps_viewChanged {wh : What} {s0 : State}  {s : State} (h : Keeps wh s0 s) :
    Keeps wh s0 (viewChanged s) := by
  simp (maxDischargeDepth := 60) [viewChanged, h]

@[simp] theorem keeps_followAnew {wh : What} {s0 : State}  {s : State} (h : Keeps wh s0 s) :
    Keeps wh s0 (followAnew s) := by
  simp (maxDischargeDepth := 60) [followAnew, h]

@[simp] theorem keeps_enterMosaic {wh : What} {s0 : State} {st : MosState} {root : Option Nat} {s : State} (h : Keeps wh s0 s) :
    Keeps wh s0 (enterMosaic st root s) := by
  simp (maxDischargeDepth := 60) [enterMosaic, h]

@[simp] theorem keeps_becomeRoot {wh : What} {s0 : State}  {s : State} (h : Keeps wh s0 s) :
    Keeps wh s0 (becomeRoot s) := by
  simp (maxDischargeDepth := 60) [becomeRoot, h]

@[simp] theorem keeps_becomeMember {wh : What} {s0 : State} {root : Nat} {s : State} (h : Keeps wh s0 s) :
    Keeps wh s0 (becomeMember root s) := by
  simp (maxDischargeDepth := 60) [becomeMember, h]

@[simp] theorem keeps_enterPartition {wh : What} {s0 : State} {log : Bool} {s : State} (h : Keeps wh s0 s) :
    Keeps wh s0 (enterPartition log s) := by
  simp (maxDischargeDepth := 60) [enterPartition, h]

@[simp] theorem keeps_becomeRefused {wh : What} {s0 : State} {e : Nat × List DetailField} {s : State} (h : Keeps wh s0 s) :
    Keeps wh s0 (becomeRefused e s) := by
  simp (maxDischargeDepth := 60) [becomeRefused, h]

@[simp] theorem keeps_checkTopology {wh : What} {s0 : State}  {s : State} (h : Keeps wh s0 s) :
    Keeps wh s0 (checkTopology s) := by
  simp (maxDischargeDepth := 60) [checkTopology, h]

@[simp] theorem keeps_moveMosaic {wh : What} {s0 : State} {settled : Bool} {s : State} (h : Keeps wh s0 s) :
    Keeps wh s0 (moveMosaic settled s) := by
  unfold moveMosaic
  (repeat' split) <;> simp (maxDischargeDepth := 60) [*]

@[simp] theorem keeps_doViewSettled {wh : What} {s0 : State}  {s : State} (h : Keeps wh s0 s) :
    Keeps wh s0 (doViewSettled s) := by
  simp (maxDischargeDepth := 60) [doViewSettled, h]

@[simp] theorem keeps_pruneView {wh : What} {s0 : State}  {s : State} (h : Keeps wh s0 s) :
    Keeps wh s0 (pruneView s) := by
  simp (maxDischargeDepth := 60) [pruneView, h]

@[simp] theorem keeps_doViewHeadTimeout {wh : What} {s0 : State}  {s : State} (h : Keeps wh s0 s) :
    Keeps wh s0 (doViewHeadTimeout s) := by
  simp (maxDischargeDepth := 60) [doViewHeadTimeout, h]

@[simp] theorem keeps_noteRing {wh : What} {s0 : State} {on : Bool} {s : State} (h : Keeps wh s0 s) :
    Keeps wh s0 (noteRing on s) := by
  simp (maxDischargeDepth := 60) [noteRing, h]

@[simp] theorem keeps_takeHello {wh : What} {s0 : State} {c : CellHead} {serial : BitVec 64} {flags state rootId rootHops bseq : Nat} {s : State} (h : Keeps wh s0 s) :
    Keeps wh s0 (takeHello c serial flags state rootId rootHops bseq s) := by
  simp (maxDischargeDepth := 60) [takeHello, h]

@[simp] theorem keeps_doHello {wh : What} {s0 : State} {c : CellHead} {serial : BitVec 64} {flags state rootId rootHops bseq : Nat} {s : State} (h : Keeps wh s0 s) :
    Keeps wh s0 (doHello c serial flags state rootId rootHops bseq s) := by
  simp (maxDischargeDepth := 60) [doHello, h]

@[simp] theorem keeps_doHelloTimer {wh : What} {s0 : State}  {s : State} (h : Keeps wh s0 s) :
    Keeps wh s0 (doHelloTimer s) := by
  simp (maxDischargeDepth := 60) [doHelloTimer, h]

@[simp] theorem keeps_setPrimary {wh : What} {s0 : State} {p : Nat} {s : State} (h : Keeps wh s0 s) :
    Keeps wh s0 (setPrimary p s) := by
  simp (maxDischargeDepth := 60) [setPrimary, h]

@[simp] theorem keeps_portGone {wh : What} {s0 : State} {p : Nat} {s : State} (h : Keeps wh s0 s) :
    Keeps wh s0 (portGone p s) := by
  simp (maxDischargeDepth := 60) [portGone, h]

@[simp] theorem keeps_doMosaicPortLinkChange {wh : What} {s0 : State} {port : Fin 2} {up : Bool} {s : State} (h : Keeps wh s0 s) :
    Keeps wh s0 (doMosaicPortLinkChange port up s) := by
  simp (maxDischargeDepth := 60) [doMosaicPortLinkChange, h]

@[simp] theorem keeps_doDelayResp {wh : What} {s0 : State} {port : Fin 2} {crcOk : Bool} {t1 t2 t3 t4 : Nat} {s : State} (h : Keeps wh s0 s) :
    Keeps wh s0 (doDelayResp port crcOk t1 t2 t3 t4 s) := by
  simp (maxDischargeDepth := 60) [doDelayResp, h]

@[simp] theorem keeps_sendRaster {wh : What} {s0 : State}  {s : State} (h : Keeps wh s0 s) :
    Keeps wh s0 (sendRaster s) := by
  simp (maxDischargeDepth := 60) [sendRaster, h]

@[simp] theorem keeps_rasterOut {wh : What} {s0 : State}  {s : State} (h : Keeps wh s0 s) :
    Keeps wh s0 (rasterOut s) := by
  unfold rasterOut
  (repeat' split) <;> simp (maxDischargeDepth := 60) [*]

@[simp] theorem keeps_doTimeCellTimer {wh : What} {s0 : State}  {s : State} (h : Keeps wh s0 s) :
    Keeps wh s0 (doTimeCellTimer s) := by
  simp (maxDischargeDepth := 60) [doTimeCellTimer, h]

@[simp] theorem keeps_takeOffset {wh : What} {s0 : State} {ofs : Int} {s : State} (h : Keeps wh s0 s) :
    Keeps wh s0 (takeOffset ofs s) := by
  simp (maxDischargeDepth := 60) [takeOffset, h]

@[simp] theorem keeps_mosaicEvent {wh : What} {s0 : State} {r : RasterCell} {s : State} (h : Keeps wh s0 s) :
    Keeps wh s0 (mosaicEvent r s) := by
  simp (maxDischargeDepth := 60) [mosaicEvent, h]

@[simp] theorem keeps_comparePaths {wh : What} {s0 : State} {a b : RasterCell} {s : State} (h : Keeps wh s0 s) :
    Keeps wh s0 (comparePaths a b s) := by
  simp (maxDischargeDepth := 60) [comparePaths, h]

@[simp] theorem keeps_takeRaster {wh : What} {s0 : State} {c : CellHead} {r : RasterCell} {s : State} (h : Keeps wh s0 s) :
    Keeps wh s0 (takeRaster c r s) := by
  unfold takeRaster
  simp only []
  (repeat' split) <;> simp (maxDischargeDepth := 60) [*]

@[simp] theorem keeps_doRasterCell {wh : What} {s0 : State} {c : CellHead} {f l flags lastTl src : Nat} {err ofs : Int} {s : State} (h : Keeps wh s0 s) :
    Keeps wh s0 (doRasterCell c f l flags lastTl src err ofs s) := by
  simp (maxDischargeDepth := 60) [doRasterCell, h]

@[simp] theorem keeps_mosaicMissing {wh : What} {s0 : State}  {s : State} (h : Keeps wh s0 s) :
    Keeps wh s0 (mosaicMissing s) := by
  unfold mosaicMissing
  (repeat' split) <;> simp (maxDischargeDepth := 60) [*]

@[simp] theorem keeps_doTime {wh : What} {s0 : State} {c : CellHead} {sec ns todState : Nat} {s : State} (h : Keeps wh s0 s) :
    Keeps wh s0 (doTime c sec ns todState s) := by
  simp (maxDischargeDepth := 60) [doTime, h]

@[simp] theorem keeps_skipFrames {wh : What} {s0 : State} {f : Nat} {s : State} (h : Keeps wh s0 s) :
    Keeps wh s0 (skipFrames f s) := by
  simp (maxDischargeDepth := 60) [skipFrames, h]

@[simp] theorem keeps_reconWaits {wh : What} {s0 : State}  {s : State} (h : Keeps wh s0 s) :
    Keeps wh s0 (reconWaits s) := by
  simp (maxDischargeDepth := 60) [reconWaits, h]

@[simp] theorem keeps_reconDone {wh : What} {s0 : State} {f : Nat} {s : State} (h : Keeps wh s0 s) :
    Keeps wh s0 (reconDone f s) := by
  simp (maxDischargeDepth := 60) [reconDone, h]

@[simp] theorem keeps_compareDigests {wh : What} {s0 : State}  {s : State} (h : Keeps wh s0 s) :
    Keeps wh s0 (compareDigests s) := by
  simp (maxDischargeDepth := 60) [compareDigests, h]

@[simp] theorem keeps_haltBoundary {wh : What} {s0 : State} {caughtUp : Bool} {s : State} (h : Keeps wh s0 s) :
    Keeps wh s0 (haltBoundary caughtUp s) := by
  simp (maxDischargeDepth := 60) [haltBoundary, h]

@[simp] theorem keeps_holdBoundary {wh : What} {s0 : State}  {s : State} (h : Keeps wh s0 s) :
    Keeps wh s0 (holdBoundary s) := by
  unfold holdBoundary
  (repeat' split) <;> simp (maxDischargeDepth := 60) [*]

@[simp] theorem keeps_startMosaic {wh : What} {s0 : State} {rec : Option (Nat × Nat × BitVec 64)} {s : State} (h : Keeps wh s0 s) :
    Keeps wh s0 (startMosaic rec s) := by
  unfold startMosaic
  (repeat' split) <;> simp (maxDischargeDepth := 60) [*]

@[simp] theorem keeps_stopMosaic {wh : What} {s0 : State}  {s : State} (h : Keeps wh s0 s) :
    Keeps wh s0 (stopMosaic s) := by
  simp (maxDischargeDepth := 60) [stopMosaic, h]

@[simp] theorem keeps_clearMosCounters {wh : What} {s0 : State}  {s : State} (h : Keeps wh s0 s) :
    Keeps wh s0 (clearMosCounters s) := by
  simp (maxDischargeDepth := 60) [clearMosCounters, h]

@[simp] theorem keeps_answerSession {wh : What} {s0 : State} {n : Nat} {req : BitVec 64} {a : Answer} {s : State} (h : Keeps wh s0 s) :
    Keeps wh s0 (answerSession n req a s) := by
  simp (maxDischargeDepth := 60) [answerSession, h]

@[simp] theorem keeps_answerLate {wh : What} {s0 : State} {n : Nat} {req : BitVec 64} {a : Answer} {s : State} (h : Keeps wh s0 s) :
    Keeps wh s0 (answerLate n req a s) := by
  unfold answerLate
  refine keeps_answerSession (keeps_modSession h fun x => ?_)
  split <;> rfl

@[simp] theorem keeps_deferAnswer {wh : What} {s0 : State} {n : Nat} {s : State} (h : Keeps wh s0 s) :
    Keeps wh s0 (deferAnswer n s) := by
  simp (maxDischargeDepth := 60) [deferAnswer, h]

@[simp] theorem keeps_answerTenant {wh : What} {s0 : State} {t : Nat} {req : BitVec 64} {a : Answer} {s : State} (h : Keeps wh s0 s) :
    Keeps wh s0 (answerTenant t req a s) := by
  simp (maxDischargeDepth := 60) [answerTenant, h]

@[simp] theorem keeps_failUnit {wh : What} {s0 : State} {u : Nat} {s : State} (h : Keeps wh s0 s) :
    Keeps wh s0 (failUnit u s) := by
  simp (maxDischargeDepth := 60) [failUnit, h]

@[simp] theorem keeps_senseFuses {wh : What} {s0 : State}  {s : State} (h : Keeps wh s0 s) (nw : wh.wires = false := by assumption) :
    Keeps wh s0 (senseFuses s) := by
  unfold senseFuses
  extract_lets s1 s2 s3
  refine keeps_forEach ?_ fun _ _ => keeps_raise (keeps_addF keeps_refl)
  have h2 : Keeps wh s0 s2 := keeps_forEach (keeps_onFus h rfl) fun _ _ => keeps_failUnit keeps_refl
  exact h2.trans ⟨rfl, fun e => absurd e (by simp [nw]), fun _ => rfl, fun _ => rfl, fun _ _ h => h, fun _ => rfl, fun i => ⟨i.mem, i.flt, i.lcp, i.tge⟩⟩

@[simp] theorem keeps_loadBias {wh : What} {s0 : State}  {s : State} (h : Keeps wh s0 s) :
    Keeps wh s0 (loadBias s) := by
  simp (maxDischargeDepth := 60) [loadBias, h]

@[simp] theorem keeps_bootChecks {wh : What} {s0 : State}  {s : State} (h : Keeps wh s0 s) :
    Keeps wh s0 (bootChecks s) := by
  simp (maxDischargeDepth := 60) [bootChecks, h]

@[simp] theorem keeps_fuseReply {wh : What} {s0 : State} {asker : Option (Nat × BitVec 64)} {a : Answer} {s : State} (h : Keeps wh s0 s) :
    Keeps wh s0 (fuseReply asker a s) := by
  unfold fuseReply
  (repeat' split) <;> simp (maxDischargeDepth := 60) [*]

@[simp] theorem keeps_refuseFuse {wh : What} {s0 : State} {init : FuseInit} {w result detail : Nat} {asker : Option (Nat × BitVec 64)} {s : State} (h : Keeps wh s0 s) :
    Keeps wh s0 (refuseFuse init w result detail asker s) := by
  simp (maxDischargeDepth := 60) [refuseFuse, h]

@[simp] theorem keeps_endFuse {wh : What} {s0 : State} {result detail : Nat} {s : State} (h : Keeps wh s0 s) :
    Keeps wh s0 (endFuse result detail s) := by
  unfold endFuse
  (repeat' split) <;> simp (maxDischargeDepth := 60) [*]

@[simp] theorem keeps_fuseNext {wh : What} {s0 : State}  {s : State} (h : Keeps wh s0 s) :
    Keeps wh s0 (fuseNext s) := by
  unfold fuseNext
  (repeat' split) <;> simp (maxDischargeDepth := 60) [*]

@[simp] theorem keeps_pumpFuse {wh : What} {s0 : State}  {s : State} (h : Keeps wh s0 s) :
    Keeps wh s0 (pumpFuse s) := by
  unfold pumpFuse
  (repeat' split) <;> simp (maxDischargeDepth := 60) [*]

@[simp] theorem keeps_fuseStarts {wh : What} {s0 : State}  {s : State} (h : Keeps wh s0 s) :
    Keeps wh s0 (fuseStarts s) := by
  unfold fuseStarts
  (repeat' split) <;> simp (maxDischargeDepth := 60) [*]

@[simp] theorem keeps_fuseWaits {wh : What} {s0 : State}  {s : State} (h : Keeps wh s0 s) :
    Keeps wh s0 (fuseWaits s) := by
  unfold fuseWaits
  (repeat' split) <;> simp (maxDischargeDepth := 60) [*]

@[simp] theorem keeps_beginFuse {wh : What} {s0 : State} {c : FuseCmd} {s : State} (h : Keeps wh s0 s) :
    Keeps wh s0 (beginFuse c s) := by
  simp (maxDischargeDepth := 60) [beginFuse, h]

@[simp] theorem keeps_programFuse {wh : What} {s0 : State} {init : FuseInit} {w : Nat} {v : Word} {asker : Option (Nat × BitVec 64)} {s : State} (h : Keeps wh s0 s) :
    Keeps wh s0 (programFuse init w v asker s) := by
  simp (maxDischargeDepth := 60) [programFuse, h]

@[simp] theorem keeps_advanceFuse {wh : What} {s0 : State} {init : FuseInit} {asker : Option (Nat × BitVec 64)} {s : State} (h : Keeps wh s0 s) :
    Keeps wh s0 (advanceFuse init asker s) := by
  unfold advanceFuse
  (repeat' split) <;> simp (maxDischargeDepth := 60) [*]

@[simp] theorem keeps_unlockJtag {wh : What} {s0 : State} {init : FuseInit} {asker : Option (Nat × BitVec 64)} {s : State} (h : Keeps wh s0 s) :
    Keeps wh s0 (unlockJtag init asker s) := by
  simp (maxDischargeDepth := 60) [unlockJtag, h]

@[simp] theorem keeps_doFuseWordComplete {wh : What} {s0 : State} {readA readB : Word} {s : State} (h : Keeps wh s0 s) :
    Keeps wh s0 (doFuseWordComplete readA readB s) := by
  unfold doFuseWordComplete
  (repeat' split) <;> simp (maxDischargeDepth := 60) [*]

@[simp] theorem keeps_cutFuse {wh : What} {s0 : State}  {s : State} (h : Keeps wh s0 s) :
    Keeps wh s0 (cutFuse s) := by
  simp (maxDischargeDepth := 60) [cutFuse, h]

@[simp] theorem keeps_writeFus {wh : What} {s0 : State} {init : FuseInit} {a : Nat} {v : Word} {s : State} (h : Keeps wh s0 s) :
    Keeps wh s0 (writeFus init a v s).2 := by
  unfold writeFus
  generalize a % 0x10000 = o
  simp only []
  (repeat' split) <;> simp (maxDischargeDepth := 60) [h]

@[simp] theorem keeps_setDom {wh : What} {s0 : State} {d : Nat} {x : DomState} {s : State} (h : Keeps wh s0 s) :
    Keeps wh s0 (setDom d x s) := by
  simp (maxDischargeDepth := 60) [setDom, h]

@[simp] theorem keeps_settleDomains {wh : What} {s0 : State}  {s : State} (h : Keeps wh s0 s) :
    Keeps wh s0 (settleDomains s) := by
  unfold settleDomains
  split
  · exact h
  · refine keeps_forEach h fun _ _ => ?_
    split <;> simp

@[simp] theorem keeps_domainsOff {wh : What} {s0 : State}  {s : State} (h : Keeps wh s0 s) :
    Keeps wh s0 (domainsOff s) := by
  simp (maxDischargeDepth := 60) [domainsOff, h]

@[simp] theorem keeps_doDomainReady {wh : What} {s0 : State} {d : Fin 316} {s : State} (h : Keeps wh s0 s) :
    Keeps wh s0 (doDomainReady d s) := by
  simp (maxDischargeDepth := 60) [doDomainReady, h]

@[simp] theorem keeps_doDomainOvercurrent {wh : What} {s0 : State} {d : Fin 316} {s : State} (h : Keeps wh s0 s) :
    Keeps wh s0 (doDomainOvercurrent d s) := by
  simp (maxDischargeDepth := 60) [doDomainOvercurrent, h]

@[simp] theorem keeps_clearDomFaults {wh : What} {s0 : State} {w : Nat} {v : Word} {s : State} (h : Keeps wh s0 s) :
    Keeps wh s0 (clearDomFaults w v s) := by
  simp (maxDischargeDepth := 60) [clearDomFaults, h]

@[simp] theorem keeps_watchCrypto {wh : What} {s0 : State}  {s : State} (h : Keeps wh s0 s) :
    Keeps wh s0 (watchCrypto s) := by
  simp (maxDischargeDepth := 60) [watchCrypto, h]

@[simp] theorem keeps_judgeRail {wh : What} {s0 : State} {r mean : Nat} {s : State} (h : Keeps wh s0 s) :
    Keeps wh s0 (judgeRail r mean s) := by
  simp (maxDischargeDepth := 60) [judgeRail, h]

@[simp] theorem keeps_doMainsOutOfRange {wh : What} {s0 : State} {v f : BitVec 16} {s : State} (h : Keeps wh s0 s) :
    Keeps wh s0 (doMainsOutOfRange v f s) := by
  simp (maxDischargeDepth := 60) [doMainsOutOfRange, h]

@[simp] theorem keeps_writePwr {wh : What} {s0 : State} {a : Nat} {v : Word} {s : State} (h : Keeps wh s0 s) :
    Keeps wh s0 (writePwr a v s).2 := by
  unfold writePwr
  generalize a % 0x10000 = o
  simp only []
  (repeat' split) <;> simp (maxDischargeDepth := 60) [h]

@[simp] theorem keeps_acknowledge {wh : What} {s0 : State} {p : LogEntry → Bool} {named : Nat} {s : State} (h : Keeps wh s0 s) :
    Keeps wh s0 (acknowledge p named s) := by
  unfold acknowledge
  simp only []
  split
  · have h' : Keeps wh s0 (s.onFlt fun f => { f with ring := f.ring.map fun e => if e.unackCritical && p e then { e with acked := true } else e }) :=
      keeps_onFlt' h fun b => ⟨by simpa using b.1, b.2⟩
    split
    · exact keeps_raise (keeps_onFlt (keeps_raise h') rfl rfl)
    · exact keeps_raise h'
  · exact h

@[simp] theorem keeps_ackSeq {wh : What} {s0 : State} {v : Word} {s : State} (h : Keeps wh s0 s) :
    Keeps wh s0 (ackSeq v s) := by
  simp (maxDischargeDepth := 60) [ackSeq, h]

@[simp] theorem keeps_ackAll {wh : What} {s0 : State}  {s : State} (h : Keeps wh s0 s) :
    Keeps wh s0 (ackAll s) := by
  simp (maxDischargeDepth := 60) [ackAll, h]

@[simp] theorem keeps_doLongLogAppend {wh : What} {s0 : State}  {s : State} (h : Keeps wh s0 s) :
    Keeps wh s0 (doLongLogAppend s) := by
  simp (maxDischargeDepth := 60) [doLongLogAppend, h]

@[simp] theorem keeps_longLogStarts {wh : What} {s0 : State}  {s : State} (h : Keeps wh s0 s) :
    Keeps wh s0 (longLogStarts s) := by
  simp (maxDischargeDepth := 60) [longLogStarts, h]

@[simp] theorem keeps_dropLong {wh : What} {s0 : State} {cause n : Nat} {s : State} (h : Keeps wh s0 s) :
    Keeps wh s0 (dropLong cause n s) := by
  simp (maxDischargeDepth := 60) [dropLong, h]

@[simp] theorem keeps_longLogDone {wh : What} {s0 : State} {ok : Bool} {s : State} (h : Keeps wh s0 s) :
    Keeps wh s0 (longLogDone ok s) := by
  simp (maxDischargeDepth := 60) [longLogDone, h]

@[simp] theorem keeps_trimLong {wh : What} {s0 : State}  {s : State} (h : Keeps wh s0 s) :
    Keeps wh s0 (trimLong s) := by
  simp (maxDischargeDepth := 60) [trimLong, h]

@[simp] theorem keeps_mirrorRing {wh : What} {s0 : State}  {s : State} (h : Keeps wh s0 s) :
    Keeps wh s0 (mirrorRing s) := by
  unfold mirrorRing
  exact keeps_onFlt' h fun b => ⟨b.1, fun m hm => by simp only [Option.some.injEq] at hm; subst hm; exact b.1⟩

@[simp] theorem keeps_setFigures {wh : What} {s0 : State} {l : List Nat} {s : State} (h : Keeps wh s0 s) :
    Keeps wh s0 (setFigures l s) := by
  simp (maxDischargeDepth := 60) [setFigures, h]

@[simp] theorem keeps_restoreRing {wh : What} {s0 : State}  {s : State} (h : Keeps wh s0 s) :
    Keeps wh s0 (restoreRing s) := by
  unfold restoreRing
  simp only []
  split
  · rename_i ring next hm _
    refine keeps_raise (keeps_onFlt' (keeps_setFigures h) fun b => ⟨b.2 _ hm, b.2⟩)
  · exact keeps_raise (keeps_onFlt' (keeps_setFigures h) fun b => ⟨by simp, b.2⟩)

@[simp] theorem keeps_doHandlingWindowClose {wh : What} {s0 : State}  {s : State} (h : Keeps wh s0 s) :
    Keeps wh s0 (doHandlingWindowClose s) := by
  simp (maxDischargeDepth := 60) [doHandlingWindowClose, h]

@[simp] theorem keeps_closeLevel2 {wh : What} {s0 : State}  {s : State} (h : Keeps wh s0 s) :
    Keeps wh s0 (closeLevel2 s) := by
  simp (maxDischargeDepth := 60) [closeLevel2, h]

@[simp] theorem keeps_avTick {wh : What} {s0 : State}  {s : State} (h : Keeps wh s0 s) :
    Keeps wh s0 (avTick s) := by
  have hi : ∀ {t : State} {c : Flt → Prop} [DecidablePred c] {a b : Flt → Flt}, Keeps wh s0 t → (∀ f, (a f).ring = f.ring ∧ (a f).mirror = f.mirror) →
      (∀ f, (b f).ring = f.ring ∧ (b f).mirror = f.mirror) → Keeps wh s0 (t.onFlt fun f => if c f then a f else b f) := by
    intro t c _ a b ht ha hb
    refine keeps_onFlt ht ?_ ?_ <;> split <;> simp [ha, hb]
  unfold avTick
  simp only []
  (repeat' split) <;> (try refine keeps_onFlt ?_ rfl rfl) <;> first | (refine hi ?_ (fun _ => ⟨rfl, rfl⟩) (fun _ => ⟨rfl, rfl⟩); simp [h]) | simp (maxDischargeDepth := 60) [h]

@[simp] theorem keeps_avParked {wh : What} {s0 : State} {ms : Nat} {s : State} (h : Keeps wh s0 s) :
    Keeps wh s0 (avParked ms s) := by
  simp (maxDischargeDepth := 60) [avParked, h]

@[simp] theorem keeps_writeFlt {wh : What} {s0 : State} {steward : Bool} {a : Nat} {v : Word} {s : State} (h : Keeps wh s0 s) :
    Keeps wh s0 (writeFlt steward a v s).2 := by
  simp (maxDischargeDepth := 60) [writeFlt, h]

@[simp] theorem keeps_bootPeriod {wh : What} {s0 : State}  {s : State} (h : Keeps wh s0 s) :
    Keeps wh s0 (bootPeriod s) := by
  simp (maxDischargeDepth := 60) [bootPeriod, h]

@[simp] theorem keeps_expire {wh : What} {s0 : State} {cause : Nat} {s : State} (h : Keeps wh s0 s) :
    Keeps wh s0 (expire cause s) := by
  simp (maxDischargeDepth := 60) [expire, h]

@[simp] theorem keeps_acceptService {wh : What} {s0 : State}  {s : State} (h : Keeps wh s0 s) :
    Keeps wh s0 (acceptService s) := by
  simp (maxDischargeDepth := 60) [acceptService, h]

@[simp] theorem keeps_serviceWrite {wh : What} {s0 : State} {who : Initiator} {v : Word} {s : State} (h : Keeps wh s0 s) :
    Keeps wh s0 (serviceWrite who v s) := by
  unfold serviceWrite
  (repeat' split) <;> simp (maxDischargeDepth := 60) [*]

@[simp] theorem keeps_doWdgExpiry {wh : What} {s0 : State}  {s : State} (h : Keeps wh s0 s) :
    Keeps wh s0 (doWdgExpiry s) := by
  simp (maxDischargeDepth := 60) [doWdgExpiry, h]

@[simp] theorem keeps_startWatchdog {wh : What} {s0 : State}  {s : State} (h : Keeps wh s0 s) :
    Keeps wh s0 (startWatchdog s) := by
  simp (maxDischargeDepth := 60) [startWatchdog, h]

@[simp] theorem keeps_clockWindow {wh : What} {s0 : State} {count : Nat} {s : State} (h : Keeps wh s0 s) :
    Keeps wh s0 (clockWindow count s) := by
  simp (maxDischargeDepth := 60) [clockWindow, h]

@[simp] theorem keeps_noteExpiry {wh : What} {s0 : State} {l : List LadderEvent} {s : State} (h : Keeps wh s0 s) :
    Keeps wh s0 (noteExpiry l s) := by
  simp (maxDischargeDepth := 60) [noteExpiry, h]

@[simp] theorem keeps_recordCause {wh : What} {s0 : State} {level : Nat} {e : LadderEvent} {s : State} (h : Keeps wh s0 s) :
    Keeps wh s0 (recordCause level e s) := by
  simp (maxDischargeDepth := 60) [recordCause, h]

@[simp] theorem keeps_countL2 {wh : What} {s0 : State}  {s : State} (h : Keeps wh s0 s) :
    Keeps wh s0 (countL2 s) := by
  simp (maxDischargeDepth := 60) [countL2, h]

@[simp] theorem keeps_restoreRecord {wh : What} {s0 : State}  {s : State} (h : Keeps wh s0 s) :
    Keeps wh s0 (restoreRecord s) := by
  unfold restoreRecord
  (repeat' split) <;> simp (maxDischargeDepth := 60) [*]

@[simp] theorem keeps_writeSup {wh : What} {s0 : State} {who : Initiator} {a : Nat} {v : Word} {s : State} (h : Keeps wh s0 s) :
    Keeps wh s0 (writeSup who a v s).2 := by
  unfold writeSup
  (repeat' split) <;> simp (maxDischargeDepth := 60) [*]

@[simp] theorem keeps_loadMap {wh : What} {s0 : State} {p : List Byte} {s : State} (h : Keeps wh s0 s) (nm : wh.mem = false := by assumption) :
    Keeps wh s0 (loadMap p s) := by
  unfold loadMap
  exact keeps_writeBytes h

@[simp] theorem keeps_loadProgram {wh : What} {s0 : State} {p : List Byte} {s : State} (h : Keeps wh s0 s) (nm : wh.mem = false := by assumption) :
    Keeps wh s0 (loadProgram p s) := by
  unfold loadProgram
  exact keeps_writeBytes h

@[simp] theorem keeps_loadTrigger {wh : What} {s0 : State} {p : List Byte} {s : State} (h : Keeps wh s0 s) :
    Keeps wh s0 (loadTrigger p s) := by
  simp (maxDischargeDepth := 60) [loadTrigger, h]

@[simp] theorem keeps_recLoad {wh : What} {s0 : State} {t : RecType} {p : List Byte} {s : State} (h : Keeps wh s0 s) (nm : wh.mem = false := by assumption) :
    Keeps wh s0 (recLoad t p s) := by
  unfold recLoad
  (repeat' split) <;> simp (maxDischargeDepth := 60) [*]

@[simp] theorem keeps_stopFn {wh : What} {s0 : State} {fn : Nat} {s : State} (h : Keeps wh s0 s) :
    Keeps wh s0 (stopFn fn s) := by
  unfold stopFn
  (repeat' split) <;> simp (maxDischargeDepth := 60) [*]

@[simp] theorem keeps_loadItem {wh : What} {s0 : State} {t : RecType} {p : List Byte} {s : State} (h : Keeps wh s0 s) (nm : wh.mem = false := by assumption) :
    Keeps wh s0 (loadItem t p s) := by
  simp (maxDischargeDepth := 60) [loadItem, h, nm]

@[simp] theorem keeps_loadItems {wh : What} {s0 : State} {l : List ChgItem} {s : State} (h : Keeps wh s0 s) (nm : wh.mem = false := by assumption) :
    Keeps wh s0 (loadItems l s) := by
  unfold loadItems
  simp only []
  (repeat' first | with_reducible refine keeps_forEach ?_ fun _ _ => ?_ | split) <;> simp (maxDischargeDepth := 60) [*]

@[simp] theorem keeps_chgScratch {wh : What} {s0 : State} {l : List ChgItem} {s : State} (h : Keeps wh s0 s) (nm : wh.mem = false := by assumption) :
    Keeps wh s0 (chgScratch s l) := by
  simp (maxDischargeDepth := 60) [chgScratch, h, nm]

@[simp] theorem keeps_modChg {wh : What} {s0 : State} {f : Chg → Chg} {s : State} (h : Keeps wh s0 s) :
    Keeps wh s0 (modChg f s) := by
  simp (maxDischargeDepth := 60) [modChg, h]

@[simp] theorem keeps_closeChange {wh : What} {s0 : State}  {s : State} (h : Keeps wh s0 s) :
    Keeps wh s0 (closeChange s) := by
  simp (maxDischargeDepth := 60) [closeChange, h]

@[simp] theorem keeps_discardChange {wh : What} {s0 : State} {cause : Nat} {s : State} (h : Keeps wh s0 s) :
    Keeps wh s0 (discardChange cause s) := by
  simp (maxDischargeDepth := 60) [discardChange, h]

@[simp] theorem keeps_touchChange {wh : What} {s0 : State} {n : Nat} {s : State} (h : Keeps wh s0 s) :
    Keeps wh s0 (touchChange n s) := by
  simp (maxDischargeDepth := 60) [touchChange, h]

@[simp] theorem keeps_openChange {wh : What} {s0 : State} {owner session : Nat} {mosaic splitOk : Bool} {f : Nat} {fns : List Nat} {s : State} (h : Keeps wh s0 s) :
    Keeps wh s0 (openChange owner session mosaic splitOk f fns s) := by
  simp (maxDischargeDepth := 60) [openChange, h]

@[simp] theorem keeps_changeStop {wh : What} {s0 : State} {n : Nat} {splitOk : Bool} {f : Nat} {fns : List Nat} {s : State} (h : Keeps wh s0 s) :
    Keeps wh s0 (changeStop n splitOk f fns s).2 := by
  unfold changeStop
  (repeat' split) <;> simp (maxDischargeDepth := 60) [*]

@[simp] theorem keeps_rejectNonatomic {wh : What} {s0 : State} {cause : Nat} {s : State} (h : Keeps wh s0 s) :
    Keeps wh s0 (rejectNonatomic cause s).2 := by
  simp (maxDischargeDepth := 60) [rejectNonatomic, h]

@[simp] theorem keeps_noteStaged {wh : What} {s0 : State}  {s : State} (h : Keeps wh s0 s) :
    Keeps wh s0 (noteStaged s) := by
  simp (maxDischargeDepth := 60) [noteStaged, h]

@[simp] theorem keeps_changeStage {wh : What} {s0 : State} {n : Nat} {items : List ChgItem} {s : State} (h : Keeps wh s0 s) :
    Keeps wh s0 (changeStage n items s).2 := by
  unfold changeStage
  (repeat' split) <;> simp (maxDischargeDepth := 60) [*]

@[simp] theorem keeps_breakEvent {wh : What} {s0 : State} {x : CheckBreak} {s : State} (h : Keeps wh s0 s) :
    Keeps wh s0 (breakEvent x s) := by
  unfold breakEvent
  (repeat' split) <;> simp (maxDischargeDepth := 60) [*]

@[simp] theorem keeps_armChange {wh : What} {s0 : State} {discard acq : Bool} {f : Nat} {reply : Option (Nat × BitVec 64)} {s : State} (h : Keeps wh s0 s) :
    Keeps wh s0 (armChange discard acq f reply s) := by
  simp (maxDischargeDepth := 60) [armChange, h]

@[simp] theorem keeps_restartChange {wh : What} {s0 : State} {discard : Bool} {f : Nat} {reply : Option (Nat × BitVec 64)} {s : State} (h : Keeps wh s0 s) :
    Keeps wh s0 (restartChange discard f reply s).2 := by
  unfold restartChange
  simp only []
  (repeat' split) <;> simp (maxDischargeDepth := 60) [*]

@[simp] theorem keeps_changeRestart {wh : What} {s0 : State} {n : Nat} {discard : Bool} {f : Nat} {s : State} (h : Keeps wh s0 s) :
    Keeps wh s0 (changeRestart n discard f s).2 := by
  unfold changeRestart
  simp only []
  (repeat' split) <;> simp (maxDischargeDepth := 60) [*]

@[simp] theorem keeps_doChangeCopyComplete {wh : What} {s0 : State}  {s : State} (h : Keeps wh s0 s) :
    Keeps wh s0 (doChangeCopyComplete s) := by
  simp (maxDischargeDepth := 60) [doChangeCopyComplete, h]

@[simp] theorem keeps_changeRevoked {wh : What} {s0 : State}  {s : State} (h : Keeps wh s0 s) :
    Keeps wh s0 (changeRevoked s) := by
  simp (maxDischargeDepth := 60) [changeRevoked, h]

@[simp] theorem keeps_doChangeLeaseExpired {wh : What} {s0 : State}  {s : State} (h : Keeps wh s0 s) :
    Keeps wh s0 (doChangeLeaseExpired s) := by
  simp (maxDischargeDepth := 60) [doChangeLeaseExpired, h]

@[simp] theorem keeps_startStreams {wh : What} {s0 : State} {l : List Nat} {g : Nat} {s : State} (h : Keeps wh s0 s) :
    Keeps wh s0 (startStreams l g s) := by
  unfold startStreams
  (repeat' split) <;> simp (maxDischargeDepth := 60) [*]

@[simp] theorem keeps_settleChange {wh : What} {s0 : State}  {s : State} (h : Keeps wh s0 s) (nm : wh.mem = false := by assumption) :
    Keeps wh s0 (settleChange s) := by
  simp (maxDischargeDepth := 60) [settleChange, h, nm]

@[simp] theorem keeps_chgRaster {wh : What} {s0 : State} {f : Nat} {s : State} (h : Keeps wh s0 s) :
    Keeps wh s0 (chgRaster f s) := by
  unfold chgRaster
  split
  · refine keeps_forEach h fun _ _ => ?_
    simp only []
    split
    · exact keeps_refl
    · split
      · exact keeps_setRaw keeps_refl
      · exact keeps_staged (keeps_setRaw keeps_refl)
  · exact h

@[simp] theorem keeps_chgAcquire {wh : What} {s0 : State}  {s : State} (h : Keeps wh s0 s) :
    Keeps wh s0 (chgAcquire s) := by
  simp (maxDischargeDepth := 60) [chgAcquire, h]

@[simp] theorem keeps_applySteps {wh : What} {s0 : State}  {s : State} (h : Keeps wh s0 s) (nm : wh.mem = false := by assumption) :
    Keeps wh s0 (applySteps s) := by
  simp (maxDischargeDepth := 60) [applySteps, h, nm]

@[simp] theorem keeps_stepLanes {wh : What} {s0 : State}  {s : State} (h : Keeps wh s0 s) :
    Keeps wh s0 (stepLanes s) := by
  simp (maxDischargeDepth := 60) [stepLanes, h]

@[simp] theorem keeps_chgStops {wh : What} {s0 : State}  {s : State} (h : Keeps wh s0 s) :
    Keeps wh s0 (chgStops s) := by
  simp (maxDischargeDepth := 60) [chgStops, h]

@[simp] theorem keeps_chgStarts {wh : What} {s0 : State}  {s : State} (h : Keeps wh s0 s) :
    Keeps wh s0 (chgStarts s) := by
  simp (maxDischargeDepth := 60) [chgStarts, h]

@[simp] theorem keeps_chgBoundary {wh : What} {s0 : State}  {s : State} (h : Keeps wh s0 s) (nm : wh.mem = false := by assumption) :
    Keeps wh s0 (chgBoundary s) := by
  simp (maxDischargeDepth := 60) [chgBoundary, h, nm]

@[simp] theorem keeps_chgReply {wh : What} {s0 : State}  {s : State} (h : Keeps wh s0 s) :
    Keeps wh s0 (chgReply s) := by
  unfold chgReply
  (repeat' split) <;> simp (maxDischargeDepth := 60) [*]

@[simp] theorem keeps_answerCurrent {wh : What} {s0 : State} {n : Nat} {a : Answer} {s : State} (h : Keeps wh s0 s) :
    Keeps wh s0 (answerCurrent n a s) := by
  simp (maxDischargeDepth := 60) [answerCurrent, h]

@[simp] theorem keeps_doChangeStop {wh : What} {s0 : State} {n : Fin 4} {splitOk : Bool} {f : Nat} {fns : List Nat} {s : State} (h : Keeps wh s0 s) :
    Keeps wh s0 (doChangeStop n splitOk f fns s) := by
  simp (maxDischargeDepth := 60) [doChangeStop, h]

@[simp] theorem keeps_doChangeStage {wh : What} {s0 : State} {n : Fin 4} {items : List ChgItem} {s : State} (h : Keeps wh s0 s) :
    Keeps wh s0 (doChangeStage n items s) := by
  simp (maxDischargeDepth := 60) [doChangeStage, h]

@[simp] theorem keeps_doChangeRestart {wh : What} {s0 : State} {n : Fin 4} {discard : Bool} {f : Nat} {s : State} (h : Keeps wh s0 s) :
    Keeps wh s0 (doChangeRestart n discard f s) := by
  unfold doChangeRestart
  split
  · have := keeps_changeRestart (n := n) (discard := discard) (f := f) (keeps_touchChange (n := n) h)
    split <;> rename_i he <;> rw [he] at this
    · exact keeps_answerCurrent this
    · exact this
  · exact h

@[simp] theorem keeps_sendBarrier {wh : What} {s0 : State} {b : Barrier} {s : State} (h : Keeps wh s0 s) :
    Keeps wh s0 (sendBarrier b s) := by
  simp (maxDischargeDepth := 60) [sendBarrier, h]

@[simp] theorem keeps_issueBarrier {wh : What} {s0 : State} {cmd : Nat} {splitOk discard : Bool} {f : Nat} {fns : List Nat} {s : State} (h : Keeps wh s0 s) :
    Keeps wh s0 (issueBarrier cmd splitOk discard f fns s) := by
  simp (maxDischargeDepth := 60) [issueBarrier, h]

@[simp] theorem keeps_issueArm {wh : What} {s0 : State}  {s : State} (h : Keeps wh s0 s) :
    Keeps wh s0 (issueArm s) := by
  simp (maxDischargeDepth := 60) [issueArm, h]

@[simp] theorem keeps_issueStart {wh : What} {s0 : State}  {s : State} (h : Keeps wh s0 s) :
    Keeps wh s0 (issueStart s) := by
  simp (maxDischargeDepth := 60) [issueStart, h]

@[simp] theorem keeps_armReady {wh : What} {s0 : State}  {s : State} (h : Keeps wh s0 s) :
    Keeps wh s0 (armReady s) := by
  simp (maxDischargeDepth := 60) [armReady, h]

@[simp] theorem keeps_armDue {wh : What} {s0 : State}  {s : State} (h : Keeps wh s0 s) :
    Keeps wh s0 (armDue s) := by
  simp (maxDischargeDepth := 60) [armDue, h]

@[simp] theorem keeps_doArmTimeout {wh : What} {s0 : State}  {s : State} (h : Keeps wh s0 s) :
    Keeps wh s0 (doArmTimeout s) := by
  unfold doArmTimeout
  (repeat' split) <;> simp (maxDischargeDepth := 60) [*]

@[simp] theorem keeps_report {wh : What} {s0 : State} {bseq result reason : Nat} {s : State} (h : Keeps wh s0 s) :
    Keeps wh s0 (report bseq result reason s) := by
  simp (maxDischargeDepth := 60) [report, h]

@[simp] theorem keeps_reportReady {wh : What} {s0 : State}  {s : State} (h : Keeps wh s0 s) :
    Keeps wh s0 (reportReady s) := by
  unfold reportReady
  (repeat' split) <;> simp (maxDischargeDepth := 60) [*]

@[simp] theorem keeps_lateGap {wh : What} {s0 : State} {fns : List Nat} {f : Nat} {s : State} (h : Keeps wh s0 s) :
    Keeps wh s0 (lateGap fns f s) := by
  unfold lateGap
  refine keeps_forEach h fun _ _ => ?_
  split <;> simp

@[simp] theorem keeps_takeStop {wh : What} {s0 : State} {b : Barrier} {s : State} (h : Keeps wh s0 s) :
    Keeps wh s0 (takeStop b s).2 := by
  simp (maxDischargeDepth := 60) [takeStop, h]

@[simp] theorem keeps_startArmed {wh : What} {s0 : State} {f : Nat} {s : State} (h : Keeps wh s0 s) :
    Keeps wh s0 (startArmed f s) := by
  simp (maxDischargeDepth := 60) [startArmed, h]

@[simp] theorem keeps_takeStart {wh : What} {s0 : State} {b : Barrier} {s : State} (h : Keeps wh s0 s) :
    Keeps wh s0 (takeStart b s).2 := by
  unfold takeStart
  simp only []
  (repeat' split) <;> simp (maxDischargeDepth := 60) [*]

@[simp] theorem keeps_takeBarrier {wh : What} {s0 : State} {b : Barrier} {s : State} (h : Keeps wh s0 s) :
    Keeps wh s0 (takeBarrier b s) := by
  simp (maxDischargeDepth := 60) [takeBarrier, h]

@[simp] theorem keeps_noteMissed {wh : What} {s0 : State} {b : Barrier} {late : Nat} {s : State} (h : Keeps wh s0 s) :
    Keeps wh s0 (noteMissed b late s) := by
  simp (maxDischargeDepth := 60) [noteMissed, h]

@[simp] theorem keeps_takeBarriers {wh : What} {s0 : State} {boundary : Bool} {s : State} (h : Keeps wh s0 s) :
    Keeps wh s0 (takeBarriers boundary s) := by
  simp (maxDischargeDepth := 60) [takeBarriers, h]

@[simp] theorem keeps_passBarriers {wh : What} {s0 : State}  {s : State} (h : Keeps wh s0 s) :
    Keeps wh s0 (passBarriers s) := by
  simp (maxDischargeDepth := 60) [passBarriers, h]

@[simp] theorem keeps_sendState {wh : What} {s0 : State}  {s : State} (h : Keeps wh s0 s) :
    Keeps wh s0 (sendState s) := by
  simp (maxDischargeDepth := 60) [sendState, h]

@[simp] theorem keeps_resendBarriers {wh : What} {s0 : State}  {s : State} (h : Keeps wh s0 s) :
    Keeps wh s0 (resendBarriers s) := by
  simp (maxDischargeDepth := 60) [resendBarriers, h]

@[simp] theorem keeps_rootMinor {wh : What} {s0 : State}  {s : State} (h : Keeps wh s0 s) :
    Keeps wh s0 (rootMinor s) := by
  simp (maxDischargeDepth := 60) [rootMinor, h]

@[simp] theorem keeps_barrierBoundary {wh : What} {s0 : State}  {s : State} (h : Keeps wh s0 s) :
    Keeps wh s0 (barrierBoundary s) := by
  simp (maxDischargeDepth := 60) [barrierBoundary, h]

@[simp] theorem keeps_latchPart {wh : What} {s0 : State} {bseq cmd flags f part nPart : Nat} {fns : List Nat} {s : State} (h : Keeps wh s0 s) :
    Keeps wh s0 (latchPart bseq cmd flags f part nPart fns s) := by
  simp (maxDischargeDepth := 60) [latchPart, h]

@[simp] theorem keeps_followBarriers {wh : What} {s0 : State}  {s : State} (h : Keeps wh s0 s) :
    Keeps wh s0 (followBarriers s) := by
  unfold followBarriers
  (repeat' split) <;> simp (maxDischargeDepth := 60) [*]

@[simp] theorem keeps_doBarrier {wh : What} {s0 : State} {c : CellHead} {bseq cmd flags f part nPart : Nat} {fns : List Nat} {s : State} (h : Keeps wh s0 s) :
    Keeps wh s0 (doBarrier c bseq cmd flags f part nPart fns s) := by
  simp (maxDischargeDepth := 60) [doBarrier, h]

@[simp] theorem keeps_askReplay {wh : What} {s0 : State}  {s : State} (h : Keeps wh s0 s) :
    Keeps wh s0 (askReplay s) := by
  simp (maxDischargeDepth := 60) [askReplay, h]

@[simp] theorem keeps_doState {wh : What} {s0 : State} {c : CellHead} {f bseq minor heads : Nat} {digest : List Byte} {s : State} (h : Keeps wh s0 s) :
    Keeps wh s0 (doState c f bseq minor heads digest s) := by
  simp (maxDischargeDepth := 60) [doState, h]

@[simp] theorem keeps_doReport {wh : What} {s0 : State} {c : CellHead} {bseq result reason state flags : Nat} {ofs : Int} {s : State} (h : Keeps wh s0 s) :
    Keeps wh s0 (doReport c bseq result reason state flags ofs s) := by
  simp (maxDischargeDepth := 60) [doReport, h]

@[simp] theorem keeps_refuseRequest {wh : What} {s0 : State} {reason : Nat} {s : State} (h : Keeps wh s0 s) :
    Keeps wh s0 (refuseRequest reason s).2 := by
  simp (maxDischargeDepth := 60) [refuseRequest, h]

@[simp] theorem keeps_requestBarrier {wh : What} {s0 : State} {v : Word} {s : State} (h : Keeps wh s0 s) :
    Keeps wh s0 (requestBarrier v s).2 := by
  simp (maxDischargeDepth := 60) [requestBarrier, h]

@[simp] theorem keeps_writeMos {wh : What} {s0 : State} {a : Nat} {v : Word} {s : State} (h : Keeps wh s0 s) :
    Keeps wh s0 (writeMos a v s).2 := by
  simp (maxDischargeDepth := 60) [writeMos, h]

@[simp] theorem keeps_writeGlb {wh : What} {s0 : State} {a : Nat} {v : Word} {s : State} (h : Keeps wh s0 s) :
    Keeps wh s0 (writeGlb a v s).2 := by
  unfold writeGlb
  (repeat' split) <;> simp (maxDischargeDepth := 60) [*]

@[simp] theorem keeps_writeCfg {wh : What} {s0 : State} {a : Nat} {v : Word} {s : State} (h : Keeps wh s0 s) :
    Keeps wh s0 (writeCfg a v s).2 := by
  unfold writeCfg
  (repeat' split) <;> simp (maxDischargeDepth := 60) [*]

@[simp] theorem keeps_latch {wh : What} {s0 : State} {who : Initiator} {a : Nat} {s : State} (h : Keeps wh s0 s) :
    Keeps wh s0 (latch who a s) := by
  unfold latch
  simp only []
  split
  · exact h
  · exact keeps_of_same h rfl rfl rfl rfl rfl rfl rfl rfl rfl

@[simp] theorem keeps_clearRead {wh : What} {s0 : State} {a : Nat} {s : State} (h : Keeps wh s0 s) :
    Keeps wh s0 (clearRead a s) := by
  unfold clearRead
  simp only []
  split
  · exact h
  · split
    · exact keeps_setRaw (keeps_of_same h rfl rfl rfl rfl rfl rfl rfl rfl rfl)
    · exact keeps_setRaw h

@[simp] theorem keeps_readEffect {wh : What} {s0 : State} {a : Nat} {s : State} (h : Keeps wh s0 s) :
    Keeps wh s0 (readEffect a s) := by
  simp (maxDischargeDepth := 60) [readEffect, h]

@[simp] theorem keeps_busRead {wh : What} {s0 : State} {who : Initiator} {a : Nat} {s : State} (h : Keeps wh s0 s) :
    Keeps wh s0 (busRead who a s).2 := by
  simp (maxDischargeDepth := 60) [busRead, h]

@[simp] theorem keeps_regWrite {wh : What} {s0 : State} {who : Initiator} {a : Nat} {v : Word} {s : State} (h : Keeps wh s0 s) (nm : wh.mem = false := by assumption) :
    Keeps wh s0 (regWrite who a v s).2 := by
  unfold regWrite
  split <;> simp (maxDischargeDepth := 60) [h, nm]

@[simp] theorem keeps_windowWrite {wh : What} {s0 : State} {a : Nat} {v : Word} {s : State} (h : Keeps wh s0 s) (nm : wh.mem = false := by assumption) :
    Keeps wh s0 (windowWrite a v s).2 := by
  simp (maxDischargeDepth := 60) [windowWrite, h, nm]

@[simp] theorem keeps_setLock {wh : What} {s0 : State} {a : Nat} {v : Word} {s : State} (h : Keeps wh s0 s) :
    Keeps wh s0 (setLock a v s) := by
  unfold setLock
  simp only []
  split
  · exact keeps_onHead' h fun _ _ hb => List.mem_cons_of_mem _ hb
  · exact h

@[simp] theorem keeps_busWrite {wh : What} {s0 : State} {who : Initiator} {a : Nat} {v : Word} {s : State} (h : Keeps wh s0 s) (nm : wh.mem = false := by assumption) :
    Keeps wh s0 (busWrite who a v s).2 := by
  simp (maxDischargeDepth := 60) [busWrite, h, nm]

@[simp] theorem keeps_busPut {wh : What} {s0 : State} {who : Initiator} {a : Nat} {v : Word} {s : State} (h : Keeps wh s0 s) (nm : wh.mem = false := by assumption) :
    Keeps wh s0 (busPut who a v s) := by
  simp (maxDischargeDepth := 60) [busPut, h, nm]

@[simp] theorem keeps_doRegisterWrite {wh : What} {s0 : State} {who : Initiator} {a : Nat} {v : Word} {s : State} (h : Keeps wh s0 s) (nm : wh.mem = false := by assumption) :
    Keeps wh s0 (doRegisterWrite who a v s) := by
  simp (maxDischargeDepth := 60) [doRegisterWrite, h, nm]

@[simp] theorem keeps_doBusRead {wh : What} {s0 : State} {who : Initiator} {a : Nat} {s : State} (h : Keeps wh s0 s) :
    Keeps wh s0 (doBusRead who a s) := by
  simp (maxDischargeDepth := 60) [doBusRead, h]

@[simp] theorem keeps_doBusInvalidAccess {wh : What} {s0 : State} {write : Bool} {s : State} (h : Keeps wh s0 s) :
    Keeps wh s0 (doBusInvalidAccess write s) := by
  simp (maxDischargeDepth := 60) [doBusInvalidAccess, h]

@[simp] theorem keeps_doLockBitSet {wh : What} {s0 : State} {b : Fin 18} {s : State} (h : Keeps wh s0 s) (nm : wh.mem = false := by assumption) :
    Keeps wh s0 (doLockBitSet b s) := by
  unfold doLockBitSet
  (repeat' split) <;> simp (maxDischargeDepth := 60) [*]

@[simp] theorem keeps_doCounterClear {wh : What} {s0 : State} {b : Fin 19} {s : State} (h : Keeps wh s0 s) (nm : wh.mem = false := by assumption) :
    Keeps wh s0 (doCounterClear b s) := by
  unfold doCounterClear
  (repeat' split) <;> simp (maxDischargeDepth := 60) [*]

@[simp] theorem keeps_modFlash {wh : What} {s0 : State} {c : Nat} {f : FlashCtl → FlashCtl} {s : State} (h : Keeps wh s0 s) :
    Keeps wh s0 (modFlash c f s) := by
  simp (maxDischargeDepth := 60) [modFlash, h]

@[simp] theorem keeps_setFlashMem {wh : What} {s0 : State} {c : Nat} {m : List Host.Cell} {s : State} (h : Keeps wh s0 s) :
    Keeps wh s0 (setFlashMem c m s) := by
  simp (maxDischargeDepth := 60) [setFlashMem, h]

@[simp] theorem keeps_flashFails {wh : What} {s0 : State} {c last code : Nat} {s : State} (h : Keeps wh s0 s) :
    Keeps wh s0 (flashFails c last code s) := by
  simp (maxDischargeDepth := 60) [flashFails, h]

@[simp] theorem keeps_askStep {wh : What} {s0 : State} {c : Nat} {x : FlashStep} {s : State} (h : Keeps wh s0 s) :
    Keeps wh s0 (askStep c x s) := by
  simp (maxDischargeDepth := 60) [askStep, h]

@[simp] theorem keeps_beginStep {wh : What} {s0 : State} {c : Nat} {x : FlashStep} {s : State} (h : Keeps wh s0 s) :
    Keeps wh s0 (beginStep c x s) := by
  unfold beginStep
  (repeat' split) <;> simp (maxDischargeDepth := 60) [*]

@[simp] theorem keeps_pumpFlash {wh : What} {s0 : State} {c : Nat} {s : State} (h : Keeps wh s0 s) :
    Keeps wh s0 (pumpFlash c s) := by
  unfold pumpFlash
  simp only []
  (repeat' split) <;> simp (maxDischargeDepth := 60) [*]

@[simp] theorem keeps_addSteps {wh : What} {s0 : State} {c : Nat} {l : List FlashStep} {s : State} (h : Keeps wh s0 s) :
    Keeps wh s0 (addSteps c l s) := by
  simp (maxDischargeDepth := 60) [addSteps, h]

@[simp] theorem keeps_flashWaits {wh : What} {s0 : State} {c : Nat} {s : State} (h : Keeps wh s0 s) :
    Keeps wh s0 (flashWaits c s) := by
  simp (maxDischargeDepth := 60) [flashWaits, h]

@[simp] theorem keeps_endSequence {wh : What} {s0 : State} {c : Nat} {s : State} (h : Keeps wh s0 s) :
    Keeps wh s0 (endSequence c s) := by
  simp (maxDischargeDepth := 60) [endSequence, h]

@[simp] theorem keeps_flashStepEnds {wh : What} {s0 : State} {c : Nat} {devOk : Bool} {held : Option (List Byte)} {s : State} (h : Keeps wh s0 s) :
    Keeps wh s0 (flashStepEnds c devOk held s) := by
  unfold flashStepEnds
  (repeat' split) <;> simp (maxDischargeDepth := 60) [*]

@[simp] theorem keeps_tidyDir {wh : What} {s0 : State} {c : Nat} {s : State} (h : Keeps wh s0 s) :
    Keeps wh s0 (tidyDir c s) := by
  unfold tidyDir
  (repeat' split) <;> simp (maxDischargeDepth := 60) [*]

@[simp] theorem keeps_resetField {wh : What} {s0 : State} {f : Fld} {s : State} (h : Keeps wh s0 s) :
    Keeps wh s0 (resetField f s) := by
  simp (maxDischargeDepth := 60) [resetField, h]

@[simp] theorem keeps_clearTables {wh : What} {s0 : State}  {s : State} (h : Keeps wh s0 s) (nm : wh.mem = false := by assumption) :
    Keeps wh s0 (clearTables s) := by
  unfold clearTables
  have h' : Keeps wh s0 { s with
      staged := [], justStaged := []
      mem := s.mem.filter fun c => !((decide (winAddr 0 ≤ c.1) && decide (c.1 < winAddr poolBase)) ||
        (decide (0x30000000 ≤ c.1) && decide (c.1 < 0x30018000))) } := keeps_mem h rfl rfl Mem.wfFrom_filter rfl rfl rfl rfl rfl rfl
  exact keeps_setF (keeps_onTge (keeps_forEach (keeps_forEach (keeps_forEach (keeps_forEach (keeps_forEach h' fun _ _ => keeps_setF keeps_refl)
    fun _ _ => keeps_setF keeps_refl) fun _ _ => keeps_setF keeps_refl) fun _ _ => keeps_setF keeps_refl) fun _ _ => keeps_setF keeps_refl) rfl)

@[simp] theorem keeps_absentDefaults {wh : What} {s0 : State} {l : List Record} {s : State} (h : Keeps wh s0 s) :
    Keeps wh s0 (absentDefaults l s) := by
  simp (maxDischargeDepth := 60) [absentDefaults, h]

@[simp] theorem keeps_loadRecords {wh : What} {s0 : State} {l : List Record} {s : State} (h : Keeps wh s0 s) (nm : wh.mem = false := by assumption) :
    Keeps wh s0 (loadRecords l s) := by
  simp (maxDischargeDepth := 60) [loadRecords, h, nm]

@[simp] theorem keeps_loadPatches {wh : What} {s0 : State} {l : List Record} {s : State} (h : Keeps wh s0 s) :
    Keeps wh s0 (loadPatches l s) := by
  simp (maxDischargeDepth := 60) [loadPatches, h]

@[simp] theorem keeps_imageScratch {wh : What} {s0 : State} {l : List Record} {s : State} (h : Keeps wh s0 s) (nm : wh.mem = false := by assumption) :
    Keeps wh s0 (imageScratch l s) := by
  unfold imageScratch
  refine keeps_loadRecords (keeps_onTge' (keeps_onPat (keeps_onExs h)) fun _ x hx => ?_)
  have : x = {} := by simpa using List.eq_of_mem_replicate hx
  subst this
  intro t ht
  have : t = {} := by simpa using List.eq_of_mem_replicate ht
  subst this; exact ⟨by simp, by simp⟩

@[simp] theorem keeps_noteBreak {wh : What} {s0 : State} {b : List Byte} {f : ImgFault} {s : State} (h : Keeps wh s0 s) :
    Keeps wh s0 (noteBreak b f s) := by
  unfold noteBreak
  (repeat' split) <;> simp (maxDischargeDepth := 60) [*]

@[simp] theorem keeps_rasterHeld {wh : What} {s0 : State}  {s : State} (h : Keeps wh s0 s) :
    Keeps wh s0 (rasterHeld s) := by
  simp (maxDischargeDepth := 60) [rasterHeld, h]

@[simp] theorem keeps_applyPatches {wh : What} {s0 : State} {l : List Record} {s : State} (h : Keeps wh s0 s) (nm : wh.mem = false := by assumption) :
    Keeps wh s0 (applyPatches l s) := by
  simp (maxDischargeDepth := 60) [applyPatches, h, nm]

@[simp] theorem keeps_applySysRef {wh : What} {s0 : State}  {s : State} (h : Keeps wh s0 s) :
    Keeps wh s0 (applySysRef s) := by
  simp (maxDischargeDepth := 60) [applySysRef, h]

@[simp] theorem keeps_applyStarts {wh : What} {s0 : State} {l : List Record} {s : State} (h : Keeps wh s0 s) :
    Keeps wh s0 (applyStarts l s) := by
  simp (maxDischargeDepth := 60) [applyStarts, h]

@[simp] theorem keeps_setLocks {wh : What} {s0 : State}  {s : State} (h : Keeps wh s0 s) :
    Keeps wh s0 (setLocks s) := by
  unfold setLocks
  refine keeps_onHead' h fun _ b hb => ?_
  by_cases hc : [1, 3, 4, 11, 13, 15, 16].contains b = true
  · exact List.mem_append_left _ (List.contains_iff_mem.mp hc)
  · exact List.mem_append_right _ (List.mem_filter.mpr ⟨hb, by rw [Bool.not_eq_true] at hc; exact congrArg Bool.not hc⟩)

@[simp] theorem keeps_armFunctions {wh : What} {s0 : State} {l : List Record} {s : State} (h : Keeps wh s0 s) :
    Keeps wh s0 (armFunctions l s) := by
  simp (maxDischargeDepth := 60) [armFunctions, h]

@[simp] theorem keeps_skipUnknown {wh : What} {s0 : State} {l : List Record} {s : State} (h : Keeps wh s0 s) :
    Keeps wh s0 (skipUnknown l s) := by
  simp (maxDischargeDepth := 60) [skipUnknown, h]

@[simp] theorem keeps_applyTenants {wh : What} {s0 : State} {l : List Record} {mode : ApplyMode} {s : State} (h : Keeps wh s0 s) :
    Keeps wh s0 (applyTenants l mode s) := by
  simp (maxDischargeDepth := 60) [applyTenants, h]

@[simp] theorem keeps_applyEnd {wh : What} {s0 : State} {w : ApplyWait} {l : List Record} {s : State} (h : Keeps wh s0 s) :
    Keeps wh s0 (applyEnd w l s) := by
  simp (maxDischargeDepth := 60) [applyEnd, h]

@[simp] theorem keeps_applyTables {wh : What} {s0 : State} {w : ApplyWait} {l : List Record} {s : State} (h : Keeps wh s0 s) (nm : wh.mem = false := by assumption) :
    Keeps wh s0 (applyTables w l s) := by
  simp (maxDischargeDepth := 60) [applyTables, h, nm]

@[simp] theorem keeps_applySystem {wh : What} {s0 : State} {l : List Record} {s : State} (h : Keeps wh s0 s) (nm : wh.mem = false := by assumption) :
    Keeps wh s0 (applySystem l s) := by
  simp (maxDischargeDepth := 60) [applySystem, h, nm]

@[simp] theorem keeps_applyImage {wh : What} {s0 : State} {b : List Byte} {l : List Record} {src slot : Nat} {mode : ApplyMode} {s : State} (h : Keeps wh s0 s) (nm : wh.mem = false := by assumption) :
    Keeps wh s0 (applyImage b l src slot mode s) := by
  simp (maxDischargeDepth := 60) [applyImage, h, nm]

@[simp] theorem keeps_resumeApply {wh : What} {s0 : State}  {s : State} (h : Keeps wh s0 s) (nm : wh.mem = false := by assumption) :
    Keeps wh s0 (resumeApply s) := by
  unfold resumeApply
  (repeat' split) <;> simp (maxDischargeDepth := 60) [*]

@[simp] theorem keeps_dropApply {wh : What} {s0 : State}  {s : State} (h : Keeps wh s0 s) :
    Keeps wh s0 (dropApply s) := by
  simp (maxDischargeDepth := 60) [dropApply, h]

@[simp] theorem keeps_readKeyTable {wh : What} {s0 : State}  {s : State} (h : Keeps wh s0 s) :
    Keeps wh s0 (readKeyTable s) := by
  unfold readKeyTable
  simp only []
  (repeat' split) <;> simp (maxDischargeDepth := 60) [*]

@[simp] theorem keeps_showFault {wh : What} {s0 : State} {f : ImgFault} {s : State} (h : Keeps wh s0 s) :
    Keeps wh s0 (showFault f s) := by
  simp (maxDischargeDepth := 60) [showFault, h]

@[simp] theorem keeps_imageFault {wh : What} {s0 : State}  {s : State} (h : Keeps wh s0 s) :
    Keeps wh s0 (imageFault s) := by
  simp (maxDischargeDepth := 60) [imageFault, h]

@[simp] theorem keeps_rejectImage {wh : What} {s0 : State} {slot : Nat} {f : ImgFault} {s : State} (h : Keeps wh s0 s) :
    Keeps wh s0 (rejectImage slot f s) := by
  simp (maxDischargeDepth := 60) [rejectImage, h]

@[simp] theorem keeps_beginRead {wh : What} {s0 : State}  {s : State} (h : Keeps wh s0 s) :
    Keeps wh s0 (beginRead s) := by
  unfold beginRead
  simp only []
  (repeat' split) <;> simp (maxDischargeDepth := 60) [*]

@[simp] theorem keeps_discoverKey {wh : What} {s0 : State}  {s : State} (h : Keeps wh s0 s) :
    Keeps wh s0 (discoverKey s) := by
  simp (maxDischargeDepth := 60) [discoverKey, h]

@[simp] theorem keeps_verified {wh : What} {s0 : State}  {s : State} (h : Keeps wh s0 s) :
    Keeps wh s0 (verified s) := by
  simp (maxDischargeDepth := 60) [verified, h]

@[simp] theorem keeps_doImageReadComplete {wh : What} {s0 : State} {sigOk readErr : Bool} {s : State} (h : Keeps wh s0 s) (nm : wh.mem = false := by assumption) :
    Keeps wh s0 (doImageReadComplete sigOk readErr s) := by
  unfold doImageReadComplete
  simp only []
  (repeat' split) <;> simp (maxDischargeDepth := 60) [*]

@[simp] theorem keeps_reapply {wh : What} {s0 : State} {mode : ApplyMode} {s : State} (h : Keeps wh s0 s) (nm : wh.mem = false := by assumption) :
    Keeps wh s0 (reapply mode s) := by
  unfold reapply
  (repeat' split) <;> simp (maxDischargeDepth := 60) [*]

@[simp] theorem keeps_takeUpKey {wh : What} {s0 : State}  {s : State} (h : Keeps wh s0 s) :
    Keeps wh s0 (takeUpKey s) := by
  simp (maxDischargeDepth := 60) [takeUpKey, h]

@[simp] theorem keeps_doKeyInserted {wh : What} {s0 : State} {params : KeyParams} {mem : List (Nat × Byte)} {s : State} (h : Keeps wh s0 s) :
    Keeps wh s0 (doKeyInserted params mem s) := by
  simp (maxDischargeDepth := 60) [doKeyInserted, h]

@[simp] theorem keeps_setWrite {wh : What} {s0 : State} {c : Nat} {w : Option ImageWrite} {s : State} (h : Keeps wh s0 s) :
    Keeps wh s0 (setWrite c w s) := by
  simp (maxDischargeDepth := 60) [setWrite, h]

@[simp] theorem keeps_answerWrite {wh : What} {s0 : State} {w : ImageWrite} {a : Answer} {s : State} (h : Keeps wh s0 s) :
    Keeps wh s0 (answerWrite w a s) := by
  unfold answerWrite
  (repeat' split) <;> simp (maxDischargeDepth := 60) [*]

@[simp] theorem keeps_imageOpen {wh : What} {s0 : State} {t : WriteTarget} {total : Nat} {s : State} (h : Keeps wh s0 s) :
    Keeps wh s0 (imageOpen t total s).2 := by
  simp (maxDischargeDepth := 60) [imageOpen, h]

@[simp] theorem keeps_imageData {wh : What} {s0 : State} {n : Nat} {t : WriteTarget} {ofs : Nat} {data : List Byte} {s : State} (h : Keeps wh s0 s) :
    Keeps wh s0 (imageData n t ofs data s).2 := by
  unfold imageData
  (repeat' split) <;> simp (maxDischargeDepth := 60) [*]

@[simp] theorem keeps_imageClose {wh : What} {s0 : State} {n : Nat} {t : WriteTarget} {sigOk : Bool} {s : State} (h : Keeps wh s0 s) :
    Keeps wh s0 (imageClose n t sigOk s).2 := by
  unfold imageClose
  (repeat' split) <;> simp (maxDischargeDepth := 60) [*]

@[simp] theorem keeps_imageAbort {wh : What} {s0 : State} {t : WriteTarget} {s : State} (h : Keeps wh s0 s) :
    Keeps wh s0 (imageAbort t s).2 := by
  unfold imageAbort
  simp only []
  (repeat' split) <;> simp (maxDischargeDepth := 60) [*]

@[simp] theorem keeps_endWrite {wh : What} {s0 : State} {c : Nat} {a : Option Answer} {s : State} (h : Keeps wh s0 s) :
    Keeps wh s0 (endWrite c a s) := by
  unfold endWrite
  (repeat' split) <;> simp (maxDischargeDepth := 60) [*]

@[simp] theorem keeps_endWrites {wh : What} {s0 : State} {a : Option Answer} {s : State} (h : Keeps wh s0 s) :
    Keeps wh s0 (endWrites a s) := by
  simp (maxDischargeDepth := 60) [endWrites, h]

@[simp] theorem keeps_closeFails {wh : What} {s0 : State} {c : Nat} {w : ImageWrite} {reason : Nat} {f : Option ImgFault} {s : State} (h : Keeps wh s0 s) :
    Keeps wh s0 (closeFails c w reason f s) := by
  unfold closeFails
  (repeat' split) <;> simp (maxDischargeDepth := 60) [*]

@[simp] theorem keeps_committed {wh : What} {s0 : State} {c : Nat} {w : ImageWrite} {seq : Nat} {s : State} (h : Keeps wh s0 s) :
    Keeps wh s0 (committed c w seq s) := by
  unfold committed
  (repeat' split) <;> simp (maxDischargeDepth := 60) [*]

@[simp] theorem keeps_dataNotBlank {wh : What} {s0 : State} {c a : Nat} {s : State} (h : Keeps wh s0 s) :
    Keeps wh s0 (dataNotBlank c a s) := by
  simp (maxDischargeDepth := 60) [dataNotBlank, h]

@[simp] theorem keeps_writeNext {wh : What} {s0 : State} {c : Nat} {w : ImageWrite} {s : State} (h : Keeps wh s0 s) :
    Keeps wh s0 (writeNext c w s) := by
  unfold writeNext
  (repeat' split) <;> simp (maxDischargeDepth := 60) [*]

@[simp] theorem keeps_pumpWrite {wh : What} {s0 : State} {c : Nat} {s : State} (h : Keeps wh s0 s) :
    Keeps wh s0 (pumpWrite c s) := by
  unfold pumpWrite
  (repeat' split) <;> simp (maxDischargeDepth := 60) [*]

@[simp] theorem keeps_pumpController {wh : What} {s0 : State} {c : Nat} {s : State} (h : Keeps wh s0 s) :
    Keeps wh s0 (pumpController c s) := by
  simp (maxDischargeDepth := 60) [pumpController, h]

@[simp] theorem keeps_doKeyRemoved {wh : What} {s0 : State}  {s : State} (h : Keeps wh s0 s) :
    Keeps wh s0 (doKeyRemoved s) := by
  simp (maxDischargeDepth := 60) [doKeyRemoved, h]

@[simp] theorem keeps_clampRow {wh : What} {s0 : State} {bank cls gain y start rt : Nat} {left right : List (BitVec 12)} {s : State} (h : Keeps wh s0 s) :
    Keeps wh s0 (clampRow bank cls gain y start rt left right s).2.2 := by
  simp (maxDischargeDepth := 60) [clampRow, h]

@[simp] theorem keeps_ensureSet {wh : What} {s0 : State} {b : Booking} {s : State} (h : Keeps wh s0 s) :
    Keeps wh s0 (ensureSet b s) := by
  simp (maxDischargeDepth := 60) [ensureSet, h]

@[simp] theorem keeps_enterMember {wh : What} {s0 : State} {b : Booking} {m : Member} {rows : List FusedRow} {s : State} (h : Keeps wh s0 s) :
    Keeps wh s0 (enterMember b m rows s) := by
  simp (maxDischargeDepth := 60) [enterMember, h]

@[simp] theorem keeps_deliverFused {wh : What} {s0 : State} {f : FusionSet} {extra : Nat} {raw : Bool} {stuck : BitVec 16} {row : Nat} {s : State} (h : Keeps wh s0 s) (nm : wh.mem = false := by assumption) :
    Keeps wh s0 (deliverFused f extra raw stuck row s) := by
  unfold deliverFused
  (repeat' split) <;> simp (maxDischargeDepth := 60) [*]

@[simp] theorem keeps_shutSet {wh : What} {s0 : State} {f : FusionSet} {s : State} (h : Keeps wh s0 s) :
    Keeps wh s0 (shutSet f s) := by
  simp (maxDischargeDepth := 60) [shutSet, h]

@[simp] theorem keeps_closeFusion {wh : What} {s0 : State} {f : FusionSet} {extra : Nat} {raw : Bool} {stuck : BitVec 16} {s : State} (h : Keeps wh s0 s) (nm : wh.mem = false := by assumption) :
    Keeps wh s0 (closeFusion f extra raw stuck s) := by
  simp (maxDischargeDepth := 60) [closeFusion, h, nm]

@[simp] theorem keeps_closeReady {wh : What} {s0 : State} {stuck : BitVec 16} {f : FusionSet} {s : State} (h : Keeps wh s0 s) (nm : wh.mem = false := by assumption) :
    Keeps wh s0 (closeReady stuck f s) := by
  simp (maxDischargeDepth := 60) [closeReady, h, nm]

@[simp] theorem keeps_closeFinished {wh : What} {s0 : State} {stuck : BitVec 16} {s : State} (h : Keeps wh s0 s) (nm : wh.mem = false := by assumption) :
    Keeps wh s0 (closeFinished stuck s) := by
  simp (maxDischargeDepth := 60) [closeFinished, h, nm]

@[simp] theorem keeps_closeAllSets {wh : What} {s0 : State} {extra : Nat} {raw : Bool} {s : State} (h : Keeps wh s0 s) (nm : wh.mem = false := by assumption) :
    Keeps wh s0 (closeAllSets extra raw s) := by
  simp (maxDischargeDepth := 60) [closeAllSets, h, nm]

@[simp] theorem keeps_discardFusion {wh : What} {s0 : State}  {s : State} (h : Keeps wh s0 s) :
    Keeps wh s0 (discardFusion s) := by
  simp (maxDischargeDepth := 60) [discardFusion, h]

@[simp] theorem keeps_closeThird {wh : What} {s0 : State} {lane frame rg : Nat} {stuck : BitVec 16} {s : State} (h : Keeps wh s0 s) (nm : wh.mem = false := by assumption) :
    Keeps wh s0 (closeThird lane frame rg stuck s) := by
  unfold closeThird
  (repeat' split) <;> simp (maxDischargeDepth := 60) [*]

@[simp] theorem keeps_addDose {wh : What} {s0 : State} {frame len ped : Nat} {quarter : Bool} {codes : List Px} {s : State} (h : Keeps wh s0 s) :
    Keeps wh s0 (addDose frame len ped quarter codes s) := by
  simp (maxDischargeDepth := 60) [addDose, h]

@[simp] theorem keeps_noteGap {wh : What} {s0 : State} {lane frame : Nat} {s : State} (h : Keeps wh s0 s) :
    Keeps wh s0 (noteGap lane frame s) := by
  simp (maxDischargeDepth := 60) [noteGap, h]

@[simp] theorem keeps_keepRow {wh : What} {s0 : State} {b : Booking} {e : ExpEntry} {geo : Geo} {rd : BankRead} {bank k flags : Nat} {stuck : BitVec 16} {px : List PxPair} {s : State} (h : Keeps wh s0 s) :
    Keeps wh s0 (keepRow b e geo rd bank k flags stuck px s) := by
  simp (maxDischargeDepth := 60) [keepRow, h]

@[simp] theorem keeps_deliverRow {wh : What} {s0 : State} {b : Booking} {e : ExpEntry} {geo : Geo} {st split nb : Nat} {r : ReadRow} {s : State} (h : Keeps wh s0 s) (nm : wh.mem = false := by assumption) :
    Keeps wh s0 (deliverRow b e geo st split nb r s) := by
  simp (maxDischargeDepth := 60) [deliverRow, h, nm]

@[simp] theorem keeps_takeRow {wh : What} {s0 : State} {b : Booking} {e : ExpEntry} {rd : BankRead} {bank k flags : Nat} {stuck : BitVec 16} {px : List PxPair} {s : State} (h : Keeps wh s0 s) :
    Keeps wh s0 (takeRow b e rd bank k flags stuck px s) := by
  simp (maxDischargeDepth := 60) [takeRow, h]

@[simp] theorem keeps_laneRow {wh : What} {s0 : State} {b : Booking} {e : ExpEntry} {rd : BankRead} {p : RowPacket} {s : State} (h : Keeps wh s0 s) :
    Keeps wh s0 (laneRow b e rd p s) := by
  unfold laneRow
  simp only []
  (repeat' split) <;> simp (maxDischargeDepth := 60) [*]

@[simp] theorem keeps_lostRow {wh : What} {s0 : State} {b : Booking} {e : ExpEntry} {rd : BankRead} {bank k : Nat} {stuck : BitVec 16} {s : State} (h : Keeps wh s0 s) :
    Keeps wh s0 (lostRow b e rd bank k stuck s) := by
  simp (maxDischargeDepth := 60) [lostRow, h]

@[simp] theorem keeps_calRow {wh : What} {s0 : State} {rd : BankRead} {p : RowPacket} {s : State} (h : Keeps wh s0 s) :
    Keeps wh s0 (calRow rd p s) := by
  unfold calRow
  (repeat' split) <;> simp (maxDischargeDepth := 60) [*]

@[simp] theorem keeps_doRowPacketReceived {wh : What} {s0 : State} {p : RowPacket} {s : State} (h : Keeps wh s0 s) :
    Keeps wh s0 (doRowPacketReceived p s) := by
  unfold doRowPacketReceived
  simp only []
  (repeat' split) <;> simp (maxDischargeDepth := 60) [*]

@[simp] theorem keeps_doRowGroupResetStart {wh : What} {s0 : State} {lane : Fin 5} {exp key rg : Nat} {s : State} (h : Keeps wh s0 s) :
    Keeps wh s0 (doRowGroupResetStart lane exp key rg s) := by
  simp (maxDischargeDepth := 60) [doRowGroupResetStart, h]

@[simp] theorem keeps_doRowGroupReadStart {wh : What} {s0 : State} {lane : Fin 5} {exp key rg : Nat} {s : State} (h : Keeps wh s0 s) :
    Keeps wh s0 (doRowGroupReadStart lane exp key rg s) := by
  simp (maxDischargeDepth := 60) [doRowGroupReadStart, h]

@[simp] theorem keeps_placeTarget {wh : What} {s0 : State} {t : Target} {s : State} (h : Keeps wh s0 s) :
    Keeps wh s0 (placeTarget t s) := by
  simp (maxDischargeDepth := 60) [placeTarget, h]

@[simp] theorem keeps_doResetTargetReached {wh : What} {s0 : State} {m : Fin 4} {exp key rg : Nat} {s : State} (h : Keeps wh s0 s) :
    Keeps wh s0 (doResetTargetReached m exp key rg s) := by
  simp (maxDischargeDepth := 60) [doResetTargetReached, h]

@[simp] theorem keeps_loseRows {wh : What} {s0 : State} {b : Booking} {e : ExpEntry} {banks : List Nat} {stuck : BitVec 16} {s : State} (h : Keeps wh s0 s) :
    Keeps wh s0 (loseRows b e banks stuck s) := by
  unfold loseRows
  refine keeps_forEach h fun k t => ?_
  split
  · refine keeps_forEach keeps_refl fun r t => ?_
    split <;> simp (maxDischargeDepth := 60)
  · exact keeps_refl

@[simp] theorem keeps_deliverRead {wh : What} {s0 : State} {b : Booking} {e : ExpEntry} {stuck : BitVec 16} {s : State} (h : Keeps wh s0 s) (nm : wh.mem = false := by assumption) :
    Keeps wh s0 (deliverRead b e stuck s) := by
  simp (maxDischargeDepth := 60) [deliverRead, h, nm]

@[simp] theorem keeps_laneReadComplete {wh : What} {s0 : State} {m : Nat} {exp key rg : Nat} {stuck : BitVec 16} {s : State} (h : Keeps wh s0 s) (nm : wh.mem = false := by assumption) :
    Keeps wh s0 (laneReadComplete m exp key rg stuck s) := by
  unfold laneReadComplete
  simp only []
  (repeat' split) <;> simp (maxDischargeDepth := 60) [*]

@[simp] theorem keeps_calReadComplete {wh : What} {s0 : State} {rg exp : Nat} {s : State} (h : Keeps wh s0 s) :
    Keeps wh s0 (calReadComplete rg exp s) := by
  unfold calReadComplete
  (repeat' split) <;> simp (maxDischargeDepth := 60) [*]

@[simp] theorem keeps_doRowGroupReadComplete {wh : What} {s0 : State} {lane : Fin 5} {exp key rg : Nat} {stuck : BitVec 16} {s : State} (h : Keeps wh s0 s) (nm : wh.mem = false := by assumption) :
    Keeps wh s0 (doRowGroupReadComplete lane exp key rg stuck s) := by
  simp (maxDischargeDepth := 60) [doRowGroupReadComplete, h, nm]

@[simp] theorem keeps_headFrameClose {wh : What} {s0 : State} {m : FrameMark} {fin : Nat} {s : State} (h : Keeps wh s0 s) :
    Keeps wh s0 (headFrameClose m fin s) := by
  simp (maxDischargeDepth := 60) [headFrameClose, h]

@[simp] theorem keeps_closeHeadFrames {wh : What} {s0 : State}  {s : State} (h : Keeps wh s0 s) :
    Keeps wh s0 (closeHeadFrames s) := by
  unfold closeHeadFrames
  refine keeps_forEach h fun _ _ => ?_
  split
  · split <;> simp (maxDischargeDepth := 60)
  · exact keeps_refl

@[simp] theorem keeps_doLaneFrameClose {wh : What} {s0 : State} {m : Fin 4} {s : State} (h : Keeps wh s0 s) (nm : wh.mem = false := by assumption) :
    Keeps wh s0 (doLaneFrameClose m s) := by
  simp (maxDischargeDepth := 60) [doLaneFrameClose, h, nm]

@[simp] theorem keeps_schedulerReset {wh : What} {s0 : State}  {s : State} (h : Keeps wh s0 s) (nm : wh.mem = false := by assumption) :
    Keeps wh s0 (schedulerReset s) := by
  simp (maxDischargeDepth := 60) [schedulerReset, h, nm]

@[simp] theorem keeps_passCheck {wh : What} {s0 : State} {w : WaitStore} {s : State} (h : Keeps wh s0 s) :
    Keeps wh s0 (passCheck w s) := by
  unfold passCheck
  (repeat' split) <;> simp (maxDischargeDepth := 60) [*]

@[simp] theorem keeps_calWaits {wh : What} {s0 : State}  {s : State} (h : Keeps wh s0 s) :
    Keeps wh s0 (calWaits s) := by
  unfold calWaits
  (repeat' split) <;> simp (maxDischargeDepth := 60) [*]

@[simp] theorem keeps_keysWait {wh : What} {s0 : State}  {s : State} (h : Keeps wh s0 s) :
    Keeps wh s0 (keysWait s) := by
  unfold keysWait
  (repeat' split) <;> simp (maxDischargeDepth := 60) [*]

@[simp] theorem keeps_userWaits {wh : What} {s0 : State} {u : StoreUser} {s : State} (h : Keeps wh s0 s) :
    Keeps wh s0 (userWaits u s) := by
  unfold userWaits
  (repeat' split) <;> simp (maxDischargeDepth := 60) [*]

@[simp] theorem keeps_skipStore {wh : What} {s0 : State} {op : StoreOp} {u : StoreUser} {s : State} (h : Keeps wh s0 s) :
    Keeps wh s0 (skipStore op u s) := by
  simp (maxDischargeDepth := 60) [skipStore, h]

@[simp] theorem keeps_failCheck {wh : What} {s0 : State} {w : WaitStore} {s : State} (h : Keeps wh s0 s) :
    Keeps wh s0 (failCheck w s) := by
  simp (maxDischargeDepth := 60) [failCheck, h]

@[simp] theorem keeps_decideChecks {wh : What} {s0 : State} {v : Nat} {s : State} (h : Keeps wh s0 s) :
    Keeps wh s0 (decideChecks v s) := by
  simp (maxDischargeDepth := 60) [decideChecks, h]

@[simp] theorem keeps_doEnergyCheckTimeout {wh : What} {s0 : State}  {s : State} (h : Keeps wh s0 s) :
    Keeps wh s0 (doEnergyCheckTimeout s) := by
  simp (maxDischargeDepth := 60) [doEnergyCheckTimeout, h]

@[simp] theorem keeps_requeue {wh : What} {s0 : State}  {s : State} (h : Keeps wh s0 s) :
    Keeps wh s0 (requeue s) := by
  simp (maxDischargeDepth := 60) [requeue, h]

@[simp] theorem keeps_journalDone {wh : What} {s0 : State}  {s : State} (h : Keeps wh s0 s) :
    Keeps wh s0 (journalDone s) := by
  simp (maxDischargeDepth := 60) [journalDone, h]

@[simp] theorem keeps_norStoreEnds {wh : What} {s0 : State} {u : StoreUser} {devOk : Bool} {s : State} (h : Keeps wh s0 s) :
    Keeps wh s0 (norStoreEnds u devOk s) := by
  unfold norStoreEnds
  (repeat' split) <;> simp (maxDischargeDepth := 60) [*]

@[simp] theorem keeps_doFlashOperationComplete {wh : What} {s0 : State} {c : Fin 2} {devOk : Bool} {held : Option (List Byte)} {s : State} (h : Keeps wh s0 s) :
    Keeps wh s0 (doFlashOperationComplete c devOk held s) := by
  unfold doFlashOperationComplete
  (repeat' split) <;> simp (maxDischargeDepth := 60) [*]

@[simp] theorem keeps_doEmmcCommandComplete {wh : What} {s0 : State} {ok : Bool} {s : State} (h : Keeps wh s0 s) :
    Keeps wh s0 (doEmmcCommandComplete ok s) := by
  simp (maxDischargeDepth := 60) [doEmmcCommandComplete, h]

@[simp] theorem keeps_pumpJournal {wh : What} {s0 : State}  {s : State} (h : Keeps wh s0 s) :
    Keeps wh s0 (pumpJournal s) := by
  simp (maxDischargeDepth := 60) [pumpJournal, h]

@[simp] theorem keeps_resetResource {wh : What} {s0 : State} {r : Nat} {s : State} (h : Keeps wh s0 s) (nm : wh.mem = false := by assumption) :
    Keeps wh s0 (resetResource r s) := by
  unfold resetResource
  (repeat' split) <;> simp (maxDischargeDepth := 60) [*]

@[simp] theorem keeps_passToken {wh : What} {s0 : State} {r : Nat} {s : State} (h : Keeps wh s0 s) :
    Keeps wh s0 (passToken r s) := by
  simp (maxDischargeDepth := 60) [passToken, h]

@[simp] theorem keeps_revoke {wh : What} {s0 : State} {r : Nat} {s : State} (h : Keeps wh s0 s) (nm : wh.mem = false := by assumption) :
    Keeps wh s0 (revoke r s) := by
  simp (maxDischargeDepth := 60) [revoke, h, nm]

@[simp] theorem keeps_doLeaseExpired {wh : What} {s0 : State} {r : Fin 8} {s : State} (h : Keeps wh s0 s) (nm : wh.mem = false := by assumption) :
    Keeps wh s0 (doLeaseExpired r s) := by
  unfold doLeaseExpired
  simp only []
  (repeat' split) <;> simp (maxDischargeDepth := 60) [*]

@[simp] theorem keeps_settleLeases {wh : What} {s0 : State}  {s : State} (h : Keeps wh s0 s) (nm : wh.mem = false := by assumption) :
    Keeps wh s0 (settleLeases s) := by
  simp (maxDischargeDepth := 60) [settleLeases, h, nm]

@[simp] theorem keeps_endSession {wh : What} {s0 : State} {cause n : Nat} {s : State} (h : Keeps wh s0 s) :
    Keeps wh s0 (endSession cause n s) := by
  unfold endSession
  simp only []
  split
  · exact h
  · have h' : Keeps wh s0 (modSession n (fun _ => {}) (raise 0x1233 [.h n, .h cause] s)) :=
      keeps_modSession' (keeps_raise h) fun _ _ => by simp [Session.bounded]
    exact keeps_onCfg (keeps_onFus (keeps_onChg h') rfl)

@[simp] theorem keeps_endSessions {wh : What} {s0 : State} {cause : Nat} {s : State} (h : Keeps wh s0 s) :
    Keeps wh s0 (endSessions cause s) := by
  simp (maxDischargeDepth := 60) [endSessions, h]

@[simp] theorem keeps_restartCore {wh : What} {s0 : State}  {s : State} (h : Keeps wh s0 s) :
    Keeps wh s0 (restartCore s) := by
  simp (maxDischargeDepth := 60) [restartCore, h]

@[simp] theorem keeps_level1 {wh : What} {s0 : State} {e : LadderEvent} {s : State} (h : Keeps wh s0 s) :
    Keeps wh s0 (level1 e s) := by
  simp (maxDischargeDepth := 60) [level1, h]

@[simp] theorem keeps_plannedRestart {wh : What} {s0 : State}  {s : State} (h : Keeps wh s0 s) :
    Keeps wh s0 (plannedRestart s) := by
  simp (maxDischargeDepth := 60) [plannedRestart, h]

@[simp] theorem keeps_freeRecovered {wh : What} {s0 : State}  {s : State} (h : Keeps wh s0 s) :
    Keeps wh s0 (freeRecovered s) := by
  simp (maxDischargeDepth := 60) [freeRecovered, h]

@[simp] theorem keeps_takeFirmware {wh : What} {s0 : State}  {s : State} (h : Keeps wh s0 s) :
    Keeps wh s0 (takeFirmware s) := by
  unfold takeFirmware
  (repeat' split) <;> simp (maxDischargeDepth := 60) [*]

@[simp] theorem keeps_doCoreRestartComplete {wh : What} {s0 : State}  {s : State} (h : Keeps wh s0 s) :
    Keeps wh s0 (doCoreRestartComplete s) := by
  simp (maxDischargeDepth := 60) [doCoreRestartComplete, h]

@[simp] theorem keeps_dieOff {wh : What} {s0 : State} {k : DieReset} {s : State} (h : Keeps wh s0 s) (nm : wh.mem = false := by assumption) (nt : wh.tb = false := by assumption) (nl : wh.locks = false := by assumption) (nf : wh.f = false := by assumption) :
    Keeps wh s0 (dieOff k s) := by
  unfold dieOff
  simp only []
  have ht : ∀ k pads x, (tgeAfter k pads x).bounded := by
    intro k pads x
    have hb : ∀ y : Tge, y.engines = [{}, {}, {}, {}] → y.bounded := by
      intro y hy e he
      rw [hy] at he
      have : e = {} := by simpa using he
      subst this
      intro t ht
      have : t = {} := by simpa using List.eq_of_mem_replicate ht
      subst this; exact ⟨by simp, by simp⟩
    unfold tgeAfter
    split <;> exact hb _ rfl
  have hm : ∀ t : State, t.pending = s.pending → t.fus = s.fus → t.mem = [] → t.flt = s.flt → t.lcp.sessions = List.replicate 4 {} →
      t.tge.bounded → Keeps wh s0 t := by
    intro t h1 h2 h3 h4 h5 h6
    refine h.trans ⟨h1, fun _ => by rw [h2], fun e => absurd e (by simp [nm]), fun e => absurd e (by simp [nt]), fun e => absurd e (by simp [nl]), fun e => absurd e (by simp [nf]),
      fun i => ⟨by rw [h3]; rfl, by rw [h4]; exact i.flt, fun x hx => ?_, h6⟩⟩
    rw [h5] at hx
    have : x = {} := by simpa using List.eq_of_mem_replicate hx
    subst this; simp [Session.bounded]
  split
  · refine keeps_setF (keeps_onHead' (keeps_onFlt (keeps_onSup (keeps_stopMosaic ?_)) rfl rfl) fun e => absurd e (by simp [nl]))
    exact hm _ rfl rfl rfl rfl rfl (ht _ _ _)
  · refine keeps_onHead' (keeps_onFlt (keeps_onSup (keeps_stopMosaic ?_)) rfl rfl) fun e => absurd e (by simp [nl])
    exact hm _ rfl rfl rfl rfl rfl (ht _ _ _)

@[simp] theorem keeps_dieReset {wh : What} {s0 : State} {e : LadderEvent} {s : State} (h : Keeps wh s0 s) (nm : wh.mem = false := by assumption) (nt : wh.tb = false := by assumption) (nl : wh.locks = false := by assumption) (nf : wh.f = false := by assumption) :
    Keeps wh s0 (dieReset e s) := by
  unfold dieReset
  extract_lets s1 s2 s3 s4 s5
  have h4 : Keeps wh s0 s4 := keeps_abortRun (keeps_endWrites (keeps_discardChange (keeps_endSessions (keeps_openWindow (keeps_bootPeriod
    (keeps_countL2 (keeps_raise (keeps_onSup h))))))))
  clear_value s4
  have h5 : Keeps wh s0 s5 := by simp only [s5]; split <;> simp [h4]
  clear_value s5
  have h6 : Keeps wh s0 (if s5.ten.store.isSome = true then takeFree s5 else (0, s5)).2 := by split <;> simp [h5]
  generalize (if s5.ten.store.isSome = true then takeFree s5 else (0, s5)) = p at h6 ⊢
  obtain ⟨v, s6⟩ := p
  dsimp -zeta only at h6 ⊢
  extract_lets s7 s8 s9 s10 u s11 s12 s13
  have h13 : Keeps wh s0 s13 := keeps_dieOff (keeps_onPwr (keeps_removeTenantWindows (keeps_enginesOff (keeps_cutFuse (keeps_discardSteward
    (keeps_discardSets (keeps_discardFusion (keeps_lanesOff (keeps_discardStreams (keeps_failKeyStore h6))))))))))
  clear_value s13
  split <;> simp [h13]

@[simp] theorem keeps_level2 {wh : What} {s0 : State} {e : LadderEvent} {s : State} (h : Keeps wh s0 s) (nm : wh.mem = false := by assumption) (nt : wh.tb = false := by assumption) (nl : wh.locks = false := by assumption) (nf : wh.f = false := by assumption) :
    Keeps wh s0 (level2 e s) := by
  simp (maxDischargeDepth := 60) [level2, h, nm, nt, nl, nf]

@[simp] theorem keeps_endDeferral {wh : What} {s0 : State}  {s : State} (h : Keeps wh s0 s) (nm : wh.mem = false := by assumption) (nt : wh.tb = false := by assumption) (nl : wh.locks = false := by assumption) (nf : wh.f = false := by assumption) :
    Keeps wh s0 (endDeferral s) := by
  unfold endDeferral
  (repeat' split) <;> simp (maxDischargeDepth := 60) [*]

@[simp] theorem keeps_spoilFuse {wh : What} {s0 : State}  {s : State} (h : Keeps wh s0 s) :
    Keeps wh s0 (spoilFuse s) := by
  unfold spoilFuse
  simp only []
  (repeat' split) <;> simp (maxDischargeDepth := 60) [*]

@[simp] theorem keeps_spoilFlash {wh : What} {s0 : State} {c : Nat} {s : State} (h : Keeps wh s0 s) :
    Keeps wh s0 (spoilFlash c s) := by
  unfold spoilFlash
  split
  · exact h
  · refine keeps_modFlash (keeps_forEach h fun _ _ => ?_)
    simp (maxDischargeDepth := 60)

@[simp] theorem keeps_spoilDevice {wh : What} {s0 : State} {r : RunStore} {s : State} (h : Keeps wh s0 s) :
    Keeps wh s0 (spoilDevice r s).2 := by
  unfold spoilDevice
  simp only []
  (repeat' split) <;> simp (maxDischargeDepth := 60) [*]

@[simp] theorem keeps_doDeferTimeout {wh : What} {s0 : State}  {s : State} (h : Keeps wh s0 s) (nm : wh.mem = false := by assumption) (nt : wh.tb = false := by assumption) (nl : wh.locks = false := by assumption) (nf : wh.f = false := by assumption) :
    Keeps wh s0 (doDeferTimeout s) := by
  unfold doDeferTimeout
  (repeat' split) <;> simp (maxDischargeDepth := 60) [*]

@[simp] theorem keeps_enterHold {wh : What} {s0 : State} {e : LadderEvent} {s : State} (h : Keeps wh s0 s) (nm : wh.mem = false := by assumption) :
    Keeps wh s0 (enterHold e s) := by
  simp (maxDischargeDepth := 60) [enterHold, h, nm]

@[simp] theorem keeps_settleLadder {wh : What} {s0 : State}  {s : State} (h : Keeps wh s0 s) (nm : wh.mem = false := by assumption) (nt : wh.tb = false := by assumption) (nl : wh.locks = false := by assumption) (nf : wh.f = false := by assumption) :
    Keeps wh s0 (settleLadder s) := by
  unfold settleLadder
  simp only []
  (repeat' split) <;> simp (maxDischargeDepth := 60) [*]

@[simp] theorem keeps_enterBoot {wh : What} {s0 : State} {cause : StartCause} {s : State} (h : Keeps wh s0 s) :
    Keeps wh s0 (enterBoot cause s) := by
  simp (maxDischargeDepth := 60) [enterBoot, h]

@[simp] theorem keeps_doMainsApplied {wh : What} {s0 : State}  {s : State} (h : Keeps wh s0 s) (nw : wh.wires = false := by assumption) (nm : wh.mem = false := by assumption) (nt : wh.tb = false := by assumption) (nl : wh.locks = false := by assumption) (nf : wh.f = false := by assumption) :
    Keeps wh s0 (doMainsApplied s) := by
  unfold doMainsApplied
  split
  · exact h
  · simp only []
    refine keeps_enterBoot (keeps_bootPeriod (keeps_onSup (keeps_restoreRing (keeps_restoreRecord (keeps_senseFuses (keeps_onFlt (keeps_onHead'
      (keeps_onPwr (keeps_dieOff h)) ?_) ?_ ?_))))))
    · exact fun e => absurd e (by simp [nl])
    · rfl
    · rfl

@[simp] theorem keeps_doParkRestart {wh : What} {s0 : State} {ms : Nat} {s : State} (h : Keeps wh s0 s) (nm : wh.mem = false := by assumption) (nt : wh.tb = false := by assumption) (nl : wh.locks = false := by assumption) (nf : wh.f = false := by assumption) :
    Keeps wh s0 (doParkRestart ms s) := by
  simp (maxDischargeDepth := 60) [doParkRestart, h, nm, nt, nl, nf]

@[simp] theorem keeps_wakeTimers {wh : What} {s0 : State} {slow : Nat} {s : State} (h : Keeps wh s0 s) (nm : wh.mem = false := by assumption) (nt : wh.tb = false := by assumption) (nl : wh.locks = false := by assumption) (nf : wh.f = false := by assumption) :
    Keeps wh s0 (wakeTimers slow s) := by
  unfold wakeTimers
  simp only []
  (repeat' split) <;> simp (maxDischargeDepth := 60) [*]

@[simp] theorem keeps_doSystemPllLock {wh : What} {s0 : State} {slow : Nat} {s : State} (h : Keeps wh s0 s) (nm : wh.mem = false := by assumption) (nt : wh.tb = false := by assumption) (nl : wh.locks = false := by assumption) (nf : wh.f = false := by assumption) :
    Keeps wh s0 (doSystemPllLock slow s) := by
  simp (maxDischargeDepth := 60) [doSystemPllLock, h, nm, nt, nl, nf]

@[simp] theorem keeps_firmwareStarts {wh : What} {s0 : State}  {s : State} (h : Keeps wh s0 s) :
    Keeps wh s0 (firmwareStarts s) := by
  simp (maxDischargeDepth := 60) [firmwareStarts, h]

@[simp] theorem keeps_doFirmwareReady {wh : What} {s0 : State} {okA okB : Bool} {s : State} (h : Keeps wh s0 s) :
    Keeps wh s0 (doFirmwareReady okA okB s) := by
  unfold doFirmwareReady
  split
  · exact h
  · extract_lets ok order
    split
    · exact keeps_onHead h rfl
    · extract_lets first v s1 s2 s3 s4 s5 s6
      have h3 : Keeps wh s0 s3 := keeps_flushHeld (keeps_bootChecks (keeps_onHead (keeps_onCfg h) rfl))
      clear_value s3
      have h4 : Keeps wh s0 s4 := by simp only [s4]; split <;> simp [h3]
      clear_value s4
      have h5 : Keeps wh s0 s5 := by simp only [s5]; split <;> simp [h4]
      clear_value s5
      have h6 : Keeps wh s0 s6 := keeps_firmwareStarts h5
      clear_value s6
      split <;> simp [h6]

@[simp] theorem keeps_calAfterReset {wh : What} {s0 : State} {calOk : Bool} {s : State} (h : Keeps wh s0 s) :
    Keeps wh s0 (calAfterReset calOk s) := by
  simp (maxDischargeDepth := 60) [calAfterReset, h]

@[simp] theorem keeps_imageAfterReset {wh : What} {s0 : State}  {s : State} (h : Keeps wh s0 s) (nm : wh.mem = false := by assumption) :
    Keeps wh s0 (imageAfterReset s) := by
  unfold imageAfterReset
  (repeat' split) <;> simp (maxDischargeDepth := 60) [*]

@[simp] theorem keeps_doDieRestartComplete {wh : What} {s0 : State} {slow : Nat} {calOk tenOk imgOk : Bool} {s : State} (h : Keeps wh s0 s) (nm : wh.mem = false := by assumption) (nt : wh.tb = false := by assumption) :
    Keeps wh s0 (doDieRestartComplete slow calOk tenOk imgOk s) := by
  simp (maxDischargeDepth := 60) [doDieRestartComplete, h, nm, nt]

@[simp] theorem keeps_releaseHold {wh : What} {s0 : State}  {s : State} (h : Keeps wh s0 s) (nm : wh.mem = false := by assumption) :
    Keeps wh s0 (releaseHold s) := by
  simp (maxDischargeDepth := 60) [releaseHold, h, nm]

@[simp] theorem keeps_endAcquisition {wh : What} {s0 : State} {raw keepStopped : Bool} {s : State} (h : Keeps wh s0 s) (nm : wh.mem = false := by assumption) :
    Keeps wh s0 (endAcquisition raw keepStopped s) := by
  simp (maxDischargeDepth := 60) [endAcquisition, h, nm]

@[simp] theorem keeps_startSleep {wh : What} {s0 : State}  {s : State} (h : Keeps wh s0 s) (nm : wh.mem = false := by assumption) :
    Keeps wh s0 (startSleep s) := by
  simp (maxDischargeDepth := 60) [startSleep, h, nm]

@[simp] theorem keeps_doSleepEntryComplete {wh : What} {s0 : State}  {s : State} (h : Keeps wh s0 s) :
    Keeps wh s0 (doSleepEntryComplete s) := by
  simp (maxDischargeDepth := 60) [doSleepEntryComplete, h]

@[simp] theorem keeps_startWake {wh : What} {s0 : State} {src : Nat} {ch : Option Nat} {s : State} (h : Keeps wh s0 s) :
    Keeps wh s0 (startWake src ch s) := by
  simp (maxDischargeDepth := 60) [startWake, h]

@[simp] theorem keeps_doWake {wh : What} {s0 : State} {serial : BitVec 64} {s : State} (h : Keeps wh s0 s) :
    Keeps wh s0 (doWake serial s) := by
  simp (maxDischargeDepth := 60) [doWake, h]

@[simp] theorem keeps_doTrgWakeEdge {wh : What} {s0 : State} {n : Nat} {s : State} (h : Keeps wh s0 s) :
    Keeps wh s0 (doTrgWakeEdge n s) := by
  unfold doTrgWakeEdge
  (repeat' split) <;> simp (maxDischargeDepth := 60) [*]

@[simp] theorem keeps_doCompareWake {wh : What} {s0 : State} {k : Fin 32} {slow : Nat} {s : State} (h : Keeps wh s0 s) :
    Keeps wh s0 (doCompareWake k slow s) := by
  simp (maxDischargeDepth := 60) [doCompareWake, h]

@[simp] theorem keeps_doSleepWatchdogWake {wh : What} {s0 : State}  {s : State} (h : Keeps wh s0 s) :
    Keeps wh s0 (doSleepWatchdogWake s) := by
  simp (maxDischargeDepth := 60) [doSleepWatchdogWake, h]

@[simp] theorem keeps_doClockMonitorWindow {wh : What} {s0 : State} {count : Nat} {s : State} (h : Keeps wh s0 s) :
    Keeps wh s0 (doClockMonitorWindow count s) := by
  simp (maxDischargeDepth := 60) [doClockMonitorWindow, h]

@[simp] theorem keeps_doPfWarning {wh : What} {s0 : State} {cause : Fin 2} {bulk : BitVec 16} {s : State} (h : Keeps wh s0 s) (nm : wh.mem = false := by assumption) :
    Keeps wh s0 (doPfWarning cause bulk s) := by
  unfold doPfWarning
  have hs : ∀ t, Keeps wh s0 t → Keeps wh s0 (forEach (List.range 4) (fun n s => modSession n (fun _ => {})
      (if (getSession s n).opened = true then raise 0x1233 [.h n, .h 4] s else s)) t) := by
    refine fun t ht => keeps_forEach ht fun n t => keeps_modSession' ?_ fun _ _ => by simp [Session.bounded]
    split <;> simp
  split
  · exact h
  · extract_lets s1 s2 s3 s4 s5 s6 s7 s8 s9 s10 s11 s12 s13
    have h5 : Keeps wh s0 s5 := keeps_endWrites (keeps_discardChange (keeps_enginesOff (keeps_coolerOff (keeps_shedSwitches
      (keeps_onFlt (keeps_raise (keeps_onPwr h)) rfl rfl)))))
    clear_value s5
    have h6 : Keeps wh s0 s6 := hs _ h5
    clear_value s6
    have h8 : Keeps wh s0 s8 := keeps_failKeyStore (keeps_endCalStore (keeps_dropApply (keeps_onCfg (keeps_abortRun (keeps_abandonCommit h6)))))
    clear_value s8
    have h10 : Keeps wh s0 s10 := keeps_endAcquisition (keeps_onPwr h8)
    clear_value s10
    exact keeps_onPwr (keeps_rememberCartridge (keeps_injectTrigger (keeps_finishStreams (keeps_discardRings (keeps_discardRaw (keeps_closeSteward h10))))))

@[simp] theorem keeps_pumpPark {wh : What} {s0 : State}  {s : State} (h : Keeps wh s0 s) :
    Keeps wh s0 (pumpPark s) := by
  simp (maxDischargeDepth := 60) [pumpPark, h]

@[simp] theorem keeps_doLinkHoldExpired {wh : What} {s0 : State}  {s : State} (h : Keeps wh s0 s) :
    Keeps wh s0 (doLinkHoldExpired s) := by
  simp (maxDischargeDepth := 60) [doLinkHoldExpired, h]

@[simp] theorem keeps_park {wh : What} {s0 : State}  {s : State} (h : Keeps wh s0 s) :
    Keeps wh s0 (park s) := by
  simp (maxDischargeDepth := 60) [park, h]

@[simp] theorem keeps_doParked {wh : What} {s0 : State}  {s : State} (h : Keeps wh s0 s) :
    Keeps wh s0 (doParked s) := by
  simp (maxDischargeDepth := 60) [doParked, h]

@[simp] theorem keeps_doEmergOverrun {wh : What} {s0 : State}  {s : State} (h : Keeps wh s0 s) :
    Keeps wh s0 (doEmergOverrun s) := by
  simp (maxDischargeDepth := 60) [doEmergOverrun, h]

@[simp] theorem keeps_doAlwaysOnPowerLoss {wh : What} {s0 : State}  {s : State} (h : Keeps wh s0 s) :
    Keeps wh s0 (doAlwaysOnPowerLoss s) := by
  simp (maxDischargeDepth := 60) [doAlwaysOnPowerLoss, h]

@[simp] theorem keeps_doSysLockLost {wh : What} {s0 : State} {err : Int} {s : State} (h : Keeps wh s0 s) :
    Keeps wh s0 (doSysLockLost err s) := by
  simp (maxDischargeDepth := 60) [doSysLockLost, h]

@[simp] theorem keeps_dropDatagram {wh : What} {s0 : State}  {s : State} (h : Keeps wh s0 s) :
    Keeps wh s0 (dropDatagram s) := by
  simp (maxDischargeDepth := 60) [dropDatagram, h]

@[simp] theorem keeps_doInit {wh : What} {s0 : State} {port : Fin 5} {ipv6 framed : Bool} {key : List Byte} {sigOk : Bool} {hostNonce : BitVec 128} {mtu flags minSev : Nat} {serial : BitVec 64} {s : State} (h : Keeps wh s0 s) :
    Keeps wh s0 (doInit port ipv6 framed key sigOk hostNonce mtu flags minSev serial s) := by
  unfold doInit
  have hn : ∀ {t : State} {x : Session} {n : Nat}, Keeps wh s0 t → x.evq = [] → Keeps wh s0 (modSession n (fun _ => x) t) :=
    fun ht hx => keeps_modSession' ht fun _ _ => by simp [Session.bounded, hx]
  simp only []
  (repeat' split) <;> first | (refine keeps_raise (keeps_onLcp (hn ?_ rfl) rfl); simp (maxDischargeDepth := 60) [h]) | simp (maxDischargeDepth := 60) [h]

@[simp] theorem keeps_readWords {wh : What} {s0 : State} {who : Initiator} {l : List Nat} {s : State} (h : Keeps wh s0 s) :
    Keeps wh s0 (readWords who l s).2 := by
  induction l generalizing s with
  | nil => exact h
  | cons a l ih => exact ih (keeps_busRead h)


@[simp] theorem keeps_readOp {wh : What} {s0 : State} {who : Initiator} {most room : Nat} {fixed : Bool} {a n : Nat} {s : State} (h : Keeps wh s0 s) :
    Keeps wh s0 (readOp who most room fixed a n s).2 := by
  unfold readOp
  simp only []
  (repeat' split) <;> simp (maxDischargeDepth := 60) [*]

@[simp] theorem keeps_writeWord {wh : What} {s0 : State} {who : Initiator} {a : Nat} {v : Word} {s : State} (h : Keeps wh s0 s) (nm : wh.mem = false := by assumption) :
    Keeps wh s0 (writeWord who a v s).2 := by
  simp (maxDischargeDepth := 60) [writeWord, h, nm]

@[simp] theorem keeps_writeOp {wh : What} {s0 : State} {who : Initiator} {a : Nat} {v : Word} {s : State} (h : Keeps wh s0 s) (nm : wh.mem = false := by assumption) :
    Keeps wh s0 (writeOp who a v s).2 := by
  simp (maxDischargeDepth := 60) [writeOp, h, nm]

@[simp] theorem keeps_compareBetween {wh : What} {s0 : State} {a : Nat} {s : State} (h : Keeps wh s0 s) :
    Keeps wh s0 (compareBetween a s) := by
  simp (maxDischargeDepth := 60) [compareBetween, h]

@[simp] theorem keeps_writeWords {wh : What} {s0 : State} {who : Initiator} {l : List (Nat × Word)} {n : Nat} {s : State} (h : Keeps wh s0 s)
    (nm : wh.mem = false := by assumption) : Keeps wh s0 (writeWords who l n s).2 := by
  induction l generalizing s n with
  | nil => exact h
  | cons a l ih =>
    obtain ⟨a, v⟩ := a
    unfold writeWords
    have := keeps_writeWord (who := who) (a := a) (v := v) h
    split <;> rename_i he <;> rw [he] at this
    · exact ih (keeps_compareBetween this)
    · exact this


@[simp] theorem keeps_bulkWriteOp {wh : What} {s0 : State} {who : Initiator} {fixed : Bool} {a : Nat} {l : List Word} {s : State} (h : Keeps wh s0 s) (nm : wh.mem = false := by assumption) :
    Keeps wh s0 (bulkWriteOp who fixed a l s).2 := by
  unfold bulkWriteOp
  simp only []
  (repeat' split) <;> simp (maxDischargeDepth := 60) [*]

@[simp] theorem keeps_rmwOp {wh : What} {s0 : State} {who : Initiator} {a : Nat} {mask v : Word} {s : State} (h : Keeps wh s0 s) (nm : wh.mem = false := by assumption) :
    Keeps wh s0 (rmwOp who a mask v s).2 := by
  simp (maxDischargeDepth := 60) [rmwOp, h, nm]

@[simp] theorem keeps_fuseOp {wh : What} {s0 : State} {n subop w : Nat} {v : Word} {serial : BitVec 64} {s : State} (h : Keeps wh s0 s) :
    Keeps wh s0 (fuseOp n subop w v serial s).2 := by
  simp (maxDischargeDepth := 60) [fuseOp, h]

@[simp] theorem keeps_sleepOp {wh : What} {s0 : State}  {s : State} (h : Keeps wh s0 s) (nm : wh.mem = false := by assumption) :
    Keeps wh s0 (sleepOp s).2 := by
  simp (maxDischargeDepth := 60) [sleepOp, h, nm]

@[simp] theorem keeps_releaseOp {wh : What} {s0 : State}  {s : State} (h : Keeps wh s0 s) (nm : wh.mem = false := by assumption) :
    Keeps wh s0 (releaseOp s).2 := by
  simp (maxDischargeDepth := 60) [releaseOp, h, nm]

@[simp] theorem keeps_stewardOp {wh : What} {s0 : State} {n : Nat} {op : LcpOp} {s : State} (h : Keeps wh s0 s) (nm : wh.mem = false := by assumption) :
    Keeps wh s0 (stewardOp n op s).2 := by
  unfold stewardOp
  simp only []
  split
  · exact h
  · (repeat' split) <;> simp (maxDischargeDepth := 60) [now, h, nm]

@[simp] theorem keeps_runRequest {wh : What} {s0 : State} {n : Nat} {op : LcpOp} {s : State} (h : Keeps wh s0 s) (nm : wh.mem = false := by assumption) :
    Keeps wh s0 (runRequest n op s) := by
  unfold runRequest
  have := keeps_stewardOp (n := n) (op := op) h
  split <;> rename_i he <;> rw [he] at this
  · simp only []
    split <;> simp (maxDischargeDepth := 60) [this]
  · exact this

@[simp] theorem keeps_sessionOp {wh : What} {s0 : State} {n : Fin 4} {op : LcpOp} {s : State} (h : Keeps wh s0 s) (nm : wh.mem = false := by assumption) :
    Keeps wh s0 (sessionOp n op s) := by
  simp (maxDischargeDepth := 60) [sessionOp, h, nm]

@[simp] theorem keeps_nextRequest {wh : What} {s0 : State} {n : Nat} {s : State} (h : Keeps wh s0 s) (nm : wh.mem = false := by assumption) :
    Keeps wh s0 (nextRequest n s) := by
  unfold nextRequest
  simp only []
  (repeat' split) <;> simp (maxDischargeDepth := 60) [*]

@[simp] theorem keeps_pumpRequests {wh : What} {s0 : State}  {s : State} (h : Keeps wh s0 s) (nm : wh.mem = false := by assumption) :
    Keeps wh s0 (pumpRequests s) := by
  simp (maxDischargeDepth := 60) [pumpRequests, h, nm]

@[simp] theorem keeps_authFailed {wh : What} {s0 : State} {n : Nat} {s : State} (h : Keeps wh s0 s) :
    Keeps wh s0 (authFailed n s) := by
  simp (maxDischargeDepth := 60) [authFailed, h]

@[simp] theorem keeps_doStewardReq {wh : What} {s0 : State} {n : Fin 4} {port : Fin 5} {framed tagOk : Bool} {req : BitVec 64} {op : LcpOp} {s : State} (h : Keeps wh s0 s) (nm : wh.mem = false := by assumption) :
    Keeps wh s0 (doStewardReq n port framed tagOk req op s) := by
  unfold doStewardReq
  simp only []
  (repeat' split) <;> simp (maxDischargeDepth := 60) [*]

@[simp] theorem keeps_doSessionTimeout {wh : What} {s0 : State} {n : Fin 4} {s : State} (h : Keeps wh s0 s) :
    Keeps wh s0 (doSessionTimeout n s) := by
  simp (maxDischargeDepth := 60) [doSessionTimeout, h]

@[simp] theorem keeps_sendEvents {wh : What} {s0 : State} {n : Nat} {s : State} (h : Keeps wh s0 s) :
    Keeps wh s0 (sendEvents n s) := by
  unfold sendEvents
  refine keeps_onLcp (keeps_modSession' h fun x b => ?_) rfl
  unfold Session.bounded at *
  simp only [List.length_drop]; omega

@[simp] theorem keeps_doEventFlush {wh : What} {s0 : State} {n : Fin 4} {s : State} (h : Keeps wh s0 s) :
    Keeps wh s0 (doEventFlush n s) := by
  simp (maxDischargeDepth := 60) [doEventFlush, h]

@[simp] theorem keeps_pumpEvents {wh : What} {s0 : State}  {s : State} (h : Keeps wh s0 s) :
    Keeps wh s0 (pumpEvents s) := by
  simp (maxDischargeDepth := 60) [pumpEvents, h]

@[simp] theorem keeps_tenantRead {wh : What} {s0 : State} {t a n : Nat} {s : State} (h : Keeps wh s0 s) :
    Keeps wh s0 (tenantRead t a n s).2 := by
  unfold tenantRead
  simp only []
  (repeat' split) <;> simp (maxDischargeDepth := 60) [*]

@[simp] theorem keeps_tenantOp {wh : What} {s0 : State} {t : Nat} {op : LcpOp} {s : State} (h : Keeps wh s0 s) (nm : wh.mem = false := by assumption) :
    Keeps wh s0 (tenantOp t op s).2 := by
  unfold tenantOp
  (repeat' split) <;> simp (maxDischargeDepth := 60) [*]

@[simp] theorem keeps_runTenant {wh : What} {s0 : State} {t : Nat} {req : BitVec 64} {op : LcpOp} {s : State} (h : Keeps wh s0 s) (nm : wh.mem = false := by assumption) :
    Keeps wh s0 (runTenant t req op s) := by
  simp (maxDischargeDepth := 60) [runTenant, h, nm]

@[simp] theorem keeps_doTenantRequestDequeue {wh : What} {s0 : State}  {s : State} (h : Keeps wh s0 s) (nm : wh.mem = false := by assumption) :
    Keeps wh s0 (doTenantRequestDequeue s) := by
  unfold doTenantRequestDequeue
  (repeat' split) <;> simp (maxDischargeDepth := 60) [*]

@[simp] theorem keeps_tenantDirect {wh : What} {s0 : State} {t : Fin 4096} {op : LcpOp} {s : State} (h : Keeps wh s0 s) (nm : wh.mem = false := by assumption) :
    Keeps wh s0 (tenantDirect t op s) := by
  simp (maxDischargeDepth := 60) [tenantDirect, h, nm]

@[simp] theorem keeps_doRetransmit {wh : What} {s0 : State} {tenant : Option (Fin 4096)} {n : Fin 4} {sid count first : Nat} {s : State} (h : Keeps wh s0 s) (nm : wh.mem = false := by assumption) :
    Keeps wh s0 (doRetransmit tenant n sid count first s) := by
  unfold doRetransmit
  (repeat' split) <;> simp (maxDischargeDepth := 60) [*]

@[simp] theorem keeps_fuseCommand {wh : What} {s0 : State} {via : Option (Fin 4)} {subop w : Nat} {v : Word} {s : State} (h : Keeps wh s0 s) (nm : wh.mem = false := by assumption) :
    Keeps wh s0 (fuseCommand via subop w v s) := by
  unfold fuseCommand
  (repeat' split) <;> simp (maxDischargeDepth := 60) [*]

@[simp] theorem keeps_doRasterLineBoundary {wh : What} {s0 : State}  {s : State} (h : Keeps wh s0 s) :
    Keeps wh s0 (doRasterLineBoundary s) := by
  simp (maxDischargeDepth := 60) [doRasterLineBoundary, h]

@[simp] theorem keeps_frameMeasured {wh : What} {s0 : State}  {s : State} (h : Keeps wh s0 s) :
    Keeps wh s0 (frameMeasured s) := by
  unfold frameMeasured
  (repeat' split) <;> simp (maxDischargeDepth := 60) [*]

@[simp] theorem keeps_markFrame {wh : What} {s0 : State}  {s : State} (h : Keeps wh s0 s) :
    Keeps wh s0 (markFrame s) := by
  simp (maxDischargeDepth := 60) [markFrame, h]

@[simp] theorem keeps_schedulerBoundary {wh : What} {s0 : State} {stalled : Bool} {s : State} (h : Keeps wh s0 s) (nm : wh.mem = false := by assumption) :
    Keeps wh s0 (schedulerBoundary stalled s) := by
  simp (maxDischargeDepth := 60) [schedulerBoundary, h, nm]

@[simp] theorem keeps_geometryGap {wh : What} {s0 : State} {f : Nat} {s : State} (h : Keeps wh s0 s) :
    Keeps wh s0 (geometryGap f s) := by
  simp (maxDischargeDepth := 60) [geometryGap, h]

@[simp] theorem keeps_frameStarts {wh : What} {s0 : State} {f : Nat} {s : State} (h : Keeps wh s0 s) (nf : wh.f = false := by assumption) :
    Keeps wh s0 (frameStarts f s) := by
  simp (maxDischargeDepth := 60) [frameStarts, h, nf]

@[simp] theorem keeps_frameDrives {wh : What} {s0 : State} {stalled : Bool} {s : State} (h : Keeps wh s0 s) (nm : wh.mem = false := by assumption) :
    Keeps wh s0 (frameDrives stalled s) := by
  simp (maxDischargeDepth := 60) [frameDrives, h, nm]

@[simp] theorem keeps_doRasterFrameBoundary {wh : What} {s0 : State} {stalled : Bool} {s : State} (h : Keeps wh s0 s) (nm : wh.mem = false := by assumption) (nf : wh.f = false := by assumption) :
    Keeps wh s0 (doRasterFrameBoundary stalled s) := by
  unfold doRasterFrameBoundary
  (repeat' split) <;> simp (maxDischargeDepth := 60) [*]

@[simp] theorem keeps_flagTick {wh : What} {s0 : State}  {s : State} (h : Keeps wh s0 s) :
    Keeps wh s0 (flagTick s) := by
  simp (maxDischargeDepth := 60) [flagTick, h]

@[simp] theorem keeps_delayedPulses {wh : What} {s0 : State}  {s : State} (h : Keeps wh s0 s) :
    Keeps wh s0 (delayedPulses s) := by
  simp (maxDischargeDepth := 60) [delayedPulses, h]

@[simp] theorem keeps_pllTick {wh : What} {s0 : State}  {s : State} (h : Keeps wh s0 s) :
    Keeps wh s0 (pllTick s) := by
  simp (maxDischargeDepth := 60) [pllTick, h]

@[simp] theorem keeps_unitTick {wh : What} {s0 : State} {u : Nat} {s : State} (h : Keeps wh s0 s) :
    Keeps wh s0 (unitTick u s) := by
  simp (maxDischargeDepth := 60) [unitTick, h]

@[simp] theorem keeps_timerTick {wh : What} {s0 : State}  {s : State} (h : Keeps wh s0 s) :
    Keeps wh s0 (timerTick s) := by
  simp (maxDischargeDepth := 60) [timerTick, h]

@[simp] theorem keeps_laneTick {wh : What} {s0 : State}  {s : State} (h : Keeps wh s0 s) :
    Keeps wh s0 (laneTick s) := by
  simp (maxDischargeDepth := 60) [laneTick, h]

@[simp] theorem keeps_leaseTick {wh : What} {s0 : State}  {s : State} (h : Keeps wh s0 s) (nm : wh.mem = false := by assumption) :
    Keeps wh s0 (leaseTick s) := by
  simp (maxDischargeDepth := 60) [leaseTick, h, nm]

@[simp] theorem keeps_rootTick {wh : What} {s0 : State}  {s : State} (h : Keeps wh s0 s) :
    Keeps wh s0 (rootTick s) := by
  simp (maxDischargeDepth := 60) [rootTick, h]

@[simp] theorem keeps_storeTick {wh : What} {s0 : State}  {s : State} (h : Keeps wh s0 s) :
    Keeps wh s0 (storeTick s) := by
  simp (maxDischargeDepth := 60) [storeTick, h]

@[simp] theorem keeps_lcpTick {wh : What} {s0 : State}  {s : State} (h : Keeps wh s0 s) (nm : wh.mem = false := by assumption) :
    Keeps wh s0 (lcpTick s) := by
  simp (maxDischargeDepth := 60) [lcpTick, h, nm]

@[simp] theorem keeps_changeTick {wh : What} {s0 : State}  {s : State} (h : Keeps wh s0 s) (nm : wh.mem = false := by assumption) :
    Keeps wh s0 (changeTick s) := by
  simp (maxDischargeDepth := 60) [changeTick, h, nm]

@[simp] theorem keeps_powerTick {wh : What} {s0 : State}  {s : State} (h : Keeps wh s0 s) :
    Keeps wh s0 (powerTick s) := by
  simp (maxDischargeDepth := 60) [powerTick, h]

@[simp] theorem keeps_resultTick {wh : What} {s0 : State}  {s : State} (h : Keeps wh s0 s) (nm : wh.mem = false := by assumption) :
    Keeps wh s0 (resultTick s) := by
  simp (maxDischargeDepth := 60) [resultTick, h, nm]

@[simp] theorem keeps_linkTick {wh : What} {s0 : State}  {s : State} (h : Keeps wh s0 s) (nm : wh.mem = false := by assumption) :
    Keeps wh s0 (linkTick s) := by
  simp (maxDischargeDepth := 60) [linkTick, h, nm]

@[simp] theorem keeps_wakeTick {wh : What} {s0 : State}  {s : State} (h : Keeps wh s0 s) :
    Keeps wh s0 (wakeTick s) := by
  simp (maxDischargeDepth := 60) [wakeTick, h]

@[simp] theorem keeps_ladderTick {wh : What} {s0 : State}  {s : State} (h : Keeps wh s0 s) (nm : wh.mem = false := by assumption) (nt : wh.tb = false := by assumption) (nl : wh.locks = false := by assumption) (nf : wh.f = false := by assumption) :
    Keeps wh s0 (ladderTick s) := by
  simp (maxDischargeDepth := 60) [ladderTick, h, nm, nt, nl, nf]

@[simp] theorem keeps_settle {wh : What} {s0 : State}  {s : State} (h : Keeps wh s0 s) (nm : wh.mem = false := by assumption) (nt : wh.tb = false := by assumption) (nl : wh.locks = false := by assumption) (nf : wh.f = false := by assumption) :
    Keeps wh s0 (settle s) := by
  simp (maxDischargeDepth := 60) [settle, h, nm, nt, nl, nf]

@[simp] theorem keeps_idle {wh : What} {s0 : State}  {s : State} (h : Keeps wh s0 s) (nm : wh.mem = false := by assumption) (nt : wh.tb = false := by assumption) (nl : wh.locks = false := by assumption) (nf : wh.f = false := by assumption) :
    Keeps wh s0 (idle s) := by
  simp (maxDischargeDepth := 60) [idle, h, nm, nt, nl, nf]

@[simp] theorem keeps_doTodSecondRollover {wh : What} {s0 : State}  {s : State} (h : Keeps wh s0 s) (nm : wh.mem = false := by assumption) (nt : wh.tb = false := by assumption) (nl : wh.locks = false := by assumption) (nf : wh.f = false := by assumption) :
    Keeps wh s0 (doTodSecondRollover s) := by
  simp (maxDischargeDepth := 60) [doTodSecondRollover, h, nm, nt, nl, nf]

@[simp] theorem keeps_doCompareMatch {wh : What} {s0 : State} {k : Fin 32} {s : State} (h : Keeps wh s0 s) :
    Keeps wh s0 (doCompareMatch k s) := by
  simp (maxDischargeDepth := 60) [doCompareMatch, h]

@[simp] theorem keeps_doCoolerSample {wh : What} {s0 : State} {hot sensor power : BitVec 16} {plateOk : Bool} {s : State} (h : Keeps wh s0 s) :
    Keeps wh s0 (doCoolerSample hot sensor power plateOk s) := by
  simp (maxDischargeDepth := 60) [doCoolerSample, h]

@[simp] theorem keeps_doCtgRemoved {wh : What} {s0 : State}  {s : State} (h : Keeps wh s0 s) :
    Keeps wh s0 (doCtgRemoved s) := by
  simp (maxDischargeDepth := 60) [doCtgRemoved, h]

@[simp] theorem keeps_doCtgIdentityRead {wh : What} {s0 : State} {mem : List (Nat × Byte)} {s : State} (h : Keeps wh s0 s) :
    Keeps wh s0 (doCtgIdentityRead mem s) := by
  simp (maxDischargeDepth := 60) [doCtgIdentityRead, h]

@[simp] theorem keeps_doShutterFault {wh : What} {s0 : State}  {s : State} (h : Keeps wh s0 s) :
    Keeps wh s0 (doShutterFault s) := by
  simp (maxDischargeDepth := 60) [doShutterFault, h]

@[simp] theorem keeps_doFilterLate {wh : What} {s0 : State}  {s : State} (h : Keeps wh s0 s) :
    Keeps wh s0 (doFilterLate s) := by
  simp (maxDischargeDepth := 60) [doFilterLate, h]

@[simp] theorem keeps_doTrackerStepComplete {wh : What} {s0 : State} {p0 p1 p2 p3 : Option (BitVec 16)} {taken : Nat} {s : State} (h : Keeps wh s0 s) :
    Keeps wh s0 (doTrackerStepComplete p0 p1 p2 p3 taken s) := by
  unfold doTrackerStepComplete
  (repeat' split) <;> simp (maxDischargeDepth := 60) [*]

@[simp] theorem keeps_doAccWindowClose {wh : What} {s0 : State} {a : Fin 256} {s : State} (h : Keeps wh s0 s) :
    Keeps wh s0 (doAccWindowClose a s) := by
  simp (maxDischargeDepth := 60) [doAccWindowClose, h]

@[simp] theorem keeps_doMsTick {wh : What} {s0 : State}  {s : State} (h : Keeps wh s0 s) :
    Keeps wh s0 (doMsTick s) := by
  simp (maxDischargeDepth := 60) [doMsTick, h]

@[simp] theorem keeps_doLineMissing {wh : What} {s0 : State} {src : Source} {s : State} (h : Keeps wh s0 s) :
    Keeps wh s0 (doLineMissing src s) := by
  simp (maxDischargeDepth := 60) [doLineMissing, h]

end Sys2Proof.Machine
end

