-- ==== Sys2Proof/Laws/State.lean ====
section
/-! SUPPORT. One lemma for each field of the state and each update of a block, so that no proof unfolds a record update. -/

namespace Sys2Proof.Machine

/-! ## `State.onHead` -/

@[simp] theorem onHead_head (s : State) (g : Head → Head) : (s.onHead g).head = g s.head := rfl
@[simp] theorem onHead_rru (s : State) (g : Head → Head) : (s.onHead g).rru = s.rru := rfl
@[simp] theorem onHead_tmb (s : State) (g : Head → Head) : (s.onHead g).tmb = s.tmb := rfl
@[simp] theorem onHead_sns (s : State) (g : Head → Head) : (s.onHead g).sns = s.sns := rfl
@[simp] theorem onHead_cro (s : State) (g : Head → Head) : (s.onHead g).cro = s.cro := rfl
@[simp] theorem onHead_exs (s : State) (g : Head → Head) : (s.onHead g).exs = s.exs := rfl
@[simp] theorem onHead_pat (s : State) (g : Head → Head) : (s.onHead g).pat = s.pat := rfl
@[simp] theorem onHead_cal (s : State) (g : Head → Head) : (s.onHead g).cal = s.cal := rfl
@[simp] theorem onHead_ctg (s : State) (g : Head → Head) : (s.onHead g).ctg = s.ctg := rfl
@[simp] theorem onHead_trc (s : State) (g : Head → Head) : (s.onHead g).trc = s.trc := rfl
@[simp] theorem onHead_tge (s : State) (g : Head → Head) : (s.onHead g).tge = s.tge := rfl
@[simp] theorem onHead_cfg (s : State) (g : Head → Head) : (s.onHead g).cfg = s.cfg := rfl
@[simp] theorem onHead_chg (s : State) (g : Head → Head) : (s.onHead g).chg = s.chg := rfl
@[simp] theorem onHead_lnk (s : State) (g : Head → Head) : (s.onHead g).lnk = s.lnk := rfl
@[simp] theorem onHead_ten (s : State) (g : Head → Head) : (s.onHead g).ten = s.ten := rfl
@[simp] theorem onHead_lcp (s : State) (g : Head → Head) : (s.onHead g).lcp = s.lcp := rfl
@[simp] theorem onHead_mos (s : State) (g : Head → Head) : (s.onHead g).mos = s.mos := rfl
@[simp] theorem onHead_fus (s : State) (g : Head → Head) : (s.onHead g).fus = s.fus := rfl
@[simp] theorem onHead_pwr (s : State) (g : Head → Head) : (s.onHead g).pwr = s.pwr := rfl
@[simp] theorem onHead_sup (s : State) (g : Head → Head) : (s.onHead g).sup = s.sup := rfl
@[simp] theorem onHead_flt (s : State) (g : Head → Head) : (s.onHead g).flt = s.flt := rfl
@[simp] theorem onHead_regs (s : State) (g : Head → Head) : (s.onHead g).regs = s.regs := rfl
@[simp] theorem onHead_staged (s : State) (g : Head → Head) : (s.onHead g).staged = s.staged := rfl
@[simp] theorem onHead_justStaged (s : State) (g : Head → Head) : (s.onHead g).justStaged = s.justStaged := rfl
@[simp] theorem onHead_fresh (s : State) (g : Head → Head) : (s.onHead g).fresh = s.fresh := rfl
@[simp] theorem onHead_shadows (s : State) (g : Head → Head) : (s.onHead g).shadows = s.shadows := rfl
@[simp] theorem onHead_mem (s : State) (g : Head → Head) : (s.onHead g).mem = s.mem := rfl
@[simp] theorem onHead_freeCount (s : State) (g : Head → Head) : (s.onHead g).freeCount = s.freeCount := rfl
@[simp] theorem onHead_pending (s : State) (g : Head → Head) : (s.onHead g).pending = s.pending := rfl
@[simp] theorem onHead_now (s : State) (g : Head → Head) : (s.onHead g).now = s.now := rfl

/-! ## `State.onRru` -/

@[simp] theorem onRru_head (s : State) (g : Rru → Rru) : (s.onRru g).head = s.head := rfl
@[simp] theorem onRru_rru (s : State) (g : Rru → Rru) : (s.onRru g).rru = g s.rru := rfl
@[simp] theorem onRru_tmb (s : State) (g : Rru → Rru) : (s.onRru g).tmb = s.tmb := rfl
@[simp] theorem onRru_sns (s : State) (g : Rru → Rru) : (s.onRru g).sns = s.sns := rfl
@[simp] theorem onRru_cro (s : State) (g : Rru → Rru) : (s.onRru g).cro = s.cro := rfl
@[simp] theorem onRru_exs (s : State) (g : Rru → Rru) : (s.onRru g).exs = s.exs := rfl
@[simp] theorem onRru_pat (s : State) (g : Rru → Rru) : (s.onRru g).pat = s.pat := rfl
@[simp] theorem onRru_cal (s : State) (g : Rru → Rru) : (s.onRru g).cal = s.cal := rfl
@[simp] theorem onRru_ctg (s : State) (g : Rru → Rru) : (s.onRru g).ctg = s.ctg := rfl
@[simp] theorem onRru_trc (s : State) (g : Rru → Rru) : (s.onRru g).trc = s.trc := rfl
@[simp] theorem onRru_tge (s : State) (g : Rru → Rru) : (s.onRru g).tge = s.tge := rfl
@[simp] theorem onRru_cfg (s : State) (g : Rru → Rru) : (s.onRru g).cfg = s.cfg := rfl
@[simp] theorem onRru_chg (s : State) (g : Rru → Rru) : (s.onRru g).chg = s.chg := rfl
@[simp] theorem onRru_lnk (s : State) (g : Rru → Rru) : (s.onRru g).lnk = s.lnk := rfl
@[simp] theorem onRru_ten (s : State) (g : Rru → Rru) : (s.onRru g).ten = s.ten := rfl
@[simp] theorem onRru_lcp (s : State) (g : Rru → Rru) : (s.onRru g).lcp = s.lcp := rfl
@[simp] theorem onRru_mos (s : State) (g : Rru → Rru) : (s.onRru g).mos = s.mos := rfl
@[simp] theorem onRru_fus (s : State) (g : Rru → Rru) : (s.onRru g).fus = s.fus := rfl
@[simp] theorem onRru_pwr (s : State) (g : Rru → Rru) : (s.onRru g).pwr = s.pwr := rfl
@[simp] theorem onRru_sup (s : State) (g : Rru → Rru) : (s.onRru g).sup = s.sup := rfl
@[simp] theorem onRru_flt (s : State) (g : Rru → Rru) : (s.onRru g).flt = s.flt := rfl
@[simp] theorem onRru_regs (s : State) (g : Rru → Rru) : (s.onRru g).regs = s.regs := rfl
@[simp] theorem onRru_staged (s : State) (g : Rru → Rru) : (s.onRru g).staged = s.staged := rfl
@[simp] theorem onRru_justStaged (s : State) (g : Rru → Rru) : (s.onRru g).justStaged = s.justStaged := rfl
@[simp] theorem onRru_fresh (s : State) (g : Rru → Rru) : (s.onRru g).fresh = s.fresh := rfl
@[simp] theorem onRru_shadows (s : State) (g : Rru → Rru) : (s.onRru g).shadows = s.shadows := rfl
@[simp] theorem onRru_mem (s : State) (g : Rru → Rru) : (s.onRru g).mem = s.mem := rfl
@[simp] theorem onRru_freeCount (s : State) (g : Rru → Rru) : (s.onRru g).freeCount = s.freeCount := rfl
@[simp] theorem onRru_pending (s : State) (g : Rru → Rru) : (s.onRru g).pending = s.pending := rfl
@[simp] theorem onRru_now (s : State) (g : Rru → Rru) : (s.onRru g).now = s.now := rfl

/-! ## `State.onTmb` -/

@[simp] theorem onTmb_head (s : State) (g : Tmb → Tmb) : (s.onTmb g).head = s.head := rfl
@[simp] theorem onTmb_rru (s : State) (g : Tmb → Tmb) : (s.onTmb g).rru = s.rru := rfl
@[simp] theorem onTmb_tmb (s : State) (g : Tmb → Tmb) : (s.onTmb g).tmb = g s.tmb := rfl
@[simp] theorem onTmb_sns (s : State) (g : Tmb → Tmb) : (s.onTmb g).sns = s.sns := rfl
@[simp] theorem onTmb_cro (s : State) (g : Tmb → Tmb) : (s.onTmb g).cro = s.cro := rfl
@[simp] theorem onTmb_exs (s : State) (g : Tmb → Tmb) : (s.onTmb g).exs = s.exs := rfl
@[simp] theorem onTmb_pat (s : State) (g : Tmb → Tmb) : (s.onTmb g).pat = s.pat := rfl
@[simp] theorem onTmb_cal (s : State) (g : Tmb → Tmb) : (s.onTmb g).cal = s.cal := rfl
@[simp] theorem onTmb_ctg (s : State) (g : Tmb → Tmb) : (s.onTmb g).ctg = s.ctg := rfl
@[simp] theorem onTmb_trc (s : State) (g : Tmb → Tmb) : (s.onTmb g).trc = s.trc := rfl
@[simp] theorem onTmb_tge (s : State) (g : Tmb → Tmb) : (s.onTmb g).tge = s.tge := rfl
@[simp] theorem onTmb_cfg (s : State) (g : Tmb → Tmb) : (s.onTmb g).cfg = s.cfg := rfl
@[simp] theorem onTmb_chg (s : State) (g : Tmb → Tmb) : (s.onTmb g).chg = s.chg := rfl
@[simp] theorem onTmb_lnk (s : State) (g : Tmb → Tmb) : (s.onTmb g).lnk = s.lnk := rfl
@[simp] theorem onTmb_ten (s : State) (g : Tmb → Tmb) : (s.onTmb g).ten = s.ten := rfl
@[simp] theorem onTmb_lcp (s : State) (g : Tmb → Tmb) : (s.onTmb g).lcp = s.lcp := rfl
@[simp] theorem onTmb_mos (s : State) (g : Tmb → Tmb) : (s.onTmb g).mos = s.mos := rfl
@[simp] theorem onTmb_fus (s : State) (g : Tmb → Tmb) : (s.onTmb g).fus = s.fus := rfl
@[simp] theorem onTmb_pwr (s : State) (g : Tmb → Tmb) : (s.onTmb g).pwr = s.pwr := rfl
@[simp] theorem onTmb_sup (s : State) (g : Tmb → Tmb) : (s.onTmb g).sup = s.sup := rfl
@[simp] theorem onTmb_flt (s : State) (g : Tmb → Tmb) : (s.onTmb g).flt = s.flt := rfl
@[simp] theorem onTmb_regs (s : State) (g : Tmb → Tmb) : (s.onTmb g).regs = s.regs := rfl
@[simp] theorem onTmb_staged (s : State) (g : Tmb → Tmb) : (s.onTmb g).staged = s.staged := rfl
@[simp] theorem onTmb_justStaged (s : State) (g : Tmb → Tmb) : (s.onTmb g).justStaged = s.justStaged := rfl
@[simp] theorem onTmb_fresh (s : State) (g : Tmb → Tmb) : (s.onTmb g).fresh = s.fresh := rfl
@[simp] theorem onTmb_shadows (s : State) (g : Tmb → Tmb) : (s.onTmb g).shadows = s.shadows := rfl
@[simp] theorem onTmb_mem (s : State) (g : Tmb → Tmb) : (s.onTmb g).mem = s.mem := rfl
@[simp] theorem onTmb_freeCount (s : State) (g : Tmb → Tmb) : (s.onTmb g).freeCount = s.freeCount := rfl
@[simp] theorem onTmb_pending (s : State) (g : Tmb → Tmb) : (s.onTmb g).pending = s.pending := rfl
@[simp] theorem onTmb_now (s : State) (g : Tmb → Tmb) : (s.onTmb g).now = (g s.tmb).tb.toNat := rfl

/-! ## `State.onSns` -/

@[simp] theorem onSns_head (s : State) (g : Sns → Sns) : (s.onSns g).head = s.head := rfl
@[simp] theorem onSns_rru (s : State) (g : Sns → Sns) : (s.onSns g).rru = s.rru := rfl
@[simp] theorem onSns_tmb (s : State) (g : Sns → Sns) : (s.onSns g).tmb = s.tmb := rfl
@[simp] theorem onSns_sns (s : State) (g : Sns → Sns) : (s.onSns g).sns = g s.sns := rfl
@[simp] theorem onSns_cro (s : State) (g : Sns → Sns) : (s.onSns g).cro = s.cro := rfl
@[simp] theorem onSns_exs (s : State) (g : Sns → Sns) : (s.onSns g).exs = s.exs := rfl
@[simp] theorem onSns_pat (s : State) (g : Sns → Sns) : (s.onSns g).pat = s.pat := rfl
@[simp] theorem onSns_cal (s : State) (g : Sns → Sns) : (s.onSns g).cal = s.cal := rfl
@[simp] theorem onSns_ctg (s : State) (g : Sns → Sns) : (s.onSns g).ctg = s.ctg := rfl
@[simp] theorem onSns_trc (s : State) (g : Sns → Sns) : (s.onSns g).trc = s.trc := rfl
@[simp] theorem onSns_tge (s : State) (g : Sns → Sns) : (s.onSns g).tge = s.tge := rfl
@[simp] theorem onSns_cfg (s : State) (g : Sns → Sns) : (s.onSns g).cfg = s.cfg := rfl
@[simp] theorem onSns_chg (s : State) (g : Sns → Sns) : (s.onSns g).chg = s.chg := rfl
@[simp] theorem onSns_lnk (s : State) (g : Sns → Sns) : (s.onSns g).lnk = s.lnk := rfl
@[simp] theorem onSns_ten (s : State) (g : Sns → Sns) : (s.onSns g).ten = s.ten := rfl
@[simp] theorem onSns_lcp (s : State) (g : Sns → Sns) : (s.onSns g).lcp = s.lcp := rfl
@[simp] theorem onSns_mos (s : State) (g : Sns → Sns) : (s.onSns g).mos = s.mos := rfl
@[simp] theorem onSns_fus (s : State) (g : Sns → Sns) : (s.onSns g).fus = s.fus := rfl
@[simp] theorem onSns_pwr (s : State) (g : Sns → Sns) : (s.onSns g).pwr = s.pwr := rfl
@[simp] theorem onSns_sup (s : State) (g : Sns → Sns) : (s.onSns g).sup = s.sup := rfl
@[simp] theorem onSns_flt (s : State) (g : Sns → Sns) : (s.onSns g).flt = s.flt := rfl
@[simp] theorem onSns_regs (s : State) (g : Sns → Sns) : (s.onSns g).regs = s.regs := rfl
@[simp] theorem onSns_staged (s : State) (g : Sns → Sns) : (s.onSns g).staged = s.staged := rfl
@[simp] theorem onSns_justStaged (s : State) (g : Sns → Sns) : (s.onSns g).justStaged = s.justStaged := rfl
@[simp] theorem onSns_fresh (s : State) (g : Sns → Sns) : (s.onSns g).fresh = s.fresh := rfl
@[simp] theorem onSns_shadows (s : State) (g : Sns → Sns) : (s.onSns g).shadows = s.shadows := rfl
@[simp] theorem onSns_mem (s : State) (g : Sns → Sns) : (s.onSns g).mem = s.mem := rfl
@[simp] theorem onSns_freeCount (s : State) (g : Sns → Sns) : (s.onSns g).freeCount = s.freeCount := rfl
@[simp] theorem onSns_pending (s : State) (g : Sns → Sns) : (s.onSns g).pending = s.pending := rfl
@[simp] theorem onSns_now (s : State) (g : Sns → Sns) : (s.onSns g).now = s.now := rfl

/-! ## `State.onCro` -/

@[simp] theorem onCro_head (s : State) (g : Cro → Cro) : (s.onCro g).head = s.head := rfl
@[simp] theorem onCro_rru (s : State) (g : Cro → Cro) : (s.onCro g).rru = s.rru := rfl
@[simp] theorem onCro_tmb (s : State) (g : Cro → Cro) : (s.onCro g).tmb = s.tmb := rfl
@[simp] theorem onCro_sns (s : State) (g : Cro → Cro) : (s.onCro g).sns = s.sns := rfl
@[simp] theorem onCro_cro (s : State) (g : Cro → Cro) : (s.onCro g).cro = g s.cro := rfl
@[simp] theorem onCro_exs (s : State) (g : Cro → Cro) : (s.onCro g).exs = s.exs := rfl
@[simp] theorem onCro_pat (s : State) (g : Cro → Cro) : (s.onCro g).pat = s.pat := rfl
@[simp] theorem onCro_cal (s : State) (g : Cro → Cro) : (s.onCro g).cal = s.cal := rfl
@[simp] theorem onCro_ctg (s : State) (g : Cro → Cro) : (s.onCro g).ctg = s.ctg := rfl
@[simp] theorem onCro_trc (s : State) (g : Cro → Cro) : (s.onCro g).trc = s.trc := rfl
@[simp] theorem onCro_tge (s : State) (g : Cro → Cro) : (s.onCro g).tge = s.tge := rfl
@[simp] theorem onCro_cfg (s : State) (g : Cro → Cro) : (s.onCro g).cfg = s.cfg := rfl
@[simp] theorem onCro_chg (s : State) (g : Cro → Cro) : (s.onCro g).chg = s.chg := rfl
@[simp] theorem onCro_lnk (s : State) (g : Cro → Cro) : (s.onCro g).lnk = s.lnk := rfl
@[simp] theorem onCro_ten (s : State) (g : Cro → Cro) : (s.onCro g).ten = s.ten := rfl
@[simp] theorem onCro_lcp (s : State) (g : Cro → Cro) : (s.onCro g).lcp = s.lcp := rfl
@[simp] theorem onCro_mos (s : State) (g : Cro → Cro) : (s.onCro g).mos = s.mos := rfl
@[simp] theorem onCro_fus (s : State) (g : Cro → Cro) : (s.onCro g).fus = s.fus := rfl
@[simp] theorem onCro_pwr (s : State) (g : Cro → Cro) : (s.onCro g).pwr = s.pwr := rfl
@[simp] theorem onCro_sup (s : State) (g : Cro → Cro) : (s.onCro g).sup = s.sup := rfl
@[simp] theorem onCro_flt (s : State) (g : Cro → Cro) : (s.onCro g).flt = s.flt := rfl
@[simp] theorem onCro_regs (s : State) (g : Cro → Cro) : (s.onCro g).regs = s.regs := rfl
@[simp] theorem onCro_staged (s : State) (g : Cro → Cro) : (s.onCro g).staged = s.staged := rfl
@[simp] theorem onCro_justStaged (s : State) (g : Cro → Cro) : (s.onCro g).justStaged = s.justStaged := rfl
@[simp] theorem onCro_fresh (s : State) (g : Cro → Cro) : (s.onCro g).fresh = s.fresh := rfl
@[simp] theorem onCro_shadows (s : State) (g : Cro → Cro) : (s.onCro g).shadows = s.shadows := rfl
@[simp] theorem onCro_mem (s : State) (g : Cro → Cro) : (s.onCro g).mem = s.mem := rfl
@[simp] theorem onCro_freeCount (s : State) (g : Cro → Cro) : (s.onCro g).freeCount = s.freeCount := rfl
@[simp] theorem onCro_pending (s : State) (g : Cro → Cro) : (s.onCro g).pending = s.pending := rfl
@[simp] theorem onCro_now (s : State) (g : Cro → Cro) : (s.onCro g).now = s.now := rfl

/-! ## `State.onExs` -/

@[simp] theorem onExs_head (s : State) (g : Exs → Exs) : (s.onExs g).head = s.head := rfl
@[simp] theorem onExs_rru (s : State) (g : Exs → Exs) : (s.onExs g).rru = s.rru := rfl
@[simp] theorem onExs_tmb (s : State) (g : Exs → Exs) : (s.onExs g).tmb = s.tmb := rfl
@[simp] theorem onExs_sns (s : State) (g : Exs → Exs) : (s.onExs g).sns = s.sns := rfl
@[simp] theorem onExs_cro (s : State) (g : Exs → Exs) : (s.onExs g).cro = s.cro := rfl
@[simp] theorem onExs_exs (s : State) (g : Exs → Exs) : (s.onExs g).exs = g s.exs := rfl
@[simp] theorem onExs_pat (s : State) (g : Exs → Exs) : (s.onExs g).pat = s.pat := rfl
@[simp] theorem onExs_cal (s : State) (g : Exs → Exs) : (s.onExs g).cal = s.cal := rfl
@[simp] theorem onExs_ctg (s : State) (g : Exs → Exs) : (s.onExs g).ctg = s.ctg := rfl
@[simp] theorem onExs_trc (s : State) (g : Exs → Exs) : (s.onExs g).trc = s.trc := rfl
@[simp] theorem onExs_tge (s : State) (g : Exs → Exs) : (s.onExs g).tge = s.tge := rfl
@[simp] theorem onExs_cfg (s : State) (g : Exs → Exs) : (s.onExs g).cfg = s.cfg := rfl
@[simp] theorem onExs_chg (s : State) (g : Exs → Exs) : (s.onExs g).chg = s.chg := rfl
@[simp] theorem onExs_lnk (s : State) (g : Exs → Exs) : (s.onExs g).lnk = s.lnk := rfl
@[simp] theorem onExs_ten (s : State) (g : Exs → Exs) : (s.onExs g).ten = s.ten := rfl
@[simp] theorem onExs_lcp (s : State) (g : Exs → Exs) : (s.onExs g).lcp = s.lcp := rfl
@[simp] theorem onExs_mos (s : State) (g : Exs → Exs) : (s.onExs g).mos = s.mos := rfl
@[simp] theorem onExs_fus (s : State) (g : Exs → Exs) : (s.onExs g).fus = s.fus := rfl
@[simp] theorem onExs_pwr (s : State) (g : Exs → Exs) : (s.onExs g).pwr = s.pwr := rfl
@[simp] theorem onExs_sup (s : State) (g : Exs → Exs) : (s.onExs g).sup = s.sup := rfl
@[simp] theorem onExs_flt (s : State) (g : Exs → Exs) : (s.onExs g).flt = s.flt := rfl
@[simp] theorem onExs_regs (s : State) (g : Exs → Exs) : (s.onExs g).regs = s.regs := rfl
@[simp] theorem onExs_staged (s : State) (g : Exs → Exs) : (s.onExs g).staged = s.staged := rfl
@[simp] theorem onExs_justStaged (s : State) (g : Exs → Exs) : (s.onExs g).justStaged = s.justStaged := rfl
@[simp] theorem onExs_fresh (s : State) (g : Exs → Exs) : (s.onExs g).fresh = s.fresh := rfl
@[simp] theorem onExs_shadows (s : State) (g : Exs → Exs) : (s.onExs g).shadows = s.shadows := rfl
@[simp] theorem onExs_mem (s : State) (g : Exs → Exs) : (s.onExs g).mem = s.mem := rfl
@[simp] theorem onExs_freeCount (s : State) (g : Exs → Exs) : (s.onExs g).freeCount = s.freeCount := rfl
@[simp] theorem onExs_pending (s : State) (g : Exs → Exs) : (s.onExs g).pending = s.pending := rfl
@[simp] theorem onExs_now (s : State) (g : Exs → Exs) : (s.onExs g).now = s.now := rfl

/-! ## `State.onPat` -/

@[simp] theorem onPat_head (s : State) (g : Pat → Pat) : (s.onPat g).head = s.head := rfl
@[simp] theorem onPat_rru (s : State) (g : Pat → Pat) : (s.onPat g).rru = s.rru := rfl
@[simp] theorem onPat_tmb (s : State) (g : Pat → Pat) : (s.onPat g).tmb = s.tmb := rfl
@[simp] theorem onPat_sns (s : State) (g : Pat → Pat) : (s.onPat g).sns = s.sns := rfl
@[simp] theorem onPat_cro (s : State) (g : Pat → Pat) : (s.onPat g).cro = s.cro := rfl
@[simp] theorem onPat_exs (s : State) (g : Pat → Pat) : (s.onPat g).exs = s.exs := rfl
@[simp] theorem onPat_pat (s : State) (g : Pat → Pat) : (s.onPat g).pat = g s.pat := rfl
@[simp] theorem onPat_cal (s : State) (g : Pat → Pat) : (s.onPat g).cal = s.cal := rfl
@[simp] theorem onPat_ctg (s : State) (g : Pat → Pat) : (s.onPat g).ctg = s.ctg := rfl
@[simp] theorem onPat_trc (s : State) (g : Pat → Pat) : (s.onPat g).trc = s.trc := rfl
@[simp] theorem onPat_tge (s : State) (g : Pat → Pat) : (s.onPat g).tge = s.tge := rfl
@[simp] theorem onPat_cfg (s : State) (g : Pat → Pat) : (s.onPat g).cfg = s.cfg := rfl
@[simp] theorem onPat_chg (s : State) (g : Pat → Pat) : (s.onPat g).chg = s.chg := rfl
@[simp] theorem onPat_lnk (s : State) (g : Pat → Pat) : (s.onPat g).lnk = s.lnk := rfl
@[simp] theorem onPat_ten (s : State) (g : Pat → Pat) : (s.onPat g).ten = s.ten := rfl
@[simp] theorem onPat_lcp (s : State) (g : Pat → Pat) : (s.onPat g).lcp = s.lcp := rfl
@[simp] theorem onPat_mos (s : State) (g : Pat → Pat) : (s.onPat g).mos = s.mos := rfl
@[simp] theorem onPat_fus (s : State) (g : Pat → Pat) : (s.onPat g).fus = s.fus := rfl
@[simp] theorem onPat_pwr (s : State) (g : Pat → Pat) : (s.onPat g).pwr = s.pwr := rfl
@[simp] theorem onPat_sup (s : State) (g : Pat → Pat) : (s.onPat g).sup = s.sup := rfl
@[simp] theorem onPat_flt (s : State) (g : Pat → Pat) : (s.onPat g).flt = s.flt := rfl
@[simp] theorem onPat_regs (s : State) (g : Pat → Pat) : (s.onPat g).regs = s.regs := rfl
@[simp] theorem onPat_staged (s : State) (g : Pat → Pat) : (s.onPat g).staged = s.staged := rfl
@[simp] theorem onPat_justStaged (s : State) (g : Pat → Pat) : (s.onPat g).justStaged = s.justStaged := rfl
@[simp] theorem onPat_fresh (s : State) (g : Pat → Pat) : (s.onPat g).fresh = s.fresh := rfl
@[simp] theorem onPat_shadows (s : State) (g : Pat → Pat) : (s.onPat g).shadows = s.shadows := rfl
@[simp] theorem onPat_mem (s : State) (g : Pat → Pat) : (s.onPat g).mem = s.mem := rfl
@[simp] theorem onPat_freeCount (s : State) (g : Pat → Pat) : (s.onPat g).freeCount = s.freeCount := rfl
@[simp] theorem onPat_pending (s : State) (g : Pat → Pat) : (s.onPat g).pending = s.pending := rfl
@[simp] theorem onPat_now (s : State) (g : Pat → Pat) : (s.onPat g).now = s.now := rfl

/-! ## `State.onCal` -/

@[simp] theorem onCal_head (s : State) (g : Cal → Cal) : (s.onCal g).head = s.head := rfl
@[simp] theorem onCal_rru (s : State) (g : Cal → Cal) : (s.onCal g).rru = s.rru := rfl
@[simp] theorem onCal_tmb (s : State) (g : Cal → Cal) : (s.onCal g).tmb = s.tmb := rfl
@[simp] theorem onCal_sns (s : State) (g : Cal → Cal) : (s.onCal g).sns = s.sns := rfl
@[simp] theorem onCal_cro (s : State) (g : Cal → Cal) : (s.onCal g).cro = s.cro := rfl
@[simp] theorem onCal_exs (s : State) (g : Cal → Cal) : (s.onCal g).exs = s.exs := rfl
@[simp] theorem onCal_pat (s : State) (g : Cal → Cal) : (s.onCal g).pat = s.pat := rfl
@[simp] theorem onCal_cal (s : State) (g : Cal → Cal) : (s.onCal g).cal = g s.cal := rfl
@[simp] theorem onCal_ctg (s : State) (g : Cal → Cal) : (s.onCal g).ctg = s.ctg := rfl
@[simp] theorem onCal_trc (s : State) (g : Cal → Cal) : (s.onCal g).trc = s.trc := rfl
@[simp] theorem onCal_tge (s : State) (g : Cal → Cal) : (s.onCal g).tge = s.tge := rfl
@[simp] theorem onCal_cfg (s : State) (g : Cal → Cal) : (s.onCal g).cfg = s.cfg := rfl
@[simp] theorem onCal_chg (s : State) (g : Cal → Cal) : (s.onCal g).chg = s.chg := rfl
@[simp] theorem onCal_lnk (s : State) (g : Cal → Cal) : (s.onCal g).lnk = s.lnk := rfl
@[simp] theorem onCal_ten (s : State) (g : Cal → Cal) : (s.onCal g).ten = s.ten := rfl
@[simp] theorem onCal_lcp (s : State) (g : Cal → Cal) : (s.onCal g).lcp = s.lcp := rfl
@[simp] theorem onCal_mos (s : State) (g : Cal → Cal) : (s.onCal g).mos = s.mos := rfl
@[simp] theorem onCal_fus (s : State) (g : Cal → Cal) : (s.onCal g).fus = s.fus := rfl
@[simp] theorem onCal_pwr (s : State) (g : Cal → Cal) : (s.onCal g).pwr = s.pwr := rfl
@[simp] theorem onCal_sup (s : State) (g : Cal → Cal) : (s.onCal g).sup = s.sup := rfl
@[simp] theorem onCal_flt (s : State) (g : Cal → Cal) : (s.onCal g).flt = s.flt := rfl
@[simp] theorem onCal_regs (s : State) (g : Cal → Cal) : (s.onCal g).regs = s.regs := rfl
@[simp] theorem onCal_staged (s : State) (g : Cal → Cal) : (s.onCal g).staged = s.staged := rfl
@[simp] theorem onCal_justStaged (s : State) (g : Cal → Cal) : (s.onCal g).justStaged = s.justStaged := rfl
@[simp] theorem onCal_fresh (s : State) (g : Cal → Cal) : (s.onCal g).fresh = s.fresh := rfl
@[simp] theorem onCal_shadows (s : State) (g : Cal → Cal) : (s.onCal g).shadows = s.shadows := rfl
@[simp] theorem onCal_mem (s : State) (g : Cal → Cal) : (s.onCal g).mem = s.mem := rfl
@[simp] theorem onCal_freeCount (s : State) (g : Cal → Cal) : (s.onCal g).freeCount = s.freeCount := rfl
@[simp] theorem onCal_pending (s : State) (g : Cal → Cal) : (s.onCal g).pending = s.pending := rfl
@[simp] theorem onCal_now (s : State) (g : Cal → Cal) : (s.onCal g).now = s.now := rfl

/-! ## `State.onCtg` -/

@[simp] theorem onCtg_head (s : State) (g : Ctg → Ctg) : (s.onCtg g).head = s.head := rfl
@[simp] theorem onCtg_rru (s : State) (g : Ctg → Ctg) : (s.onCtg g).rru = s.rru := rfl
@[simp] theorem onCtg_tmb (s : State) (g : Ctg → Ctg) : (s.onCtg g).tmb = s.tmb := rfl
@[simp] theorem onCtg_sns (s : State) (g : Ctg → Ctg) : (s.onCtg g).sns = s.sns := rfl
@[simp] theorem onCtg_cro (s : State) (g : Ctg → Ctg) : (s.onCtg g).cro = s.cro := rfl
@[simp] theorem onCtg_exs (s : State) (g : Ctg → Ctg) : (s.onCtg g).exs = s.exs := rfl
@[simp] theorem onCtg_pat (s : State) (g : Ctg → Ctg) : (s.onCtg g).pat = s.pat := rfl
@[simp] theorem onCtg_cal (s : State) (g : Ctg → Ctg) : (s.onCtg g).cal = s.cal := rfl
@[simp] theorem onCtg_ctg (s : State) (g : Ctg → Ctg) : (s.onCtg g).ctg = g s.ctg := rfl
@[simp] theorem onCtg_trc (s : State) (g : Ctg → Ctg) : (s.onCtg g).trc = s.trc := rfl
@[simp] theorem onCtg_tge (s : State) (g : Ctg → Ctg) : (s.onCtg g).tge = s.tge := rfl
@[simp] theorem onCtg_cfg (s : State) (g : Ctg → Ctg) : (s.onCtg g).cfg = s.cfg := rfl
@[simp] theorem onCtg_chg (s : State) (g : Ctg → Ctg) : (s.onCtg g).chg = s.chg := rfl
@[simp] theorem onCtg_lnk (s : State) (g : Ctg → Ctg) : (s.onCtg g).lnk = s.lnk := rfl
@[simp] theorem onCtg_ten (s : State) (g : Ctg → Ctg) : (s.onCtg g).ten = s.ten := rfl
@[simp] theorem onCtg_lcp (s : State) (g : Ctg → Ctg) : (s.onCtg g).lcp = s.lcp := rfl
@[simp] theorem onCtg_mos (s : State) (g : Ctg → Ctg) : (s.onCtg g).mos = s.mos := rfl
@[simp] theorem onCtg_fus (s : State) (g : Ctg → Ctg) : (s.onCtg g).fus = s.fus := rfl
@[simp] theorem onCtg_pwr (s : State) (g : Ctg → Ctg) : (s.onCtg g).pwr = s.pwr := rfl
@[simp] theorem onCtg_sup (s : State) (g : Ctg → Ctg) : (s.onCtg g).sup = s.sup := rfl
@[simp] theorem onCtg_flt (s : State) (g : Ctg → Ctg) : (s.onCtg g).flt = s.flt := rfl
@[simp] theorem onCtg_regs (s : State) (g : Ctg → Ctg) : (s.onCtg g).regs = s.regs := rfl
@[simp] theorem onCtg_staged (s : State) (g : Ctg → Ctg) : (s.onCtg g).staged = s.staged := rfl
@[simp] theorem onCtg_justStaged (s : State) (g : Ctg → Ctg) : (s.onCtg g).justStaged = s.justStaged := rfl
@[simp] theorem onCtg_fresh (s : State) (g : Ctg → Ctg) : (s.onCtg g).fresh = s.fresh := rfl
@[simp] theorem onCtg_shadows (s : State) (g : Ctg → Ctg) : (s.onCtg g).shadows = s.shadows := rfl
@[simp] theorem onCtg_mem (s : State) (g : Ctg → Ctg) : (s.onCtg g).mem = s.mem := rfl
@[simp] theorem onCtg_freeCount (s : State) (g : Ctg → Ctg) : (s.onCtg g).freeCount = s.freeCount := rfl
@[simp] theorem onCtg_pending (s : State) (g : Ctg → Ctg) : (s.onCtg g).pending = s.pending := rfl
@[simp] theorem onCtg_now (s : State) (g : Ctg → Ctg) : (s.onCtg g).now = s.now := rfl

/-! ## `State.onTrc` -/

@[simp] theorem onTrc_head (s : State) (g : Trc → Trc) : (s.onTrc g).head = s.head := rfl
@[simp] theorem onTrc_rru (s : State) (g : Trc → Trc) : (s.onTrc g).rru = s.rru := rfl
@[simp] theorem onTrc_tmb (s : State) (g : Trc → Trc) : (s.onTrc g).tmb = s.tmb := rfl
@[simp] theorem onTrc_sns (s : State) (g : Trc → Trc) : (s.onTrc g).sns = s.sns := rfl
@[simp] theorem onTrc_cro (s : State) (g : Trc → Trc) : (s.onTrc g).cro = s.cro := rfl
@[simp] theorem onTrc_exs (s : State) (g : Trc → Trc) : (s.onTrc g).exs = s.exs := rfl
@[simp] theorem onTrc_pat (s : State) (g : Trc → Trc) : (s.onTrc g).pat = s.pat := rfl
@[simp] theorem onTrc_cal (s : State) (g : Trc → Trc) : (s.onTrc g).cal = s.cal := rfl
@[simp] theorem onTrc_ctg (s : State) (g : Trc → Trc) : (s.onTrc g).ctg = s.ctg := rfl
@[simp] theorem onTrc_trc (s : State) (g : Trc → Trc) : (s.onTrc g).trc = g s.trc := rfl
@[simp] theorem onTrc_tge (s : State) (g : Trc → Trc) : (s.onTrc g).tge = s.tge := rfl
@[simp] theorem onTrc_cfg (s : State) (g : Trc → Trc) : (s.onTrc g).cfg = s.cfg := rfl
@[simp] theorem onTrc_chg (s : State) (g : Trc → Trc) : (s.onTrc g).chg = s.chg := rfl
@[simp] theorem onTrc_lnk (s : State) (g : Trc → Trc) : (s.onTrc g).lnk = s.lnk := rfl
@[simp] theorem onTrc_ten (s : State) (g : Trc → Trc) : (s.onTrc g).ten = s.ten := rfl
@[simp] theorem onTrc_lcp (s : State) (g : Trc → Trc) : (s.onTrc g).lcp = s.lcp := rfl
@[simp] theorem onTrc_mos (s : State) (g : Trc → Trc) : (s.onTrc g).mos = s.mos := rfl
@[simp] theorem onTrc_fus (s : State) (g : Trc → Trc) : (s.onTrc g).fus = s.fus := rfl
@[simp] theorem onTrc_pwr (s : State) (g : Trc → Trc) : (s.onTrc g).pwr = s.pwr := rfl
@[simp] theorem onTrc_sup (s : State) (g : Trc → Trc) : (s.onTrc g).sup = s.sup := rfl
@[simp] theorem onTrc_flt (s : State) (g : Trc → Trc) : (s.onTrc g).flt = s.flt := rfl
@[simp] theorem onTrc_regs (s : State) (g : Trc → Trc) : (s.onTrc g).regs = s.regs := rfl
@[simp] theorem onTrc_staged (s : State) (g : Trc → Trc) : (s.onTrc g).staged = s.staged := rfl
@[simp] theorem onTrc_justStaged (s : State) (g : Trc → Trc) : (s.onTrc g).justStaged = s.justStaged := rfl
@[simp] theorem onTrc_fresh (s : State) (g : Trc → Trc) : (s.onTrc g).fresh = s.fresh := rfl
@[simp] theorem onTrc_shadows (s : State) (g : Trc → Trc) : (s.onTrc g).shadows = s.shadows := rfl
@[simp] theorem onTrc_mem (s : State) (g : Trc → Trc) : (s.onTrc g).mem = s.mem := rfl
@[simp] theorem onTrc_freeCount (s : State) (g : Trc → Trc) : (s.onTrc g).freeCount = s.freeCount := rfl
@[simp] theorem onTrc_pending (s : State) (g : Trc → Trc) : (s.onTrc g).pending = s.pending := rfl
@[simp] theorem onTrc_now (s : State) (g : Trc → Trc) : (s.onTrc g).now = s.now := rfl

/-! ## `State.onTge` -/

@[simp] theorem onTge_head (s : State) (g : Tge → Tge) : (s.onTge g).head = s.head := rfl
@[simp] theorem onTge_rru (s : State) (g : Tge → Tge) : (s.onTge g).rru = s.rru := rfl
@[simp] theorem onTge_tmb (s : State) (g : Tge → Tge) : (s.onTge g).tmb = s.tmb := rfl
@[simp] theorem onTge_sns (s : State) (g : Tge → Tge) : (s.onTge g).sns = s.sns := rfl
@[simp] theorem onTge_cro (s : State) (g : Tge → Tge) : (s.onTge g).cro = s.cro := rfl
@[simp] theorem onTge_exs (s : State) (g : Tge → Tge) : (s.onTge g).exs = s.exs := rfl
@[simp] theorem onTge_pat (s : State) (g : Tge → Tge) : (s.onTge g).pat = s.pat := rfl
@[simp] theorem onTge_cal (s : State) (g : Tge → Tge) : (s.onTge g).cal = s.cal := rfl
@[simp] theorem onTge_ctg (s : State) (g : Tge → Tge) : (s.onTge g).ctg = s.ctg := rfl
@[simp] theorem onTge_trc (s : State) (g : Tge → Tge) : (s.onTge g).trc = s.trc := rfl
@[simp] theorem onTge_tge (s : State) (g : Tge → Tge) : (s.onTge g).tge = g s.tge := rfl
@[simp] theorem onTge_cfg (s : State) (g : Tge → Tge) : (s.onTge g).cfg = s.cfg := rfl
@[simp] theorem onTge_chg (s : State) (g : Tge → Tge) : (s.onTge g).chg = s.chg := rfl
@[simp] theorem onTge_lnk (s : State) (g : Tge → Tge) : (s.onTge g).lnk = s.lnk := rfl
@[simp] theorem onTge_ten (s : State) (g : Tge → Tge) : (s.onTge g).ten = s.ten := rfl
@[simp] theorem onTge_lcp (s : State) (g : Tge → Tge) : (s.onTge g).lcp = s.lcp := rfl
@[simp] theorem onTge_mos (s : State) (g : Tge → Tge) : (s.onTge g).mos = s.mos := rfl
@[simp] theorem onTge_fus (s : State) (g : Tge → Tge) : (s.onTge g).fus = s.fus := rfl
@[simp] theorem onTge_pwr (s : State) (g : Tge → Tge) : (s.onTge g).pwr = s.pwr := rfl
@[simp] theorem onTge_sup (s : State) (g : Tge → Tge) : (s.onTge g).sup = s.sup := rfl
@[simp] theorem onTge_flt (s : State) (g : Tge → Tge) : (s.onTge g).flt = s.flt := rfl
@[simp] theorem onTge_regs (s : State) (g : Tge → Tge) : (s.onTge g).regs = s.regs := rfl
@[simp] theorem onTge_staged (s : State) (g : Tge → Tge) : (s.onTge g).staged = s.staged := rfl
@[simp] theorem onTge_justStaged (s : State) (g : Tge → Tge) : (s.onTge g).justStaged = s.justStaged := rfl
@[simp] theorem onTge_fresh (s : State) (g : Tge → Tge) : (s.onTge g).fresh = s.fresh := rfl
@[simp] theorem onTge_shadows (s : State) (g : Tge → Tge) : (s.onTge g).shadows = s.shadows := rfl
@[simp] theorem onTge_mem (s : State) (g : Tge → Tge) : (s.onTge g).mem = s.mem := rfl
@[simp] theorem onTge_freeCount (s : State) (g : Tge → Tge) : (s.onTge g).freeCount = s.freeCount := rfl
@[simp] theorem onTge_pending (s : State) (g : Tge → Tge) : (s.onTge g).pending = s.pending := rfl
@[simp] theorem onTge_now (s : State) (g : Tge → Tge) : (s.onTge g).now = s.now := rfl

/-! ## `State.onCfg` -/

@[simp] theorem onCfg_head (s : State) (g : Cfg → Cfg) : (s.onCfg g).head = s.head := rfl
@[simp] theorem onCfg_rru (s : State) (g : Cfg → Cfg) : (s.onCfg g).rru = s.rru := rfl
@[simp] theorem onCfg_tmb (s : State) (g : Cfg → Cfg) : (s.onCfg g).tmb = s.tmb := rfl
@[simp] theorem onCfg_sns (s : State) (g : Cfg → Cfg) : (s.onCfg g).sns = s.sns := rfl
@[simp] theorem onCfg_cro (s : State) (g : Cfg → Cfg) : (s.onCfg g).cro = s.cro := rfl
@[simp] theorem onCfg_exs (s : State) (g : Cfg → Cfg) : (s.onCfg g).exs = s.exs := rfl
@[simp] theorem onCfg_pat (s : State) (g : Cfg → Cfg) : (s.onCfg g).pat = s.pat := rfl
@[simp] theorem onCfg_cal (s : State) (g : Cfg → Cfg) : (s.onCfg g).cal = s.cal := rfl
@[simp] theorem onCfg_ctg (s : State) (g : Cfg → Cfg) : (s.onCfg g).ctg = s.ctg := rfl
@[simp] theorem onCfg_trc (s : State) (g : Cfg → Cfg) : (s.onCfg g).trc = s.trc := rfl
@[simp] theorem onCfg_tge (s : State) (g : Cfg → Cfg) : (s.onCfg g).tge = s.tge := rfl
@[simp] theorem onCfg_cfg (s : State) (g : Cfg → Cfg) : (s.onCfg g).cfg = g s.cfg := rfl
@[simp] theorem onCfg_chg (s : State) (g : Cfg → Cfg) : (s.onCfg g).chg = s.chg := rfl
@[simp] theorem onCfg_lnk (s : State) (g : Cfg → Cfg) : (s.onCfg g).lnk = s.lnk := rfl
@[simp] theorem onCfg_ten (s : State) (g : Cfg → Cfg) : (s.onCfg g).ten = s.ten := rfl
@[simp] theorem onCfg_lcp (s : State) (g : Cfg → Cfg) : (s.onCfg g).lcp = s.lcp := rfl
@[simp] theorem onCfg_mos (s : State) (g : Cfg → Cfg) : (s.onCfg g).mos = s.mos := rfl
@[simp] theorem onCfg_fus (s : State) (g : Cfg → Cfg) : (s.onCfg g).fus = s.fus := rfl
@[simp] theorem onCfg_pwr (s : State) (g : Cfg → Cfg) : (s.onCfg g).pwr = s.pwr := rfl
@[simp] theorem onCfg_sup (s : State) (g : Cfg → Cfg) : (s.onCfg g).sup = s.sup := rfl
@[simp] theorem onCfg_flt (s : State) (g : Cfg → Cfg) : (s.onCfg g).flt = s.flt := rfl
@[simp] theorem onCfg_regs (s : State) (g : Cfg → Cfg) : (s.onCfg g).regs = s.regs := rfl
@[simp] theorem onCfg_staged (s : State) (g : Cfg → Cfg) : (s.onCfg g).staged = s.staged := rfl
@[simp] theorem onCfg_justStaged (s : State) (g : Cfg → Cfg) : (s.onCfg g).justStaged = s.justStaged := rfl
@[simp] theorem onCfg_fresh (s : State) (g : Cfg → Cfg) : (s.onCfg g).fresh = s.fresh := rfl
@[simp] theorem onCfg_shadows (s : State) (g : Cfg → Cfg) : (s.onCfg g).shadows = s.shadows := rfl
@[simp] theorem onCfg_mem (s : State) (g : Cfg → Cfg) : (s.onCfg g).mem = s.mem := rfl
@[simp] theorem onCfg_freeCount (s : State) (g : Cfg → Cfg) : (s.onCfg g).freeCount = s.freeCount := rfl
@[simp] theorem onCfg_pending (s : State) (g : Cfg → Cfg) : (s.onCfg g).pending = s.pending := rfl
@[simp] theorem onCfg_now (s : State) (g : Cfg → Cfg) : (s.onCfg g).now = s.now := rfl

/-! ## `State.onChg` -/

@[simp] theorem onChg_head (s : State) (g : Chg → Chg) : (s.onChg g).head = s.head := rfl
@[simp] theorem onChg_rru (s : State) (g : Chg → Chg) : (s.onChg g).rru = s.rru := rfl
@[simp] theorem onChg_tmb (s : State) (g : Chg → Chg) : (s.onChg g).tmb = s.tmb := rfl
@[simp] theorem onChg_sns (s : State) (g : Chg → Chg) : (s.onChg g).sns = s.sns := rfl
@[simp] theorem onChg_cro (s : State) (g : Chg → Chg) : (s.onChg g).cro = s.cro := rfl
@[simp] theorem onChg_exs (s : State) (g : Chg → Chg) : (s.onChg g).exs = s.exs := rfl
@[simp] theorem onChg_pat (s : State) (g : Chg → Chg) : (s.onChg g).pat = s.pat := rfl
@[simp] theorem onChg_cal (s : State) (g : Chg → Chg) : (s.onChg g).cal = s.cal := rfl
@[simp] theorem onChg_ctg (s : State) (g : Chg → Chg) : (s.onChg g).ctg = s.ctg := rfl
@[simp] theorem onChg_trc (s : State) (g : Chg → Chg) : (s.onChg g).trc = s.trc := rfl
@[simp] theorem onChg_tge (s : State) (g : Chg → Chg) : (s.onChg g).tge = s.tge := rfl
@[simp] theorem onChg_cfg (s : State) (g : Chg → Chg) : (s.onChg g).cfg = s.cfg := rfl
@[simp] theorem onChg_chg (s : State) (g : Chg → Chg) : (s.onChg g).chg = g s.chg := rfl
@[simp] theorem onChg_lnk (s : State) (g : Chg → Chg) : (s.onChg g).lnk = s.lnk := rfl
@[simp] theorem onChg_ten (s : State) (g : Chg → Chg) : (s.onChg g).ten = s.ten := rfl
@[simp] theorem onChg_lcp (s : State) (g : Chg → Chg) : (s.onChg g).lcp = s.lcp := rfl
@[simp] theorem onChg_mos (s : State) (g : Chg → Chg) : (s.onChg g).mos = s.mos := rfl
@[simp] theorem onChg_fus (s : State) (g : Chg → Chg) : (s.onChg g).fus = s.fus := rfl
@[simp] theorem onChg_pwr (s : State) (g : Chg → Chg) : (s.onChg g).pwr = s.pwr := rfl
@[simp] theorem onChg_sup (s : State) (g : Chg → Chg) : (s.onChg g).sup = s.sup := rfl
@[simp] theorem onChg_flt (s : State) (g : Chg → Chg) : (s.onChg g).flt = s.flt := rfl
@[simp] theorem onChg_regs (s : State) (g : Chg → Chg) : (s.onChg g).regs = s.regs := rfl
@[simp] theorem onChg_staged (s : State) (g : Chg → Chg) : (s.onChg g).staged = s.staged := rfl
@[simp] theorem onChg_justStaged (s : State) (g : Chg → Chg) : (s.onChg g).justStaged = s.justStaged := rfl
@[simp] theorem onChg_fresh (s : State) (g : Chg → Chg) : (s.onChg g).fresh = s.fresh := rfl
@[simp] theorem onChg_shadows (s : State) (g : Chg → Chg) : (s.onChg g).shadows = s.shadows := rfl
@[simp] theorem onChg_mem (s : State) (g : Chg → Chg) : (s.onChg g).mem = s.mem := rfl
@[simp] theorem onChg_freeCount (s : State) (g : Chg → Chg) : (s.onChg g).freeCount = s.freeCount := rfl
@[simp] theorem onChg_pending (s : State) (g : Chg → Chg) : (s.onChg g).pending = s.pending := rfl
@[simp] theorem onChg_now (s : State) (g : Chg → Chg) : (s.onChg g).now = s.now := rfl

/-! ## `State.onLnk` -/

@[simp] theorem onLnk_head (s : State) (g : Lnk → Lnk) : (s.onLnk g).head = s.head := rfl
@[simp] theorem onLnk_rru (s : State) (g : Lnk → Lnk) : (s.onLnk g).rru = s.rru := rfl
@[simp] theorem onLnk_tmb (s : State) (g : Lnk → Lnk) : (s.onLnk g).tmb = s.tmb := rfl
@[simp] theorem onLnk_sns (s : State) (g : Lnk → Lnk) : (s.onLnk g).sns = s.sns := rfl
@[simp] theorem onLnk_cro (s : State) (g : Lnk → Lnk) : (s.onLnk g).cro = s.cro := rfl
@[simp] theorem onLnk_exs (s : State) (g : Lnk → Lnk) : (s.onLnk g).exs = s.exs := rfl
@[simp] theorem onLnk_pat (s : State) (g : Lnk → Lnk) : (s.onLnk g).pat = s.pat := rfl
@[simp] theorem onLnk_cal (s : State) (g : Lnk → Lnk) : (s.onLnk g).cal = s.cal := rfl
@[simp] theorem onLnk_ctg (s : State) (g : Lnk → Lnk) : (s.onLnk g).ctg = s.ctg := rfl
@[simp] theorem onLnk_trc (s : State) (g : Lnk → Lnk) : (s.onLnk g).trc = s.trc := rfl
@[simp] theorem onLnk_tge (s : State) (g : Lnk → Lnk) : (s.onLnk g).tge = s.tge := rfl
@[simp] theorem onLnk_cfg (s : State) (g : Lnk → Lnk) : (s.onLnk g).cfg = s.cfg := rfl
@[simp] theorem onLnk_chg (s : State) (g : Lnk → Lnk) : (s.onLnk g).chg = s.chg := rfl
@[simp] theorem onLnk_lnk (s : State) (g : Lnk → Lnk) : (s.onLnk g).lnk = g s.lnk := rfl
@[simp] theorem onLnk_ten (s : State) (g : Lnk → Lnk) : (s.onLnk g).ten = s.ten := rfl
@[simp] theorem onLnk_lcp (s : State) (g : Lnk → Lnk) : (s.onLnk g).lcp = s.lcp := rfl
@[simp] theorem onLnk_mos (s : State) (g : Lnk → Lnk) : (s.onLnk g).mos = s.mos := rfl
@[simp] theorem onLnk_fus (s : State) (g : Lnk → Lnk) : (s.onLnk g).fus = s.fus := rfl
@[simp] theorem onLnk_pwr (s : State) (g : Lnk → Lnk) : (s.onLnk g).pwr = s.pwr := rfl
@[simp] theorem onLnk_sup (s : State) (g : Lnk → Lnk) : (s.onLnk g).sup = s.sup := rfl
@[simp] theorem onLnk_flt (s : State) (g : Lnk → Lnk) : (s.onLnk g).flt = s.flt := rfl
@[simp] theorem onLnk_regs (s : State) (g : Lnk → Lnk) : (s.onLnk g).regs = s.regs := rfl
@[simp] theorem onLnk_staged (s : State) (g : Lnk → Lnk) : (s.onLnk g).staged = s.staged := rfl
@[simp] theorem onLnk_justStaged (s : State) (g : Lnk → Lnk) : (s.onLnk g).justStaged = s.justStaged := rfl
@[simp] theorem onLnk_fresh (s : State) (g : Lnk → Lnk) : (s.onLnk g).fresh = s.fresh := rfl
@[simp] theorem onLnk_shadows (s : State) (g : Lnk → Lnk) : (s.onLnk g).shadows = s.shadows := rfl
@[simp] theorem onLnk_mem (s : State) (g : Lnk → Lnk) : (s.onLnk g).mem = s.mem := rfl
@[simp] theorem onLnk_freeCount (s : State) (g : Lnk → Lnk) : (s.onLnk g).freeCount = s.freeCount := rfl
@[simp] theorem onLnk_pending (s : State) (g : Lnk → Lnk) : (s.onLnk g).pending = s.pending := rfl
@[simp] theorem onLnk_now (s : State) (g : Lnk → Lnk) : (s.onLnk g).now = s.now := rfl

/-! ## `State.onTen` -/

@[simp] theorem onTen_head (s : State) (g : Ten → Ten) : (s.onTen g).head = s.head := rfl
@[simp] theorem onTen_rru (s : State) (g : Ten → Ten) : (s.onTen g).rru = s.rru := rfl
@[simp] theorem onTen_tmb (s : State) (g : Ten → Ten) : (s.onTen g).tmb = s.tmb := rfl
@[simp] theorem onTen_sns (s : State) (g : Ten → Ten) : (s.onTen g).sns = s.sns := rfl
@[simp] theorem onTen_cro (s : State) (g : Ten → Ten) : (s.onTen g).cro = s.cro := rfl
@[simp] theorem onTen_exs (s : State) (g : Ten → Ten) : (s.onTen g).exs = s.exs := rfl
@[simp] theorem onTen_pat (s : State) (g : Ten → Ten) : (s.onTen g).pat = s.pat := rfl
@[simp] theorem onTen_cal (s : State) (g : Ten → Ten) : (s.onTen g).cal = s.cal := rfl
@[simp] theorem onTen_ctg (s : State) (g : Ten → Ten) : (s.onTen g).ctg = s.ctg := rfl
@[simp] theorem onTen_trc (s : State) (g : Ten → Ten) : (s.onTen g).trc = s.trc := rfl
@[simp] theorem onTen_tge (s : State) (g : Ten → Ten) : (s.onTen g).tge = s.tge := rfl
@[simp] theorem onTen_cfg (s : State) (g : Ten → Ten) : (s.onTen g).cfg = s.cfg := rfl
@[simp] theorem onTen_chg (s : State) (g : Ten → Ten) : (s.onTen g).chg = s.chg := rfl
@[simp] theorem onTen_lnk (s : State) (g : Ten → Ten) : (s.onTen g).lnk = s.lnk := rfl
@[simp] theorem onTen_ten (s : State) (g : Ten → Ten) : (s.onTen g).ten = g s.ten := rfl
@[simp] theorem onTen_lcp (s : State) (g : Ten → Ten) : (s.onTen g).lcp = s.lcp := rfl
@[simp] theorem onTen_mos (s : State) (g : Ten → Ten) : (s.onTen g).mos = s.mos := rfl
@[simp] theorem onTen_fus (s : State) (g : Ten → Ten) : (s.onTen g).fus = s.fus := rfl
@[simp] theorem onTen_pwr (s : State) (g : Ten → Ten) : (s.onTen g).pwr = s.pwr := rfl
@[simp] theorem onTen_sup (s : State) (g : Ten → Ten) : (s.onTen g).sup = s.sup := rfl
@[simp] theorem onTen_flt (s : State) (g : Ten → Ten) : (s.onTen g).flt = s.flt := rfl
@[simp] theorem onTen_regs (s : State) (g : Ten → Ten) : (s.onTen g).regs = s.regs := rfl
@[simp] theorem onTen_staged (s : State) (g : Ten → Ten) : (s.onTen g).staged = s.staged := rfl
@[simp] theorem onTen_justStaged (s : State) (g : Ten → Ten) : (s.onTen g).justStaged = s.justStaged := rfl
@[simp] theorem onTen_fresh (s : State) (g : Ten → Ten) : (s.onTen g).fresh = s.fresh := rfl
@[simp] theorem onTen_shadows (s : State) (g : Ten → Ten) : (s.onTen g).shadows = s.shadows := rfl
@[simp] theorem onTen_mem (s : State) (g : Ten → Ten) : (s.onTen g).mem = s.mem := rfl
@[simp] theorem onTen_freeCount (s : State) (g : Ten → Ten) : (s.onTen g).freeCount = s.freeCount := rfl
@[simp] theorem onTen_pending (s : State) (g : Ten → Ten) : (s.onTen g).pending = s.pending := rfl
@[simp] theorem onTen_now (s : State) (g : Ten → Ten) : (s.onTen g).now = s.now := rfl

/-! ## `State.onLcp` -/

@[simp] theorem onLcp_head (s : State) (g : Lcp → Lcp) : (s.onLcp g).head = s.head := rfl
@[simp] theorem onLcp_rru (s : State) (g : Lcp → Lcp) : (s.onLcp g).rru = s.rru := rfl
@[simp] theorem onLcp_tmb (s : State) (g : Lcp → Lcp) : (s.onLcp g).tmb = s.tmb := rfl
@[simp] theorem onLcp_sns (s : State) (g : Lcp → Lcp) : (s.onLcp g).sns = s.sns := rfl
@[simp] theorem onLcp_cro (s : State) (g : Lcp → Lcp) : (s.onLcp g).cro = s.cro := rfl
@[simp] theorem onLcp_exs (s : State) (g : Lcp → Lcp) : (s.onLcp g).exs = s.exs := rfl
@[simp] theorem onLcp_pat (s : State) (g : Lcp → Lcp) : (s.onLcp g).pat = s.pat := rfl
@[simp] theorem onLcp_cal (s : State) (g : Lcp → Lcp) : (s.onLcp g).cal = s.cal := rfl
@[simp] theorem onLcp_ctg (s : State) (g : Lcp → Lcp) : (s.onLcp g).ctg = s.ctg := rfl
@[simp] theorem onLcp_trc (s : State) (g : Lcp → Lcp) : (s.onLcp g).trc = s.trc := rfl
@[simp] theorem onLcp_tge (s : State) (g : Lcp → Lcp) : (s.onLcp g).tge = s.tge := rfl
@[simp] theorem onLcp_cfg (s : State) (g : Lcp → Lcp) : (s.onLcp g).cfg = s.cfg := rfl
@[simp] theorem onLcp_chg (s : State) (g : Lcp → Lcp) : (s.onLcp g).chg = s.chg := rfl
@[simp] theorem onLcp_lnk (s : State) (g : Lcp → Lcp) : (s.onLcp g).lnk = s.lnk := rfl
@[simp] theorem onLcp_ten (s : State) (g : Lcp → Lcp) : (s.onLcp g).ten = s.ten := rfl
@[simp] theorem onLcp_lcp (s : State) (g : Lcp → Lcp) : (s.onLcp g).lcp = g s.lcp := rfl
@[simp] theorem onLcp_mos (s : State) (g : Lcp → Lcp) : (s.onLcp g).mos = s.mos := rfl
@[simp] theorem onLcp_fus (s : State) (g : Lcp → Lcp) : (s.onLcp g).fus = s.fus := rfl
@[simp] theorem onLcp_pwr (s : State) (g : Lcp → Lcp) : (s.onLcp g).pwr = s.pwr := rfl
@[simp] theorem onLcp_sup (s : State) (g : Lcp → Lcp) : (s.onLcp g).sup = s.sup := rfl
@[simp] theorem onLcp_flt (s : State) (g : Lcp → Lcp) : (s.onLcp g).flt = s.flt := rfl
@[simp] theorem onLcp_regs (s : State) (g : Lcp → Lcp) : (s.onLcp g).regs = s.regs := rfl
@[simp] theorem onLcp_staged (s : State) (g : Lcp → Lcp) : (s.onLcp g).staged = s.staged := rfl
@[simp] theorem onLcp_justStaged (s : State) (g : Lcp → Lcp) : (s.onLcp g).justStaged = s.justStaged := rfl
@[simp] theorem onLcp_fresh (s : State) (g : Lcp → Lcp) : (s.onLcp g).fresh = s.fresh := rfl
@[simp] theorem onLcp_shadows (s : State) (g : Lcp → Lcp) : (s.onLcp g).shadows = s.shadows := rfl
@[simp] theorem onLcp_mem (s : State) (g : Lcp → Lcp) : (s.onLcp g).mem = s.mem := rfl
@[simp] theorem onLcp_freeCount (s : State) (g : Lcp → Lcp) : (s.onLcp g).freeCount = s.freeCount := rfl
@[simp] theorem onLcp_pending (s : State) (g : Lcp → Lcp) : (s.onLcp g).pending = s.pending := rfl
@[simp] theorem onLcp_now (s : State) (g : Lcp → Lcp) : (s.onLcp g).now = s.now := rfl

/-! ## `State.onMos` -/

@[simp] theorem onMos_head (s : State) (g : Mos → Mos) : (s.onMos g).head = s.head := rfl
@[simp] theorem onMos_rru (s : State) (g : Mos → Mos) : (s.onMos g).rru = s.rru := rfl
@[simp] theorem onMos_tmb (s : State) (g : Mos → Mos) : (s.onMos g).tmb = s.tmb := rfl
@[simp] theorem onMos_sns (s : State) (g : Mos → Mos) : (s.onMos g).sns = s.sns := rfl
@[simp] theorem onMos_cro (s : State) (g : Mos → Mos) : (s.onMos g).cro = s.cro := rfl
@[simp] theorem onMos_exs (s : State) (g : Mos → Mos) : (s.onMos g).exs = s.exs := rfl
@[simp] theorem onMos_pat (s : State) (g : Mos → Mos) : (s.onMos g).pat = s.pat := rfl
@[simp] theorem onMos_cal (s : State) (g : Mos → Mos) : (s.onMos g).cal = s.cal := rfl
@[simp] theorem onMos_ctg (s : State) (g : Mos → Mos) : (s.onMos g).ctg = s.ctg := rfl
@[simp] theorem onMos_trc (s : State) (g : Mos → Mos) : (s.onMos g).trc = s.trc := rfl
@[simp] theorem onMos_tge (s : State) (g : Mos → Mos) : (s.onMos g).tge = s.tge := rfl
@[simp] theorem onMos_cfg (s : State) (g : Mos → Mos) : (s.onMos g).cfg = s.cfg := rfl
@[simp] theorem onMos_chg (s : State) (g : Mos → Mos) : (s.onMos g).chg = s.chg := rfl
@[simp] theorem onMos_lnk (s : State) (g : Mos → Mos) : (s.onMos g).lnk = s.lnk := rfl
@[simp] theorem onMos_ten (s : State) (g : Mos → Mos) : (s.onMos g).ten = s.ten := rfl
@[simp] theorem onMos_lcp (s : State) (g : Mos → Mos) : (s.onMos g).lcp = s.lcp := rfl
@[simp] theorem onMos_mos (s : State) (g : Mos → Mos) : (s.onMos g).mos = g s.mos := rfl
@[simp] theorem onMos_fus (s : State) (g : Mos → Mos) : (s.onMos g).fus = s.fus := rfl
@[simp] theorem onMos_pwr (s : State) (g : Mos → Mos) : (s.onMos g).pwr = s.pwr := rfl
@[simp] theorem onMos_sup (s : State) (g : Mos → Mos) : (s.onMos g).sup = s.sup := rfl
@[simp] theorem onMos_flt (s : State) (g : Mos → Mos) : (s.onMos g).flt = s.flt := rfl
@[simp] theorem onMos_regs (s : State) (g : Mos → Mos) : (s.onMos g).regs = s.regs := rfl
@[simp] theorem onMos_staged (s : State) (g : Mos → Mos) : (s.onMos g).staged = s.staged := rfl
@[simp] theorem onMos_justStaged (s : State) (g : Mos → Mos) : (s.onMos g).justStaged = s.justStaged := rfl
@[simp] theorem onMos_fresh (s : State) (g : Mos → Mos) : (s.onMos g).fresh = s.fresh := rfl
@[simp] theorem onMos_shadows (s : State) (g : Mos → Mos) : (s.onMos g).shadows = s.shadows := rfl
@[simp] theorem onMos_mem (s : State) (g : Mos → Mos) : (s.onMos g).mem = s.mem := rfl
@[simp] theorem onMos_freeCount (s : State) (g : Mos → Mos) : (s.onMos g).freeCount = s.freeCount := rfl
@[simp] theorem onMos_pending (s : State) (g : Mos → Mos) : (s.onMos g).pending = s.pending := rfl
@[simp] theorem onMos_now (s : State) (g : Mos → Mos) : (s.onMos g).now = s.now := rfl

/-! ## `State.onFus` -/

@[simp] theorem onFus_head (s : State) (g : Fus → Fus) : (s.onFus g).head = s.head := rfl
@[simp] theorem onFus_rru (s : State) (g : Fus → Fus) : (s.onFus g).rru = s.rru := rfl
@[simp] theorem onFus_tmb (s : State) (g : Fus → Fus) : (s.onFus g).tmb = s.tmb := rfl
@[simp] theorem onFus_sns (s : State) (g : Fus → Fus) : (s.onFus g).sns = s.sns := rfl
@[simp] theorem onFus_cro (s : State) (g : Fus → Fus) : (s.onFus g).cro = s.cro := rfl
@[simp] theorem onFus_exs (s : State) (g : Fus → Fus) : (s.onFus g).exs = s.exs := rfl
@[simp] theorem onFus_pat (s : State) (g : Fus → Fus) : (s.onFus g).pat = s.pat := rfl
@[simp] theorem onFus_cal (s : State) (g : Fus → Fus) : (s.onFus g).cal = s.cal := rfl
@[simp] theorem onFus_ctg (s : State) (g : Fus → Fus) : (s.onFus g).ctg = s.ctg := rfl
@[simp] theorem onFus_trc (s : State) (g : Fus → Fus) : (s.onFus g).trc = s.trc := rfl
@[simp] theorem onFus_tge (s : State) (g : Fus → Fus) : (s.onFus g).tge = s.tge := rfl
@[simp] theorem onFus_cfg (s : State) (g : Fus → Fus) : (s.onFus g).cfg = s.cfg := rfl
@[simp] theorem onFus_chg (s : State) (g : Fus → Fus) : (s.onFus g).chg = s.chg := rfl
@[simp] theorem onFus_lnk (s : State) (g : Fus → Fus) : (s.onFus g).lnk = s.lnk := rfl
@[simp] theorem onFus_ten (s : State) (g : Fus → Fus) : (s.onFus g).ten = s.ten := rfl
@[simp] theorem onFus_lcp (s : State) (g : Fus → Fus) : (s.onFus g).lcp = s.lcp := rfl
@[simp] theorem onFus_mos (s : State) (g : Fus → Fus) : (s.onFus g).mos = s.mos := rfl
@[simp] theorem onFus_fus (s : State) (g : Fus → Fus) : (s.onFus g).fus = g s.fus := rfl
@[simp] theorem onFus_pwr (s : State) (g : Fus → Fus) : (s.onFus g).pwr = s.pwr := rfl
@[simp] theorem onFus_sup (s : State) (g : Fus → Fus) : (s.onFus g).sup = s.sup := rfl
@[simp] theorem onFus_flt (s : State) (g : Fus → Fus) : (s.onFus g).flt = s.flt := rfl
@[simp] theorem onFus_regs (s : State) (g : Fus → Fus) : (s.onFus g).regs = s.regs := rfl
@[simp] theorem onFus_staged (s : State) (g : Fus → Fus) : (s.onFus g).staged = s.staged := rfl
@[simp] theorem onFus_justStaged (s : State) (g : Fus → Fus) : (s.onFus g).justStaged = s.justStaged := rfl
@[simp] theorem onFus_fresh (s : State) (g : Fus → Fus) : (s.onFus g).fresh = s.fresh := rfl
@[simp] theorem onFus_shadows (s : State) (g : Fus → Fus) : (s.onFus g).shadows = s.shadows := rfl
@[simp] theorem onFus_mem (s : State) (g : Fus → Fus) : (s.onFus g).mem = s.mem := rfl
@[simp] theorem onFus_freeCount (s : State) (g : Fus → Fus) : (s.onFus g).freeCount = s.freeCount := rfl
@[simp] theorem onFus_pending (s : State) (g : Fus → Fus) : (s.onFus g).pending = s.pending := rfl
@[simp] theorem onFus_now (s : State) (g : Fus → Fus) : (s.onFus g).now = s.now := rfl

/-! ## `State.onPwr` -/

@[simp] theorem onPwr_head (s : State) (g : Pwr → Pwr) : (s.onPwr g).head = s.head := rfl
@[simp] theorem onPwr_rru (s : State) (g : Pwr → Pwr) : (s.onPwr g).rru = s.rru := rfl
@[simp] theorem onPwr_tmb (s : State) (g : Pwr → Pwr) : (s.onPwr g).tmb = s.tmb := rfl
@[simp] theorem onPwr_sns (s : State) (g : Pwr → Pwr) : (s.onPwr g).sns = s.sns := rfl
@[simp] theorem onPwr_cro (s : State) (g : Pwr → Pwr) : (s.onPwr g).cro = s.cro := rfl
@[simp] theorem onPwr_exs (s : State) (g : Pwr → Pwr) : (s.onPwr g).exs = s.exs := rfl
@[simp] theorem onPwr_pat (s : State) (g : Pwr → Pwr) : (s.onPwr g).pat = s.pat := rfl
@[simp] theorem onPwr_cal (s : State) (g : Pwr → Pwr) : (s.onPwr g).cal = s.cal := rfl
@[simp] theorem onPwr_ctg (s : State) (g : Pwr → Pwr) : (s.onPwr g).ctg = s.ctg := rfl
@[simp] theorem onPwr_trc (s : State) (g : Pwr → Pwr) : (s.onPwr g).trc = s.trc := rfl
@[simp] theorem onPwr_tge (s : State) (g : Pwr → Pwr) : (s.onPwr g).tge = s.tge := rfl
@[simp] theorem onPwr_cfg (s : State) (g : Pwr → Pwr) : (s.onPwr g).cfg = s.cfg := rfl
@[simp] theorem onPwr_chg (s : State) (g : Pwr → Pwr) : (s.onPwr g).chg = s.chg := rfl
@[simp] theorem onPwr_lnk (s : State) (g : Pwr → Pwr) : (s.onPwr g).lnk = s.lnk := rfl
@[simp] theorem onPwr_ten (s : State) (g : Pwr → Pwr) : (s.onPwr g).ten = s.ten := rfl
@[simp] theorem onPwr_lcp (s : State) (g : Pwr → Pwr) : (s.onPwr g).lcp = s.lcp := rfl
@[simp] theorem onPwr_mos (s : State) (g : Pwr → Pwr) : (s.onPwr g).mos = s.mos := rfl
@[simp] theorem onPwr_fus (s : State) (g : Pwr → Pwr) : (s.onPwr g).fus = s.fus := rfl
@[simp] theorem onPwr_pwr (s : State) (g : Pwr → Pwr) : (s.onPwr g).pwr = g s.pwr := rfl
@[simp] theorem onPwr_sup (s : State) (g : Pwr → Pwr) : (s.onPwr g).sup = s.sup := rfl
@[simp] theorem onPwr_flt (s : State) (g : Pwr → Pwr) : (s.onPwr g).flt = s.flt := rfl
@[simp] theorem onPwr_regs (s : State) (g : Pwr → Pwr) : (s.onPwr g).regs = s.regs := rfl
@[simp] theorem onPwr_staged (s : State) (g : Pwr → Pwr) : (s.onPwr g).staged = s.staged := rfl
@[simp] theorem onPwr_justStaged (s : State) (g : Pwr → Pwr) : (s.onPwr g).justStaged = s.justStaged := rfl
@[simp] theorem onPwr_fresh (s : State) (g : Pwr → Pwr) : (s.onPwr g).fresh = s.fresh := rfl
@[simp] theorem onPwr_shadows (s : State) (g : Pwr → Pwr) : (s.onPwr g).shadows = s.shadows := rfl
@[simp] theorem onPwr_mem (s : State) (g : Pwr → Pwr) : (s.onPwr g).mem = s.mem := rfl
@[simp] theorem onPwr_freeCount (s : State) (g : Pwr → Pwr) : (s.onPwr g).freeCount = s.freeCount := rfl
@[simp] theorem onPwr_pending (s : State) (g : Pwr → Pwr) : (s.onPwr g).pending = s.pending := rfl
@[simp] theorem onPwr_now (s : State) (g : Pwr → Pwr) : (s.onPwr g).now = s.now := rfl

/-! ## `State.onSup` -/

@[simp] theorem onSup_head (s : State) (g : Sup → Sup) : (s.onSup g).head = s.head := rfl
@[simp] theorem onSup_rru (s : State) (g : Sup → Sup) : (s.onSup g).rru = s.rru := rfl
@[simp] theorem onSup_tmb (s : State) (g : Sup → Sup) : (s.onSup g).tmb = s.tmb := rfl
@[simp] theorem onSup_sns (s : State) (g : Sup → Sup) : (s.onSup g).sns = s.sns := rfl
@[simp] theorem onSup_cro (s : State) (g : Sup → Sup) : (s.onSup g).cro = s.cro := rfl
@[simp] theorem onSup_exs (s : State) (g : Sup → Sup) : (s.onSup g).exs = s.exs := rfl
@[simp] theorem onSup_pat (s : State) (g : Sup → Sup) : (s.onSup g).pat = s.pat := rfl
@[simp] theorem onSup_cal (s : State) (g : Sup → Sup) : (s.onSup g).cal = s.cal := rfl
@[simp] theorem onSup_ctg (s : State) (g : Sup → Sup) : (s.onSup g).ctg = s.ctg := rfl
@[simp] theorem onSup_trc (s : State) (g : Sup → Sup) : (s.onSup g).trc = s.trc := rfl
@[simp] theorem onSup_tge (s : State) (g : Sup → Sup) : (s.onSup g).tge = s.tge := rfl
@[simp] theorem onSup_cfg (s : State) (g : Sup → Sup) : (s.onSup g).cfg = s.cfg := rfl
@[simp] theorem onSup_chg (s : State) (g : Sup → Sup) : (s.onSup g).chg = s.chg := rfl
@[simp] theorem onSup_lnk (s : State) (g : Sup → Sup) : (s.onSup g).lnk = s.lnk := rfl
@[simp] theorem onSup_ten (s : State) (g : Sup → Sup) : (s.onSup g).ten = s.ten := rfl
@[simp] theorem onSup_lcp (s : State) (g : Sup → Sup) : (s.onSup g).lcp = s.lcp := rfl
@[simp] theorem onSup_mos (s : State) (g : Sup → Sup) : (s.onSup g).mos = s.mos := rfl
@[simp] theorem onSup_fus (s : State) (g : Sup → Sup) : (s.onSup g).fus = s.fus := rfl
@[simp] theorem onSup_pwr (s : State) (g : Sup → Sup) : (s.onSup g).pwr = s.pwr := rfl
@[simp] theorem onSup_sup (s : State) (g : Sup → Sup) : (s.onSup g).sup = g s.sup := rfl
@[simp] theorem onSup_flt (s : State) (g : Sup → Sup) : (s.onSup g).flt = s.flt := rfl
@[simp] theorem onSup_regs (s : State) (g : Sup → Sup) : (s.onSup g).regs = s.regs := rfl
@[simp] theorem onSup_staged (s : State) (g : Sup → Sup) : (s.onSup g).staged = s.staged := rfl
@[simp] theorem onSup_justStaged (s : State) (g : Sup → Sup) : (s.onSup g).justStaged = s.justStaged := rfl
@[simp] theorem onSup_fresh (s : State) (g : Sup → Sup) : (s.onSup g).fresh = s.fresh := rfl
@[simp] theorem onSup_shadows (s : State) (g : Sup → Sup) : (s.onSup g).shadows = s.shadows := rfl
@[simp] theorem onSup_mem (s : State) (g : Sup → Sup) : (s.onSup g).mem = s.mem := rfl
@[simp] theorem onSup_freeCount (s : State) (g : Sup → Sup) : (s.onSup g).freeCount = s.freeCount := rfl
@[simp] theorem onSup_pending (s : State) (g : Sup → Sup) : (s.onSup g).pending = s.pending := rfl
@[simp] theorem onSup_now (s : State) (g : Sup → Sup) : (s.onSup g).now = s.now := rfl

/-! ## `State.onFlt` -/

@[simp] theorem onFlt_head (s : State) (g : Flt → Flt) : (s.onFlt g).head = s.head := rfl
@[simp] theorem onFlt_rru (s : State) (g : Flt → Flt) : (s.onFlt g).rru = s.rru := rfl
@[simp] theorem onFlt_tmb (s : State) (g : Flt → Flt) : (s.onFlt g).tmb = s.tmb := rfl
@[simp] theorem onFlt_sns (s : State) (g : Flt → Flt) : (s.onFlt g).sns = s.sns := rfl
@[simp] theorem onFlt_cro (s : State) (g : Flt → Flt) : (s.onFlt g).cro = s.cro := rfl
@[simp] theorem onFlt_exs (s : State) (g : Flt → Flt) : (s.onFlt g).exs = s.exs := rfl
@[simp] theorem onFlt_pat (s : State) (g : Flt → Flt) : (s.onFlt g).pat = s.pat := rfl
@[simp] theorem onFlt_cal (s : State) (g : Flt → Flt) : (s.onFlt g).cal = s.cal := rfl
@[simp] theorem onFlt_ctg (s : State) (g : Flt → Flt) : (s.onFlt g).ctg = s.ctg := rfl
@[simp] theorem onFlt_trc (s : State) (g : Flt → Flt) : (s.onFlt g).trc = s.trc := rfl
@[simp] theorem onFlt_tge (s : State) (g : Flt → Flt) : (s.onFlt g).tge = s.tge := rfl
@[simp] theorem onFlt_cfg (s : State) (g : Flt → Flt) : (s.onFlt g).cfg = s.cfg := rfl
@[simp] theorem onFlt_chg (s : State) (g : Flt → Flt) : (s.onFlt g).chg = s.chg := rfl
@[simp] theorem onFlt_lnk (s : State) (g : Flt → Flt) : (s.onFlt g).lnk = s.lnk := rfl
@[simp] theorem onFlt_ten (s : State) (g : Flt → Flt) : (s.onFlt g).ten = s.ten := rfl
@[simp] theorem onFlt_lcp (s : State) (g : Flt → Flt) : (s.onFlt g).lcp = s.lcp := rfl
@[simp] theorem onFlt_mos (s : State) (g : Flt → Flt) : (s.onFlt g).mos = s.mos := rfl
@[simp] theorem onFlt_fus (s : State) (g : Flt → Flt) : (s.onFlt g).fus = s.fus := rfl
@[simp] theorem onFlt_pwr (s : State) (g : Flt → Flt) : (s.onFlt g).pwr = s.pwr := rfl
@[simp] theorem onFlt_sup (s : State) (g : Flt → Flt) : (s.onFlt g).sup = s.sup := rfl
@[simp] theorem onFlt_flt (s : State) (g : Flt → Flt) : (s.onFlt g).flt = g s.flt := rfl
@[simp] theorem onFlt_regs (s : State) (g : Flt → Flt) : (s.onFlt g).regs = s.regs := rfl
@[simp] theorem onFlt_staged (s : State) (g : Flt → Flt) : (s.onFlt g).staged = s.staged := rfl
@[simp] theorem onFlt_justStaged (s : State) (g : Flt → Flt) : (s.onFlt g).justStaged = s.justStaged := rfl
@[simp] theorem onFlt_fresh (s : State) (g : Flt → Flt) : (s.onFlt g).fresh = s.fresh := rfl
@[simp] theorem onFlt_shadows (s : State) (g : Flt → Flt) : (s.onFlt g).shadows = s.shadows := rfl
@[simp] theorem onFlt_mem (s : State) (g : Flt → Flt) : (s.onFlt g).mem = s.mem := rfl
@[simp] theorem onFlt_freeCount (s : State) (g : Flt → Flt) : (s.onFlt g).freeCount = s.freeCount := rfl
@[simp] theorem onFlt_pending (s : State) (g : Flt → Flt) : (s.onFlt g).pending = s.pending := rfl
@[simp] theorem onFlt_now (s : State) (g : Flt → Flt) : (s.onFlt g).now = s.now := rfl

/-! ## The register store and the free values -/

@[simp] theorem setRaw_head (s : State) (a : Nat) (v : Word) : (setRaw a v s).head = s.head := rfl
@[simp] theorem setRaw_rru (s : State) (a : Nat) (v : Word) : (setRaw a v s).rru = s.rru := rfl
@[simp] theorem setRaw_tmb (s : State) (a : Nat) (v : Word) : (setRaw a v s).tmb = s.tmb := rfl
@[simp] theorem setRaw_sns (s : State) (a : Nat) (v : Word) : (setRaw a v s).sns = s.sns := rfl
@[simp] theorem setRaw_cro (s : State) (a : Nat) (v : Word) : (setRaw a v s).cro = s.cro := rfl
@[simp] theorem setRaw_exs (s : State) (a : Nat) (v : Word) : (setRaw a v s).exs = s.exs := rfl
@[simp] theorem setRaw_pat (s : State) (a : Nat) (v : Word) : (setRaw a v s).pat = s.pat := rfl
@[simp] theorem setRaw_cal (s : State) (a : Nat) (v : Word) : (setRaw a v s).cal = s.cal := rfl
@[simp] theorem setRaw_ctg (s : State) (a : Nat) (v : Word) : (setRaw a v s).ctg = s.ctg := rfl
@[simp] theorem setRaw_trc (s : State) (a : Nat) (v : Word) : (setRaw a v s).trc = s.trc := rfl
@[simp] theorem setRaw_tge (s : State) (a : Nat) (v : Word) : (setRaw a v s).tge = s.tge := rfl
@[simp] theorem setRaw_cfg (s : State) (a : Nat) (v : Word) : (setRaw a v s).cfg = s.cfg := rfl
@[simp] theorem setRaw_chg (s : State) (a : Nat) (v : Word) : (setRaw a v s).chg = s.chg := rfl
@[simp] theorem setRaw_lnk (s : State) (a : Nat) (v : Word) : (setRaw a v s).lnk = s.lnk := rfl
@[simp] theorem setRaw_ten (s : State) (a : Nat) (v : Word) : (setRaw a v s).ten = s.ten := rfl
@[simp] theorem setRaw_lcp (s : State) (a : Nat) (v : Word) : (setRaw a v s).lcp = s.lcp := rfl
@[simp] theorem setRaw_mos (s : State) (a : Nat) (v : Word) : (setRaw a v s).mos = s.mos := rfl
@[simp] theorem setRaw_fus (s : State) (a : Nat) (v : Word) : (setRaw a v s).fus = s.fus := rfl
@[simp] theorem setRaw_pwr (s : State) (a : Nat) (v : Word) : (setRaw a v s).pwr = s.pwr := rfl
@[simp] theorem setRaw_sup (s : State) (a : Nat) (v : Word) : (setRaw a v s).sup = s.sup := rfl
@[simp] theorem setRaw_flt (s : State) (a : Nat) (v : Word) : (setRaw a v s).flt = s.flt := rfl
@[simp] theorem setRaw_staged (s : State) (a : Nat) (v : Word) : (setRaw a v s).staged = s.staged := rfl
@[simp] theorem setRaw_justStaged (s : State) (a : Nat) (v : Word) : (setRaw a v s).justStaged = s.justStaged := rfl
@[simp] theorem setRaw_fresh (s : State) (a : Nat) (v : Word) : (setRaw a v s).fresh = s.fresh := rfl
@[simp] theorem setRaw_shadows (s : State) (a : Nat) (v : Word) : (setRaw a v s).shadows = s.shadows := rfl
@[simp] theorem setRaw_mem (s : State) (a : Nat) (v : Word) : (setRaw a v s).mem = s.mem := rfl
@[simp] theorem setRaw_freeCount (s : State) (a : Nat) (v : Word) : (setRaw a v s).freeCount = s.freeCount := rfl
@[simp] theorem setRaw_pending (s : State) (a : Nat) (v : Word) : (setRaw a v s).pending = s.pending := rfl
@[simp] theorem setRaw_now (s : State) (a : Nat) (v : Word) : (setRaw a v s).now = s.now := rfl
@[simp] theorem takeFree_head (s : State) : (takeFree s).2.head = s.head := rfl
@[simp] theorem takeFree_rru (s : State) : (takeFree s).2.rru = s.rru := rfl
@[simp] theorem takeFree_tmb (s : State) : (takeFree s).2.tmb = s.tmb := rfl
@[simp] theorem takeFree_sns (s : State) : (takeFree s).2.sns = s.sns := rfl
@[simp] theorem takeFree_cro (s : State) : (takeFree s).2.cro = s.cro := rfl
@[simp] theorem takeFree_exs (s : State) : (takeFree s).2.exs = s.exs := rfl
@[simp] theorem takeFree_pat (s : State) : (takeFree s).2.pat = s.pat := rfl
@[simp] theorem takeFree_cal (s : State) : (takeFree s).2.cal = s.cal := rfl
@[simp] theorem takeFree_ctg (s : State) : (takeFree s).2.ctg = s.ctg := rfl
@[simp] theorem takeFree_trc (s : State) : (takeFree s).2.trc = s.trc := rfl
@[simp] theorem takeFree_tge (s : State) : (takeFree s).2.tge = s.tge := rfl
@[simp] theorem takeFree_cfg (s : State) : (takeFree s).2.cfg = s.cfg := rfl
@[simp] theorem takeFree_chg (s : State) : (takeFree s).2.chg = s.chg := rfl
@[simp] theorem takeFree_lnk (s : State) : (takeFree s).2.lnk = s.lnk := rfl
@[simp] theorem takeFree_ten (s : State) : (takeFree s).2.ten = s.ten := rfl
@[simp] theorem takeFree_lcp (s : State) : (takeFree s).2.lcp = s.lcp := rfl
@[simp] theorem takeFree_mos (s : State) : (takeFree s).2.mos = s.mos := rfl
@[simp] theorem takeFree_fus (s : State) : (takeFree s).2.fus = s.fus := rfl
@[simp] theorem takeFree_pwr (s : State) : (takeFree s).2.pwr = s.pwr := rfl
@[simp] theorem takeFree_sup (s : State) : (takeFree s).2.sup = s.sup := rfl
@[simp] theorem takeFree_flt (s : State) : (takeFree s).2.flt = s.flt := rfl
@[simp] theorem takeFree_regs (s : State) : (takeFree s).2.regs = s.regs := rfl
@[simp] theorem takeFree_staged (s : State) : (takeFree s).2.staged = s.staged := rfl
@[simp] theorem takeFree_justStaged (s : State) : (takeFree s).2.justStaged = s.justStaged := rfl
@[simp] theorem takeFree_fresh (s : State) : (takeFree s).2.fresh = s.fresh := rfl
@[simp] theorem takeFree_shadows (s : State) : (takeFree s).2.shadows = s.shadows := rfl
@[simp] theorem takeFree_mem (s : State) : (takeFree s).2.mem = s.mem := rfl
@[simp] theorem takeFree_pending (s : State) : (takeFree s).2.pending = s.pending := rfl
@[simp] theorem takeFree_freeCount (s : State) : (takeFree s).2.freeCount = s.freeCount + 1 := rfl

end Sys2Proof.Machine
end

