-- ==== Sys2Proof/Laws/Ops.lean ====
section
/-! SUPPORT. What the shared operations do: tables, registers and their fields, bytes of memory, and the raise of an event. -/

namespace Sys2Proof.Machine

/-! ## Tables -/

@[simp] theorem Tbl.get?_set_self {α : Type} (t : List (Nat × α)) (n : Nat) (v : α) : Tbl.get? (Tbl.set t n v) n = some v := by
  induction t with
  | nil => simp [Tbl.set, Tbl.get?]
  | cons c t ih =>
    unfold Tbl.set
    split
    · simp [Tbl.get?]
    · split
      · simp [Tbl.get?]
      · rename_i h; simp only [Tbl.get?, Ne.symm h, if_false, ih]

theorem Tbl.get?_set_ne {α : Type} {t : List (Nat × α)} {m n : Nat} {v : α} (h : m ≠ n) : Tbl.get? (Tbl.set t n v) m = Tbl.get? t m := by
  induction t with
  | nil => simp [Tbl.set, Tbl.get?, Ne.symm h]
  | cons c t ih =>
    unfold Tbl.set
    split
    · simp [Tbl.get?, Ne.symm h]
    · split
      · rename_i h'; subst h'; simp [Tbl.get?, Ne.symm h]
      · simp only [Tbl.get?, ih]

@[simp] theorem Tbl.get?_del_self {α : Type} (t : List (Nat × α)) (n : Nat) : Tbl.get? (Tbl.del t n) n = none := by
  induction t with
  | nil => rfl
  | cons c t ih =>
    unfold Tbl.del
    split
    · exact ih
    · simp only [Tbl.get?, ih]; exact if_neg ‹_›

theorem Tbl.get?_del_ne {α : Type} {t : List (Nat × α)} {m n : Nat} (h : m ≠ n) : Tbl.get? (Tbl.del t n) m = Tbl.get? t m := by
  induction t with
  | nil => rfl
  | cons c t ih =>
    unfold Tbl.del
    split
    · rename_i h'; subst h'; simp only [Tbl.get?, ih, Ne.symm h, if_false]
    · simp only [Tbl.get?, ih]

@[simp] theorem Tbl.getD_put_self {α : Type} [DecidableEq α] (t : List (Nat × α)) (n : Nat) (d v : α) :
    Tbl.getD (Tbl.put t n d v) n d = v := by
  unfold Tbl.getD Tbl.put
  split
  · simp only [Tbl.get?_del_self, Option.getD_none]; exact Eq.symm ‹_›
  · simp only [Tbl.get?_set_self, Option.getD_some]

theorem Tbl.getD_put_ne {α : Type} [DecidableEq α] {t : List (Nat × α)} {m n : Nat} {d v : α} {e : α} (h : m ≠ n) :
    Tbl.getD (Tbl.put t n d v) m e = Tbl.getD t m e := by
  unfold Tbl.getD Tbl.put
  split
  · rw [Tbl.get?_del_ne h]
  · rw [Tbl.get?_set_ne h]

/-! ## Registers -/

@[simp] theorem rawReg_setRaw_self (s : State) (a : Nat) (v : Word) : rawReg (setRaw a v s) a = v := Tbl.getD_put_self _ _ _ _

theorem rawReg_setRaw_ne {s : State} {a b : Nat} {v : Word} (h : b ≠ a) : rawReg (setRaw a v s) b = rawReg s b := Tbl.getD_put_ne h

theorem Fld.get_lt (f : Fld) (v : Word) : f.get v < 2 ^ f.w := Nat.mod_lt _ (Nat.two_pow_pos _)

theorem Fld.put_toNat (f : Fld) (v : Word) (x : Nat) (h : f.lo + f.w ≤ 32) :
    (f.put v x).toNat = v.toNat / 2 ^ (f.lo + f.w) * 2 ^ (f.lo + f.w) + x % 2 ^ f.w * 2 ^ f.lo + v.toNat % 2 ^ f.lo := by
  have e1 : v.toNat = v.toNat / 2 ^ (f.lo + f.w) * 2 ^ (f.lo + f.w) + f.get v * 2 ^ f.lo + v.toNat % 2 ^ f.lo := by
    have a1 := Nat.div_add_mod v.toNat (2 ^ f.lo)
    have a2 := Nat.div_add_mod (v.toNat / 2 ^ f.lo) (2 ^ f.w)
    rw [Nat.div_div_eq_div_mul, ← Nat.pow_add] at a2
    unfold Fld.get
    generalize v.toNat / 2 ^ f.lo % 2 ^ f.w = m at *
    generalize v.toNat / 2 ^ (f.lo + f.w) = d at *
    rw [← a2] at a1
    rw [Nat.pow_add]
    calc v.toNat = 2 ^ f.lo * (2 ^ f.w * d + m) + v.toNat % 2 ^ f.lo := a1.symm
      _ = _ := by rw [Nat.mul_add, ← Nat.mul_assoc, Nat.mul_comm (2 ^ f.lo * 2 ^ f.w) d, Nat.mul_comm (2 ^ f.lo) m]
  have hx : x % 2 ^ f.w < 2 ^ f.w := Nat.mod_lt _ (Nat.two_pow_pos _)
  have hl : v.toNat % 2 ^ f.lo < 2 ^ f.lo := Nat.mod_lt _ (Nat.two_pow_pos _)
  have hv : v.toNat < 2 ^ 32 := v.isLt
  have hd : v.toNat / 2 ^ (f.lo + f.w) * 2 ^ (f.lo + f.w) + 2 ^ (f.lo + f.w) ≤ 2 ^ 32 := by
    have : v.toNat / 2 ^ (f.lo + f.w) < 2 ^ (32 - (f.lo + f.w)) := by
      rw [Nat.div_lt_iff_lt_mul (Nat.two_pow_pos _), ← Nat.pow_add]; rwa [Nat.sub_add_cancel h]
    have h2 := Nat.mul_le_mul_right (2 ^ (f.lo + f.w)) this
    rw [← Nat.pow_add, Nat.sub_add_cancel h, Nat.succ_mul] at h2
    exact h2
  have hs : x % 2 ^ f.w * 2 ^ f.lo + v.toNat % 2 ^ f.lo < 2 ^ (f.lo + f.w) := by
    have h3 := Nat.mul_le_mul_right (2 ^ f.lo) hx
    rw [Nat.succ_mul, ← Nat.pow_add, Nat.add_comm f.w] at h3
    omega
  unfold Fld.put
  rw [BitVec.toNat_ofNat, Nat.mod_eq_of_lt]
  · generalize v.toNat / 2 ^ (f.lo + f.w) * 2 ^ (f.lo + f.w) = d at *
    generalize f.get v * 2 ^ f.lo = m at *
    generalize x % 2 ^ f.w * 2 ^ f.lo = y at *
    omega
  · generalize v.toNat / 2 ^ (f.lo + f.w) * 2 ^ (f.lo + f.w) = d at *
    generalize f.get v * 2 ^ f.lo = m at *
    generalize x % 2 ^ f.w * 2 ^ f.lo = y at *
    omega

/-- A field that lies in a word reads what was put into it, at its width. -/
theorem Fld.get_put {f : Fld} {v : Word} {x : Nat} (h : f.lo + f.w ≤ 32) : f.get (f.put v x) = x % 2 ^ f.w := by
  unfold Fld.get
  rw [Fld.put_toNat f v x h]
  have hl : v.toNat % 2 ^ f.lo < 2 ^ f.lo := Nat.mod_lt _ (Nat.two_pow_pos _)
  rw [Nat.pow_add, ← Nat.mul_assoc, Nat.mul_right_comm, ← Nat.add_mul, Nat.mul_comm _ (2 ^ f.lo), Nat.mul_add_div (Nat.two_pow_pos _),
    Nat.div_eq_of_lt hl, Nat.add_zero, Nat.mul_comm _ (2 ^ f.w), Nat.mul_add_mod, Nat.mod_mod]

theorem getF_setF {s : State} {f : Fld} {x : Nat} (h : f.lo + f.w ≤ 32) : getF (setF f x s) f = x % 2 ^ f.w := by
  unfold getF setF
  rw [rawReg_setRaw_self, Fld.get_put h]

theorem getF_setF_addr_ne {s : State} {f g : Fld} {x : Nat} (h : g.addr ≠ f.addr) : getF (setF f x s) g = getF s g := by
  unfold getF setF
  rw [rawReg_setRaw_ne h]

/-! ## Bytes of memory -/

@[simp] theorem Mem.read_write_ne {d : Nat → Byte} {m : List Host.Cell} {a n : Nat} {v : Byte} (h : a ≠ n) :
    Mem.read d (Mem.write d m n v) a = Mem.read d m a := by
  induction m with
  | nil => unfold Mem.write; split <;> simp [Mem.read, Ne.symm h]
  | cons c t ih =>
    unfold Mem.write
    split
    · split <;> simp [Mem.read, Ne.symm h]
    · split
      · rename_i hn
        have hc : c.1 ≠ a := fun e => h (e ▸ hn.symm)
        split <;> simp [Mem.read, hc, Ne.symm h]
      · simp only [Mem.read, ih]

theorem Mem.read_of_lt {d : Nat → Byte} {m : List Host.Cell} {lo n : Nat} (hw : Mem.wfFrom d lo m = true) (h : n < lo) :
    Mem.read d m n = d n := by
  induction m generalizing lo with
  | nil => rfl
  | cons c t ih =>
    simp only [Mem.wfFrom, Bool.and_eq_true, decide_eq_true_eq] at hw
    have hc : c.1 ≠ n := by omega
    simp only [Mem.read, hc, if_false]
    exact ih hw.2 (by omega)

/-- A byte that has been written reads back, in memory of canonical form. -/
theorem Mem.read_write_self {d : Nat → Byte} {m : List Host.Cell} {lo n : Nat} {v : Byte} (hw : Mem.wfFrom d lo m = true) :
    Mem.read d (Mem.write d m n v) n = v := by
  induction m generalizing lo with
  | nil => unfold Mem.write; split <;> simp_all [Mem.read]
  | cons c t ih =>
    simp only [Mem.wfFrom, Bool.and_eq_true, decide_eq_true_eq] at hw
    unfold Mem.write
    split
    · split
      · have hc : c.1 ≠ n := by omega
        simp only [Mem.read, hc, if_false, Mem.read_of_lt hw.2 (Nat.lt_succ_of_lt ‹_›)]; exact Eq.symm ‹_›
      · simp [Mem.read]
    · split
      · split
        · rename_i hn hv
          have := Mem.read_of_lt hw.2 (n := n) (by omega)
          rw [this]; exact hv.symm
        · simp [Mem.read]
      · have hc : c.1 ≠ n := fun e => ‹¬n = c.1› e.symm
        simp only [Mem.read, hc, if_false]
        exact ih hw.2

/-! ## The raise of an event -/

/-- What leads from s to t changes only the fault log, the queues of sessions and streams that receive its entries, the register
store and the requests to the ladder. -/
structure LogOnly (s t : State) : Prop where
  head : t.head = s.head
  rru : t.rru = s.rru
  tmb : t.tmb = s.tmb
  sns : t.sns = s.sns
  cro : t.cro = s.cro
  exs : t.exs = s.exs
  pat : t.pat = s.pat
  cal : t.cal = s.cal
  ctg : t.ctg = s.ctg
  trc : t.trc = s.trc
  tge : t.tge = s.tge
  cfg : t.cfg = s.cfg
  chg : t.chg = s.chg
  ten : t.ten = s.ten
  mos : t.mos = s.mos
  fus : t.fus = s.fus
  pwr : t.pwr = s.pwr
  staged : t.staged = s.staged
  justStaged : t.justStaged = s.justStaged
  shadows : t.shadows = s.shadows
  mem : t.mem = s.mem
  freeCount : t.freeCount = s.freeCount
  pending : t.pending = s.pending

theorem LogOnly.refl (s : State) : LogOnly s s :=
  ⟨rfl, rfl, rfl, rfl, rfl, rfl, rfl, rfl, rfl, rfl, rfl, rfl, rfl, rfl, rfl, rfl, rfl, rfl, rfl, rfl, rfl, rfl, rfl⟩

theorem LogOnly.trans {s t u : State} (h : LogOnly s t) (g : LogOnly t u) : LogOnly s u :=
  ⟨g.head.trans h.head, g.rru.trans h.rru, g.tmb.trans h.tmb, g.sns.trans h.sns, g.cro.trans h.cro, g.exs.trans h.exs,
    g.pat.trans h.pat, g.cal.trans h.cal, g.ctg.trans h.ctg, g.trc.trans h.trc, g.tge.trans h.tge, g.cfg.trans h.cfg,
    g.chg.trans h.chg, g.ten.trans h.ten, g.mos.trans h.mos, g.fus.trans h.fus, g.pwr.trans h.pwr, g.staged.trans h.staged,
    g.justStaged.trans h.justStaged, g.shadows.trans h.shadows, g.mem.trans h.mem, g.freeCount.trans h.freeCount, g.pending.trans h.pending⟩

theorem logOnly_setRaw (a : Nat) (v : Word) (s : State) : LogOnly s (setRaw a v s) :=
  ⟨rfl, rfl, rfl, rfl, rfl, rfl, rfl, rfl, rfl, rfl, rfl, rfl, rfl, rfl, rfl, rfl, rfl, rfl, rfl, rfl, rfl, rfl, rfl⟩

theorem logOnly_setF (f : Fld) (x : Nat) (s : State) : LogOnly s (setF f x s) := logOnly_setRaw _ _ _

theorem logOnly_noteFresh (f : Fld) (x : Nat) (s : State) : LogOnly s (noteFresh f x s) :=
  ⟨rfl, rfl, rfl, rfl, rfl, rfl, rfl, rfl, rfl, rfl, rfl, rfl, rfl, rfl, rfl, rfl, rfl, rfl, rfl, rfl, rfl, rfl, rfl⟩

theorem logOnly_addF (f : Fld) (x : Nat) (s : State) : LogOnly s (addF f x s) := (logOnly_noteFresh f _ s).trans (logOnly_setRaw _ _ _)

theorem logOnly_raiseF (f : Fld) (x : Nat) (s : State) : LogOnly s (raiseF f x s) := (logOnly_noteFresh f _ s).trans (logOnly_setRaw _ _ _)

theorem logOnly_onFlt (f : Flt → Flt) (s : State) : LogOnly s (s.onFlt f) :=
  ⟨rfl, rfl, rfl, rfl, rfl, rfl, rfl, rfl, rfl, rfl, rfl, rfl, rfl, rfl, rfl, rfl, rfl, rfl, rfl, rfl, rfl, rfl, rfl⟩

theorem logOnly_onLcp (f : Lcp → Lcp) (s : State) : LogOnly s (s.onLcp f) :=
  ⟨rfl, rfl, rfl, rfl, rfl, rfl, rfl, rfl, rfl, rfl, rfl, rfl, rfl, rfl, rfl, rfl, rfl, rfl, rfl, rfl, rfl, rfl, rfl⟩

theorem logOnly_onLnk (f : Lnk → Lnk) (s : State) : LogOnly s (s.onLnk f) :=
  ⟨rfl, rfl, rfl, rfl, rfl, rfl, rfl, rfl, rfl, rfl, rfl, rfl, rfl, rfl, rfl, rfl, rfl, rfl, rfl, rfl, rfl, rfl, rfl⟩

theorem logOnly_onSup (f : Sup → Sup) (s : State) : LogOnly s (s.onSup f) :=
  ⟨rfl, rfl, rfl, rfl, rfl, rfl, rfl, rfl, rfl, rfl, rfl, rfl, rfl, rfl, rfl, rfl, rfl, rfl, rfl, rfl, rfl, rfl, rfl⟩

theorem logOnly_forEach {α : Type} (l : List α) (f : α → State → State) (hf : ∀ x t, LogOnly t (f x t)) (s : State) :
    LogOnly s (forEach l f s) := by
  unfold forEach
  induction l generalizing s with
  | nil => exact LogOnly.refl s
  | cons a l ih => exact (hf a s).trans (ih (f a s))

theorem logOnly_pushPacket (sid : Nat) (p : Packet) (s : State) : LogOnly s (pushPacket sid p s) := by
  unfold pushPacket
  simp only []
  split
  · exact (logOnly_onLnk _ s).trans (logOnly_onLnk _ _)
  · exact logOnly_onLnk _ s

theorem logOnly_pushEvent (e : LogEntry) (sid : Nat) (s : State) : LogOnly s (pushEvent e sid s) := logOnly_pushPacket _ _ _

theorem logOnly_pushToStreams (e : LogEntry) (s : State) : LogOnly s (pushToStreams e s) := by
  unfold pushToStreams
  simp only []
  split
  · exact (logOnly_forEach _ _ (fun x t => logOnly_pushEvent e x t) s).trans (logOnly_forEach _ _ (fun x t => logOnly_pushEvent e _ t) _)
  · exact logOnly_forEach _ _ (fun x t => logOnly_pushEvent e x t) s

theorem logOnly_storeEntry (e : LogEntry) (s : State) : LogOnly s (storeEntry e s) := by
  unfold storeEntry
  extract_lets e s1 s2
  have h1 : LogOnly s s1 := logOnly_onFlt _ s
  split
  · exact h1.trans ((logOnly_onFlt _ s1).trans (logOnly_addF _ _ _))
  · exact h1.trans ((logOnly_onFlt _ s1).trans ((logOnly_onLcp _ _).trans (logOnly_pushToStreams _ _)))

theorem logOnly_logEntry (e : LogEntry) (s : State) : LogOnly s (logEntry e s) := by
  unfold logEntry
  extract_lets s1
  have h1 : LogOnly s s1 := by
    simp only [s1]
    split
    · exact logOnly_addF _ _ _
    · exact LogOnly.refl s
  split
  · exact h1.trans (logOnly_onFlt _ _)
  · exact h1.trans (logOnly_storeEntry _ _)

theorem logOnly_raiseSev (code : Nat) (sev : Severity) (level : Nat) (fs : List DetailField) (s : State) :
    LogOnly s (raiseSev code sev level fs s) := by
  unfold raiseSev
  extract_lets s1 d
  have h1 : LogOnly s s1 := logOnly_raiseF _ _ _
  split
  · split
    · exact h1
    · exact h1.trans (logOnly_onLcp _ _)
  · split
    · split
      · exact (h1.trans (logOnly_logEntry _ _)).trans (logOnly_onFlt _ _)
      · exact h1.trans (logOnly_logEntry _ _)
    · exact ((((h1.trans (logOnly_logEntry _ _)).trans (logOnly_onFlt _ _)).trans (logOnly_raiseF _ _ _)).trans (logOnly_logEntry _ _)).trans
        (logOnly_onSup _ _)

theorem logOnly_raise (code : Nat) (fs : List DetailField) (s : State) : LogOnly s (raise code fs s) := logOnly_raiseSev _ _ _ _ _

theorem logOnly_raiseLadder (code : Nat) (fs : List DetailField) (x : Bool) (s : State) : LogOnly s (raiseLadder code fs x s) := by
  unfold raiseLadder
  exact (logOnly_raiseSev _ _ _ _ s).trans (logOnly_onSup _ _)

theorem logOnly_raiseLimited (key period code : Nat) (fs : List DetailField) (s : State) : LogOnly s (raiseLimited key period code fs s) := by
  unfold raiseLimited
  extract_lets k late
  split
  · exact (logOnly_onFlt _ s).trans (logOnly_raise _ _ _)
  · exact (logOnly_raiseF _ _ s).trans (logOnly_addF _ _ _)

theorem logOnly_raiseFor (sid code : Nat) (fs : List DetailField) (s : State) : LogOnly s (raiseFor sid code fs s) := by
  unfold raiseFor
  extract_lets e own s1
  split
  · exact (logOnly_raise _ _ s).trans (logOnly_pushEvent _ _ _)
  · exact logOnly_raise _ _ s


/-! `setF` leaves everything but the log. -/

@[simp] theorem setF_head (f : Fld) (x : Nat) (s : State) : (setF f x s).head = s.head := (logOnly_setF f x s).head
@[simp] theorem setF_rru (f : Fld) (x : Nat) (s : State) : (setF f x s).rru = s.rru := (logOnly_setF f x s).rru
@[simp] theorem setF_tmb (f : Fld) (x : Nat) (s : State) : (setF f x s).tmb = s.tmb := (logOnly_setF f x s).tmb
@[simp] theorem setF_sns (f : Fld) (x : Nat) (s : State) : (setF f x s).sns = s.sns := (logOnly_setF f x s).sns
@[simp] theorem setF_cro (f : Fld) (x : Nat) (s : State) : (setF f x s).cro = s.cro := (logOnly_setF f x s).cro
@[simp] theorem setF_exs (f : Fld) (x : Nat) (s : State) : (setF f x s).exs = s.exs := (logOnly_setF f x s).exs
@[simp] theorem setF_pat (f : Fld) (x : Nat) (s : State) : (setF f x s).pat = s.pat := (logOnly_setF f x s).pat
@[simp] theorem setF_cal (f : Fld) (x : Nat) (s : State) : (setF f x s).cal = s.cal := (logOnly_setF f x s).cal
@[simp] theorem setF_ctg (f : Fld) (x : Nat) (s : State) : (setF f x s).ctg = s.ctg := (logOnly_setF f x s).ctg
@[simp] theorem setF_trc (f : Fld) (x : Nat) (s : State) : (setF f x s).trc = s.trc := (logOnly_setF f x s).trc
@[simp] theorem setF_tge (f : Fld) (x : Nat) (s : State) : (setF f x s).tge = s.tge := (logOnly_setF f x s).tge
@[simp] theorem setF_cfg (f : Fld) (x : Nat) (s : State) : (setF f x s).cfg = s.cfg := (logOnly_setF f x s).cfg
@[simp] theorem setF_chg (f : Fld) (x : Nat) (s : State) : (setF f x s).chg = s.chg := (logOnly_setF f x s).chg
@[simp] theorem setF_ten (f : Fld) (x : Nat) (s : State) : (setF f x s).ten = s.ten := (logOnly_setF f x s).ten
@[simp] theorem setF_mos (f : Fld) (x : Nat) (s : State) : (setF f x s).mos = s.mos := (logOnly_setF f x s).mos
@[simp] theorem setF_fus (f : Fld) (x : Nat) (s : State) : (setF f x s).fus = s.fus := (logOnly_setF f x s).fus
@[simp] theorem setF_pwr (f : Fld) (x : Nat) (s : State) : (setF f x s).pwr = s.pwr := (logOnly_setF f x s).pwr
@[simp] theorem setF_staged (f : Fld) (x : Nat) (s : State) : (setF f x s).staged = s.staged := (logOnly_setF f x s).staged
@[simp] theorem setF_justStaged (f : Fld) (x : Nat) (s : State) : (setF f x s).justStaged = s.justStaged := (logOnly_setF f x s).justStaged
@[simp] theorem setF_shadows (f : Fld) (x : Nat) (s : State) : (setF f x s).shadows = s.shadows := (logOnly_setF f x s).shadows
@[simp] theorem setF_mem (f : Fld) (x : Nat) (s : State) : (setF f x s).mem = s.mem := (logOnly_setF f x s).mem
@[simp] theorem setF_freeCount (f : Fld) (x : Nat) (s : State) : (setF f x s).freeCount = s.freeCount := (logOnly_setF f x s).freeCount
@[simp] theorem setF_pending (f : Fld) (x : Nat) (s : State) : (setF f x s).pending = s.pending := (logOnly_setF f x s).pending

/-! `addF` leaves everything but the log. -/

@[simp] theorem addF_head (f : Fld) (x : Nat) (s : State) : (addF f x s).head = s.head := (logOnly_addF f x s).head
@[simp] theorem addF_rru (f : Fld) (x : Nat) (s : State) : (addF f x s).rru = s.rru := (logOnly_addF f x s).rru
@[simp] theorem addF_tmb (f : Fld) (x : Nat) (s : State) : (addF f x s).tmb = s.tmb := (logOnly_addF f x s).tmb
@[simp] theorem addF_sns (f : Fld) (x : Nat) (s : State) : (addF f x s).sns = s.sns := (logOnly_addF f x s).sns
@[simp] theorem addF_cro (f : Fld) (x : Nat) (s : State) : (addF f x s).cro = s.cro := (logOnly_addF f x s).cro
@[simp] theorem addF_exs (f : Fld) (x : Nat) (s : State) : (addF f x s).exs = s.exs := (logOnly_addF f x s).exs
@[simp] theorem addF_pat (f : Fld) (x : Nat) (s : State) : (addF f x s).pat = s.pat := (logOnly_addF f x s).pat
@[simp] theorem addF_cal (f : Fld) (x : Nat) (s : State) : (addF f x s).cal = s.cal := (logOnly_addF f x s).cal
@[simp] theorem addF_ctg (f : Fld) (x : Nat) (s : State) : (addF f x s).ctg = s.ctg := (logOnly_addF f x s).ctg
@[simp] theorem addF_trc (f : Fld) (x : Nat) (s : State) : (addF f x s).trc = s.trc := (logOnly_addF f x s).trc
@[simp] theorem addF_tge (f : Fld) (x : Nat) (s : State) : (addF f x s).tge = s.tge := (logOnly_addF f x s).tge
@[simp] theorem addF_cfg (f : Fld) (x : Nat) (s : State) : (addF f x s).cfg = s.cfg := (logOnly_addF f x s).cfg
@[simp] theorem addF_chg (f : Fld) (x : Nat) (s : State) : (addF f x s).chg = s.chg := (logOnly_addF f x s).chg
@[simp] theorem addF_ten (f : Fld) (x : Nat) (s : State) : (addF f x s).ten = s.ten := (logOnly_addF f x s).ten
@[simp] theorem addF_mos (f : Fld) (x : Nat) (s : State) : (addF f x s).mos = s.mos := (logOnly_addF f x s).mos
@[simp] theorem addF_fus (f : Fld) (x : Nat) (s : State) : (addF f x s).fus = s.fus := (logOnly_addF f x s).fus
@[simp] theorem addF_pwr (f : Fld) (x : Nat) (s : State) : (addF f x s).pwr = s.pwr := (logOnly_addF f x s).pwr
@[simp] theorem addF_staged (f : Fld) (x : Nat) (s : State) : (addF f x s).staged = s.staged := (logOnly_addF f x s).staged
@[simp] theorem addF_justStaged (f : Fld) (x : Nat) (s : State) : (addF f x s).justStaged = s.justStaged := (logOnly_addF f x s).justStaged
@[simp] theorem addF_shadows (f : Fld) (x : Nat) (s : State) : (addF f x s).shadows = s.shadows := (logOnly_addF f x s).shadows
@[simp] theorem addF_mem (f : Fld) (x : Nat) (s : State) : (addF f x s).mem = s.mem := (logOnly_addF f x s).mem
@[simp] theorem addF_freeCount (f : Fld) (x : Nat) (s : State) : (addF f x s).freeCount = s.freeCount := (logOnly_addF f x s).freeCount
@[simp] theorem addF_pending (f : Fld) (x : Nat) (s : State) : (addF f x s).pending = s.pending := (logOnly_addF f x s).pending

/-! `raiseSev` leaves everything but the log. -/

@[simp] theorem raiseSev_head (code : Nat) (sev : Severity) (level : Nat) (fs : List DetailField) (s : State) : (raiseSev code sev level fs s).head = s.head := (logOnly_raiseSev code sev level fs s).head
@[simp] theorem raiseSev_rru (code : Nat) (sev : Severity) (level : Nat) (fs : List DetailField) (s : State) : (raiseSev code sev level fs s).rru = s.rru := (logOnly_raiseSev code sev level fs s).rru
@[simp] theorem raiseSev_tmb (code : Nat) (sev : Severity) (level : Nat) (fs : List DetailField) (s : State) : (raiseSev code sev level fs s).tmb = s.tmb := (logOnly_raiseSev code sev level fs s).tmb
@[simp] theorem raiseSev_sns (code : Nat) (sev : Severity) (level : Nat) (fs : List DetailField) (s : State) : (raiseSev code sev level fs s).sns = s.sns := (logOnly_raiseSev code sev level fs s).sns
@[simp] theorem raiseSev_cro (code : Nat) (sev : Severity) (level : Nat) (fs : List DetailField) (s : State) : (raiseSev code sev level fs s).cro = s.cro := (logOnly_raiseSev code sev level fs s).cro
@[simp] theorem raiseSev_exs (code : Nat) (sev : Severity) (level : Nat) (fs : List DetailField) (s : State) : (raiseSev code sev level fs s).exs = s.exs := (logOnly_raiseSev code sev level fs s).exs
@[simp] theorem raiseSev_pat (code : Nat) (sev : Severity) (level : Nat) (fs : List DetailField) (s : State) : (raiseSev code sev level fs s).pat = s.pat := (logOnly_raiseSev code sev level fs s).pat
@[simp] theorem raiseSev_cal (code : Nat) (sev : Severity) (level : Nat) (fs : List DetailField) (s : State) : (raiseSev code sev level fs s).cal = s.cal := (logOnly_raiseSev code sev level fs s).cal
@[simp] theorem raiseSev_ctg (code : Nat) (sev : Severity) (level : Nat) (fs : List DetailField) (s : State) : (raiseSev code sev level fs s).ctg = s.ctg := (logOnly_raiseSev code sev level fs s).ctg
@[simp] theorem raiseSev_trc (code : Nat) (sev : Severity) (level : Nat) (fs : List DetailField) (s : State) : (raiseSev code sev level fs s).trc = s.trc := (logOnly_raiseSev code sev level fs s).trc
@[simp] theorem raiseSev_tge (code : Nat) (sev : Severity) (level : Nat) (fs : List DetailField) (s : State) : (raiseSev code sev level fs s).tge = s.tge := (logOnly_raiseSev code sev level fs s).tge
@[simp] theorem raiseSev_cfg (code : Nat) (sev : Severity) (level : Nat) (fs : List DetailField) (s : State) : (raiseSev code sev level fs s).cfg = s.cfg := (logOnly_raiseSev code sev level fs s).cfg
@[simp] theorem raiseSev_chg (code : Nat) (sev : Severity) (level : Nat) (fs : List DetailField) (s : State) : (raiseSev code sev level fs s).chg = s.chg := (logOnly_raiseSev code sev level fs s).chg
@[simp] theorem raiseSev_ten (code : Nat) (sev : Severity) (level : Nat) (fs : List DetailField) (s : State) : (raiseSev code sev level fs s).ten = s.ten := (logOnly_raiseSev code sev level fs s).ten
@[simp] theorem raiseSev_mos (code : Nat) (sev : Severity) (level : Nat) (fs : List DetailField) (s : State) : (raiseSev code sev level fs s).mos = s.mos := (logOnly_raiseSev code sev level fs s).mos
@[simp] theorem raiseSev_fus (code : Nat) (sev : Severity) (level : Nat) (fs : List DetailField) (s : State) : (raiseSev code sev level fs s).fus = s.fus := (logOnly_raiseSev code sev level fs s).fus
@[simp] theorem raiseSev_pwr (code : Nat) (sev : Severity) (level : Nat) (fs : List DetailField) (s : State) : (raiseSev code sev level fs s).pwr = s.pwr := (logOnly_raiseSev code sev level fs s).pwr
@[simp] theorem raiseSev_staged (code : Nat) (sev : Severity) (level : Nat) (fs : List DetailField) (s : State) : (raiseSev code sev level fs s).staged = s.staged := (logOnly_raiseSev code sev level fs s).staged
@[simp] theorem raiseSev_justStaged (code : Nat) (sev : Severity) (level : Nat) (fs : List DetailField) (s : State) : (raiseSev code sev level fs s).justStaged = s.justStaged := (logOnly_raiseSev code sev level fs s).justStaged
@[simp] theorem raiseSev_shadows (code : Nat) (sev : Severity) (level : Nat) (fs : List DetailField) (s : State) : (raiseSev code sev level fs s).shadows = s.shadows := (logOnly_raiseSev code sev level fs s).shadows
@[simp] theorem raiseSev_mem (code : Nat) (sev : Severity) (level : Nat) (fs : List DetailField) (s : State) : (raiseSev code sev level fs s).mem = s.mem := (logOnly_raiseSev code sev level fs s).mem
@[simp] theorem raiseSev_freeCount (code : Nat) (sev : Severity) (level : Nat) (fs : List DetailField) (s : State) : (raiseSev code sev level fs s).freeCount = s.freeCount := (logOnly_raiseSev code sev level fs s).freeCount
@[simp] theorem raiseSev_pending (code : Nat) (sev : Severity) (level : Nat) (fs : List DetailField) (s : State) : (raiseSev code sev level fs s).pending = s.pending := (logOnly_raiseSev code sev level fs s).pending

/-! `raise` leaves everything but the log. -/

@[simp] theorem raise_head (code : Nat) (fs : List DetailField) (s : State) : (raise code fs s).head = s.head := (logOnly_raise code fs s).head
@[simp] theorem raise_rru (code : Nat) (fs : List DetailField) (s : State) : (raise code fs s).rru = s.rru := (logOnly_raise code fs s).rru
@[simp] theorem raise_tmb (code : Nat) (fs : List DetailField) (s : State) : (raise code fs s).tmb = s.tmb := (logOnly_raise code fs s).tmb
@[simp] theorem raise_sns (code : Nat) (fs : List DetailField) (s : State) : (raise code fs s).sns = s.sns := (logOnly_raise code fs s).sns
@[simp] theorem raise_cro (code : Nat) (fs : List DetailField) (s : State) : (raise code fs s).cro = s.cro := (logOnly_raise code fs s).cro
@[simp] theorem raise_exs (code : Nat) (fs : List DetailField) (s : State) : (raise code fs s).exs = s.exs := (logOnly_raise code fs s).exs
@[simp] theorem raise_pat (code : Nat) (fs : List DetailField) (s : State) : (raise code fs s).pat = s.pat := (logOnly_raise code fs s).pat
@[simp] theorem raise_cal (code : Nat) (fs : List DetailField) (s : State) : (raise code fs s).cal = s.cal := (logOnly_raise code fs s).cal
@[simp] theorem raise_ctg (code : Nat) (fs : List DetailField) (s : State) : (raise code fs s).ctg = s.ctg := (logOnly_raise code fs s).ctg
@[simp] theorem raise_trc (code : Nat) (fs : List DetailField) (s : State) : (raise code fs s).trc = s.trc := (logOnly_raise code fs s).trc
@[simp] theorem raise_tge (code : Nat) (fs : List DetailField) (s : State) : (raise code fs s).tge = s.tge := (logOnly_raise code fs s).tge
@[simp] theorem raise_cfg (code : Nat) (fs : List DetailField) (s : State) : (raise code fs s).cfg = s.cfg := (logOnly_raise code fs s).cfg
@[simp] theorem raise_chg (code : Nat) (fs : List DetailField) (s : State) : (raise code fs s).chg = s.chg := (logOnly_raise code fs s).chg
@[simp] theorem raise_ten (code : Nat) (fs : List DetailField) (s : State) : (raise code fs s).ten = s.ten := (logOnly_raise code fs s).ten
@[simp] theorem raise_mos (code : Nat) (fs : List DetailField) (s : State) : (raise code fs s).mos = s.mos := (logOnly_raise code fs s).mos
@[simp] theorem raise_fus (code : Nat) (fs : List DetailField) (s : State) : (raise code fs s).fus = s.fus := (logOnly_raise code fs s).fus
@[simp] theorem raise_pwr (code : Nat) (fs : List DetailField) (s : State) : (raise code fs s).pwr = s.pwr := (logOnly_raise code fs s).pwr
@[simp] theorem raise_staged (code : Nat) (fs : List DetailField) (s : State) : (raise code fs s).staged = s.staged := (logOnly_raise code fs s).staged
@[simp] theorem raise_justStaged (code : Nat) (fs : List DetailField) (s : State) : (raise code fs s).justStaged = s.justStaged := (logOnly_raise code fs s).justStaged
@[simp] theorem raise_shadows (code : Nat) (fs : List DetailField) (s : State) : (raise code fs s).shadows = s.shadows := (logOnly_raise code fs s).shadows
@[simp] theorem raise_mem (code : Nat) (fs : List DetailField) (s : State) : (raise code fs s).mem = s.mem := (logOnly_raise code fs s).mem
@[simp] theorem raise_freeCount (code : Nat) (fs : List DetailField) (s : State) : (raise code fs s).freeCount = s.freeCount := (logOnly_raise code fs s).freeCount
@[simp] theorem raise_pending (code : Nat) (fs : List DetailField) (s : State) : (raise code fs s).pending = s.pending := (logOnly_raise code fs s).pending

/-! `raiseLadder` leaves everything but the log. -/

@[simp] theorem raiseLadder_head (code : Nat) (fs : List DetailField) (x : Bool) (s : State) : (raiseLadder code fs x s).head = s.head := (logOnly_raiseLadder code fs x s).head
@[simp] theorem raiseLadder_rru (code : Nat) (fs : List DetailField) (x : Bool) (s : State) : (raiseLadder code fs x s).rru = s.rru := (logOnly_raiseLadder code fs x s).rru
@[simp] theorem raiseLadder_tmb (code : Nat) (fs : List DetailField) (x : Bool) (s : State) : (raiseLadder code fs x s).tmb = s.tmb := (logOnly_raiseLadder code fs x s).tmb
@[simp] theorem raiseLadder_sns (code : Nat) (fs : List DetailField) (x : Bool) (s : State) : (raiseLadder code fs x s).sns = s.sns := (logOnly_raiseLadder code fs x s).sns
@[simp] theorem raiseLadder_cro (code : Nat) (fs : List DetailField) (x : Bool) (s : State) : (raiseLadder code fs x s).cro = s.cro := (logOnly_raiseLadder code fs x s).cro
@[simp] theorem raiseLadder_exs (code : Nat) (fs : List DetailField) (x : Bool) (s : State) : (raiseLadder code fs x s).exs = s.exs := (logOnly_raiseLadder code fs x s).exs
@[simp] theorem raiseLadder_pat (code : Nat) (fs : List DetailField) (x : Bool) (s : State) : (raiseLadder code fs x s).pat = s.pat := (logOnly_raiseLadder code fs x s).pat
@[simp] theorem raiseLadder_cal (code : Nat) (fs : List DetailField) (x : Bool) (s : State) : (raiseLadder code fs x s).cal = s.cal := (logOnly_raiseLadder code fs x s).cal
@[simp] theorem raiseLadder_ctg (code : Nat) (fs : List DetailField) (x : Bool) (s : State) : (raiseLadder code fs x s).ctg = s.ctg := (logOnly_raiseLadder code fs x s).ctg
@[simp] theorem raiseLadder_trc (code : Nat) (fs : List DetailField) (x : Bool) (s : State) : (raiseLadder code fs x s).trc = s.trc := (logOnly_raiseLadder code fs x s).trc
@[simp] theorem raiseLadder_tge (code : Nat) (fs : List DetailField) (x : Bool) (s : State) : (raiseLadder code fs x s).tge = s.tge := (logOnly_raiseLadder code fs x s).tge
@[simp] theorem raiseLadder_cfg (code : Nat) (fs : List DetailField) (x : Bool) (s : State) : (raiseLadder code fs x s).cfg = s.cfg := (logOnly_raiseLadder code fs x s).cfg
@[simp] theorem raiseLadder_chg (code : Nat) (fs : List DetailField) (x : Bool) (s : State) : (raiseLadder code fs x s).chg = s.chg := (logOnly_raiseLadder code fs x s).chg
@[simp] theorem raiseLadder_ten (code : Nat) (fs : List DetailField) (x : Bool) (s : State) : (raiseLadder code fs x s).ten = s.ten := (logOnly_raiseLadder code fs x s).ten
@[simp] theorem raiseLadder_mos (code : Nat) (fs : List DetailField) (x : Bool) (s : State) : (raiseLadder code fs x s).mos = s.mos := (logOnly_raiseLadder code fs x s).mos
@[simp] theorem raiseLadder_fus (code : Nat) (fs : List DetailField) (x : Bool) (s : State) : (raiseLadder code fs x s).fus = s.fus := (logOnly_raiseLadder code fs x s).fus
@[simp] theorem raiseLadder_pwr (code : Nat) (fs : List DetailField) (x : Bool) (s : State) : (raiseLadder code fs x s).pwr = s.pwr := (logOnly_raiseLadder code fs x s).pwr
@[simp] theorem raiseLadder_staged (code : Nat) (fs : List DetailField) (x : Bool) (s : State) : (raiseLadder code fs x s).staged = s.staged := (logOnly_raiseLadder code fs x s).staged
@[simp] theorem raiseLadder_justStaged (code : Nat) (fs : List DetailField) (x : Bool) (s : State) : (raiseLadder code fs x s).justStaged = s.justStaged := (logOnly_raiseLadder code fs x s).justStaged
@[simp] theorem raiseLadder_shadows (code : Nat) (fs : List DetailField) (x : Bool) (s : State) : (raiseLadder code fs x s).shadows = s.shadows := (logOnly_raiseLadder code fs x s).shadows
@[simp] theorem raiseLadder_mem (code : Nat) (fs : List DetailField) (x : Bool) (s : State) : (raiseLadder code fs x s).mem = s.mem := (logOnly_raiseLadder code fs x s).mem
@[simp] theorem raiseLadder_freeCount (code : Nat) (fs : List DetailField) (x : Bool) (s : State) : (raiseLadder code fs x s).freeCount = s.freeCount := (logOnly_raiseLadder code fs x s).freeCount
@[simp] theorem raiseLadder_pending (code : Nat) (fs : List DetailField) (x : Bool) (s : State) : (raiseLadder code fs x s).pending = s.pending := (logOnly_raiseLadder code fs x s).pending

/-! `raiseLimited` leaves everything but the log. -/

@[simp] theorem raiseLimited_head (key period code : Nat) (fs : List DetailField) (s : State) : (raiseLimited key period code fs s).head = s.head := (logOnly_raiseLimited key period code fs s).head
@[simp] theorem raiseLimited_rru (key period code : Nat) (fs : List DetailField) (s : State) : (raiseLimited key period code fs s).rru = s.rru := (logOnly_raiseLimited key period code fs s).rru
@[simp] theorem raiseLimited_tmb (key period code : Nat) (fs : List DetailField) (s : State) : (raiseLimited key period code fs s).tmb = s.tmb := (logOnly_raiseLimited key period code fs s).tmb
@[simp] theorem raiseLimited_sns (key period code : Nat) (fs : List DetailField) (s : State) : (raiseLimited key period code fs s).sns = s.sns := (logOnly_raiseLimited key period code fs s).sns
@[simp] theorem raiseLimited_cro (key period code : Nat) (fs : List DetailField) (s : State) : (raiseLimited key period code fs s).cro = s.cro := (logOnly_raiseLimited key period code fs s).cro
@[simp] theorem raiseLimited_exs (key period code : Nat) (fs : List DetailField) (s : State) : (raiseLimited key period code fs s).exs = s.exs := (logOnly_raiseLimited key period code fs s).exs
@[simp] theorem raiseLimited_pat (key period code : Nat) (fs : List DetailField) (s : State) : (raiseLimited key period code fs s).pat = s.pat := (logOnly_raiseLimited key period code fs s).pat
@[simp] theorem raiseLimited_cal (key period code : Nat) (fs : List DetailField) (s : State) : (raiseLimited key period code fs s).cal = s.cal := (logOnly_raiseLimited key period code fs s).cal
@[simp] theorem raiseLimited_ctg (key period code : Nat) (fs : List DetailField) (s : State) : (raiseLimited key period code fs s).ctg = s.ctg := (logOnly_raiseLimited key period code fs s).ctg
@[simp] theorem raiseLimited_trc (key period code : Nat) (fs : List DetailField) (s : State) : (raiseLimited key period code fs s).trc = s.trc := (logOnly_raiseLimited key period code fs s).trc
@[simp] theorem raiseLimited_tge (key period code : Nat) (fs : List DetailField) (s : State) : (raiseLimited key period code fs s).tge = s.tge := (logOnly_raiseLimited key period code fs s).tge
@[simp] theorem raiseLimited_cfg (key period code : Nat) (fs : List DetailField) (s : State) : (raiseLimited key period code fs s).cfg = s.cfg := (logOnly_raiseLimited key period code fs s).cfg
@[simp] theorem raiseLimited_chg (key period code : Nat) (fs : List DetailField) (s : State) : (raiseLimited key period code fs s).chg = s.chg := (logOnly_raiseLimited key period code fs s).chg
@[simp] theorem raiseLimited_ten (key period code : Nat) (fs : List DetailField) (s : State) : (raiseLimited key period code fs s).ten = s.ten := (logOnly_raiseLimited key period code fs s).ten
@[simp] theorem raiseLimited_mos (key period code : Nat) (fs : List DetailField) (s : State) : (raiseLimited key period code fs s).mos = s.mos := (logOnly_raiseLimited key period code fs s).mos
@[simp] theorem raiseLimited_fus (key period code : Nat) (fs : List DetailField) (s : State) : (raiseLimited key period code fs s).fus = s.fus := (logOnly_raiseLimited key period code fs s).fus
@[simp] theorem raiseLimited_pwr (key period code : Nat) (fs : List DetailField) (s : State) : (raiseLimited key period code fs s).pwr = s.pwr := (logOnly_raiseLimited key period code fs s).pwr
@[simp] theorem raiseLimited_staged (key period code : Nat) (fs : List DetailField) (s : State) : (raiseLimited key period code fs s).staged = s.staged := (logOnly_raiseLimited key period code fs s).staged
@[simp] theorem raiseLimited_justStaged (key period code : Nat) (fs : List DetailField) (s : State) : (raiseLimited key period code fs s).justStaged = s.justStaged := (logOnly_raiseLimited key period code fs s).justStaged
@[simp] theorem raiseLimited_shadows (key period code : Nat) (fs : List DetailField) (s : State) : (raiseLimited key period code fs s).shadows = s.shadows := (logOnly_raiseLimited key period code fs s).shadows
@[simp] theorem raiseLimited_mem (key period code : Nat) (fs : List DetailField) (s : State) : (raiseLimited key period code fs s).mem = s.mem := (logOnly_raiseLimited key period code fs s).mem
@[simp] theorem raiseLimited_freeCount (key period code : Nat) (fs : List DetailField) (s : State) : (raiseLimited key period code fs s).freeCount = s.freeCount := (logOnly_raiseLimited key period code fs s).freeCount
@[simp] theorem raiseLimited_pending (key period code : Nat) (fs : List DetailField) (s : State) : (raiseLimited key period code fs s).pending = s.pending := (logOnly_raiseLimited key period code fs s).pending

/-! `raiseFor` leaves everything but the log. -/

@[simp] theorem raiseFor_head (sid code : Nat) (fs : List DetailField) (s : State) : (raiseFor sid code fs s).head = s.head := (logOnly_raiseFor sid code fs s).head
@[simp] theorem raiseFor_rru (sid code : Nat) (fs : List DetailField) (s : State) : (raiseFor sid code fs s).rru = s.rru := (logOnly_raiseFor sid code fs s).rru
@[simp] theorem raiseFor_tmb (sid code : Nat) (fs : List DetailField) (s : State) : (raiseFor sid code fs s).tmb = s.tmb := (logOnly_raiseFor sid code fs s).tmb
@[simp] theorem raiseFor_sns (sid code : Nat) (fs : List DetailField) (s : State) : (raiseFor sid code fs s).sns = s.sns := (logOnly_raiseFor sid code fs s).sns
@[simp] theorem raiseFor_cro (sid code : Nat) (fs : List DetailField) (s : State) : (raiseFor sid code fs s).cro = s.cro := (logOnly_raiseFor sid code fs s).cro
@[simp] theorem raiseFor_exs (sid code : Nat) (fs : List DetailField) (s : State) : (raiseFor sid code fs s).exs = s.exs := (logOnly_raiseFor sid code fs s).exs
@[simp] theorem raiseFor_pat (sid code : Nat) (fs : List DetailField) (s : State) : (raiseFor sid code fs s).pat = s.pat := (logOnly_raiseFor sid code fs s).pat
@[simp] theorem raiseFor_cal (sid code : Nat) (fs : List DetailField) (s : State) : (raiseFor sid code fs s).cal = s.cal := (logOnly_raiseFor sid code fs s).cal
@[simp] theorem raiseFor_ctg (sid code : Nat) (fs : List DetailField) (s : State) : (raiseFor sid code fs s).ctg = s.ctg := (logOnly_raiseFor sid code fs s).ctg
@[simp] theorem raiseFor_trc (sid code : Nat) (fs : List DetailField) (s : State) : (raiseFor sid code fs s).trc = s.trc := (logOnly_raiseFor sid code fs s).trc
@[simp] theorem raiseFor_tge (sid code : Nat) (fs : List DetailField) (s : State) : (raiseFor sid code fs s).tge = s.tge := (logOnly_raiseFor sid code fs s).tge
@[simp] theorem raiseFor_cfg (sid code : Nat) (fs : List DetailField) (s : State) : (raiseFor sid code fs s).cfg = s.cfg := (logOnly_raiseFor sid code fs s).cfg
@[simp] theorem raiseFor_chg (sid code : Nat) (fs : List DetailField) (s : State) : (raiseFor sid code fs s).chg = s.chg := (logOnly_raiseFor sid code fs s).chg
@[simp] theorem raiseFor_ten (sid code : Nat) (fs : List DetailField) (s : State) : (raiseFor sid code fs s).ten = s.ten := (logOnly_raiseFor sid code fs s).ten
@[simp] theorem raiseFor_mos (sid code : Nat) (fs : List DetailField) (s : State) : (raiseFor sid code fs s).mos = s.mos := (logOnly_raiseFor sid code fs s).mos
@[simp] theorem raiseFor_fus (sid code : Nat) (fs : List DetailField) (s : State) : (raiseFor sid code fs s).fus = s.fus := (logOnly_raiseFor sid code fs s).fus
@[simp] theorem raiseFor_pwr (sid code : Nat) (fs : List DetailField) (s : State) : (raiseFor sid code fs s).pwr = s.pwr := (logOnly_raiseFor sid code fs s).pwr
@[simp] theorem raiseFor_staged (sid code : Nat) (fs : List DetailField) (s : State) : (raiseFor sid code fs s).staged = s.staged := (logOnly_raiseFor sid code fs s).staged
@[simp] theorem raiseFor_justStaged (sid code : Nat) (fs : List DetailField) (s : State) : (raiseFor sid code fs s).justStaged = s.justStaged := (logOnly_raiseFor sid code fs s).justStaged
@[simp] theorem raiseFor_shadows (sid code : Nat) (fs : List DetailField) (s : State) : (raiseFor sid code fs s).shadows = s.shadows := (logOnly_raiseFor sid code fs s).shadows
@[simp] theorem raiseFor_mem (sid code : Nat) (fs : List DetailField) (s : State) : (raiseFor sid code fs s).mem = s.mem := (logOnly_raiseFor sid code fs s).mem
@[simp] theorem raiseFor_freeCount (sid code : Nat) (fs : List DetailField) (s : State) : (raiseFor sid code fs s).freeCount = s.freeCount := (logOnly_raiseFor sid code fs s).freeCount
@[simp] theorem raiseFor_pending (sid code : Nat) (fs : List DetailField) (s : State) : (raiseFor sid code fs s).pending = s.pending := (logOnly_raiseFor sid code fs s).pending

/-! `setHead` changes the head state, and what goes with it, alone. -/

@[simp] theorem setHead_rru (st : HeadState) (s : State) : (setHead st s).rru = s.rru := by unfold setHead; split <;> rfl
@[simp] theorem setHead_tmb (st : HeadState) (s : State) : (setHead st s).tmb = s.tmb := by unfold setHead; split <;> rfl
@[simp] theorem setHead_sns (st : HeadState) (s : State) : (setHead st s).sns = s.sns := by unfold setHead; split <;> rfl
@[simp] theorem setHead_cro (st : HeadState) (s : State) : (setHead st s).cro = s.cro := by unfold setHead; split <;> rfl
@[simp] theorem setHead_exs (st : HeadState) (s : State) : (setHead st s).exs = s.exs := by unfold setHead; split <;> rfl
@[simp] theorem setHead_pat (st : HeadState) (s : State) : (setHead st s).pat = s.pat := by unfold setHead; split <;> rfl
@[simp] theorem setHead_cal (st : HeadState) (s : State) : (setHead st s).cal = s.cal := by unfold setHead; split <;> rfl
@[simp] theorem setHead_ctg (st : HeadState) (s : State) : (setHead st s).ctg = s.ctg := by unfold setHead; split <;> rfl
@[simp] theorem setHead_trc (st : HeadState) (s : State) : (setHead st s).trc = s.trc := by unfold setHead; split <;> rfl
@[simp] theorem setHead_tge (st : HeadState) (s : State) : (setHead st s).tge = s.tge := by unfold setHead; split <;> rfl
@[simp] theorem setHead_cfg (st : HeadState) (s : State) : (setHead st s).cfg = s.cfg := by unfold setHead; split <;> rfl
@[simp] theorem setHead_chg (st : HeadState) (s : State) : (setHead st s).chg = s.chg := by unfold setHead; split <;> rfl
@[simp] theorem setHead_lnk (st : HeadState) (s : State) : (setHead st s).lnk = s.lnk := by unfold setHead; split <;> rfl
@[simp] theorem setHead_ten (st : HeadState) (s : State) : (setHead st s).ten = s.ten := by unfold setHead; split <;> rfl
@[simp] theorem setHead_lcp (st : HeadState) (s : State) : (setHead st s).lcp = s.lcp := by unfold setHead; split <;> rfl
@[simp] theorem setHead_mos (st : HeadState) (s : State) : (setHead st s).mos = s.mos := by unfold setHead; split <;> rfl
@[simp] theorem setHead_fus (st : HeadState) (s : State) : (setHead st s).fus = s.fus := by unfold setHead; split <;> rfl
@[simp] theorem setHead_pwr (st : HeadState) (s : State) : (setHead st s).pwr = s.pwr := by unfold setHead; split <;> rfl
@[simp] theorem setHead_sup (st : HeadState) (s : State) : (setHead st s).sup = s.sup := by unfold setHead; split <;> rfl
@[simp] theorem setHead_flt (st : HeadState) (s : State) : (setHead st s).flt = s.flt := by unfold setHead; split <;> rfl
@[simp] theorem setHead_regs (st : HeadState) (s : State) : (setHead st s).regs = s.regs := by unfold setHead; split <;> rfl
@[simp] theorem setHead_staged (st : HeadState) (s : State) : (setHead st s).staged = s.staged := by unfold setHead; split <;> rfl
@[simp] theorem setHead_justStaged (st : HeadState) (s : State) : (setHead st s).justStaged = s.justStaged := by unfold setHead; split <;> rfl
@[simp] theorem setHead_shadows (st : HeadState) (s : State) : (setHead st s).shadows = s.shadows := by unfold setHead; split <;> rfl
@[simp] theorem setHead_mem (st : HeadState) (s : State) : (setHead st s).mem = s.mem := by unfold setHead; split <;> rfl
@[simp] theorem setHead_freeCount (st : HeadState) (s : State) : (setHead st s).freeCount = s.freeCount := by unfold setHead; split <;> rfl
@[simp] theorem setHead_pending (st : HeadState) (s : State) : (setHead st s).pending = s.pending := by unfold setHead; split <;> rfl
@[simp] theorem setHead_st (st : HeadState) (s : State) : (setHead st s).head.st = st := by
  unfold setHead
  split
  · assumption
  · rfl

/-! `plainWrite` changes the registers and the staged values alone. -/

/-- A plain write changes the register store, what is staged in this tick, and what this tick has changed there. -/
theorem plainWrite_eq (a : Nat) (v : Word) (s : State) : ∃ regs js fresh,
    plainWrite a v s = { s with regs := regs, justStaged := js, fresh := fresh } := by
  unfold plainWrite
  simp only []
  cases Tbl.get? s.fresh a <;> dsimp only <;> split <;> exact ⟨_, _, _, rfl⟩

@[simp] theorem plainWrite_head (a : Nat) (v : Word) (s : State) : (plainWrite a v s).head = s.head := by
  obtain ⟨_, _, _, h⟩ := plainWrite_eq a v s; rw [h]
@[simp] theorem plainWrite_rru (a : Nat) (v : Word) (s : State) : (plainWrite a v s).rru = s.rru := by
  obtain ⟨_, _, _, h⟩ := plainWrite_eq a v s; rw [h]
@[simp] theorem plainWrite_tmb (a : Nat) (v : Word) (s : State) : (plainWrite a v s).tmb = s.tmb := by
  obtain ⟨_, _, _, h⟩ := plainWrite_eq a v s; rw [h]
@[simp] theorem plainWrite_sns (a : Nat) (v : Word) (s : State) : (plainWrite a v s).sns = s.sns := by
  obtain ⟨_, _, _, h⟩ := plainWrite_eq a v s; rw [h]
@[simp] theorem plainWrite_cro (a : Nat) (v : Word) (s : State) : (plainWrite a v s).cro = s.cro := by
  obtain ⟨_, _, _, h⟩ := plainWrite_eq a v s; rw [h]
@[simp] theorem plainWrite_exs (a : Nat) (v : Word) (s : State) : (plainWrite a v s).exs = s.exs := by
  obtain ⟨_, _, _, h⟩ := plainWrite_eq a v s; rw [h]
@[simp] theorem plainWrite_pat (a : Nat) (v : Word) (s : State) : (plainWrite a v s).pat = s.pat := by
  obtain ⟨_, _, _, h⟩ := plainWrite_eq a v s; rw [h]
@[simp] theorem plainWrite_cal (a : Nat) (v : Word) (s : State) : (plainWrite a v s).cal = s.cal := by
  obtain ⟨_, _, _, h⟩ := plainWrite_eq a v s; rw [h]
@[simp] theorem plainWrite_ctg (a : Nat) (v : Word) (s : State) : (plainWrite a v s).ctg = s.ctg := by
  obtain ⟨_, _, _, h⟩ := plainWrite_eq a v s; rw [h]
@[simp] theorem plainWrite_trc (a : Nat) (v : Word) (s : State) : (plainWrite a v s).trc = s.trc := by
  obtain ⟨_, _, _, h⟩ := plainWrite_eq a v s; rw [h]
@[simp] theorem plainWrite_tge (a : Nat) (v : Word) (s : State) : (plainWrite a v s).tge = s.tge := by
  obtain ⟨_, _, _, h⟩ := plainWrite_eq a v s; rw [h]
@[simp] theorem plainWrite_cfg (a : Nat) (v : Word) (s : State) : (plainWrite a v s).cfg = s.cfg := by
  obtain ⟨_, _, _, h⟩ := plainWrite_eq a v s; rw [h]
@[simp] theorem plainWrite_chg (a : Nat) (v : Word) (s : State) : (plainWrite a v s).chg = s.chg := by
  obtain ⟨_, _, _, h⟩ := plainWrite_eq a v s; rw [h]
@[simp] theorem plainWrite_lnk (a : Nat) (v : Word) (s : State) : (plainWrite a v s).lnk = s.lnk := by
  obtain ⟨_, _, _, h⟩ := plainWrite_eq a v s; rw [h]
@[simp] theorem plainWrite_ten (a : Nat) (v : Word) (s : State) : (plainWrite a v s).ten = s.ten := by
  obtain ⟨_, _, _, h⟩ := plainWrite_eq a v s; rw [h]
@[simp] theorem plainWrite_lcp (a : Nat) (v : Word) (s : State) : (plainWrite a v s).lcp = s.lcp := by
  obtain ⟨_, _, _, h⟩ := plainWrite_eq a v s; rw [h]
@[simp] theorem plainWrite_mos (a : Nat) (v : Word) (s : State) : (plainWrite a v s).mos = s.mos := by
  obtain ⟨_, _, _, h⟩ := plainWrite_eq a v s; rw [h]
@[simp] theorem plainWrite_fus (a : Nat) (v : Word) (s : State) : (plainWrite a v s).fus = s.fus := by
  obtain ⟨_, _, _, h⟩ := plainWrite_eq a v s; rw [h]
@[simp] theorem plainWrite_pwr (a : Nat) (v : Word) (s : State) : (plainWrite a v s).pwr = s.pwr := by
  obtain ⟨_, _, _, h⟩ := plainWrite_eq a v s; rw [h]
@[simp] theorem plainWrite_sup (a : Nat) (v : Word) (s : State) : (plainWrite a v s).sup = s.sup := by
  obtain ⟨_, _, _, h⟩ := plainWrite_eq a v s; rw [h]
@[simp] theorem plainWrite_flt (a : Nat) (v : Word) (s : State) : (plainWrite a v s).flt = s.flt := by
  obtain ⟨_, _, _, h⟩ := plainWrite_eq a v s; rw [h]
@[simp] theorem plainWrite_staged (a : Nat) (v : Word) (s : State) : (plainWrite a v s).staged = s.staged := by
  obtain ⟨_, _, _, h⟩ := plainWrite_eq a v s; rw [h]
@[simp] theorem plainWrite_shadows (a : Nat) (v : Word) (s : State) : (plainWrite a v s).shadows = s.shadows := by
  obtain ⟨_, _, _, h⟩ := plainWrite_eq a v s; rw [h]
@[simp] theorem plainWrite_mem (a : Nat) (v : Word) (s : State) : (plainWrite a v s).mem = s.mem := by
  obtain ⟨_, _, _, h⟩ := plainWrite_eq a v s; rw [h]
@[simp] theorem plainWrite_freeCount (a : Nat) (v : Word) (s : State) : (plainWrite a v s).freeCount = s.freeCount := by
  obtain ⟨_, _, _, h⟩ := plainWrite_eq a v s; rw [h]
@[simp] theorem plainWrite_pending (a : Nat) (v : Word) (s : State) : (plainWrite a v s).pending = s.pending := by
  obtain ⟨_, _, _, h⟩ := plainWrite_eq a v s; rw [h]

end Sys2Proof.Machine
end

