-- ==== Sys2Proof/Laws/Events.lean ====
section
/-! SUPPORT. What the raise of an event does to the register store: its EVT bit, and the counters of block FLT. -/

namespace Sys2Proof.Machine

/-- A word of the register store follows from the store alone. -/
theorem rawReg_of_regs {s t : State} (h : t.regs = s.regs) (a : Nat) : rawReg t a = rawReg s a := by unfold rawReg; rw [h]

theorem getF_of_regs {s t : State} (h : t.regs = s.regs) (f : Fld) : getF t f = getF s f := by unfold getF; rw [rawReg_of_regs h]

theorem rawReg_setF_ne {s : State} {f : Fld} {x a : Nat} (h : a ≠ f.addr) : rawReg (setF f x s) a = rawReg s a := rawReg_setRaw_ne h

theorem rawReg_addF_ne {s : State} {f : Fld} {x a : Nat} (h : a ≠ f.addr) : rawReg (addF f x s) a = rawReg s a := rawReg_setRaw_ne h

theorem pushPacket_regs (sid : Nat) (p : Packet) (s : State) : (pushPacket sid p s).regs = s.regs := by
  unfold pushPacket
  simp only []
  split <;> rfl

theorem forEach_regs {α : Type} (l : List α) (f : α → State → State) (hf : ∀ x t, (f x t).regs = t.regs) (s : State) :
    (forEach l f s).regs = s.regs := by
  unfold forEach
  induction l generalizing s with
  | nil => rfl
  | cons a l ih => exact (ih (f a s)).trans (hf a s)

theorem pushToStreams_regs (e : LogEntry) (s : State) : (pushToStreams e s).regs = s.regs := by
  unfold pushToStreams
  simp only []
  split
  · exact (forEach_regs _ _ (fun _ t => pushPacket_regs _ _ t) _).trans (forEach_regs _ _ (fun _ t => pushPacket_regs _ _ t) s)
  · exact forEach_regs _ _ (fun x t => pushPacket_regs _ _ t) s

/-- Writing or keeping an entry changes no register but `FLT_CNT`. -/
theorem rawReg_logEntry {e : LogEntry} {s : State} {a : Nat} (h : a ≠ A.FLT_CNT) : rawReg (logEntry e s) a = rawReg s a := by
  have hs : ∀ (e : LogEntry) (s : State), rawReg (storeEntry e s) a = rawReg s a := by
    intro e s
    unfold storeEntry
    extract_lets e s1 s2
    split
    · exact rawReg_addF_ne h
    · exact rawReg_of_regs (pushToStreams_regs _ _) a
  unfold logEntry
  extract_lets s1
  have h1 : rawReg s1 a = rawReg s a := by
    simp only [s1]
    split
    · exact rawReg_addF_ne h
    · rfl
  split
  · exact h1
  · exact (hs _ _).trans h1

/-- The raise of an event changes no register but its EVT register, that of an escalation, and `FLT_CNT`. -/
theorem rawReg_raiseSev {code : Nat} {sev : Severity} {level : Nat} {fs : List DetailField} {s : State} {a : Nat} (h : a ≠ A.FLT_CNT)
    (he : a ≠ (evtField code).addr) (hx : a ≠ (evtField 0x1102).addr) : rawReg (raiseSev code sev level fs s) a = rawReg s a := by
  unfold raiseSev
  extract_lets s1 d
  have h1 : rawReg s1 a = rawReg s a := rawReg_setF_ne he
  split
  · split <;> exact h1
  · split
    · split
      · exact (rawReg_logEntry h).trans h1
      · exact (rawReg_logEntry h).trans h1
    · exact (rawReg_logEntry h).trans ((rawReg_setF_ne hx).trans ((rawReg_logEntry h).trans h1))

theorem rawReg_raise {code : Nat} {fs : List DetailField} {s : State} {a : Nat} (h : a ≠ A.FLT_CNT) (he : a ≠ (evtField code).addr)
    (hx : a ≠ (evtField 0x1102).addr) : rawReg (raise code fs s) a = rawReg s a := rawReg_raiseSev h he hx

theorem getF_raise {code : Nat} {fs : List DetailField} {s : State} {f : Fld} (h : f.addr ≠ A.FLT_CNT) (he : f.addr ≠ (evtField code).addr)
    (hx : f.addr ≠ (evtField 0x1102).addr) : getF (raise code fs s) f = getF s f := by unfold getF; rw [rawReg_raise h he hx]

/-- R871: an event of a block other than FLT sets its EVT bit. -/
theorem getF_raise_evt {code : Nat} {fs : List DetailField} {s : State} (h : (evtField code).addr ≠ A.FLT_CNT)
    (hx : (evtField code).addr ≠ (evtField 0x1102).addr) (hw : (evtField code).lo + (evtField code).w ≤ 32) :
    getF (raise code fs s) (evtField code) = 1 % 2 ^ (evtField code).w := by
  have h1 : getF (setF (evtField code) 1 s) (evtField code) = 1 % 2 ^ (evtField code).w := getF_setF hw
  have hl : ∀ (e : LogEntry) (t : State), getF (logEntry e t) (evtField code) = getF t (evtField code) := by
    intro e t; unfold getF; rw [rawReg_logEntry h]
  unfold raise raiseSev
  extract_lets s1 d
  split
  · split <;> exact h1
  · split
    · split
      · exact (hl _ _).trans h1
      · exact (hl _ _).trans h1
    · refine (hl _ _).trans ((getF_setF_addr_ne hx).trans ((hl _ _).trans h1))

end Sys2Proof.Machine
end

