-- ==== Sys2Proof/Laws/Bus.lean ====
section
/-! SUPPORT. What a write and a read of the register bus do, once for every register. -/

namespace Sys2Proof.Machine

/-- The key store and the contexts, from which R668 bars initiators, are no registers of another block. -/
theorem tenantBarred_register {who : Initiator} {a : Nat} (h : a < 0xC0020 ∨ 0xC0060 ≤ a ∧ a < 0x20000000) : tenantBarred who a = false := by
  have h1 : (decide (0xC0020 ≤ a) && decide (a < 0xC0060)) = false := by
    rcases h with h | h
    · simp; omega
    · simp; omega
  have h2 : (decide (0x20000000 ≤ a) && decide (a < 0x20100000)) = false := by
    rcases h with h | h
    · simp; omega
    · simp; omega
  unfold tenantBarred
  rw [h1, h2]
  cases who <;> rfl

/-- A write of a register without RWL fields and LOCK bits, by an initiator that is not barred, is the write of its block. -/
theorem busPut_register {who : Initiator} {a : Nat} {v : Word} {s : State} (hu : busOpen s who = true) (hd : wordDefined a = true)
    (hb : tenantBarred who a = false) (ha : a < 0x130000) (hl : maskOf (fun d => d.acc == .rwl) (fieldsAt a) = 0)
    (hs : maskOf (fun d => d.acc == .w1s && !d.sensed) (fieldsAt a) = 0) : busPut who a v s = (regWrite who a v s).2 := by
  have hk : keepLocked s a v = v := by
    have e : ∀ x r : Word, (x &&& ~~~(0 : Word)) ||| (r &&& 0) = x := by
      intro x r
      have hn : ~~~(0 : Word) = BitVec.allOnes 32 := by decide
      rw [hn, BitVec.and_allOnes]
      exact (congrArg (x ||| ·) BitVec.and_zero).trans BitVec.or_zero
    unfold keepLocked
    rw [hl]
    split
    · exact e _ _
    · rfl
  have hw : ∀ t, setLock a v t = t := by
    intro t
    unfold setLock
    rw [hs]
    simp
  unfold busPut busWrite
  simp only [hu, hd, hb, hk, ha, if_true, Bool.not_true, Bool.false_eq_true, if_false, hw]

/-- A write of an address that no register or window has is only counted (R960). -/
theorem busPut_undefined {who : Initiator} {a : Nat} {v : Word} {s : State} (hu : busOpen s who = true) (hd : wordDefined a = false) :
    busPut who a v s = addF R.GLB_BUS_ERR_WRITES 1 s := by
  unfold busPut busWrite
  simp [hu, hd]

/-- A write of a register whose block is not locked. -/
theorem busPut_unlocked {who : Initiator} {a : Nat} {v : Word} {s : State} (hu : busOpen s who = true) (hd : wordDefined a = true)
    (hb : tenantBarred who a = false) (ha : a < 0x130000) (hl : lockedBlock s (a / 0x10000) = false) :
    busPut who a v s = setLock a v (regWrite who a v s).2 := by
  have hk : keepLocked s a v = v := by unfold keepLocked; simp [hl]
  unfold busPut busWrite
  simp only [hu, hd, hb, hk, ha, if_true, Bool.not_true, Bool.false_eq_true, if_false]

/-! ## Fields of one bit -/

theorem flagF_eq_getLsbD {s : State} {f : Fld} (h : f.w = 1) : flagF s f = (rawReg s f.addr).getLsbD f.lo := by
  unfold flagF getF Fld.get
  rw [h, BitVec.getLsbD, Nat.testBit, Nat.shiftRight_eq_div_pow, Nat.one_and_eq_mod_two] <;> rfl

/-- The word that a plain write leaves: bits that the head set in this tick are not cleared (R18). -/
theorem rawReg_plainWrite (a : Nat) (v : Word) (s : State) : rawReg (plainWrite a v s) a =
    clearBits ((rawReg s a &&& ~~~(maskOf (fun d => !d.sensed && (d.acc == .rw || (d.acc == .rwl && !lockedBlock s (a / 0x10000)) ||
        (d.acc == .rws && noRaster s))) (fieldsAt a))) |||
      (v &&& maskOf (fun d => !d.sensed && (d.acc == .rw || (d.acc == .rwl && !lockedBlock s (a / 0x10000)) ||
        (d.acc == .rws && noRaster s))) (fieldsAt a))) v (maskOf (fun d => d.acc == .w1c) (fieldsAt a))
      (((Tbl.get? s.fresh a).map Fresh.news).getD 0) := by
  have hj : ∀ (t : State) (w : Word) (x : List (Nat × Word)), rawReg { setRaw a w t with justStaged := x } a = w :=
    fun t w _ => rawReg_setRaw_self t a w
  unfold plainWrite
  simp only []
  cases Tbl.get? s.fresh a <;> dsimp only <;> split <;>
    simp only [hj, Option.map_none, Option.map_some, Option.getD_none, Option.getD_some]

/-- A plain write leaves every other register. -/
theorem rawReg_plainWrite_ne {a b : Nat} {v : Word} {s : State} (h : b ≠ a) : rawReg (plainWrite a v s) b = rawReg s b := by
  have hj : ∀ (t : State) (w : Word) (x : List (Nat × Word)), rawReg { setRaw a w t with justStaged := x } b = rawReg t b :=
    fun t w _ => rawReg_setRaw_ne (s := t) (v := w) h
  have hf : ∀ x, rawReg { s with fresh := x } b = rawReg s b := fun _ => rfl
  unfold plainWrite
  simp only []
  cases Tbl.get? s.fresh a <;> dsimp only <;> split <;> simp only [rawReg_setRaw_ne h, hj, hf]

/-- A plain write gives a bit of an RW field its value. -/
theorem plainWrite_bit {a i : Nat} {v : Word} {s : State}
    (h : ∀ lk now : Bool, (maskOf (fun d => !d.sensed && (d.acc == .rw || (d.acc == .rwl && !lk) || (d.acc == .rws && now)))
      (fieldsAt a)).getLsbD i = true)
    (hc : (maskOf (fun d => d.acc == .w1c) (fieldsAt a)).getLsbD i = false) :
    (rawReg (plainWrite a v s) a).getLsbD i = v.getLsbD i := by
  have hi : i < 32 := BitVec.lt_of_getLsbD (h true true)
  rw [rawReg_plainWrite, clearBits]
  simp only [BitVec.getLsbD_and, BitVec.getLsbD_or, BitVec.getLsbD_not, h, hc, hi, decide_true, Bool.not_true, Bool.and_false,
    Bool.false_or, Bool.and_true, Bool.false_and, Bool.not_false]

end Sys2Proof.Machine
end

