-- ==== Sys2Proof/Machine/Pins.lean ====
section
/-! DEFINITION. Chapter 23: what the head drives on its supply outputs, on its presence line and on the indicators of the module (R923,
R933, R934, R936, R938, R941). -/

namespace Sys2Proof.Machine

/-! ## Supplies and lines -/

/-- The processor die is powered. -/
def diePowered (s : State) : Bool := s.pwr.aon && s.head.st != .off && !asleep s

/-- R923: the fans run whenever the cooler or the processor die is powered. -/
def fansRun (s : State) : Bool := diePowered s || (s.pwr.aon && s.sns.coolOn)

/-- R933: +3V3_OUT is on from firmware ready until SLEEP or parking; HOLD and restarts leave it on. -/
def auxSupplyOn (s : State) : Bool :=
  diePowered s && match s.head.st with
    | .unconfigured | .configuring | .acquiring | .running | .hold => true
    | .boot | .sleep => s.head.fwReady
    | .off => false

/-- R934: KEY_PRES pulls low while the presence contact of the key slot is asserted and the always-on domain is powered. -/
def keyPresLow (s : State) : Bool := s.pwr.aon && s.cfg.keyInSlot

/-- R936: +3V3_KEY is powered only while the presence line is asserted. -/
def keySupplyOn (s : State) : Bool := diePowered s && s.cfg.keyInSlot

/-- R938: +12V_MOT is supplied only while the cartridge state is HOMING or READY. -/
def motorSupplyOn (s : State) : Bool := diePowered s && (s.ctg.st == .homing || s.ctg.st == .ready)

/-! ## Indicators (R941) -/

/-- R941: what an indicator shows; blinking in tenths of 1 Hz, 0 for steady. -/
inductive Lamp where
  | dark
  | red (blink : Nat)
  | amber (blink : Nat)
  | green (blink : Nat)
  deriving DecidableEq, Repr

/-- R941: PWR. -/
def pwrLamp (s : State) : Lamp :=
  if !s.pwr.aon then .dark
  else if s.pwr.pf != .normal || s.pwr.parked || s.head.st == .sleep then .amber 0
  else if s.pwr.mainsOk then .green 0 else .dark

/-- R941: STATE; a level-2 restart shows before the states that it leaves as they are, HOLD before it. -/
def stateLamp (s : State) : Lamp :=
  match s.head.st with
  | .off | .sleep => .dark
  | .hold => .red 10
  | .boot => .amber (if s.sup.dieDown then 40 else 20)
  | .unconfigured => .amber (if s.sup.dieDown then 40 else 0)
  | .configuring | .acquiring => if s.sup.dieDown then .amber 40 else .green 20
  | .running => if s.sup.dieDown then .amber 40 else .green (if coasting s then 5 else 0)

/-- R941: FAULT; an entry counts for 10 s of TB. -/
def faultLamp (s : State) : Lamp :=
  if !s.pwr.aon then .dark
  else if s.flt.ring.any LogEntry.unackCritical then .red 0
  else if s.flt.ring.any fun e => e.sev == .fault && decide (e.tb.toNat ≤ s.now) && decide (s.now < e.tb.toNat + 10 * second) then .amber 0
  else .dark

/-- R941, R623: LINK over the data ports of the port mode. -/
def linkLamp (s : State) : Lamp :=
  let n := if getF s R.LNK_PORT_CFG_MODE = 0 then 1 else 4
  if !diePowered s || !s.lnk.txEn then .dark
  else if (List.range n).all fun p => (s.lnk.ports.getD p {}).up then .green 0 else .amber 0

/-- R941: MOSAIC; the table names no colour for JOINING. -/
def mosaicLamp (s : State) : Option Lamp :=
  if !diePowered s then some .dark
  else if s.mos.discordant || s.mos.st == .refused then some (.red 0)
  else match s.mos.st with
    | .partitioned | .interimRoot => some (.amber 0)
    | .root => some (.green 10)
    | .member => some (.green 0)
    | .solo => some .dark
    | .joining | .refused => none

/-- R941: CTG; the gate of an absent cartridge is closed, so that ABSENT shows first. -/
def ctgLamp (s : State) : Lamp :=
  if !diePowered s || s.ctg.st == .absent then .dark
  else if s.ctg.st == .rejected || s.ctg.st == .fault || (lifeFlags s).testBit 7 then .red 0
  else if (lifeFlags s).testBit 6 || !s.ctg.gate then .amber 0
  else if s.ctg.st == .ready then .green 0 else .dark

end Sys2Proof.Machine
end

