-- ==== Sys2Proof/Machine/Wire.lean ====
section
/-! DEFINITION. The bytes of what leaves the head: packets of streams (chapter 14), messages of the control protocol (chapter 16) and
Ulunta cells (chapter 17), before they are sealed. -/

namespace Sys2Proof.Machine

/-- The bytes of a number, little-endian. -/
def leBytes (n v : Nat) : List Byte := (beBytes n v).reverse

/-- Fields of given sizes, big-endian. -/
def beFields (sizes vals : List Nat) : List Byte := (sizes.zip vals).flatMap fun p => beBytes p.1 p.2

/-- Fields of given sizes, little-endian. -/
def leFields (sizes vals : List Nat) : List Byte := (sizes.zip vals).flatMap fun p => leBytes p.1 p.2

/-- Bytes filled up with zeros to a length. -/
def padTo (n : Nat) (l : List Byte) : List Byte := l ++ List.replicate (n - l.length) 0

/-! ## Packets of streams -/

/-- R635: byte 3 of the header. -/
def Packet.typeByte (p : Packet) : Nat :=
  bit (p.enc || p.sealedSize.isSome) * 128 + bit p.last * 64 + match p.type with
    | .raw => 1
    | .stat => 2
    | .track => 3
    | .event => 4

/-- R635: the 32 bytes of the header. -/
def Packet.header (p : Packet) : List Byte :=
  beFields [2, 1, 1, 2, 2, 5, 1, 2, 8, 4, 2, 2] [0x4C53, 0x10, p.typeByte, p.streamId.toNat, p.tenantId.toNat, p.f.toNat, p.exp.toNat,
    p.payloadLen, p.seq.toNat, p.flags.toNat, p.frag, 0]

/-- R211: two pixels of RAW12. -/
def rawPairs : List Nat → List Byte
  | a :: b :: t => leBytes 3 (a + 4096 * b) ++ rawPairs t
  | [a] => leBytes 3 a
  | [] => []

/-- R211: pixels in a format's packing. -/
def packPixels (fmt : Nat) (l : List Nat) : List Byte :=
  if fmt = 0 then rawPairs l else l.flatMap (leBytes (if fmt = 2 then 2 else 3))

/-- R640: the descriptor of a RAW packet. -/
def rawDescriptor (desc : List Nat) : List Byte := beFields [2, 2, 2, 1, 1, 1, 1, 1, 1, 4, 4, 4, 8] desc

/-- R642: the descriptor of a STAT packet. -/
def statDescriptor (desc : List Nat) : List Byte :=
  beFields [1, 1, 2, 4, 4, 2] (desc.take 6) ++ [0, 0] ++ beFields [4, 4, 4, 4] (desc.drop 6)

/-- R364: the 48 bytes of a record of statistics. -/
def recBytes (fields : List Nat) : List Byte :=
  leFields [6, 2, 8, 12, 3, 3, 6, 3] (fields.take 8) ++ [0, 0, 0] ++ leBytes 2 (fields.getD 8 0)

/-- R642: the records of a STAT packet. -/
def statRecords : Nat → List Nat → List Byte
  | 0, _ => []
  | n + 1, l => if l = [] then [] else recBytes (l.take 9) ++ statRecords n (l.drop 9)

/-- R643: the sizes of the fields of a TRACK record after KIND and LEN; a reserved field is the second of a pair. -/
def trackLayout (kind : Nat) : List (Nat × Nat) :=
  match kind with
  | 1 => [(1, 0), (1, 0), (4, 0), (8, 0), (8, 0), (8, 0), (5, 3)]
  | 2 => [(1, 0), (1, 0), (8, 0), (5, 1), (2, 0), (2, 2)]
  | _ => [(1, 0), (1, 0), (5, 0), (1, 0), (2, 0), (8, 0), (4, 0), (2, 0), (2, 0), (6, 0), (4, 2)]

/-- R643: one TRACK record from its fields. -/
def trackRecord (kind size : Nat) (fields : List Nat) : List Byte :=
  [BitVec.ofNat 8 kind, BitVec.ofNat 8 size] ++
    ((trackLayout kind).zip fields).flatMap fun p => beBytes p.1.1 p.2 ++ List.replicate p.1.2 0

/-- R643: the records of a TRACK packet. -/
def trackRecords : Nat → List Nat → List Byte
  | n + 1, kind :: size :: t =>
    trackRecord kind size (t.take (trackLayout kind).length) ++ trackRecords n (t.drop (trackLayout kind).length)
  | _, _ => []

/-- R640, R642, R643, R645: the payload of a packet, before it is sealed. -/
def Packet.payload (p : Packet) : List Byte :=
  match p.type with
  | .raw => rawDescriptor p.desc ++ packPixels (p.desc.getD 3 0) p.data
  | .stat => statDescriptor p.desc ++ statRecords p.data.length p.data
  | .track => trackRecords p.data.length p.data
  | .event => p.data.flatMap (beBytes 4)

/-- R647: the outer header of a packet of a constant-rate stream. -/
def Packet.sealedHeader (p : Packet) (size : Nat) : List Byte :=
  beFields [2, 1, 1, 2, 2, 5, 1, 2, 8, 4, 2, 2] [0x4C53, 0x10, 0x8F, p.streamId.toNat, p.tenantId.toNat, 0, 0, size - 48, p.seq.toNat, 0, 0, 0]

/-- R647: what a packet of a constant-rate stream seals. -/
def Packet.sealedPayload (p : Packet) (size : Nat) : List Byte :=
  padTo (size - 48) ({ p with sealedSize := none, enc := true }.header ++ p.payload)

/-- R635, R639, R647: the header of a packet as it leaves, which is the additional data of its tag, and the text that its key seals. -/
def Packet.wire (p : Packet) : List Byte × List Byte :=
  match p.sealedSize with
  | some n => (p.sealedHeader n, p.sealedPayload n)
  | none => (p.header, p.payload)

/-- R639, R679: a nonce from a salt value and a counter. -/
def nonce (salt : BitVec 32) (counter : BitVec 64) : List Byte := beBytes 4 salt.toNat ++ beBytes 8 counter.toNat

/-! ## Messages of the control protocol -/

/-- R701: the header of a message whose cleartext body has a length; an encrypted one ends in a tag of 16 bytes. -/
def lcpHeader (kind party len : Nat) (req : BitVec 64) : List Byte :=
  beFields [2, 1, 1, 2, 2, 8] [0x4C43, 0x10, kind, party, len, req.toNat]

/-- R702, R703: the header of a reply to an operation, and the body that its key seals. -/
def Reply.wire (r : Reply) (op : Nat) : List Byte × List Byte :=
  let body := beFields [1, 1, 2, 2, 2] [op, r.status, r.detail, 4 * r.body.length, 0] ++ r.body.flatMap fun v => beBytes 4 v.toNat
  (lcpHeader (if r.tenant then 6 else 4) r.party (body.length + 16) r.req, body)

/-- R702, R724: the header of an EVENT message, and the body that the session's key seals. -/
def EventMsg.wire (m : EventMsg) : List Byte × List Byte :=
  let body := beFields [4, 2, 2] [m.lost, m.entries.length, 0] ++ m.entries.flatMap fun e => e.words.flatMap (beBytes 4)
  (lcpHeader 7 m.session (body.length + 16) (BitVec.ofNat 64 m.req), body)

/-- R705: REFUSE. -/
def refuseMsg : List Byte := lcpHeader 9 0xFFFF 1 0 ++ [1]

/-- R702, R679: the nonce of a reply of a session or a tenant, and that of a session's EVENT message. -/
def replyNonce (salt : BitVec 32) (req : BitVec 64) : List Byte := nonce (salt ^^^ 0x40000000) req
def eventNonce (salt : BitVec 32) (req : BitVec 64) : List Byte := nonce (salt ^^^ 0xC0000000) req

/-! ## Ulunta cells -/

/-- R737: the sizes of the fields of a cell's body. -/
def cellLayout : Nat → List Nat
  | 1 => [8, 1, 1, 2, 2, 2]
  | 2 => [8]
  | 3 => [8, 8, 8]
  | 4 => [5, 2, 1, 2, 1]
  | 5 => [6, 4, 1]
  | 6 => [2, 1, 1, 5, 1, 1, 1] ++ List.replicate 18 2
  | 7 => [5, 2, 1, 2] ++ List.replicate 32 1
  | 8 => [2, 1, 1, 1, 1, 4]
  | _ => []

/-- R736, R737: the 60 bytes of a cell before its check word. -/
def Cell.head (c : Cell) : List Byte :=
  beFields [1, 1, 2, 2, 2, 4] [c.type, 0x10, c.origin, c.hops, c.seq, c.delayAcc] ++ padTo 48 (beFields (cellLayout c.type) c.body)

/-- R736: the 64 bytes of a cell. -/
def Cell.wire (c : Cell) : List Byte := c.head ++ beBytes 4 (crc32 c.head).toNat

end Sys2Proof.Machine
end

