-- ==== Sys2Proof/Tests/Slice0.lean ====
section
/-! SUPPORT. Tests of the model: for every statement with hypotheses a witness of each of its clauses (a conjunction, in the order of the
clauses), the refusals of the well-formedness check, and values that the spec works out. -/

namespace Sys2Proof.Tests

open Sys2Proof Sys2Proof.Machine

set_option maxRecDepth 4000

/-- An INFO entry of the log. -/
def entry : LogEntry :=
  { tb := 0, f := 0, l := 0, code := 0x0201, sev := .info, nested := false, level := 0, rpValid := false, acked := false
    retained := false, detail := 0, seq := 0 }

/-- An unacknowledged CRITICAL entry. -/
def critical : LogEntry := { entry with sev := .critical, code := 0x1003, seq := 5 }

/-- A booking of lane 0, whose reset is done. -/
def booking : Booking :=
  { lane := 0, exp := 0, frame := 0, rg := 0, resetTb := 0, readTb := 0, slot := 1, u := 24, slip := 0, resetDone := true, reading := false
    attr := 0, lper := 0, pos := 0, dropped := [], flags := 0, rows := [] }

/-- A row packet without samples. -/
def packet : RowPacket :=
  { bank := 0, row := 7, link := 0, crcOk := true, subs := [], leftH := [], leftL := [], rightH := [], rightL := [], stuck := 0 }

/-- An exposure entry of anchor 0 that uses no geometry of its own. -/
def expo : ExpEntry := ⟨false, 0, 0, 0, false, 0, 0, 0, 0, true⟩

/-- A packet of a steward stream. -/
def apacket : Packet :=
  { type := .stat, enc := false, sealedSize := none, last := true, streamId := 0, tenantId := 0, f := 0, exp := 0, payloadLen := 0
    seq := 0, flags := 0, frag := 0, desc := [], data := [], keyGen := 0 }

/-- A packet of raw pixels. -/
def apacket0 : Packet := { apacket with type := .raw }

/-- The head of a cell of member 1. -/
def cell : CellHead :=
  { port := 0, major := 1, minor := 0, origin := 1, hops := 0, seq := 1, delayAcc := 0, crcOk := true, arrival := 0, residence := 0 }

/-- A head in a mosaic whose port 0 is up. -/
def inMosaic (st : MosState) : Mos := { st := st, record := true, txOn := true, ports := [{ link := .up }, {}], rootId := some 1 }

/-- An engine whose thread 0 is in a state. -/
def engines (t : Thread) : List Engine := [{ threads := t :: List.replicate 15 {} }, {}, {}, {}]

/-- Sessions of which the first is open. -/
def oneSession : List Session := [{ opened := true }, {}, {}, {}]

/-- A statistics row without samples. -/
def row : StatRow :=
  { slot := 0, frame := 0, tag := none, y := 0, pitch := 1, x0 := 0, codes := [], flags := 0, slip := 0, split := 0, nb := 0, wsm := 0 }

/-- Fuses whose region 3 holds the hash of the empty key. -/
def stewardFuses : Fus :=
  { State.reset.fus with a := (List.range 8).map fun i => (52 + i, BitVec.ofNat 32 (beNat (((sha256 []).drop (4 * i)).take 4).reverse)) }

/-- Bytes from an address on. -/
def cellsFrom (a : Nat) (l : List Byte) : List Host.Cell := (List.range l.length).map fun i => (a + i, l.getD i 0)

/-- The identity memory of a cartridge whose areas pass their CRCs. -/
def cartridge : List Host.Cell :=
  cellsFrom 0 [0x4C, 0x43, 0x54, 0x47, 0, 1] ++ cellsFrom 60 [0xE5, 0x12, 0x94, 0x39] ++ cellsFrom 0x3FC [0x4D, 0x3F, 0x51, 0x34] ++
    cellsFrom 0x43C [0xF4, 0x8C, 0xF1, 0x4D] ++ cellsFrom 0x1FFC [0x6E, 0x90, 0x9C, 0x7C]

/-- A directory entry of key slot B, live, of 368 bytes. -/
def dirCells : List Host.Cell := cellsFrom 0
  [84, 68, 73, 82, 165, 1, 0, 0, 0, 0, 0, 1, 0, 0, 1, 112, 0, 0, 0, 0, 0, 0, 0, 0, 0, 0, 0, 0, 73, 142, 152, 33]

/-- An image of 368 bytes. -/
def image : List Byte :=
    [84, 82, 78, 73, 1, 0, 0, 0, 0, 0, 1, 112, 0, 0, 0, 2, 0, 0, 0, 0, 0, 0, 0, 0, 0, 0, 0, 5, 0, 0, 0, 0] ++
    [230, 5, 213, 69, 113, 222, 176, 151, 8, 123, 192, 142, 170, 245, 160, 143, 82, 158, 10, 154, 89, 44, 48, 193, 254, 232, 171, 220, 203, 46, 157, 13] ++
    [161, 178, 195, 0, 0, 0, 0, 0, 0, 0, 0, 0, 0, 0, 0, 0, 0, 0, 0, 0, 0, 0, 0, 0, 0, 0, 0, 0, 0, 0, 0, 0] ++
    [0, 0, 0, 0, 0, 0, 0, 0, 0, 0, 0, 0, 0, 0, 0, 0, 0, 0, 0, 0, 0, 0, 0, 0, 0, 0, 0, 0, 0, 0, 0, 0] ++
    [141, 182, 46, 183, 161, 175, 148, 149, 4, 23, 123, 221, 16, 192, 167, 177, 155, 237, 250, 40, 166, 161, 222, 234, 45, 253, 66, 49, 65, 136, 72, 8] ++
    [8, 72, 136, 65, 49, 66, 253, 45, 234, 222, 161, 166, 40, 250, 237, 155, 177, 167, 192, 16, 221, 123, 23, 4, 149, 148, 175, 161, 183, 46, 182, 141] ++
    [0, 0, 0, 0, 0, 0, 0, 0, 0, 0, 0, 0, 0, 0, 0, 0, 0, 0, 0, 0, 0, 0, 0, 0, 0, 0, 0, 0, 0, 0, 0, 0] ++
    [0, 0, 0, 0, 0, 0, 0, 0, 0, 0, 0, 0, 0, 0, 0, 0, 0, 0, 0, 0, 0, 0, 0, 0, 0, 0, 0, 0, 0, 0, 0, 0] ++
    [128, 1, 0, 0, 48, 0, 0, 1, 255, 255, 255, 255, 255, 0, 8, 202, 0, 0, 0, 0, 0, 0, 0, 0, 28, 239, 104, 76, 0, 100, 0, 0] ++
    [0, 0, 0, 0, 0, 0, 0, 0, 0, 0, 0, 0, 7, 0, 0, 0, 0, 0, 0, 0, 0, 0, 0, 0, 128, 2, 0, 0, 48, 0, 0, 0] ++
    [0, 0, 1, 0, 6, 0, 0, 64, 16, 0, 128, 0, 0, 0, 0, 0, 0, 0, 0, 0, 0, 0, 0, 0, 0, 0, 0, 0, 0, 0, 0, 0] ++
    [0, 0, 0, 0, 0, 0, 0, 0, 0, 0, 0, 1, 0, 0, 0, 0]

/-- Fuses whose region 3 holds the hash of the image's key. -/
def imageFuses : Fus :=
  { State.reset.fus with a := [(0, 5), (52, 0x89DAEE48), (53, 0xB4DFB511), (54, 0xDA1F10E5), (55, 0x51606F87), (56, 0x6C3A3415), (57, 0x5678B543), (58, 0x5F51F4FB), (59, 0x6780260E)] }

/-- The two records of that image. -/
def imageList : List Record := match imageRecords image with
  | .ok l => l
  | .error _ => []

/-- An answer of an image check that is a fault. -/
theorem error_of_eq {α : Type} {x : Except ImgFault α} {f : ImgFault} (h : (match x with
    | .error g => decide (g = f)
    | .ok _ => false) = true) : x = .error f := by
  cases x with
  | error g => simp only [decide_eq_true_eq] at h; rw [h]
  | ok _ => cases h

/-- An answer of an image check that is a list. -/
theorem ok_of_eq {x : Except ImgFault (List Record)} {l : List Record} (h : (match x with
    | .ok k => decide (k = l)
    | .error _ => false) = true) : x = .ok l := by
  cases x with
  | ok k => simp only [decide_eq_true_eq] at h; rw [h]
  | error _ => cases h

/-! ## Well-formedness: for each check, a command that it refuses -/

theorem test_wf_good : [Instr.mainsApplied, .systemPllLock 5, .parked, .pllEnable .core 1, .registerWrite (.lcp 3) 0x00010000 7,
    .rowGroupReadStart 0 7 0 1543, .fuseProgramWord none 127 1].all Instr.wellFormed = true := by decide
theorem test_wf_initiator : (Instr.setpointWrite (.lcp 4) 0).wellFormed = false ∧ (Instr.setpointWrite (.tenant 0) 0).wellFormed = false := by
  decide
theorem test_wf_window : (Instr.memoryWindowWrite .core 0x10000002 0).wellFormed = false ∧
    (Instr.memoryWindowWrite .core 0x30008000 0).wellFormed = false ∧ (Instr.registerWrite .core 0x00130000 0).wellFormed = false := by decide
theorem test_wf_blocks : (Instr.registerReadClear .jtag 0x00130000).wellFormed = false ∧
    (Instr.latchedLowRead .jtag 0x00020001).wellFormed = false := by decide
theorem test_wf_stream : (Instr.trackFlushTimeout 32).wellFormed = false ∧ (Instr.crSlotDue 0x2000).wellFormed = false ∧
    (Instr.resolveRetry 0x0FFF).wellFormed = false := by decide
theorem test_wf_group : (Instr.resetTargetReached 0 8 0 0).wellFormed = false ∧ (Instr.resetTargetReached 0 0 0 1536).wellFormed = false ∧
    (Instr.rowGroupResetStart 0 0 0 1544).wellFormed = false ∧ (Instr.rowGroupReadStart 0 8 0 0).wellFormed = false ∧
    (Instr.rowGroupReadComplete 0 0 0 1544 0).wellFormed = false := by decide
theorem test_wf_packet : (Instr.rowPacketReceived { packet with subs := [⟨20, [], []⟩] }).wellFormed = false ∧
    (Instr.rowPacketReceived { packet with leftH := List.replicate 49 0 }).wellFormed = false := by decide
theorem test_wf_cell : (Instr.time { cell with major := 256 } 0 0 0).wellFormed = false ∧
    (Instr.hello { cell with origin := 65536 } 0 0 0 0 0 0).wellFormed = false ∧
    (Instr.state cell 0 0 0 0 []).wellFormed = false := by decide
theorem test_wf_lock : (Instr.lockBitSet 0).wellFormed = false ∧ (Instr.lockBitSet 16).wellFormed = true := by decide
theorem test_wf_counters : (Instr.counterClearWrite 2).wellFormed = false ∧ (Instr.counterClearWrite 1).wellFormed = true := by decide
theorem test_wf_memory : (Instr.keyInserted ⟨0, false, false, false, false⟩ [(2 ^ 32, 0)]).wellFormed = false ∧ (Instr.ctgReadComplete [(65536, 0)]).wellFormed = false := by
  decide
theorem test_wf_checkpoint : (Instr.ctgCheckpointReply true []).wellFormed = false := by decide
theorem test_wf_source : (Instr.sourceLineEvent .syncIn 0 40000 0 300 0).wellFormed = false := by decide
theorem test_wf_bits : [Instr.pllEnable .core 0, .pllDisable .core 1, .pllRestartGo .core 0, .todServoEnable .core 0, .todServoDisable .core 0x80000000,
    .compareEnable .core 0 0, .tileForceOff .core 0 0, .subbankForceOff .core 0 0, .tileFaultClr .core 0 0, .subbankFaultClr .core 0 0,
    .coolerFaultClr .core 0, .ctgRetry .core 0, .tenCommit .core 0, .wdgEnable .core 0, .barrierReqArm .core 0, .barrierReqStop .core 0,
    .barrierReqStart .core 0].any Instr.wellFormed = false := by decide
theorem test_wf_domain : (Instr.domainReady 279).wellFormed = false ∧ (Instr.domainOvercurrent 279).wellFormed = false := by decide
theorem test_wf_init : (Instr.init 0 false false [] true 0 0 0 0 0).wellFormed = false ∧
    (Instr.init 0 false false (List.replicate 64 0) true 0 0 0 256 0).wellFormed = false := by decide
theorem test_wf_tenant : (Instr.tenantReq 65536 true 0 .nop).wellFormed = false := by decide
theorem test_wf_word : (Instr.fuseProgramWord none 128 0).wellFormed = false := by decide

/-! ## Values of the spec -/

/-- R129, worked example: 117,964,800 slow ticks make up 900,000,000,000 TB. -/
theorem test_makeup : (makeUp 117964800 State.reset).tmb.tb = 900000000000 := by decide

/-- R816, worked example: C_BULK = 1,120 µF at 390 V holds 50.176 J. -/
theorem test_energy : energyTimes 1120 39000 / 20000000 = 50176 := by decide

/-- R872, R873, worked example of 21: the eight words of a SLIP entry. -/
theorem test_entry_words :
    (List.range 8).map (LogEntry.word
      { tb := 10000355704, f := 5000, l := 192, code := 0x0501, sev := .warn, nested := false, level := 0, rpValid := true, acked := false
        retained := false, detail := packDetail [.h 0, .w 4096], seq := 2607 }) =
      [0x00000002, 0x54115178, 0x00000013, 0x8800C005, 0x01440000, 0x00001000, 0x00000000, 0x0A2F0000] := by decide

/-- R156, worked example of 03: the tiles of a region of interest on row groups 375 to 687. -/
theorem test_tiles :
    (List.range 240).filter (Geo.needsTile ⟨true, 0x3F0, 312, 624, 0, 0, bitmapOf fun w => if w = 11 then 0xFF800000 else if w = 21 then 0xFFFF else
      if 11 < w ∧ w < 21 then 0xFFFFFFFF else 0⟩) =
      [44, 45, 46, 47, 48, 49, 64, 65, 66, 67, 68, 69, 84, 85, 86, 87, 88, 89, 104, 105, 106, 107, 108, 109] := by decide

/-- R245, worked example of 06: 33.75 ln and 1.0546875 ln at a line of 7,407.407 ns. -/
theorem test_lengths : linesToTb 485451852 0x0021C000 = 62500 ∧ linesToTb 485451852 0x00010E00 = 1953 := by decide

/-- R285, worked example of 06: 34,963 ticks split at 1,237,321 φ. -/
theorem test_split : tbToPhi 485451852 34963 = 1237321 := by decide

/-- R317, worked example of 06: the dim pixel and the mid pixel, in 1/16 DN. -/
theorem test_fusion :
    lin24 false 2000000 1 64 [(2000000, .val 12800), (62500, .val 400), (1953, .val 16)] = .val 464 ∧
    lin24 false 2000000 1 64 [(2000000, .sat), (62500, .val 52800), (1953, .val 1648)] = .val 52862 ∧
    lin24 true 2000000 1 64 [(2000000, .sat), (62500, .val 52800), (1953, .val 1648)] = .val 52864 ∧
    lin24 false 2000000 1 64 [(2000000, .sat), (62500, .sat), (1953, .val 250000)] = .val 8000576 := by decide

/-- R533, R540, worked example of 11: the words of the two threads are legal in wait-rich mode. -/
theorem test_code_words :
    [0x2182, 0x8001, 0x2021, 0x8000, 0x2001, 0x9085, 0x1039, 0x2085, 0x9105, 0x7110].all (legalWord false) = true := by decide

/-- R540: reserved words are illegal. -/
theorem test_illegal_words : [0x0001, 0xB000, 0xF000, 0x9000, 0x71C0].any (legalWord false) = false := by decide

/-- R963, worked example of 25: `GLB_REG_COUNT`. -/
theorem test_reg_count : regWord State.reset 0x50 = 0x03C0178C := by decide

/-- R965, worked example of 25: the addresses of two array elements. -/
theorem test_addresses : A.TGE_THR_STATUS 2 13 = 0x000A3454 ∧ A.TRC_ACC_SUM_HI 163 = 0x00092A34 ∧ A.TMB_CMP_LO 1 1 = 0x00021154 := by
  decide

/-- The table gives its rows no bits: no word spells a command, and the queue stays as it is. -/
theorem test_no_word : decodeTableWord 16 0x2182 = none ∧ (State.reset.withFetchWord 16 0x2182).pending = [] := by decide

/-- A command at the front of the queue runs, and the rest of the queue stays. -/
theorem test_front : ∃ t, step { State.reset with pending := [.parked, .keyRemoved] } = .next t ∧ t.pending = [.keyRemoved] := by
  exact ⟨_, rfl, by decide⟩

/-- R635, R640, worked example of 14: header and descriptor of the first packet of row 800. -/
theorem test_packet_bytes :
    (Packet.wire { apacket0 with streamId := 2, tenantId := 0xFFFF, f := 5000, payloadLen := 0x22D0, last := false,
                                      desc := [800, 0, 5920, 0, 0, 0, 0, 0, 0, 0, 0, 0, 0x254115178], data := [0xFFF, 0x790] }) =
      ([0x4C, 0x53, 0x10, 0x01, 0, 2, 0xFF, 0xFF, 0, 0, 0, 0x13, 0x88, 0, 0x22, 0xD0] ++ List.replicate 16 0,
       [0x03, 0x20, 0, 0, 0x17, 0x20] ++ List.replicate 18 0 ++ [0, 0, 0, 2, 0x54, 0x11, 0x51, 0x78, 0xFF, 0x0F, 0x79]) := by decide

/-- R679, R703, worked example of 16: the reply to a tenant's read of the time, and its nonce. -/
theorem test_reply_bytes :
    (Reply.wire ⟨true, 7, 0x3000000002B, 0, 0, [0x075BCD15, 0x6B49D200, 0]⟩ 1) =
      ([0x4C, 0x43, 0x10, 0x06, 0, 7, 0, 36, 0, 0, 3, 0, 0, 0, 0, 0x2B],
       [1, 0, 0, 0, 0, 12, 0, 0, 0x07, 0x5B, 0xCD, 0x15, 0x6B, 0x49, 0xD2, 0, 0, 0, 0, 0]) ∧
    replyNonce 0x5A17C3E2 0x3000000002B = [0x1A, 0x17, 0xC3, 0xE2, 0, 0, 3, 0, 0, 0, 0, 0x2B] := by decide

/-- R736: a cell is of 64 bytes. -/
theorem test_cell_bytes : (Cell.wire ⟨4, 3, 0, 1, 7, 1000, [5000, 1080, 1, 2250, 2]⟩).length = 64 := by decide

/-- R941: the indicators of a head in RUNNING with its ports down, of a member, and of a head in SLEEP. -/
theorem test_lamps :
    stateLamp { State.reset with head := { st := .running } } = .green 0 ∧ stateLamp { State.reset with head := { st := .hold } } = .red 10 ∧
    pwrLamp { State.reset with head := { st := .sleep }, pwr := { aon := true, mainsOk := true } } = .amber 0 ∧
    mosaicLamp { State.reset with head := { st := .running }, pwr := { aon := true }, mos := { st := .member } } = some (.green 0) := by decide

/-- R933, R938: +3V3_OUT and +12V_MOT. -/
theorem test_supplies :
    auxSupplyOn { State.reset with head := { st := .boot }, pwr := { aon := true } } = false ∧
    auxSupplyOn { State.reset with head := { st := .hold }, pwr := { aon := true } } = true ∧
    motorSupplyOn { State.reset with head := { st := .running }, pwr := { aon := true }, ctg := { st := .ready } } = true := by decide

/-- R918: a START barrier waits for the end of a change set of the head's own. -/
theorem test_start_waits :
    startWaits { State.reset with chg := { st := .stopped, mosaic := false } } ⟨1, barStart, false, false, 100, 1, [(0, [])], false⟩ = true ∧
    startWaits { State.reset with chg := { st := .stopped, mosaic := true } } ⟨1, barStart, false, false, 100, 1, [(0, [])], false⟩ = false := by decide

/-! ## Witnesses of the statements -/

theorem test_witness_StepRunsTheFrontCommand :
    (∃ (c : Instr) (rest : List Instr) (s : State), s.pending = c :: rest) ∧
    (∃ (s : State), s.pending = []) :=
  ⟨⟨.helloTimer, [], { State.reset with pending := [.helloTimer] }, by decide⟩,
    ⟨State.reset, by decide⟩⟩

theorem test_witness_EveryStepKeepsTheInvariant :
    (∃ (s : State) (t : State), s.Inv ∧ step s = .next t) :=
  ⟨State.reset, _, ⟨rfl, by unfold Flt.bounded; decide, by unfold Lcp.bounded Session.bounded; decide, by unfold Tge.bounded Engine.bounded Thread.bounded; decide⟩, rfl⟩

theorem test_witness_FuseWiresChangeOnlyAtPowerOn :
    (∃ (c : Instr), c ≠ .mainsApplied) ∧
    (∃ (s : State) (t : State), step s = .next t ∧ s.pending.head? ≠ some .mainsApplied) :=
  ⟨⟨.helloTimer, by decide⟩,
    ⟨State.reset, _, rfl, by decide⟩⟩

theorem test_witness_CommandsLeaveTheTimebase :
    (∃ (c : Instr), c ≠ .mainsApplied ∧ (∀ n, c ≠ .systemPllLock n) ∧ c ≠ .todSecondRollover ∧ (∀ n a b d, c ≠ .dieRestartComplete n a b d) ∧ c
      ≠ .deferTimeout ∧ (∀ n, c ≠ .parkRestart n)) :=
  ⟨.helloTimer, by simp⟩

theorem test_witness_LockBitsStayUntilADieReset :
    (∃ (c : Instr) (s : State) (b : Nat), c ≠ .mainsApplied ∧ (∀ n, c ≠ .systemPllLock n) ∧ c ≠ .deferTimeout ∧ c ≠ .todSecondRollover ∧ (∀ n, c
      ≠ .parkRestart n) ∧ b ∈ s.head.locks) :=
  ⟨.helloTimer, { State.reset with head := { locks := [1] } }, 1, by simp⟩

theorem test_witness_FrameNumberChangesOnlyAtBoundaries :
    (∃ (c : Instr), c ≠ .mainsApplied ∧ (∀ n, c ≠ .systemPllLock n) ∧ c ≠ .deferTimeout ∧ c ≠ .todSecondRollover ∧ (∀ n, c ≠ .parkRestart n) ∧
      (∀ b, c ≠ .rasterFrameBoundary b)) :=
  ⟨.helloTimer, by simp⟩

theorem test_witness_FaultLogTakesAnEntry :
    (∃ (s : State), s.flt.ring.length < 256) ∧
    (∃ (o : LogEntry) (s : State) (newer : List LogEntry) (older : List LogEntry), s.flt.ring = newer ++ o :: older ∧ 256 ≤ s.flt.ring.length ∧
      o.unackCritical = false ∧ (∀ x ∈ older, x.unackCritical = true)) ∧
    (∃ (s : State), 256 ≤ s.flt.ring.length ∧ (∀ x ∈ s.flt.ring, x.unackCritical = true)) ∧
    (∃ (x : LogEntry) (s : State), x ∈ s.flt.ring ∧ x.unackCritical = true) :=
  ⟨⟨State.reset, by decide⟩,
    ⟨entry, { State.reset with flt := { ring := List.replicate 256 entry } }, List.replicate 255 entry, [], by decide⟩,
    ⟨{ State.reset with flt := { ring := List.replicate 256 critical } }, by decide⟩,
    ⟨critical, { State.reset with flt := { ring := [critical] } }, by decide⟩⟩

theorem test_witness_CommandsLeaveTheMemoryWindows :
    (∃ (c : Instr), (match c with | .barrierReqArm .. | .barrierReqStart .. | .barrierReqStop .. | .bulkRead .. | .bulkWrite .. | .close .. | .compareEnable .. | .coolerFaultClr .. | .counterClearWrite .. | .ctgRetry .. | .deferTimeout | .dieRestartComplete .. | .engInjWrite .. | .filterPosWrite .. | .fltAckAll .. | .fltAckWrite .. | .fuseAdvance .. | .fuseJtagUnlock .. | .fuseProgramWord .. | .geoDescriptorWrite .. | .headCmdRelease .. | .headCmdSleep .. | .imageReadComplete .. | .imageWriteAbort .. | .imageWriteClose .. | .imageWriteData .. | .imageWriteOpen .. | .laneFrameClose .. | .leaseExpired .. | .lockBitSet .. | .mainsApplied | .memoryWindowWrite .. | .nop .. | .parkRestart .. | .pfWarning .. | .pllConfigWrite .. | .pllDisable .. | .pllEnable .. | .pllRestartGo .. | .pwrDomFclrWrite .. | .rasterFrameBoundary .. | .read .. | .refSelWrite .. | .registerWrite .. | .retransmit .. | .rmw .. | .rowGroupReadComplete .. | .rowPacketReceived .. | .setpointWrite .. | .shutWrite .. | .sliceStuck .. | .stewardReq .. | .subbankFaultClr .. | .subbankForceOff .. | .subscribe .. | .systemPllLock .. | .tenCommit .. | .tenKeyErase .. | .tenKeyInstall .. | .tenantRequestDequeue | .tenantWindowRemove .. | .tenantWindowSet .. | .tgeFlagClrWrite .. | .tgeFlagSetWrite .. | .tgeThrTxfWrite .. | .tileFaultClr .. | .tileForceOff .. | .todSecondRollover | .todAdjWrite .. | .todServoDisable .. | .todServoEnable .. | .todSetNsWrite .. | .wdgEnable .. | .wdgService .. | .write .. => false | _ => true) = true) :=
  ⟨.helloTimer, by decide⟩

theorem test_witness_PllRegisterWrites :
    (∃ (s : State) (who : Initiator) (v : Word), busOpen s who = true ∧ rruRangeOk s A.RRU_PLL_CTRL v = true ∧ flagF s R.RRU_PLL_CTRL_EN = false
      ∧ s.rru.pll = .off ∧ v.getLsbD 0 = true ∧ s.rru.acqAbandon = false ∧ pllMayRun s = true) ∧
    (∃ (s : State) (who : Initiator) (v : Word), busOpen s who = true ∧ rruRangeOk s A.RRU_PLL_CTRL v = true ∧ flagF s R.RRU_PLL_CTRL_EN = false
      ∧ s.rru.pll = .off ∧ v.getLsbD 0 = true ∧ s.rru.acqAbandon = false ∧ pllMayRun s = false) ∧
    (∃ (s : State) (who : Initiator) (v : Word), busOpen s who = true ∧ rruRangeOk s A.RRU_PLL_CTRL v = true ∧ flagF s R.RRU_PLL_CTRL_EN = true
      ∧ v.getLsbD 0 = false ∧ s.rru.acqAbandon = false) ∧
    (∃ (s : State) (who : Initiator) (reg : Fin 3) (v : Word), busOpen s who = true ∧ rruRangeOk s (A.RRU_PLL_CTRL + 4 * reg.val) v = true ∧
      flagF s R.RRU_PLL_CTRL_EN = true ∧ ((reg.val = 0 → v.getLsbD 0 = true)) ∧ s.rru.pll ≠ .off) ∧
    (∃ (s : State) (who : Initiator) (reg : Fin 3) (v : Word), busOpen s who = true ∧ rruRangeOk s (A.RRU_PLL_CTRL + 4 * reg.val) v = true ∧
      flagF s R.RRU_PLL_CTRL_EN = false ∧ ((reg.val = 0 → v.getLsbD 0 = false)) ∧ s.rru.acqAbandon = false) ∧
    (∃ (s : State) (who : Initiator) (reg : Fin 3) (v : Word), busOpen s who = true ∧ rruRangeOk s (A.RRU_PLL_CTRL + 4 * reg.val) v = false ∧
      s.rru.acqAbandon = false) ∧
    (∃ (s : State) (who : Initiator), busOpen s who = true ∧ flagF s R.RRU_PLL_CTRL_EN = true ∧ s.rru.pll ≠ .off) ∧
    (∃ (s : State) (who : Initiator), busOpen s who = true ∧ flagF s R.RRU_PLL_CTRL_EN = false ∧ s.rru.acqAbandon = false) ∧
    (∃ (s : State) (who : Initiator), busOpen s who = true ∧ s.rru.acqAbandon = false) :=
  ⟨⟨{ State.reset with head := { st := .running }, rru := { pll := .off, acqAbandon := false } }, .core, 1, by decide⟩,
    ⟨{ State.reset with head := { st := .boot }, rru := { pll := .off, acqAbandon := false } }, .core, 1, by decide⟩,
    ⟨{ State.reset with head := { st := .running }, rru := { acqAbandon := false }, regs := [(A.RRU_PLL_CTRL, 1)] }, .core, 0, by decide⟩,
    ⟨{ State.reset with head := { st := .running }, regs := [(A.RRU_PLL_CTRL, 1)], rru := { pll := .locked } }, .core, 0, 0xB001, by decide⟩,
    ⟨{ State.reset with head := { st := .running }, rru := { acqAbandon := false } }, .core, 2, 0x01000001, by decide⟩,
    ⟨{ State.reset with head := { st := .running }, rru := { acqAbandon := false } }, .core, 0, 0xC000, by decide⟩,
    ⟨{ State.reset with head := { st := .running }, regs := [(A.RRU_PLL_CTRL, 1)], rru := { pll := .locked } }, .core, by decide⟩,
    ⟨{ State.reset with head := { st := .running }, rru := { acqAbandon := false } }, .core, by decide⟩,
    ⟨{ State.reset with head := { st := .running }, rru := { acqAbandon := false } }, .core, by decide⟩⟩

theorem test_witness_RasterPllAcquisition :
    (∃ (s : State) (b : BitVec 7), s.rru.pll = .search ∧ 224 ≤ s.rru.searchLines ∧ bandCovers s b.toNat = true) ∧
    (∃ (s : State), s.rru.pll = .search ∧ 224 ≤ s.rru.searchLines) ∧
    (∃ (s : State), s.rru.pll = .qual ∧ s.rru.bandFailed ≠ [] ∧ s.rru.failTb + second ≤ s.now) ∧
    (∃ (s : State), s.rru.pll = .pull ∧ 256 ≤ s.rru.lockCount) ∧
    (∃ (s : State), s.head.st = .acquiring) ∧
    (∃ (s : State), s.head.st ≠ .acquiring) :=
  ⟨⟨{ State.reset with rru := { pll := .search, searchLines := 224 } }, 127, by decide⟩,
    ⟨{ State.reset with rru := { pll := .search, searchLines := 224 } }, by decide⟩,
    ⟨{ State.reset with rru := { pll := .qual, bandFailed := [3] }, tmb := { tb := 250000000 } }, by decide⟩,
    ⟨{ State.reset with rru := { pll := .pull, lockCount := 256 } }, by decide⟩,
    ⟨{ State.reset with head := { st := .acquiring } }, by decide⟩,
    ⟨State.reset, by decide⟩⟩

theorem test_witness_CoastAndRevert :
    (∃ (s : State), s.rru.pll = .coast ∧ coastMax s ≠ 0 ∧ s.rru.coastTb + coastMax s ≤ s.now ∧ (effList s).contains 0 = true ∧ s.rru.chosen =
      none) ∧
    (∃ (s : State), s.rru.pll = .qual ∧ coastMax s ≠ 0 ∧ s.rru.qualTb + coastMax s ≤ s.now ∧ (effList s).contains 0 = true ∧ (effList
      s).takeWhile (· != 0) ≠ [] ∧ ((effList s).takeWhile (· != 0)).all (fun c => !(rateOk s c && isQualified s c)) = true) ∧
    (∃ (s : State) (src : Source), s.rru.pll = .locked ∧ s.rru.revertTo = some src ∧ s.rru.boundaryDue = true) :=
  ⟨⟨{ State.reset with rru := { pll := .coast, chosen := none }, regs := [(A.RRU_FAILOVER, 1)], tmb := { tb := 25000000 } }, by decide⟩,
    ⟨{ State.reset with rru := { pll := .qual }, regs := [(A.RRU_FAILOVER, 1), (A.RRU_SRC_PRIO, 0x40002)], tmb := { tb := 25000000 } }, by
      decide⟩,
    ⟨{ State.reset with rru := { pll := .locked, boundaryDue := true, revertTo := some .digital } }, .digital, by decide⟩⟩

theorem test_witness_SourceLineEvents :
    (∃ (s : State) (pos : Nat) (neg : Nat), monitored s 2 = true ∧ activeEdge s (pos != 0) (neg != 0) = true) ∧
    (∃ (s : State), monitored s 5 = true) ∧
    (∃ (s : State), monitored s 4 = true ∧ crossCheck s = false) ∧
    (∃ (s : State) (u : Nat) (k : Int), monitored s 3 = true ∧ scheduleLine s = some (k, u) ∧ s.tmb.todState = .locked) ∧
    (∃ (s : State) (t : Nat) (u : Nat), monitored s 0 = true ∧ freeLine s t = some u) ∧
    (∃ (s : State) (pos : Nat) (neg : Nat), monitored s 1 = true ∧ amplitudeOk s pos neg = true) ∧
    (∃ (s : State) (src : Source) (t : Nat) (line : Nat) (last : Nat) (c : Nat), src ≠ .optical ∧ (getMon s (srcCode src)).lastEvent = some last
      ∧ (getMon s (srcCode src)).skipped = 0 ∧ srcCode src < s.rru.mon.length ∧ Machine.inWindow s (srcCode src) t line = true ∧ spacingOk s
      (t - last) 65536 = true ∧ s.rru.active ≠ src ∧ c ≠ srcCode src) ∧
    (∃ (s : State) (src : Source) (c : Nat), (src = .syncIn ∨ src = .digital ∨ src = .ptpSchedule ∨ src = .optical) ∧ monitored s (srcCode src)
      = true ∧ windowEnded s (srcCode src) = true ∧ srcCode src < s.rru.mon.length ∧ s.rru.active ≠ src ∧ (getMon s (srcCode src)).qualified
      = false ∧ c ≠ srcCode src) :=
  ⟨⟨{ State.reset with regs := [(A.RRU_SRC_PRIO, 0x40002)], rru := { mon := [{}, {}, { lastEvent := some 0 }, {}, {}, {}] } }, 0, 0, by decide⟩,
    ⟨{ State.reset with mos := inMosaic .member }, by decide⟩,
    ⟨{ State.reset with regs := [(A.RRU_SRC_PRIO, 0x40004)] }, by decide⟩,
    ⟨{ State.reset with tmb := { todState := .locked }, regs := [(A.RRU_SRC_PRIO, 0x40003)] }, 0, 0, by decide⟩,
    ⟨State.reset, 0, 0, by decide⟩,
    ⟨{ State.reset with regs := [(A.RRU_SRC_PRIO, 0x40001)] }, 150, 450, by decide⟩,
    ⟨{ State.reset with regs := [(A.RRU_SRC_PRIO, 0x40002)], rru := { mon := [{}, {}, { lastEvent := some 0 }, {}, {}, {}] } }, .digital,
      1943749215, 0, 0, 0, by decide⟩,
    ⟨{ State.reset with regs := [(A.RRU_SRC_PRIO, 0x40002)], rru := { mon := [{}, {}, { lastEvent := some 0 }, {}, {}, {}] }, tmb := { tb := 10000 } },
      .digital, 0, by decide⟩⟩

theorem test_witness_SourceFrames :
    (∃ (s : State) (c : Nat), monitored s 2 = true ∧ s.rru.pll = .locked ∧ s.rru.active ≠ .digital ∧ flagF s R.RRU_GEOM_INTERLACE = false ∧ 2 <
      s.rru.mon.length ∧ (getMon s 2).qualified = false ∧ (getMon s 2).goodLines < 64 ∧ countOk s 2 (getMon s 2).parity (getMon s
      2).lineCount = true ∧ c ≠ 2) ∧
    (∃ (s : State), monitored s 2 = true ∧ s.rru.pll = .locked ∧ s.rru.active ≠ .digital ∧ (getMon s 2).vertSeen = true ∧ countOk s 2 (getMon s
      2).parity (getMon s 2).lineCount = false) ∧
    (∃ (s : State) (src : Source), (src = .free ∨ src = .mosaic) ∧ monitored s (srcCode src) = true ∧ s.rru.pll ≠ .off) ∧
    (∃ (s : State), s.rru.active = .free ∧ s.rru.pll = .locked ∧ s.rru.rpValid = true ∧ s.rru.boundaryDue = false ∧ flagF s R.RRU_GEOM_INTERLACE
      = false ∧ frameLimit s s.rru.field true ≤ s.rru.l + 1) :=
  ⟨⟨{ State.reset with rru := { pll := .locked, mon := [{}, {}, { lineCount := 1125 }, {}, {}, {}] }, regs := [(A.RRU_SRC_PRIO, 0x40002)] }, 0,
      by decide⟩,
    ⟨{ State.reset with rru := { pll := .locked, mon := [{}, {}, { lineCount := 1124, vertSeen := true }, {}, {}, {}] }, regs := [(A.RRU_SRC_PRIO, 0x40002)] },
      by decide⟩,
    ⟨{ State.reset with rru := { pll := .locked } }, .free, by decide⟩,
    ⟨{ State.reset with rru := { active := .free, pll := .locked, rpValid := true, boundaryDue := false, l := 1124 } }, by decide⟩⟩

theorem test_witness_BoundariesCountFramesAndLines :
    (∃ (s : State), boundaryReady s = true ∧ s.sup.dieDown = false ∧ reconCase s = .none) ∧
    (∃ (s : State) (f : Nat), boundaryReady s = true ∧ s.sup.dieDown = false ∧ reconCase s = .go f) ∧
    (∃ (s : State), boundaryReady s = true ∧ s.sup.dieDown = false ∧ reconCase s = .wait) ∧
    (∃ (s : State), rasterRuns s = true ∧ boundaryReady s = false ∧ s.sup.dieDown = false) :=
  ⟨⟨{ State.reset with sup := { dieDown := false }, rru := { pll := .locked, rpValid := true, boundaryDue := true } }, by decide⟩,
    ⟨{ State.reset with sup := { dieDown := false }, rru := { pll := .locked, rpValid := true, boundaryDue := true, active := .mosaic }, mos := { inMosaic .member with reconcile := true, lastRaster := some ⟨7, 0, 0, 0, 0, 0⟩ } },
      7, by decide⟩,
    ⟨{ State.reset with sup := { dieDown := false }, rru := { pll := .locked, rpValid := true, boundaryDue := true, active := .mosaic, f := 7, fUsed := true }, mos := { inMosaic .member with reconcile := true, lastRaster := some ⟨7, 0, 0, 0, 0, 0⟩ } },
      by decide⟩,
    ⟨{ State.reset with sup := { dieDown := false }, rru := { pll := .locked } }, by decide⟩⟩

theorem test_witness_SystemPll :
    (∃ (s : State), s.rru.sysRefExt = true ∧ s.rru.sysPll ≠ .off ∧ s.rru.sysPll ≠ .coast ∧ flagF s R.RRU_SYS_CTRL_FAILOVER_EN = true) ∧
    (∃ (s : State), s.rru.sysRefExt = true ∧ s.rru.sysPll ≠ .off ∧ s.rru.sysPll ≠ .coast ∧ flagF s R.RRU_SYS_CTRL_FAILOVER_EN = false) ∧
    (∃ (s : State), s.rru.sysRefExt = true ∧ s.rru.sysPll = .coast) ∧
    (∃ (s : State), s.rru.sysPll = .locked) ∧
    (∃ (s : State), (s.rru.sysPll = .search ∨ s.rru.sysPll = .pull) ∧ s.head.st ≠ .off ∧ s.sup.dieDown = false ∧ s.head.st ≠ .sleep ∧
      s.cfg.applyWait = none) ∧
    (∃ (s : State), (s.rru.sysPll = .search ∨ s.rru.sysPll = .pull) ∧ s.head.st ≠ .off ∧ s.sup.dieDown = false ∧ s.head.st ≠ .sleep) :=
  ⟨⟨{ State.reset with rru := { sysRefExt := true, sysPll := .locked }, regs := [(A.RRU_SYS_CTRL, 4)] }, by decide⟩,
    ⟨{ State.reset with rru := { sysRefExt := true, sysPll := .locked }, regs := [(A.RRU_SYS_CTRL, 0)] }, by decide⟩,
    ⟨{ State.reset with rru := { sysRefExt := true, sysPll := .coast } }, by decide⟩,
    ⟨{ State.reset with rru := { sysPll := .locked } }, by decide⟩,
    ⟨{ State.reset with rru := { sysPll := .search }, head := { st := .boot }, sup := { dieDown := false }, cfg := { applyWait := none } }, by
      decide⟩,
    ⟨{ State.reset with rru := { sysPll := .search }, head := { st := .running }, sup := { dieDown := false } }, by decide⟩⟩

theorem test_witness_TimeOfDayWrites :
    (∃ (s : State) (who : Initiator), busOpen s who = true) ∧
    (∃ (s : State) (who : Initiator) (v : Word), busOpen s who = true ∧ flagF s R.TMB_TOD_CTRL_SERVO_EN = false ∧ v.toNat % 2 ^ 30 < 1000000000) ∧
    (∃ (s : State) (who : Initiator) (v : Word), busOpen s who = true ∧ flagF s R.TMB_TOD_CTRL_SERVO_EN = false ∧ 1000000000 ≤ v.toNat % 2 ^ 30) ∧
    (∃ (s : State) (sec : BitVec 48) (ns : Nat), s.tmb.run = true ∧ s.tmb.commit = some (sec, ns)) ∧
    (∃ (s : State) (who : Initiator) (v : Word), busOpen s who = true ∧ flagF s R.TMB_TOD_CTRL_SERVO_EN = false ∧ -500000000 ≤ v.toInt ∧ v.toInt
      ≤ 500000000) ∧
    (∃ (s : State) (who : Initiator), busOpen s who = true ∧ flagF s R.TMB_TOD_CTRL_SERVO_EN = true) ∧
    (∃ (s : State) (who : Initiator) (v : Word) (a : Nat), busOpen s who = true ∧ flagF s R.TMB_TOD_CTRL_SERVO_EN = false ∧ tmbRangeOk s
      A.TMB_TOD_CTRL v = true ∧ v.getLsbD 31 = true ∧ a ≠ A.TMB_TOD_CTRL) ∧
    (∃ (s : State) (who : Initiator) (v : Word) (a : Nat), busOpen s who = true ∧ flagF s R.TMB_TOD_CTRL_SERVO_EN = true ∧ tmbRangeOk s
      A.TMB_TOD_CTRL v = true ∧ v.getLsbD 31 = false ∧ a ≠ A.TMB_TOD_CTRL) ∧
    (∃ (s : State), s.tmb.todState = .locked) :=
  ⟨⟨{ State.reset with head := { st := .running } }, .core, by decide⟩,
    ⟨{ State.reset with head := { st := .running } }, .core, 999999999, by decide⟩,
    ⟨{ State.reset with head := { st := .running } }, .core, 1000000000, by decide⟩,
    ⟨{ State.reset with tmb := { run := true, commit := some (1, 2) } }, 1, 2, by decide⟩,
    ⟨{ State.reset with head := { st := .running } }, .core, 500000000, by decide⟩,
    ⟨{ State.reset with head := { st := .running }, regs := [(A.TMB_TOD_CTRL, 0x80B00064)] }, .core, by decide⟩,
    ⟨{ State.reset with head := { st := .running } }, .core, 0x80B00064, 0, by decide⟩,
    ⟨{ State.reset with head := { st := .running }, regs := [(A.TMB_TOD_CTRL, 0x80B00064)] }, .core, 0x00B0000A, 0, by decide⟩,
    ⟨{ State.reset with tmb := { todState := .locked } }, by decide⟩⟩

theorem test_witness_SecondRollOver :
    (∃ (s : State), rolloverDue s = true) ∧
    (∃ (s : State), s.tmb.run = true ∧ rawReg s A.TMB_TOD_FREQ = 0 ∧ s.tmb.todFrac = 0 ∧ s.tmb.commit = none ∧ s.tmb.adj = none ∧ s.tmb.todNs <
      1000000000 ∧ 1000000000 ≤ s.tmb.todNs + 4) ∧
    (∃ (s : State) (sec : BitVec 48) (ns : Nat), s.tmb.run = true ∧ s.tmb.commit = some (sec, ns)) :=
  ⟨⟨{ State.reset with tmb := { run := true, todNs := 999999996 } }, by decide⟩,
    ⟨{ State.reset with tmb := { run := true, todFrac := 0, commit := none, adj := none, todNs := 999999996 } }, by decide⟩,
    ⟨{ State.reset with tmb := { run := true, commit := some (1, 2) } }, 1, 2, by decide⟩⟩

theorem test_witness_PtpClock :
    (∃ (s : State) (port : Fin 5), ptpRuns s port = true ∧ s.lnk.ptp.master = none) ∧
    (∃ (s : State) (port : Fin 5) (clock : Nat) (d : List Nat) (m : List Nat), ptpRuns s port = true ∧ s.lnk.ptp.master = some m ∧ m.getLast? ≠
      some clock ∧ betterClock (d ++ [clock]) m = true) ∧
    (∃ (s : State) (port : Fin 5) (clock : Nat) (m : List Nat), ptpRuns s port = true ∧ s.lnk.ptp.master = some m ∧ m.getLast? = some clock) ∧
    (∃ (s : State) (port : Fin 5) (clock : Nat) (m : List Nat), ptpRuns s port = true ∧ s.lnk.ptp.master = some m ∧ m.getLast? = some clock) ∧
    (∃ (s : State) (port : Fin 5) (clock : Nat) (m : List Nat), ptpRuns s port = true ∧ s.lnk.ptp.master = some m ∧ m.getLast? = some clock ∧
      s.lnk.ptp.t2 ≠ none) ∧
    (∃ (s : State) (port : Fin 5) (clock : Nat) (t1 : Int) (t2 : Int) (t3 : Int) (d : Int) (m : List Nat), ptpRuns s port = true ∧
      s.lnk.ptp.master = some m ∧ m.getLast? = some clock ∧ s.lnk.ptp.t1 = some t1 ∧ s.lnk.ptp.t2 = some t2 ∧ s.lnk.ptp.t3 = some t3 ∧
      s.lnk.ptp.delay = some d) ∧
    (∃ (s : State) (port : Fin 5) (clock : Nat) (m : List Nat), ptpRuns s port = true ∧ s.lnk.ptp.master = some m ∧ m.getLast? ≠ some clock) ∧
    (∃ (s : State), ptpRuns s (getF s R.LNK_PTP_PORT) = true ∧ s.lnk.ptp.master ≠ none ∧ s.lnk.ptp.reqTb + delayReqPeriod s ≤ s.now) :=
  ⟨⟨{ State.reset with head := { fwReady := true }, regs := [(A.LNK_PTP, 0x80)] }, 0, by decide⟩,
    ⟨{ State.reset with head := { fwReady := true }, regs := [(A.LNK_PTP, 0x80)], lnk := { ptp := { master := some [7] } } }, 0, 6, [], [7], by
      decide⟩,
    ⟨{ State.reset with head := { fwReady := true }, regs := [(A.LNK_PTP, 0x80)], lnk := { ptp := { master := some [7] } } }, 0, 7, [7], by
      decide⟩,
    ⟨{ State.reset with head := { fwReady := true }, regs := [(A.LNK_PTP, 0x80)], lnk := { ptp := { master := some [7], t2 := some 0 } } }, 0,
      7, [7], by decide⟩,
    ⟨{ State.reset with head := { fwReady := true }, regs := [(A.LNK_PTP, 0x80)], lnk := { ptp := { master := some [7], t2 := some 0 } } }, 0,
      7, [7], by decide⟩,
    ⟨{ State.reset with head := { fwReady := true }, regs := [(A.LNK_PTP, 0x80)], lnk := { ptp := { master := some [7], t1 := some 1, t2 := some 2, t3 := some 3, delay := some 1 } } },
      0, 7, 1, 2, 3, 1, [7], by decide⟩,
    ⟨{ State.reset with head := { fwReady := true }, regs := [(A.LNK_PTP, 0x80)], lnk := { ptp := { master := some [7] } } }, 0, 8, [7], by
      decide⟩,
    ⟨{ State.reset with head := { fwReady := true }, regs := [(A.LNK_PTP, 0x80)], lnk := { ptp := { master := some [7] } }, tmb := { tb := 250000000 } },
      by decide⟩⟩

theorem test_witness_TimerUnitsAndChannels :
    (∃ (s : State) (u : Fin 8) (a : Nat), unitHolds s u = false ∧ getF s (R.TMB_U_CTRL_LINK_ACT u) = 0 ∧ getF s (R.TMB_U_CTRL_CNT_SRC u) ≠ 0 ∧
      (getUnit s u).pscOf = getF s (R.TMB_U_CTRL_PSC_M1 u) ∧ (getUnit s u).psc = getF s (R.TMB_U_CTRL_PSC_M1 u) ∧ getF s (R.TMB_U_CNT u) ≠
      getF s (R.TMB_U_TOP u) ∧ getF s (R.TMB_U_CNT u) ≠ 0xFFFFFFFF ∧ (getUnit s u).cntAt ≠ some s.now ∧ u.val < s.tmb.units.length ∧ a ≠
      A.TMB_U_CNT u) ∧
    (∃ (s : State) (u : Fin 8) (a : Nat), unitHolds s u = false ∧ getF s (R.TMB_U_CTRL_LINK_ACT u) = 0 ∧ getF s (R.TMB_U_CTRL_CNT_SRC u) ≠ 0 ∧
      (getUnit s u).pscOf = getF s (R.TMB_U_CTRL_PSC_M1 u) ∧ (getUnit s u).psc = getF s (R.TMB_U_CTRL_PSC_M1 u) ∧ getF s (R.TMB_U_CNT u) =
      getF s (R.TMB_U_TOP u) ∧ (getUnit s u).cntAt ≠ some s.now ∧ u.val < s.tmb.units.length ∧ a ≠ A.TMB_U_CNT u) ∧
    (∃ (s : State) (u : Fin 8), unitHolds s u = false ∧ getF s (R.TMB_U_CTRL_LINK_ACT u) = 0 ∧ getF s (R.TMB_U_CTRL_CNT_SRC u) ≠ 0 ∧ (getUnit s
      u).pscOf = getF s (R.TMB_U_CTRL_PSC_M1 u) ∧ (getUnit s u).psc < getF s (R.TMB_U_CTRL_PSC_M1 u)) ∧
    (∃ (s : State) (u : Fin 8), getF s (R.TMB_U_CTRL_CNT_SRC u) = 0 ∧ getF s (R.TMB_U_CTRL_LINK_ACT u) = 0) ∧
    (∃ (s : State) (u : Fin 8) (t : Nat) (rest : List Nat), unitHolds s u = false ∧ getF s (R.TMB_U_CTRL_LINK_ACT u) = 2 ∧ (getUnit s u).links =
      t :: rest ∧ t < s.now) ∧
    (∃ (s : State) (k : Fin 32), compareDue s (k.val / 4) (k.val % 4) = true ∧ getF s (R.TMB_CH_CTRL_MODE (k.val / 4) (k.val % 4)) = 0) ∧
    (∃ (s : State) (k : Fin 32), compareDue s (k.val / 4) (k.val % 4) = true ∧ getF s (R.TMB_CH_CTRL_MODE (k.val / 4) (k.val % 4)) = 1) ∧
    (∃ (s : State) (who : Initiator) (k : Fin 32) (v : Word), busOpen s who = true ∧ flagF s (R.TMB_CH_CTRL_EN (k.val / 4) (k.val % 4)) = false
      ∧ v.getLsbD 31 = true ∧ v.extractLsb' 0 2 = 0 ∧ s.now ≤ cmpValue s (k.val / 4) (k.val % 4)) ∧
    (∃ (s : State) (who : Initiator) (k : Fin 32) (v : Word), busOpen s who = true ∧ flagF s (R.TMB_CH_CTRL_EN (k.val / 4) (k.val % 4)) = false
      ∧ v.getLsbD 31 = true ∧ v.extractLsb' 0 2 = 0 ∧ cmpValue s (k.val / 4) (k.val % 4) < s.now) ∧
    (∃ (s : State) (u : Fin 8), unitHolds s u = false ∧ getF s (R.TMB_U_CTRL_LINK_ACT u) = 0 ∧ getF s (R.TMB_U_CTRL_CNT_SRC u) ≠ 0 ∧ (getUnit s
      u).pscOf = getF s (R.TMB_U_CTRL_PSC_M1 u) ∧ (getUnit s u).psc = getF s (R.TMB_U_CTRL_PSC_M1 u) ∧ (getUnit s u).cntAt = some s.now) :=
  ⟨⟨{ State.reset with tmb := { run := true }, regs := [(A.TMB_U_CTRL 0, 0x100000), (A.TMB_U_CNT 0, 0xFFFFFFFE), (A.TMB_U_TOP 0, 0xFFFFFFFF)] },
      0, 0, by decide⟩,
    ⟨{ State.reset with tmb := { run := true }, regs := [(A.TMB_U_CTRL 0, 0x100000), (A.TMB_U_CNT 0, 5), (A.TMB_U_TOP 0, 5)] }, 0, 0, by decide⟩,
    ⟨{ State.reset with tmb := { run := true, units := [{ psc := 2, pscOf := 3 }] }, regs := [(A.TMB_U_CTRL 0, 0x100003)] }, 0, by decide⟩,
    ⟨State.reset, 0, by decide⟩,
    ⟨{ State.reset with tmb := { run := true, units := [{ links := [0] }], tb := 1 }, regs := [(A.TMB_U_CTRL 0, (R.TMB_U_CTRL_LINK_ACT 0).put 0 2)] },
      0, 0, [], by decide⟩,
    ⟨{ State.reset with regs := [(A.TMB_CH_CTRL 0 1, 0x80000000)] }, 1, by decide⟩,
    ⟨{ State.reset with regs := [(A.TMB_CH_CTRL 0 1, 0x80000001)] }, 1, by decide⟩,
    ⟨{ State.reset with head := { st := .running }, regs := [(A.TMB_CMP_LO 7 3, 5)], tmb := { tb := 5 } }, .core, 31, 0x80000000, by decide⟩,
    ⟨{ State.reset with head := { st := .running }, tmb := { tb := 1 } }, .core, 0, 0x80000000, by decide⟩,
    ⟨{ State.reset with tmb := { run := true, units := [{ cntAt := some 0 }] }, regs := [(A.TMB_U_CTRL 0, 0x100000)] }, 0, by decide⟩⟩

theorem test_witness_HaltTickAndWakes :
    (∃ (s : State), s.tmb.halted = false ∧ jtagEnabled s = true) ∧
    (∃ (s : State), jtagEnabled s = false) ∧
    (∃ (s : State), s.tmb.halted = true) ∧
    (∃ (s : State), s.now % 250000 = 0 ∧ s.rru.rpValid = false ∧ s.tmb.run = true) ∧
    (∃ (s : State), s.now % 250000 ≠ 0) ∧
    (∃ (s : State) (n : Fin 16), asleep s = true ∧ s.pwr.pf = .normal ∧ s.pwr.aon = true ∧ (rawReg s (lineReg n)).getLsbD 8 = true) ∧
    (∃ (s : State) (k : Fin 32) (slow : Nat), asleep s = true ∧ s.pwr.pf = .normal ∧ s.pwr.aon = true ∧ getF s (R.TMB_CH_CTRL_MODE (k.val / 4)
      (k.val % 4)) = 0 ∧ flagF s (R.TMB_CH_CTRL_WAKE (k.val / 4) (k.val % 4)) = true ∧ flagF s (R.TMB_CH_CTRL_EN (k.val / 4) (k.val % 4)) =
      true ∧ s.now < cmpValue s (k.val / 4) (k.val % 4) ∧ s.now + (slow - 1) * 1953125 / 256 < cmpValue s (k.val / 4) (k.val % 4) ∧ cmpValue
      s (k.val / 4) (k.val % 4) ≤ s.now + slow * 1953125 / 256) :=
  ⟨⟨{ State.reset with tmb := { halted := false } }, by decide⟩,
    ⟨{ State.reset with fus := { wires := { State.reset.fus.wires with rmJtag := true } } }, by decide⟩,
    ⟨{ State.reset with tmb := { halted := true } }, by decide⟩,
    ⟨{ State.reset with rru := { rpValid := false }, tmb := { run := true, tb := 250000 } }, by decide⟩,
    ⟨{ State.reset with tmb := { tb := 249999 } }, by decide⟩,
    ⟨{ State.reset with head := { st := .sleep }, pwr := { pf := .normal, aon := true }, regs := [(A.TGE_LINE_CFG 15, 0x100)] }, 15, by decide⟩,
    ⟨{ State.reset with head := { st := .sleep }, pwr := { pf := .normal, aon := true }, regs := [(A.TMB_CH_CTRL 7 3, 0xC0000000), (A.TMB_CMP_LO 7 3, 7629)] },
      31, 1, by decide⟩⟩

theorem test_witness_TilePowerDomains :
    (∃ (s : State) (t : Fin 240) (i : Nat), (getTile s t).st = .ramp ∧ i ≠ t.val) ∧
    (∃ (s : State) (t : Fin 240) (i : Nat), (getTile s t).st = .flush ∧ i ≠ t.val) ∧
    (∃ (s : State) (t : Fin 240) (i : Nat), (getTile s t).st.powered = true ∧ i ≠ t.val) ∧
    (∃ (s : State) (who : Initiator) (t : Fin 240) (v : Word) (i : Nat), busOpen s who = true ∧ (getTile s t).st = .fault ∧ v.getLsbD 1 = true ∧
      v.getLsbD 0 = false ∧ i ≠ t.val) ∧
    (∃ (s : State) (who : Initiator) (t : Fin 240) (v : Word) (a : Nat), busOpen s who = true ∧ (getTile s t).st = .fault ∧ v.getLsbD 1 = true ∧
      v.getLsbD 0 = false ∧ a ≠ A.SNS_TILE_CTRL t) ∧
    (∃ (s : State) (who : Initiator) (t : Fin 240) (v : Word), busOpen s who = true ∧ (getTile s t).st.powered = true ∧ flagF s
      (R.SNS_TILE_CTRL_FORCE_OFF t) = false ∧ v.getLsbD 0 = true) :=
  ⟨⟨{ State.reset with sns := { tiles := [(239, { st := .ramp })] } }, 239, 1, by decide⟩,
    ⟨{ State.reset with sns := { tiles := [(0, { st := .flush })] } }, 0, 1, by decide⟩,
    ⟨{ State.reset with sns := { tiles := [(0, { st := .ready })] } }, 0, 1, by decide⟩,
    ⟨{ State.reset with head := { st := .running }, sns := { tiles := [(0, { st := .fault })] } }, .core, 0, 2, 1, by decide⟩,
    ⟨{ State.reset with head := { st := .running }, sns := { tiles := [(0, { st := .fault })] } }, .core, 0, 2, 0, by decide⟩,
    ⟨{ State.reset with head := { st := .running }, sns := { tiles := [(0, { st := .ready })] } }, .core, 0, 1, by decide⟩⟩

theorem test_witness_Cooler :
    (∃ (s : State) (hot : BitVec 16) (sensor : BitVec 16), s.sns.temp = .settling ∧ s.sns.inBand = 99 ∧ hot.toInt < 7500 ∧ (sensor.toInt -
      setpoint (rawReg s A.SNS_COOL_CTRL)).natAbs ≤ 10) ∧
    (∃ (s : State), s.sns.temp = .stable ∧ s.sns.hotSide.toInt < 7500 ∧ 10 < (s.sns.sensor.toInt - setpoint (rawReg s A.SNS_COOL_CTRL)).natAbs) ∧
    (∃ (s : State), (s.sns.temp = .stable ∨ s.sns.temp = .settling) ∧ 7500 ≤ s.sns.hotSide.toInt) ∧
    (∃ (s : State), s.sns.coolOn = true ∧ s.sns.coolSat = false) ∧
    (∃ (s : State) (who : Initiator) (v : Word), busOpen s who = true ∧ -1000 ≤ setpoint v ∧ setpoint v ≤ 2500 ∧ v.getLsbD 30 = false ∧
      v.getLsbD 31 = true ∧ setpoint v ≠ setpoint (rawReg s A.SNS_COOL_CTRL) ∧ s.sns.temp = .stable) ∧
    (∃ (s : State) (who : Initiator) (v : Word), busOpen s who = true ∧ (setpoint v < -1000 ∨ 2500 < setpoint v)) ∧
    (∃ (s : State) (who : Initiator) (v : Word), busOpen s who = true ∧ -1000 ≤ setpoint v ∧ setpoint v ≤ 2500 ∧ v.getLsbD 30 = true ∧
      s.sns.temp = .fault ∧ s.sns.hotSide.toInt < 6000) ∧
    (∃ (s : State) (who : Initiator) (v : Word), busOpen s who = true ∧ -1000 ≤ setpoint v ∧ setpoint v ≤ 2500 ∧ v.getLsbD 30 = true ∧
      s.sns.temp = .fault ∧ 6000 ≤ s.sns.hotSide.toInt) :=
  ⟨⟨{ State.reset with sns := { temp := .settling, inBand := 99 } }, 7499, 10, by decide⟩,
    ⟨{ State.reset with sns := { temp := .stable, sensor := 11 } }, by decide⟩,
    ⟨{ State.reset with sns := { temp := .stable, hotSide := 7500 } }, by decide⟩,
    ⟨{ State.reset with sns := { coolOn := true, coolSat := false } }, by decide⟩,
    ⟨{ State.reset with head := { st := .running }, sns := { temp := .stable } }, .core, 0x800009C4, by decide⟩,
    ⟨{ State.reset with head := { st := .running } }, .core, 2501, by decide⟩,
    ⟨{ State.reset with head := { st := .running }, sns := { temp := .fault, hotSide := 5999 } }, .core, 0x40000000, by decide⟩,
    ⟨{ State.reset with head := { st := .running }, sns := { temp := .fault, hotSide := 6000 } }, .core, 0x40000000, by decide⟩⟩

theorem test_witness_SubBankPowerDomains :
    (∃ (s : State) (d : Fin 40) (i : Nat), (getSb s d).st = .ramp ∧ i ≠ d.val) ∧
    (∃ (s : State) (d : Fin 40) (i : Nat), (getSb s d).st = .trim ∧ i ≠ d.val) ∧
    (∃ (s : State) (d : Fin 40), (getSb s d).st = .trim ∧ d.val % 20 ≠ 0 ∧ d.val % 20 ≠ 19) ∧
    (∃ (s : State) (d : Fin 40) (i : Nat), (getSb s d).st.powered = true ∧ i ≠ d.val) ∧
    (∃ (s : State) (who : Initiator) (d : Fin 40) (v : Word) (i : Nat), busOpen s who = true ∧ (getSb s d).st = .fault ∧ v.getLsbD 1 = true ∧
      v.getLsbD 0 = false ∧ i ≠ d.val) ∧
    (∃ (s : State) (who : Initiator) (d : Fin 40) (v : Word) (a : Nat), busOpen s who = true ∧ (getSb s d).st = .fault ∧ v.getLsbD 1 = true ∧
      v.getLsbD 0 = false ∧ a ≠ A.CRO_SB_CTRL d) ∧
    (∃ (s : State) (who : Initiator) (d : Fin 40) (v : Word), busOpen s who = true ∧ (getSb s d).st.powered = true ∧ flagF s
      (R.CRO_SB_CTRL_FORCE_OFF d) = false ∧ v.getLsbD 0 = true) :=
  ⟨⟨{ State.reset with cro := { sbs := [(39, { st := .ramp })] } }, 39, 1, by decide⟩,
    ⟨{ State.reset with cro := { sbs := [(0, { st := .trim })] } }, 0, 1, by decide⟩,
    ⟨{ State.reset with cro := { sbs := [(1, { st := .trim })] } }, 1, by decide⟩,
    ⟨{ State.reset with cro := { sbs := [(0, { st := .ready })] } }, 0, 1, by decide⟩,
    ⟨{ State.reset with head := { st := .running }, cro := { sbs := [(0, { st := .fault })] } }, .core, 0, 2, 1, by decide⟩,
    ⟨{ State.reset with head := { st := .running }, cro := { sbs := [(0, { st := .fault })] } }, .core, 0, 2, 0, by decide⟩,
    ⟨{ State.reset with head := { st := .running }, cro := { sbs := [(0, { st := .ready })] } }, .core, 0, 1, by decide⟩⟩

theorem test_witness_SensorLinkAndGeometry :
    (∃ (s : State) (l : Fin 96), (getLink s l).st = .up ∧ 16 < ((getLink s l).errs.filter fun t => s.now < t + second).length) ∧
    (∃ (s : State) (l : Fin 96), (getLink s l).st = .training) ∧
    (∃ (s : State) (l : Fin 96) (fails : List Nat), (getLink s l).st = .training ∧ fails = ((getLink s l).fails.filter fun t => s.now < t +
      tenSeconds) ++ [s.now] ∧ fails.length < 3) ∧
    (∃ (s : State) (l : Fin 96) (fails : List Nat), (getLink s l).st = .training ∧ fails = ((getLink s l).fails.filter fun t => s.now < t +
      tenSeconds) ++ [s.now] ∧ 3 ≤ fails.length) ∧
    (∃ (s : State) (p : RowPacket) (rd : BankRead) (b : Booking) (e : ExpEntry), s.cro.reading.getD p.bank none = some rd ∧ rd.lane ≠ 4 ∧
      rd.dead = false ∧ rd.got.contains p.row.val = false ∧ findBooking s rd.lane rd.exp rd.frame rd.rg = some b ∧ (laneProg s
      rd.lane).exps[rd.exp]? = some e ∧ p.row.val < rowsPerGroup (geoOf s e.geo).bin) ∧
    (∃ (s : State) (p : RowPacket), s.cro.reading.getD p.bank none = none) ∧
    (∃ (s : State) (p : RowPacket) (rd : BankRead), s.cro.reading.getD p.bank none = some rd ∧ (rd.dead = true ∨ rd.got.contains p.row.val =
      true)) ∧
    (∃ (s : State) (who : Initiator) (n : Fin 16), busOpen s who = true ∧ geoInUse s n = true) ∧
    (∃ (s : State) (who : Initiator) (n : Fin 16) (reg : Fin 50) (v : Word), busOpen s who = true ∧ geoInUse s n = false ∧ (geoOf (plainWrite
      (geoRegister n reg) v s) n).valid = false ∧ (geoOf (plainWrite (geoRegister n reg) v s) n).bin ≠ 3 ∧ (geoOf (plainWrite (geoRegister n
      reg) v s) n).c0 ≤ 1279 ∧ (geoOf (plainWrite (geoRegister n reg) v s) n).c1 ≤ 1279) :=
  ⟨⟨{ State.reset with cro := { lanes := [(95, { st := .up, errs := List.replicate 17 0 })] } }, 95, by decide⟩,
    ⟨{ State.reset with cro := { lanes := [(0, { st := .training })] } }, 0, by decide⟩,
    ⟨{ State.reset with cro := { lanes := [(0, { st := .training })] } }, 0, [0], by decide⟩,
    ⟨{ State.reset with cro := { lanes := [(0, { st := .training, fails := [0, 0] })] } }, 0, [0, 0, 0], by decide⟩,
    ⟨{ State.reset with cro := { reading := [some ⟨0, 0, 0, 0, 0, 1, 24, false, [], 0, 0⟩, none] }, exs := { bookings := [booking] } }, packet,
      ⟨0, 0, 0, 0, 0, 1, 24, false, [], 0, 0⟩, booking, expo, by decide⟩,
    ⟨State.reset, packet, by decide⟩,
    ⟨{ State.reset with cro := { reading := [some ⟨0, 0, 0, 0, 0, 1, 24, true, [], 0, 0⟩, none] } }, packet, ⟨0, 0, 0, 0, 0, 1, 24, true, [], 0,
      0⟩, by decide⟩,
    ⟨{ State.reset with head := { st := .running }, exs := { lanes := [{ st := .running }, {}, {}, {}] } }, .core, 0, by decide⟩,
    ⟨{ State.reset with head := { st := .running } }, .core, 1, 49, 0, by decide⟩⟩

theorem test_witness_InstancesResetsAndReads :
    (∃ (s : State) (m : Fin 4) (t : Nat), (getLane s m).st = .running ∧ (getLane s m).nextAbs = some t ∧ t ≤ s.now ∧ (laneProg s m).period ≠ 0) ∧
    (∃ (s : State) (m : Fin 4) (t : Nat), (getLane s m).nextAbs = some t ∧ s.now < t) ∧
    (∃ (s : State), mayPlace s = true) ∧
    (∃ (s : State), mayPlace s = false) ∧
    (∃ (s : State), s.ctg.gate = true) ∧
    (∃ (s : State), s.ctg.gate = false) ∧
    (∃ (s : State) (l : Fin 5) (exp : Nat) (key : Nat) (rg : Nat) (b : Booking) (e : ExpEntry), l.val ≠ 4 ∧ findBooking s l exp key rg = some b
      ∧ (laneProg s l).exps[exp]? = some e ∧ b.resetDone = false ∧ b.resetTb ≤ s.now) ∧
    (∃ (s : State) (l : Fin 5) (exp : Nat) (key : Nat) (rg : Nat) (b : Booking), l.val ≠ 4 ∧ findBooking s l exp key rg = some b ∧ s.now <
      b.resetTb) ∧
    (∃ (s : State) (l : Fin 5) (exp : Nat) (key : Nat) (rg : Nat) (b : Booking) (e : ExpEntry), l.val ≠ 4 ∧ findBooking s l exp key rg = some b
      ∧ (laneProg s l).exps[exp]? = some e ∧ b.resetDone = true ∧ b.reading = false ∧ b.readTb ≤ s.now ∧ (banksOf (geoOf s e.geo).bin
      rg).all (fun k => (s.cro.reading.getD k none).isNone) = true ∧ (∀ k ∈ banksOf (geoOf s e.geo).bin rg, s.cro.freeAt.getD k 0 ≤
      b.readTb) ∧ deadSubBanks s (geoOf s e.geo).sbEn (banksOf (geoOf s e.geo).bin rg) = []) ∧
    (∃ (s : State) (rg : Nat) (r : CalRead), calReadEnds s rg 0 = true ∧ lostRows s (calBank rg) 8 = [] ∧ (s.cal.reads.find? fun r => r.rg == rg
      && r.gain == 2 && r.reading) = some r ∧ r.drift = false ∧ (s.cal.rgLeft.filter (· != rg)) ≠ []) :=
  ⟨⟨{ State.reset with exs := { lanes := [{ st := .running, nextAbs := some 0 }, {}, {}, {}] }, mem := [(0x30010010, 1)] }, 0, 0, by decide⟩,
    ⟨{ State.reset with exs := { lanes := [{ nextAbs := some 1 }, {}, {}, {}] } }, 0, 1, by decide⟩,
    ⟨{ State.reset with head := { st := .running } }, by decide⟩,
    ⟨State.reset, by decide⟩,
    ⟨{ State.reset with ctg := { gate := true } }, by decide⟩,
    ⟨{ State.reset with ctg := { gate := false } }, by decide⟩,
    ⟨{ State.reset with exs := { bookings := [{ booking with resetDone := false }] } }, 0, 0, 0, 0,
      { booking with resetDone := false }, expo, by decide⟩,
    ⟨{ State.reset with exs := { bookings := [{ booking with resetTb := 1 }] } }, 0, 0, 0, 0,
      { booking with resetTb := 1 }, by decide⟩,
    ⟨{ State.reset with exs := { bookings := [booking] }, cro := { sbs := [(0, { st := .ready }), (19, { st := .ready })] } }, 0, 0, 0, 0,
      booking, expo, by decide⟩,
    ⟨{ State.reset with cro := { reading := [none, some ⟨4, 0, 0, 3, 0, 0, 24, false, [], 0, 0⟩] }, cal := { reads := [⟨3, 2, false, 0, 0, true⟩], rgLeft := [4] } },
      3, ⟨3, 2, false, 0, 0, true⟩, by decide⟩⟩

theorem test_witness_EndOfALaneRead :
    (∃ (s : State) (l : Fin 5) (exp : Nat) (key : Nat) (rg : Nat) (b : Booking) (e : ExpEntry), l.val ≠ 4 ∧ findBooking s l exp key rg = some b
      ∧ (laneProg s l).exps[exp]? = some e ∧ banksReading s l exp key rg ≠ [] ∧ (∀ k ∈ banksReading s l exp key rg, s.cro.freeAt.getD k 0 ≤
      s.now) ∧ (∀ k ∈ banksReading s l exp key rg, lostRows s k (rowsPerGroup (geoOf s e.geo).bin) = [])) ∧
    (∃ (s : State) (l : Fin 5) (exp : Nat) (key : Nat) (rg : Nat), l.val ≠ 4 ∧ findBooking s l exp key rg = none ∧ banksReading s l exp key rg ≠
      [] ∧ (∀ k ∈ banksReading s l exp key rg, s.cro.freeAt.getD k 0 ≤ s.now)) ∧
    (∃ (s : State) (l : Fin 5) (exp : Nat) (key : Nat) (rg : Nat), l.val ≠ 4 ∧ ((banksReading s l exp key rg = [] ∨ ∃ k ∈ banksReading s l exp
      key rg, s.now < s.cro.freeAt.getD k 0))) :=
  ⟨⟨{ State.reset with cro := { reading := [some ⟨0, 0, 0, 0, 0, 1, 24, false, [], 0, 0⟩, none] }, exs := { bookings := [{ booking with reading := true }] }, tmb := { tb := 1 } },
      0, 0, 0, 0, { booking with reading := true }, expo, by decide⟩,
    ⟨{ State.reset with cro := { reading := [some ⟨0, 0, 0, 0, 0, 1, 24, false, [], 0, 0⟩, none] }, tmb := { tb := 1 } }, 0, 0, 0, 0, by decide⟩,
    ⟨State.reset, 0, 0, 0, 0, by decide⟩⟩

theorem test_witness_FrameCloseAndHandOff :
    (∃ (s : State) (m : Fin 4), ((getLane s m).st = .running ∨ (getLane s m).st = .draining) ∧ (getLane s m).openFrame < s.rru.f ∧ frameQuiet s
      m (getLane s m).openFrame = true) ∧
    (∃ (s : State) (m : Fin 4), (s.rru.f ≤ (getLane s m).openFrame ∨ frameQuiet s m (getLane s m).openFrame = false)) ∧
    (∃ (s : State) (set : Fin 256) (h : HandOff) (rest : List HandOff), (getSet s set).handing = h :: rest) ∧
    (∃ (s : State) (i : Fin 16) (pipe : Fin 2), ((s.pat.slices.getD i
      {}).held.filter fun h => h.pipe == pipe.val).any (fun h => decide (h.tb + sliceTimeout ≤ s.now)) = true) ∧
    (∃ (s : State) (who : Initiator) (w : Nat) (v : Word), busOpen s who = true ∧ w < poolBase ∧ Memory.wf s.mem = true ∧ (getSet s ((memWord s
      (winAddr w)).toNat % 256)).st.idle = true ∧ (getSet s (v.toNat % 256)).st.idle = true ∧ v.getLsbD 31 = false) ∧
    (∃ (s : State) (who : Initiator) (w : Nat), busOpen s who = true ∧ w < poolBase ∧ (getSet s ((memWord s (winAddr w)).toNat % 256)).st.idle =
      false) :=
  ⟨⟨{ State.reset with rru := { f := 1 }, exs := { lanes := [{ st := .running }, {}, {}, {}] } }, 0, by decide⟩,
    ⟨State.reset, 0, by decide⟩,
    ⟨{ State.reset with pat := { sets := [(255, { handing := [⟨⟨0, 1, [], [], [], false, 0⟩, 0, [], false⟩] })] } }, 255, ⟨⟨0, 1, [], [], [],
      false, 0⟩, 0, [], false⟩, [], by decide⟩,
    ⟨{ State.reset with pat := { slices := [{ held := [⟨0, 0, row⟩] }] }, tmb := { tb := 16000 } }, 0, 0, by decide⟩,
    ⟨{ State.reset with head := { st := .running } }, .core, 0, 0, by decide⟩,
    ⟨{ State.reset with head := { st := .running }, pat := { sets := [(255, { st := .running })] }, mem := [(0x100BFFF0, 255)] }, .core, 49151,
      by decide⟩⟩

theorem test_witness_CalibrationDue :
    (∃ (s : State), s.cal.due = none) ∧
    (∃ (s : State), s.cal.due = none) ∧
    (∃ (s : State), s.cal.phase ≠ .idle ∧ s.cal.aborted = false) ∧
    (∃ (s : State), s.cal.phase = .idle) ∧
    (∃ (s : State), s.cal.secN ≠ 0 ∧ s.cal.src ≠ 0 ∧ s.cal.arisen = [] ∧ getF s R.CAL_TRIG_TEMP_DELTA < (roundDiv s.cal.secSum s.cal.secN -
      s.cal.active.tCal).natAbs) ∧
    (∃ (s : State), s.cal.secN ≠ 0 ∧ s.cal.arisen = [] ∧ (roundDiv s.cal.secSum s.cal.secN - s.cal.active.tCal).natAbs ≤ getF s
      R.CAL_TRIG_TEMP_DELTA) ∧
    (∃ (s : State), getF s R.CAL_TRIG_MAX_AGE ≠ 0 ∧ s.cal.src ≠ 0 ∧ s.cal.arisen.contains .age = false ∧ getF s R.CAL_TRIG_MAX_AGE * 60 * second
      < setAge s) ∧
    (∃ (s : State) (r : CalReason) (t : Nat), s.cal.due = some (r, t) ∧ s.cal.stale = false ∧ t + getF s R.CAL_STALE_MAX * second < s.now) ∧
    (∃ (s : State), s.cal.due = none) :=
  ⟨⟨{ State.reset with cal := { due := none } }, by decide⟩,
    ⟨{ State.reset with cal := { due := none } }, by decide⟩,
    ⟨{ State.reset with cal := { aborted := false, phase := .dark } }, by decide⟩,
    ⟨{ State.reset with cal := { phase := .idle } }, by decide⟩,
    ⟨{ State.reset with cal := { arisen := [], secN := 1, src := 1, secSum := 20000 } }, by decide⟩,
    ⟨{ State.reset with cal := { arisen := [], secN := 1, secSum := 1 } }, by decide⟩,
    ⟨{ State.reset with cal := { src := 1 }, tmb := { tb := 15000000001 }, regs := [(A.CAL_TRIG, 0x10000)] }, by decide⟩,
    ⟨{ State.reset with cal := { stale := false, due := some (.age, 0) }, tmb := { tb := 1000000000000 } }, .age, 0, by decide⟩,
    ⟨{ State.reset with cal := { due := none } }, by decide⟩⟩

theorem test_witness_CalibrationRun :
    (∃ (s : State), s.cal.phase = .closing ∧ s.ctg.shutClosed = true ∧ s.ctg.shutCmd = true ∧ max s.ctg.shutRepTb s.cal.stepTb + 500000 ≤ s.now) ∧
    (∃ (s : State), s.cal.phase = .closing ∧ s.now < max s.ctg.shutRepTb s.cal.stepTb + 500000) ∧
    (∃ (s : State), s.cal.phase = .opening ∧ s.ctg.shutClosed = s.ctg.shutCmd ∧ s.cal.aborted = true ∧ max s.ctg.shutRepTb s.cal.stepTb + 500000
      ≤ s.now) ∧
    (∃ (s : State), s.cal.phase = .opening ∧ s.ctg.shutClosed = s.ctg.shutCmd ∧ s.cal.aborted = false ∧ max s.ctg.shutRepTb s.cal.stepTb +
      500000 ≤ s.now) ∧
    (∃ (s : State) (c : CalStore), storeRuns s .calibration = true ∧ s.cal.store = some c ∧ c.again = false ∧ calRecordBytes ≤ c.done + 131072) ∧
    (∃ (s : State) (c : CalStore), storeRuns s .calibration = true ∧ s.cal.store = some c ∧ c.again = false ∧ c.done + 131072 < calRecordBytes) ∧
    (∃ (s : State) (k : Nat) (c : CalSet), s.cal.loading = true ∧ newestCopy s = some (k, c) ∧ s.cal.copies.all Option.isSome = true ∧
      s.cal.copies.length = 2) ∧
    (∃ (s : State), s.cal.loading = true ∧ s.cal.copies = [none, none]) :=
  ⟨⟨{ State.reset with cal := { phase := .closing }, ctg := { shutClosed := true, shutCmd := true }, tmb := { tb := 500000 } }, by decide⟩,
    ⟨{ State.reset with cal := { phase := .closing }, tmb := { tb := 499999 } }, by decide⟩,
    ⟨{ State.reset with cal := { phase := .opening, aborted := true }, tmb := { tb := 500000 } }, by decide⟩,
    ⟨{ State.reset with cal := { phase := .opening, aborted := false }, tmb := { tb := 500000 } }, by decide⟩,
    ⟨{ State.reset with pwr := { running := [⟨.emmcWrite, .calibration⟩] }, cal := { store := some ⟨0, {}, 1258571776, false, false⟩ } }, ⟨0,
      {}, 1258571776, false, false⟩, by decide⟩,
    ⟨{ State.reset with pwr := { running := [⟨.emmcWrite, .calibration⟩] }, cal := { store := some ⟨0, {}, 1258571775, false, false⟩ } }, ⟨0,
      {}, 1258571775, false, false⟩, by decide⟩,
    ⟨{ State.reset with cal := { loading := true, copies := [some {}, some { generation := 1 }] } }, 1,
      { generation := 1 }, by decide⟩,
    ⟨{ State.reset with cal := { loading := true } }, by decide⟩⟩

theorem test_witness_SliderAndShutter :
    (∃ (s : State) (who : Initiator) (v : Word), busOpen s who = true ∧ v.toNat % 8 ≤ 4 ∧ s.ctg.moving = false) ∧
    (∃ (s : State) (who : Initiator) (v : Word), busOpen s who = true ∧ v.toNat % 8 ≤ 4 ∧ s.ctg.moving = true) ∧
    (∃ (s : State) (who : Initiator) (v : Word), busOpen s who = true ∧ 4 < v.toNat % 8) ∧
    (∃ (s : State), s.ctg.moving = true ∧ s.ctg.st = .ready) ∧
    (∃ (s : State), s.ctg.settling = true ∧ s.ctg.inPosTb + 500000 ≤ s.now) ∧
    (∃ (s : State), s.now < s.ctg.inPosTb + 500000) ∧
    (∃ (s : State), s.ctg.st = .ready ∧ s.ctg.moving = true ∧ s.ctg.moveTb + moveLimit s ≤ s.now) ∧
    (∃ (s : State) (who : Initiator) (v : Word), busOpen s who = true ∧ v.getLsbD 3 = false) ∧
    (∃ (s : State), s.ctg.st = .ready ∧ s.ctg.shutClosed ≠ s.ctg.shutCmd) ∧
    (∃ (s : State), s.ctg.shutClosed = s.ctg.shutCmd) ∧
    (∃ (s : State), s.ctg.st = .ready ∧ s.ctg.shutClosed ≠ s.ctg.shutCmd ∧ s.ctg.shutTb + 6250000 ≤ s.now) :=
  ⟨⟨{ State.reset with head := { st := .running }, ctg := { moving := false } }, .core, 0, by decide⟩,
    ⟨{ State.reset with head := { st := .running }, ctg := { moving := true } }, .core, 0, by decide⟩,
    ⟨{ State.reset with head := { st := .running } }, .core, 5, by decide⟩,
    ⟨{ State.reset with ctg := { moving := true, st := .ready } }, by decide⟩,
    ⟨{ State.reset with ctg := { settling := true }, tmb := { tb := 500000 } }, by decide⟩,
    ⟨{ State.reset with tmb := { tb := 499999 } }, by decide⟩,
    ⟨{ State.reset with ctg := { st := .ready, moving := true }, tmb := { tb := 10000000 } }, by decide⟩,
    ⟨{ State.reset with head := { st := .running } }, .core, 0, by decide⟩,
    ⟨{ State.reset with ctg := { st := .ready, shutClosed := false } }, by decide⟩,
    ⟨State.reset, by decide⟩,
    ⟨{ State.reset with ctg := { st := .ready, shutClosed := false }, tmb := { tb := 6250000 } }, by decide⟩⟩

theorem test_witness_CartridgeAuthentication :
    (∃ (s : State), s.ctg.contact = false ∧ s.ctg.st = .absent ∧ s.head.fwReady = true ∧ s.sup.dieDown = false ∧ asleep s = false) ∧
    (∃ (s : State), s.ctg.st ≠ .absent ∧ s.sup.dieDown = false ∧ asleep s = false) ∧
    (∃ (s : State) (mem : List (Nat × Byte)), s.ctg.st = .reading ∧ badRegion (Mem.normal erased mem) = none) ∧
    (∃ (s : State), s.ctg.st = .auth ∧ s.now ≤ s.ctg.stepTb + 25000000) ∧
    (∃ (s : State), s.ctg.st = .auth ∧ s.ctg.stepTb + 25000000 < s.now) ∧
    (∃ (s : State), s.ctg.st = .auth ∧ s.now ≤ s.ctg.stepTb + 25000000 ∧ s.tmb.todState = .locked ∧ (todDays s < s.ctg.id.validFrom ∨
      s.ctg.id.validTo < todDays s)) ∧
    (∃ (s : State), s.ctg.st = .auth ∧ s.now ≤ s.ctg.stepTb + 25000000 ∧ ((s.tmb.todState = .free ∨ s.ctg.id.validFrom ≤ todDays s ∧ todDays s ≤
      s.ctg.id.validTo))) ∧
    (∃ (s : State), s.ctg.st = .auth ∧ s.now ≤ s.ctg.stepTb + 25000000 ∧ s.tmb.todState = .locked ∧ s.ctg.id.validFrom ≤ todDays s ∧ todDays s ≤
      s.ctg.id.validTo) ∧
    (∃ (s : State), s.ctg.st = .auth ∧ s.now ≤ s.ctg.stepTb + 25000000 ∧ s.tmb.todState = .free) ∧
    (∃ (s : State), s.ctg.st = .auth ∧ s.ctg.stepTb + 25000000 ≤ s.now) ∧
    (∃ (s : State), s.ctg.st = .homing ∧ s.ctg.stepTb + 125000000 ≤ s.now) ∧
    (∃ (s : State) (who : Initiator) (v : Word), busOpen s who = true ∧ v.getLsbD 3 = true) ∧
    (∃ (s : State), s.ctg.contact = true ∧ (s.ctg.st = .rejected ∨ s.ctg.st = .fault)) :=
  ⟨⟨{ State.reset with ctg := { contact := false, st := .absent }, head := { fwReady := true }, sup := { dieDown := false } }, by decide⟩,
    ⟨{ State.reset with sup := { dieDown := false }, ctg := { st := .ready } }, by decide⟩,
    ⟨{ State.reset with ctg := { st := .reading } }, cartridge, by decide +kernel⟩,
    ⟨{ State.reset with ctg := { st := .auth } }, by decide⟩,
    ⟨{ State.reset with ctg := { st := .auth }, tmb := { tb := 25000001 } }, by decide⟩,
    ⟨{ State.reset with ctg := { st := .auth }, tmb := { todState := .locked, tb := 25000000, todSec := 946771200 } }, by decide⟩,
    ⟨{ State.reset with ctg := { st := .auth }, tmb := { todState := .free } }, by decide⟩,
    ⟨{ State.reset with ctg := { st := .auth }, tmb := { todState := .locked, tb := 25000000 } }, by decide⟩,
    ⟨{ State.reset with ctg := { st := .auth }, tmb := { todState := .free } }, by decide⟩,
    ⟨{ State.reset with ctg := { st := .auth }, tmb := { tb := 25000000 } }, by decide⟩,
    ⟨{ State.reset with ctg := { st := .homing }, tmb := { tb := 125000000 } }, by decide⟩,
    ⟨{ State.reset with head := { st := .running } }, .core, 8, by decide⟩,
    ⟨{ State.reset with ctg := { contact := true, st := .rejected } }, by decide⟩⟩

theorem test_witness_CartridgeCheckpoints :
    (∃ (s : State), s.ctg.st = .ready ∧ checkpointDue s = true ∧ s.pwr.pf = .normal ∧ s.sup.coreDown = false ∧ s.head.coreRestart = false ∧
      leaseOpen s 6 8 = true) ∧
    (∃ (s : State), checkpointDue s = false) ∧
    (∃ (s : State), storeRuns s .checkpoint = true) ∧
    (∃ (s : State) (stored : List Nat), storeRuns s .checkpoint = true ∧ ((∀ n, n < 7 → stored.getD n 0 ≤ s.ctg.ckptSent.getD n 0))) ∧
    (∃ (s : State) (who : Initiator), busOpen s who = true) :=
  ⟨⟨{ State.reset with ctg := { st := .ready }, pwr := { pf := .normal }, sup := { coreDown := false }, head := { coreRestart := false }, tmb := { tb := 15000000000 } },
      by decide⟩,
    ⟨{ State.reset with tmb := { tb := 14999999999 } }, by decide⟩,
    ⟨{ State.reset with pwr := { running := [⟨.checkpoint, .checkpoint⟩] } }, by decide⟩,
    ⟨{ State.reset with pwr := { running := [⟨.checkpoint, .checkpoint⟩] } }, [], by decide⟩,
    ⟨{ State.reset with head := { st := .running } }, .core, by decide⟩⟩

theorem test_witness_ThreadComputation :
    (∃ (s : State) (e : Fin 4) (t : Fin 16) (w : Nat), threadWord s e t = w ∧ maySlot s e t .run = true ∧ legalWord (jumpRich s e) w = true ∧
      opOf w = 0) ∧
    (∃ (s : State) (e : Fin 4) (t : Fin 16) (w : Nat), threadWord s e t = w ∧ maySlot s e t .run = true ∧ legalWord (jumpRich s e) w = true ∧
      opOf w = 3) ∧
    (∃ (s : State) (e : Fin 4) (t : Fin 16) (w : Nat), threadWord s e t = w ∧ maySlot s e t .run = true ∧ legalWord (jumpRich s e) w = true ∧
      opOf w = 4) ∧
    (∃ (s : State) (e : Fin 4) (t : Fin 16) (w : Nat), threadWord s e t = w ∧ maySlot s e t .run = true ∧ legalWord (jumpRich s e) w = true ∧
      opOf w = 7) ∧
    (∃ (s : State) (e : Fin 4) (t : Fin 16) (w : Nat), threadWord s e t = w ∧ maySlot s e t .run = true ∧ legalWord (jumpRich s e) w = true ∧
      opOf w = 8) ∧
    (∃ (s : State) (e : Fin 4) (t : Fin 16) (i : Nat), inRange s e (threadGroup s e t) ((getThread s e t).pc + 1).toNat = true ∧ e.val <
      s.tge.engines.length ∧ t.val < (getEngine s e).threads.length ∧ i ≠ t.val) ∧
    (∃ (s : State) (e : Fin 4) (t : Fin 16) (k : Nat), inRange s e (threadGroup s e t) ((getThread s e t).pc + 1).toNat = true ∧ e.val <
      s.tge.engines.length ∧ t.val < (getEngine s e).threads.length ∧ k ≠ e.val) ∧
    (∃ (s : State) (t : Fin 16), s.now % 8 ≠ t.val / 2) :=
  ⟨⟨{ State.reset with tge := { engines := engines { st := .run } } }, 0, 0, 0, by decide⟩,
    ⟨{ State.reset with tge := { engines := engines { st := .run }, code := [(0, 0x3000)] } }, 0, 0, 0x3000, by decide⟩,
    ⟨{ State.reset with tge := { engines := engines { st := .run }, code := [(0, 0x4000)] } }, 0, 0, 0x4000, by decide⟩,
    ⟨{ State.reset with tge := { engines := engines { st := .run }, code := [(0, 0x7000)] } }, 0, 0, 0x7000, by decide⟩,
    ⟨{ State.reset with tge := { engines := engines { st := .run }, code := [(0, 0x8000)] } }, 0, 0, 0x8000, by decide⟩,
    ⟨{ State.reset with regs := [(A.TGE_GRP_CODE 0 0, 0x01FF0000)] }, 0, 0, 1, by decide⟩,
    ⟨{ State.reset with regs := [(A.TGE_GRP_CODE 0 0, 0x01FF0000)] }, 0, 0, 1, by decide⟩,
    ⟨{ State.reset with tmb := { tb := 1 } }, 0, by decide⟩⟩

theorem test_witness_ThreadFlow :
    (∃ (s : State) (e : Fin 4) (t : Fin 16) (w : Nat), threadWord s e t = w ∧ maySlot s e t .run = true ∧ legalWord (jumpRich s e) w = true ∧
      opOf w = 1 ∧ operand w 6 3 = 0 ∧ e.val < s.tge.engines.length ∧ t.val < (getEngine s e).threads.length) ∧
    (∃ (s : State) (e : Fin 4) (t : Fin 16) (d : Nat), inRange s e (threadGroup s e t) (displaced ((getThread s e t).pc + 1) d).toNat = true ∧
      e.val < s.tge.engines.length ∧ t.val < (getEngine s e).threads.length) ∧
    (∃ (s : State) (e : Fin 4) (t : Fin 16) (w : Nat), threadWord s e t = w ∧ maySlot s e t .run = true ∧ legalWord (jumpRich s e) w = true ∧
      opOf w = 2 ∧ waitHolds s e t w (slotCycle s t) = true) ∧
    (∃ (s : State) (e : Fin 4) (t : Fin 16) (w : Nat), threadWord s e t = w ∧ maySlot s e t .run = true ∧ legalWord (jumpRich s e) w = true ∧
      opOf w = 2 ∧ waitHolds s e t w (slotCycle s t) = false) ∧
    (∃ (s : State) (e : Fin 4) (t : Fin 16) (w : Nat), threadWord s e t = w ∧ maySlot s e t .wait = true ∧ opOf w = 2 ∧ waitHolds s e t w
      (slotCycle s t) = true) ∧
    (∃ (s : State) (e : Fin 4) (t : Fin 16) (w : Nat), threadWord s e t = w ∧ maySlot s e t .wait = true ∧ opOf w = 2 ∧ waitHolds s e t w
      (slotCycle s t) = false) ∧
    (∃ (s : State) (e : Fin 4) (t : Fin 16) (w : Nat), threadWord s e t = w ∧ maySlot s e t .run = true ∧ legalWord (jumpRich s e) w = true ∧
      opOf w = 5 ∧ (getThread s e t).rxf.length < 4) ∧
    (∃ (s : State) (e : Fin 4) (t : Fin 16) (w : Nat), threadWord s e t = w ∧ maySlot s e t .run = true ∧ legalWord (jumpRich s e) w = true ∧
      opOf w = 5 ∧ 4 ≤ (getThread s e t).rxf.length ∧ operand w 7 1 = 0) ∧
    (∃ (s : State) (e : Fin 4) (t : Fin 16) (w : Nat) (v : Word) (l : List Word), threadWord s e t = w ∧ maySlot s e t .run = true ∧ legalWord
      (jumpRich s e) w = true ∧ opOf w = 6 ∧ (getThread s e t).txf = v :: l) ∧
    (∃ (s : State) (e : Fin 4) (t : Fin 16) (w : Nat), threadWord s e t = w ∧ maySlot s e t .run = true ∧ legalWord (jumpRich s e) w = true ∧
      opOf w = 6 ∧ (getThread s e t).txf = [] ∧ operand w 7 1 = 0) ∧
    (∃ (s : State) (e : Fin 4) (t : Fin 16) (w : Nat), threadWord s e t = w ∧ maySlot s e t .blocked = true ∧ opOf w = 5 ∧ (getThread s e
      t).rxf.length < 4) ∧
    (∃ (s : State) (e : Fin 4) (t : Fin 16) (w : Nat), threadWord s e t = w ∧ maySlot s e t .blocked = true ∧ opOf w = 5 ∧ 4 ≤ (getThread s e
      t).rxf.length ∧ operand w 7 1 = 0) ∧
    (∃ (s : State) (e : Fin 4) (t : Fin 16) (w : Nat), threadWord s e t = w ∧ maySlot s e t .blocked = true ∧ opOf w = 6 ∧ (getThread s e t).txf
      ≠ []) ∧
    (∃ (s : State) (e : Fin 4) (t : Fin 16) (w : Nat), threadWord s e t = w ∧ maySlot s e t .blocked = true ∧ opOf w = 6 ∧ (getThread s e t).txf
      = [] ∧ operand w 7 1 = 0) ∧
    (∃ (s : State) (e : Fin 4) (t : Fin 16), (getThread s e t).rxf.length < 4 ∧ e.val < s.tge.engines.length ∧ t.val < (getEngine s
      e).threads.length) :=
  ⟨⟨{ State.reset with tge := { engines := engines { st := .run }, code := [(0, 0x1000)] } }, 0, 0, 0x1000, by decide⟩,
    ⟨{ State.reset with regs := [(A.TGE_GRP_CODE 0 0, 0x01FF0000)] }, 0, 0, 63, by decide⟩,
    ⟨{ State.reset with tge := { engines := engines { st := .run }, code := [(0, 0x2080)], flags := 1 } }, 0, 0, 0x2080, by decide⟩,
    ⟨{ State.reset with tge := { engines := engines { st := .run }, code := [(0, 0x2080)] } }, 0, 0, 0x2080, by decide⟩,
    ⟨{ State.reset with tge := { engines := engines { st := .wait }, code := [(0, 0x2080)], flags := 1 } }, 0, 0, 0x2080, by decide⟩,
    ⟨{ State.reset with tge := { engines := engines { st := .wait }, code := [(0, 0x2080)] } }, 0, 0, 0x2080, by decide⟩,
    ⟨{ State.reset with tge := { engines := engines { st := .run, rxf := [1, 2, 3] }, code := [(0, 0x5000)] } }, 0, 0, 0x5000, by decide⟩,
    ⟨{ State.reset with tge := { engines := engines { st := .run, rxf := [1, 2, 3, 4] }, code := [(0, 0x5000)] } }, 0, 0, 0x5000, by decide⟩,
    ⟨{ State.reset with tge := { engines := engines { st := .run, txf := [9] }, code := [(0, 0x6000)] } }, 0, 0, 0x6000, 9, [], by decide⟩,
    ⟨{ State.reset with tge := { engines := engines { st := .run }, code := [(0, 0x6000)] } }, 0, 0, 0x6000, by decide⟩,
    ⟨{ State.reset with tge := { engines := engines { st := .blocked, rxf := [1, 2, 3] }, code := [(0, 0x5000)] } }, 0, 0, 0x5000, by decide⟩,
    ⟨{ State.reset with tge := { engines := engines { st := .blocked, rxf := [1, 2, 3, 4] }, code := [(0, 0x5000)] } }, 0, 0, 0x5000, by decide⟩,
    ⟨{ State.reset with tge := { engines := engines { st := .blocked, txf := [9] }, code := [(0, 0x6000)] } }, 0, 0, 0x6000, by decide⟩,
    ⟨{ State.reset with tge := { engines := engines { st := .blocked }, code := [(0, 0x6000)] } }, 0, 0, 0x6000, by decide⟩,
    ⟨State.reset, 0, 0, by decide⟩⟩

theorem test_witness_FlagsAndIrqs :
    (∃ (s : State) (e : Fin 4) (t : Fin 16) (w : Nat), threadWord s e t = w ∧ maySlot s e t .run = true ∧ legalWord (jumpRich s e) w = true ∧
      opOf w = 9 ∧ operand w 7 2 = 1) ∧
    (∃ (s : State) (e : Fin 4) (t : Fin 16) (w : Nat), threadWord s e t = w ∧ maySlot s e t .run = true ∧ legalWord (jumpRich s e) w = true ∧
      opOf w = 9 ∧ operand w 7 2 = 2) ∧
    (∃ (s : State) (e : Fin 4) (t : Fin 16) (w : Nat), threadWord s e t = w ∧ maySlot s e t .run = true ∧ legalWord (jumpRich s e) w = true ∧
      opOf w = 9 ∧ operand w 7 2 = 3) ∧
    (∃ (s : State) (e : Fin 4) (t : Fin 16) (w : Nat), threadWord s e t = w ∧ maySlot s e t .run = true ∧ legalWord (jumpRich s e) w = true ∧
      opOf w = 10 ∧ operand w 7 2 = 0) ∧
    (∃ (s : State) (e : Fin 4) (t : Fin 16) (w : Nat), threadWord s e t = w ∧ maySlot s e t .run = true ∧ legalWord (jumpRich s e) w = true ∧
      opOf w = 10 ∧ operand w 7 2 = 1) ∧
    (∃ (s : State) (e : Fin 4) (t : Fin 16) (w : Nat), threadWord s e t = w ∧ maySlot s e t .run = true ∧ legalWord (jumpRich s e) w = true ∧
      opOf w = 10 ∧ operand w 7 2 = 2) ∧
    (∃ (s : State) (e : Fin 4) (t : Fin 16) (w : Nat), threadWord s e t = w ∧ maySlot s e t .run = true ∧ legalWord (jumpRich s e) w = true ∧
      opOf w = 10 ∧ operand w 7 2 = 3) ∧
    (∃ (s : State) (who : Initiator), busOpen s who = true) :=
  ⟨⟨{ State.reset with tge := { engines := engines { st := .run }, code := [(0, 0x9080)] } }, 0, 0, 0x9080, by decide⟩,
    ⟨{ State.reset with tge := { engines := engines { st := .run }, code := [(0, 0x9100)] } }, 0, 0, 0x9100, by decide⟩,
    ⟨{ State.reset with tge := { engines := engines { st := .run }, code := [(0, 0x9180)] } }, 0, 0, 0x9180, by decide⟩,
    ⟨{ State.reset with tge := { engines := engines { st := .run }, code := [(0, 0xA000)] } }, 0, 0, 0xA000, by decide⟩,
    ⟨{ State.reset with tge := { engines := engines { st := .run }, code := [(0, 0xA080)] } }, 0, 0, 0xA080, by decide⟩,
    ⟨{ State.reset with tge := { engines := engines { st := .run }, code := [(0, 0xA100)] } }, 0, 0, 0xA100, by decide⟩,
    ⟨{ State.reset with tge := { engines := engines { st := .run }, code := [(0, 0xA180)] } }, 0, 0, 0xA180, by decide⟩,
    ⟨{ State.reset with head := { st := .running } }, .core, by decide⟩⟩

theorem test_witness_InjectionStallAndFifos :
    (∃ (s : State) (who : Initiator) (e : Fin 4) (v : Word), busOpen s who = true ∧ legalWord (jumpRich s e) (v.toNat % 65536) = true ∧
      (getThread s e (v.toNat / 65536 % 16)).st ≠ .off ∧ (getThread s e (v.toNat / 65536 % 16)).st ≠ .halted ∧ (getEngine s e).inj = none) ∧
    (∃ (s : State) (who : Initiator) (e : Fin 4) (v : Word), busOpen s who = true ∧ legalWord (jumpRich s e) (v.toNat % 65536) = false) ∧
    (∃ (s : State) (e : Fin 4) (t : Nat) (w : BitVec 16), (getEngine s e).inj = some (t, w) ∧ slotOpen s t = true ∧ opOf w.toNat = 0) ∧
    (∃ (s : State) (e : Fin 4), (getEngine s e).inj = none) ∧
    (∃ (s : State) (e : Fin 4) (t : Nat) (w : BitVec 16), (getEngine s e).inj = some (t, w) ∧ slotOpen s t = false) ∧
    (∃ (s : State) (e : Fin 4) (t : Nat), (getEngine s e).stallFrom = some t ∧ (getEngine s e).stalled = false ∧ t + 512 ≤ s.now) ∧
    (∃ (s : State) (e : Fin 4) (t : Nat), (getEngine s e).stallFrom = some t ∧ s.now < t + 512) ∧
    (∃ (s : State) (who : Initiator) (e : Fin 4) (t : Fin 16), busOpen s who = true ∧ (getThread s e t).txf.length < 4) ∧
    (∃ (s : State) (who : Initiator) (e : Fin 4) (t : Fin 16), busOpen s who = true ∧ 4 ≤ (getThread s e t).txf.length) ∧
    (∃ (s : State) (who : Initiator), busOpen s who = true) :=
  ⟨⟨{ State.reset with head := { st := .running }, tge := { engines := engines { st := .wait } } }, .core, 0, 0, by decide⟩,
    ⟨{ State.reset with head := { st := .running } }, .core, 0, 0xF000, by decide⟩,
    ⟨{ State.reset with tge := { engines := [{ inj := some (0, 0) }, {}, {}, {}] } }, 0, 0, 0, by decide⟩,
    ⟨State.reset, 0, by decide⟩,
    ⟨{ State.reset with tge := { engines := [{ inj := some (2, 0) }, {}, {}, {}] } }, 0, 2, 0, by decide⟩,
    ⟨{ State.reset with tge := { engines := [{ stallFrom := some 0 }, {}, {}, {}] }, tmb := { tb := 512 } }, 0, 0, by decide⟩,
    ⟨{ State.reset with tge := { engines := [{ stallFrom := some 0 }, {}, {}, {}] }, tmb := { tb := 511 } }, 0, 0, by decide⟩,
    ⟨{ State.reset with head := { st := .running } }, .core, 0, 0, by decide⟩,
    ⟨{ State.reset with head := { st := .running }, tge := { engines := engines { txf := [1, 2, 3, 4] } } }, .core, 0, 0, by decide⟩,
    ⟨{ State.reset with head := { st := .running } }, .core, by decide⟩⟩

theorem test_witness_TrackerSlices :
    (∃ (s : State), s.now < s.trc.stepTb + 25) ∧
    (∃ (s : State), s.trc.injStep = none) ∧
    (∃ (s : State) (a : Nat) (b : Nat) (sp : Nat), s.trc.run = true ∧ s.trc.rotTb + 25000000 ≤ s.now ∧ s.trc.spare = some sp ∧
      (s.trc.slices.getD sp {}).st = .ready ∧ s.trc.handover = none ∧ s.trc.positions = [some a, some b, none, none] ∧ (s.trc.slices.getD b
      {}).calTb < (s.trc.slices.getD a {}).calTb) ∧
    (∃ (s : State), s.trc.run = true ∧ s.trc.rotTb + 25000000 ≤ s.now ∧ s.trc.spare = none) ∧
    (∃ (s : State), s.now < s.trc.rotTb + 25000000) ∧
    (∃ (s : State) (n : Fin 5) (offset : Int) (gain : Int), (s.trc.slices.getD n
      {}).st = .calibrating ∧ s.trc.run = true ∧ (s.trc.slices.getD n
      {}).startTb + 500000 ≤ s.now ∧ offset.natAbs ≤ 8 ∧ gain.natAbs ≤ 1000 ∧ s.trc.refActive = 0) ∧
    (∃ (s : State) (n : Fin 5) (offset : Int) (gain : Int), (s.trc.slices.getD n
      {}).st = .calibrating ∧ s.trc.run = true ∧ (s.trc.slices.getD n
      {}).startTb + 500000 ≤ s.now ∧ (8 < offset.natAbs ∨ 1000 < gain.natAbs) ∧ s.trc.refActive = 0) ∧
    (∃ (s : State) (t : Nat), s.trc.settling = some t ∧ t + 500000 ≤ s.now) ∧
    (∃ (s : State) (t : Nat), s.trc.settling = some t ∧ s.now < t + 500000) ∧
    (∃ (s : State), s.trc.run = true ∧ s.trc.starved = false ∧ s.trc.passTb + 2500000 ≤ s.now) :=
  ⟨⟨{ State.reset with tmb := { tb := 24 } }, by decide⟩,
    ⟨{ State.reset with trc := { injStep := none } }, by decide⟩,
    ⟨{ State.reset with trc := { run := true, handover := none, positions := [some 0, some 1, none, none], slices := [{ st := .active, calTb := 1 }, { st := .active }, {}, {}, { st := .ready }] }, tmb := { tb := 25000000 } },
      0, 1, 4, by decide⟩,
    ⟨{ State.reset with trc := { run := true, spare := none }, tmb := { tb := 25000000 } }, by decide⟩,
    ⟨State.reset, by decide⟩,
    ⟨{ State.reset with trc := { run := true, refActive := 0, slices := [{ st := .calibrating }] }, tmb := { tb := 500000 } }, 0, 8, -1000, by
      decide⟩,
    ⟨{ State.reset with trc := { run := true, refActive := 0, slices := [{ st := .calibrating }] }, tmb := { tb := 500000 } }, 0, 9, 0, by
      decide⟩,
    ⟨{ State.reset with trc := { settling := some 0 }, tmb := { tb := 500000 } }, 0, by decide⟩,
    ⟨{ State.reset with trc := { settling := some 0 }, tmb := { tb := 499999 } }, 0, by decide⟩,
    ⟨{ State.reset with trc := { run := true, starved := false }, tmb := { tb := 2500000 } }, by decide⟩⟩

theorem test_witness_TriggersAndWindows :
    (∃ (s : State) (t : InjTrigger), triggerOpen s t = false) ∧
    (∃ (s : State) (t : InjTrigger) (k : Nat) (x : InjTrigger × Nat), triggerOpen s t = true ∧ t ≠ .energy ∧ s.trc.run = true ∧ s.trc.injStep =
      some k ∧ s.trc.injTrig = some x ∧ x.2 ≠ s.now ∧ s.trc.pending = none ∧ s.trc.stepTb < s.now ∧ s.now < s.trc.stepTb + 25) ∧
    (∃ (s : State) (t : InjTrigger) (k : Nat) (x : InjTrigger × Nat), triggerOpen s t = true ∧ t ≠ .energy ∧ s.trc.run = true ∧ s.trc.injStep =
      some k ∧ s.trc.injTrig = some x ∧ x.2 = s.now) ∧
    (∃ (s : State) (t : Nat), s.trc.energyDrop = some t ∧ t + 250 ≤ s.now) ∧
    (∃ (s : State) (a : Fin 256), a.val < 244 ∧ (getAcc s a).openW = true ∧ getF s (R.TRC_ACC_CFG_MODE a) = 0 ∧ (getAcc s a).firstTb + (getF s
      (R.TRC_ACC_LEN a) + 1) * 250 ≤ s.now) ∧
    (∃ (s : State) (a : Fin 256), (getAcc s a).openW = false) ∧
    (∃ (s : State) (sid : Nat) (b : TrackBuf), (getStream s sid).track = some b ∧ b.firstTb + 250000 ≤ s.now) ∧
    (∃ (s : State) (sid : Nat), (getStream s sid).track = none) ∧
    (∃ (s : State) (who : Initiator) (v : Word), busOpen s who = true ∧ trcRangeOk s A.TRC_CTRL v = true) :=
  ⟨⟨State.reset, .timer, by decide⟩,
    ⟨{ State.reset with trc := { run := true, pending := none, injStep := some 0, injTrig := some (.powerFail, 1) }, tmb := { tb := 5 }, pwr := { pf := .emergency } },
      .powerFail, 0, (.powerFail, 1), by decide⟩,
    ⟨{ State.reset with trc := { run := true, injStep := some 0, injTrig := some (.powerFail, 0) }, pwr := { pf := .emergency } }, .powerFail,
      0, (.powerFail, 0), by decide⟩,
    ⟨{ State.reset with trc := { energyDrop := some 0 }, tmb := { tb := 250 } }, 0, by decide⟩,
    ⟨{ State.reset with trc := { accs := [(243, { openW := true })] }, tmb := { tb := 250 } }, 243, by decide⟩,
    ⟨State.reset, 0, by decide⟩,
    ⟨{ State.reset with lnk := { streams := [(0, { track := some ⟨[], 0, 0⟩ })] }, tmb := { tb := 250000 } }, 0, ⟨[], 0, 0⟩, by decide⟩,
    ⟨State.reset, 0, by decide⟩,
    ⟨{ State.reset with head := { st := .running } }, .core, 0, by decide⟩⟩

theorem test_witness_SessionRegisterOperations :
    (∃ (s : State) (n : Fin 4) (a : Nat) (c : Nat), (getSession s n).opened = true ∧ served s 4 = true ∧ (getSession s n).busy = none ∧ 1 ≤ c ∧
      c ≤ 4 ∧ 40 + 4 * c ≤ (getSession s n).mtu - (getSession s n).overhead ∧ badAddress (addresses false a c) = none) ∧
    (∃ (s : State) (n : Fin 4), (getSession s n).opened = true ∧ served s 4 = true ∧ (getSession s n).busy = none) ∧
    (∃ (s : State) (n : Fin 4) (fixed : Bool) (a : Nat) (c : Nat), (getSession s n).opened = true ∧ served s 4 = true ∧ (getSession s n).busy =
      none ∧ 1 ≤ c ∧ c ≤ 1024 ∧ 40 + 4 * c ≤ (getSession s n).mtu - (getSession s n).overhead ∧ badAddress (addresses fixed a c) = none) ∧
    (∃ (s : State) (n : Fin 4) (a : Nat), (getSession s n).opened = true ∧ served s 4 = true ∧ (getSession s n).busy = none ∧ wordDefined a =
      true ∧ a / 0x10000 ≠ 0xE ∧ accessRefused s a = false) ∧
    (∃ (s : State) (n : Fin 4) (a : Nat), (getSession s n).opened = true ∧ served s 4 = true ∧ (getSession s n).busy = none ∧ wordDefined a =
      false) ∧
    (∃ (s : State) (n : Fin 4) (a : Nat), (getSession s n).opened = true ∧ served s 4 = true ∧ (getSession s n).busy = none ∧ wordDefined a =
      true ∧ a / 0x10000 = 0xE) ∧
    (∃ (s : State) (n : Fin 4) (a : Nat), (getSession s n).opened = true ∧ served s 4 = true ∧ (getSession s n).busy = none ∧ wordDefined a =
      true ∧ a / 0x10000 ≠ 0xE ∧ accessRefused s a = true) ∧
    (∃ (s : State) (n : Fin 4) (a : Nat) (mask : Word) (v : Word), (getSession s n).opened = true ∧ served s 4 = true ∧ (getSession s n).busy =
      none ∧ wordDefined a = true ∧ v &&& ~~~mask = 0 ∧ a / 0x10000 ≠ 0xE ∧ ((fieldsAt a).any fun d => d.acc == .rc) = false ∧ accessRefused
      s a = false) ∧
    (∃ (s : State) (n : Fin 4) (fixed : Bool) (a : Nat) (l : List Word), (getSession s n).opened = true ∧ served s 4 = true ∧ (getSession s
      n).busy = none ∧ 1 ≤ l.length ∧ l.length ≤ 1024 ∧ badAddress (addresses fixed a l.length) = none) :=
  ⟨⟨{ State.reset with lcp := { sessions := oneSession }, head := { st := .running, fwReady := true } }, 0, 0, 4, by decide⟩,
    ⟨{ State.reset with lcp := { sessions := oneSession }, head := { st := .running, fwReady := true } }, 0, by decide⟩,
    ⟨{ State.reset with lcp := { sessions := [{ opened := true, mtu := 9000 }, {}, {}, {}] }, head := { st := .running, fwReady := true } }, 0,
      true, A.GLB_SCRATCH 0, 1024, by decide⟩,
    ⟨{ State.reset with lcp := { sessions := oneSession }, head := { st := .running, fwReady := true } }, 0, A.GLB_SCRATCH 0, by decide⟩,
    ⟨{ State.reset with lcp := { sessions := oneSession }, head := { st := .running, fwReady := true } }, 0, 2, by decide⟩,
    ⟨{ State.reset with lcp := { sessions := oneSession }, head := { st := .running, fwReady := true } }, 0, A.FUS_CTRL, by decide⟩,
    ⟨{ State.reset with lcp := { sessions := oneSession }, head := { st := .running, fwReady := true } }, 0, 0, by decide⟩,
    ⟨{ State.reset with lcp := { sessions := oneSession }, head := { st := .running, fwReady := true } }, 0, A.GLB_SCRATCH 0, 1, 1, by decide⟩,
    ⟨{ State.reset with lcp := { sessions := oneSession }, head := { st := .running, fwReady := true } }, 0, false, 0, [0], by decide⟩⟩

theorem test_witness_SessionsOpenAndEnd :
    (∃ (s : State) (port : Fin 5) (key : List Byte) (mtu : Nat) (flags : Nat) (sev : Nat) (serial : BitVec 64), served s port = true ∧ initFault
      s key true mtu flags sev serial = none ∧ s.head.coreRestart = false ∧ (getSession s 0).opened = false ∧ s.lcp.sessions.length = 4) ∧
    (∃ (s : State) (port : Fin 5) (sig : Bool) (key : List Byte) (mtu : Nat) (flags : Nat) (sev : Nat) (c : Nat) (serial : BitVec 64), served s
      port = true ∧ initFault s key sig mtu flags sev serial = some c) ∧
    (∃ (s : State) (port : Fin 5) (key : List Byte) (mtu : Nat) (flags : Nat) (sev : Nat) (serial : BitVec 64), served s port = true ∧ initFault
      s key true mtu flags sev serial = none ∧ ((∀ n, n < 4 → (getSession s n).opened = true))) ∧
    (∃ (s : State) (n : Fin 4) (port : Fin 5) (req : BitVec 64), served s port = true ∧ (getSession s n).opened = true ∧ (getSession s n).busy =
      none ∧ (getSession s n).lastReq < req) ∧
    (∃ (s : State) (port : Fin 5), served s port = true) ∧
    (∃ (s : State) (n : Fin 4), (getSession s n).opened = true ∧ (getSession s n).lastTb + getF s R.CFG_LCP_TIMEOUT_TIMEOUT * second ≤ s.now) ∧
    (∃ (s : State) (n : Fin 4), (getSession s n).opened = true ∧ s.now < (getSession s n).lastTb + getF s R.CFG_LCP_TIMEOUT_TIMEOUT * second) ∧
    (∃ (s : State) (n : Fin 4), (getSession s n).opened = true ∧ (getSession s n).evq ≠ [] ∧ (getSession s n).evqTb + 2500000 ≤ s.now ∧
      eventsRun s = true) :=
  ⟨⟨{ State.reset with head := { st := .running, fwReady := true, coreRestart := false }, fus := stewardFuses }, 4, [], 1280, 0, 0, 0, by
      decide +kernel⟩,
    ⟨{ State.reset with head := { st := .running, fwReady := true } }, 4, false, [], 0, 0, 0, 0, 0, by decide⟩,
    ⟨{ State.reset with head := { st := .running, fwReady := true }, fus := stewardFuses, lcp := { sessions := List.replicate 4 { opened := true } } },
      4, [], 9000, 0, 0, 0, by decide +kernel⟩,
    ⟨{ State.reset with head := { st := .running, fwReady := true, applied := true }, lcp := { sessions := oneSession } }, 0, 0, 1, by decide⟩,
    ⟨{ State.reset with head := { st := .running, fwReady := true } }, 4, by decide⟩,
    ⟨{ State.reset with lcp := { sessions := oneSession }, tmb := { tb := 15000000000 }, regs := [(A.CFG_LCP_TIMEOUT, 60)] }, 0, by decide⟩,
    ⟨{ State.reset with lcp := { sessions := oneSession }, tmb := { tb := 14999999999 }, regs := [(A.CFG_LCP_TIMEOUT, 60)] }, 0, by decide⟩,
    ⟨{ State.reset with lcp := { sessions := [{ opened := true, evq := [entry] }, {}, {}, {}] }, head := { st := .running, fwReady := true }, tmb := { tb := 2500000 } },
      0, by decide⟩⟩

theorem test_witness_ImageWritesAndFlash :
    (∃ (s : State) (n : Fin 4) (t : WriteTarget) (total : Nat), (getSession s n).opened = true ∧ served s 4 = true ∧ (getSession s n).busy =
      none ∧ s.head.coreRestart = false ∧ getWrite s (targetCtl t) = none ∧ s.cfg.reading = none ∧ s.cfg.keyUsable = true ∧ totalOk t total
      = true) ∧
    (∃ (s : State) (n : Fin 4) (t : WriteTarget), (getSession s n).opened = true ∧ served s 4 = true ∧ (getSession s n).busy = none ∧
      s.head.coreRestart = false ∧ getWrite s (targetCtl t) ≠ none) ∧
    (∃ (s : State) (n : Fin 4) (t : WriteTarget) (ofs : Nat) (data : List Byte) (w : ImageWrite), (getSession s n).opened = true ∧ served s 4 =
      true ∧ (getSession s n).busy = none ∧ s.head.coreRestart = false ∧ getWrite s (targetCtl t) = some w ∧ w.asker = none ∧ ofs +
      data.length ≤ w.total) ∧
    (∃ (s : State) (n : Fin 4) (t : WriteTarget) (ofs : Nat) (data : List Byte) (w : ImageWrite), (getSession s n).opened = true ∧ served s 4 =
      true ∧ (getSession s n).busy = none ∧ s.head.coreRestart = false ∧ getWrite s (targetCtl t) = some w ∧ w.asker = none ∧ w.total < ofs
      + data.length) ∧
    (∃ (s : State) (n : Fin 4) (t : WriteTarget) (w : ImageWrite), (getSession s n).opened = true ∧ served s 4 = true ∧ (getSession s n).busy =
      none ∧ s.head.coreRestart = false ∧ getWrite s (targetCtl t) = some w ∧ w.asker = none) ∧
    (∃ (s : State) (n : Fin 4) (t : WriteTarget) (w : ImageWrite), (getSession s n).opened = true ∧ served s 4 = true ∧ (getSession s n).busy =
      none ∧ s.head.coreRestart = false ∧ getWrite s (targetCtl t) = some w ∧ w.asker = none) ∧
    (∃ (s : State), storeRuns s .keyFlash = true) ∧
    (∃ (s : State), (∀ r ∈ s.pwr.running, norUser r.user = false)) ∧
    (∃ (s : State), s.trc.settling = none) ∧
    (∃ (s : State), s.trc.settling ≠ none) :=
  ⟨⟨{ State.reset with lcp := { sessions := [{ opened := true }, {}, {}, {}] }, head := { st := .running, fwReady := true, coreRestart := false }, cfg := { reading := none, keyUsable := true } },
      0, .key, 368, by decide⟩,
    ⟨{ State.reset with lcp := { sessions := [{ opened := true }, {}, {}, {}] }, head := { st := .running, fwReady := true, coreRestart := false }, cfg := { writes := [none, some { target := .key, slot := 0, total := 368 }] } },
      0, .key, by decide⟩,
    ⟨{ State.reset with lcp := { sessions := [{ opened := true }, {}, {}, {}] }, head := { st := .running, fwReady := true, coreRestart := false }, cfg := { writes := [none, some { target := .key, slot := 0, total := 368 }] } },
      0, .key, 367, [0], { target := .key, slot := 0, total := 368 }, by decide⟩,
    ⟨{ State.reset with lcp := { sessions := [{ opened := true }, {}, {}, {}] }, head := { st := .running, fwReady := true, coreRestart := false }, cfg := { writes := [none, some { target := .key, slot := 0, total := 368 }] } },
      0, .key, 368, [0], { target := .key, slot := 0, total := 368 }, by decide⟩,
    ⟨{ State.reset with lcp := { sessions := [{ opened := true }, {}, {}, {}] }, head := { st := .running, fwReady := true, coreRestart := false }, cfg := { writes := [none, some { target := .key, slot := 0, total := 368 }] } },
      0, .key, { target := .key, slot := 0, total := 368 }, by decide⟩,
    ⟨{ State.reset with lcp := { sessions := [{ opened := true }, {}, {}, {}] }, head := { st := .running, fwReady := true, coreRestart := false }, cfg := { writes := [none, some { target := .key, slot := 0, total := 368 }] } },
      0, .key, { target := .key, slot := 0, total := 368 }, by decide⟩,
    ⟨{ State.reset with pwr := { running := [⟨.norProgram, .keyFlash⟩] } }, by decide⟩,
    ⟨State.reset, by decide⟩,
    ⟨{ State.reset with trc := { settling := none } }, by decide⟩,
    ⟨{ State.reset with trc := { settling := some 0 } }, by decide⟩⟩

theorem test_witness_ChangeSet :
    (∃ (s : State) (n : Fin 4) (f : Nat) (fns : List Nat), (getSession s n).opened = true ∧ changeBarred (touchChange n s) = none ∧ (touchChange
      n s).chg.st = .idle ∧ (touchChange n s).rru.f + 2 ≤ f ∧ f ≤ (touchChange n s).rru.f + 65536 ∧ fns ≠ [] ∧ fns.length ≤ 64 ∧
      fns.contains 0x4000 = false ∧ stopFault (touchChange n s) fns = none) ∧
    (∃ (s : State) (n : Fin 4) (f : Nat), (getSession s n).opened = true ∧ changeBarred (touchChange n s) = none ∧ (touchChange n s).chg.st =
      .idle ∧ f < (touchChange n s).rru.f + 2) ∧
    (∃ (s : State) (n : Fin 4) (a : Answer), (getSession s n).opened = true ∧ changeBarred (touchChange n s) = some a) ∧
    (∃ (s : State), s.head.coreRestart = false ∧ s.head.st = .hold) ∧
    (∃ (s : State) (n : Fin 4), (getSession s n).opened = true ∧ changeBarred (touchChange n s) = none ∧ (touchChange n s).chg.st = .idle ∧
      (getLease s 7).former = none) ∧
    (∃ (s : State) (n : Fin 4) (items : List ChgItem), (getSession s n).opened = true ∧ changeBarred (touchChange n s) = none ∧ (touchChange n
      s).chg.st = .stopped ∧ (touchChange n s).chg.mosaic = false ∧ (touchChange n s).chg.session = n ∧ stageFault (touchChange n s) items =
      none ∧ (touchChange n s).chg.used + (items.map itemCost).sum ≤ 4194304) ∧
    (∃ (s : State) (n : Fin 4) (f : Nat), (getSession s n).opened = true ∧ changeBarred (touchChange n s) = none ∧ (touchChange n s).chg.st =
      .stopped ∧ (touchChange n s).chg.session = n ∧ (getLease (touchChange n s) 7).former = none ∧ f < (touchChange n s).chg.stopF + 1) ∧
    (∃ (s : State) (n : Fin 4) (f : Nat), (getSession s n).opened = true ∧ changeBarred (touchChange n s) = none ∧ (touchChange n s).chg.st =
      .stopped ∧ (touchChange n s).chg.session = n ∧ (getLease (touchChange n s) 7).former = none ∧ (touchChange n s).chg.stopF + 1 ≤ f) ∧
    (∃ (s : State) (n : Fin 4) (f : Nat), (getSession s n).opened = true ∧ changeBarred (touchChange n s) = none ∧ (touchChange n s).chg.st =
      .stopped ∧ (touchChange n s).chg.session = n ∧ (getLease (touchChange n s) 7).former = none ∧ (touchChange n s).chg.stopF + 1 ≤ f ∧
      inChg (touchChange n s) 4 0 = false ∧ chgCheck (touchChange n s) (chgScratch (touchChange n s) (chgItems (touchChange n s))) [] =
      none) ∧
    (∃ (s : State), s.chg.st = .armed) ∧
    (∃ (s : State), s.chg.st = .stopped ∧ s.chg.mosaic = false ∧ (getLease s 7).expires ≤ s.now) ∧
    (∃ (s : State), s.chg.st = .idle) :=
  ⟨⟨{ State.reset with lcp := { sessions := [{ opened := true }, {}, {}, {}] }, exs := { lanes := [{ st := .running }, {}, {}, {}] } }, 0,
      65536, [0], by decide⟩,
    ⟨{ State.reset with lcp := { sessions := [{ opened := true }, {}, {}, {}] } }, 0, 1, by decide⟩,
    ⟨{ State.reset with lcp := { sessions := oneSession }, head := { st := .hold } }, 0, ⟨0xE, 0, []⟩, by decide⟩,
    ⟨{ State.reset with head := { coreRestart := false, st := .hold } }, by decide⟩,
    ⟨{ State.reset with lcp := { sessions := [{ opened := true }, {}, {}, {}] } }, 0, by decide⟩,
    ⟨{ State.reset with lcp := { sessions := oneSession }, chg := { st := .stopped } }, 0, [], by decide⟩,
    ⟨{ State.reset with lcp := { sessions := oneSession }, chg := { st := .stopped, stopF := 2 } }, 0, 2, by decide⟩,
    ⟨{ State.reset with lcp := { sessions := oneSession }, chg := { st := .stopped, stopF := 2 } }, 0, 3, by decide⟩,
    ⟨{ State.reset with lcp := { sessions := oneSession }, chg := { st := .stopped, stopF := 2 } }, 0, 3, by decide⟩,
    ⟨{ State.reset with chg := { st := .armed } }, by decide⟩,
    ⟨{ State.reset with chg := { st := .stopped, mosaic := false } }, by decide⟩,
    ⟨{ State.reset with chg := { st := .idle } }, by decide⟩⟩

theorem test_witness_SleepAndWake :
    (∃ (s : State) (n : Fin 4), (getSession s n).opened = true ∧ served s 4 = true ∧ (getSession s n).busy = none ∧ s.head.coreRestart = false ∧
      ((s.head.st = .running ∨ s.head.st = .unconfigured)) ∧ s.pwr.sleeping = false) ∧
    (∃ (s : State) (n : Fin 4), (getSession s n).opened = true ∧ served s 4 = true ∧ (getSession s n).busy = none ∧ s.head.coreRestart = false ∧
      s.head.st = .hold) ∧
    (∃ (s : State), s.pwr.sleeping = true ∧ s.sup.dieDown = false ∧ s.pwr.pf = .normal ∧ s.pwr.running = [] ∧ s.pwr.checking = []) ∧
    (∃ (s : State), s.pwr.sleeping = false) ∧
    (∃ (s : State), asleep s = true ∧ s.pwr.pf = .normal ∧ s.pwr.aon = true) ∧
    (∃ (s : State) (serial : BitVec 64), serial ≠ serialNo s) ∧
    (∃ (s : State), asleep s = false) ∧
    (∃ (s : State), asleep s = true ∧ s.pwr.pf = .normal ∧ s.pwr.aon = true ∧ s.sup.wdgRun = true) :=
  ⟨⟨{ State.reset with lcp := { sessions := [{ opened := true }, {}, {}, {}] }, head := { st := .running, fwReady := true, coreRestart := false }, pwr := { sleeping := false } },
      0, by decide⟩,
    ⟨{ State.reset with lcp := { sessions := [{ opened := true }, {}, {}, {}] }, head := { st := .hold, fwReady := true, coreRestart := false } },
      0, by decide⟩,
    ⟨{ State.reset with pwr := { sleeping := true, pf := .normal, running := [], checking := [] }, sup := { dieDown := false } }, by decide⟩,
    ⟨{ State.reset with pwr := { sleeping := false } }, by decide⟩,
    ⟨{ State.reset with head := { st := .sleep }, pwr := { pf := .normal, aon := true } }, by decide⟩,
    ⟨State.reset, 1, by decide⟩,
    ⟨State.reset, by decide⟩,
    ⟨{ State.reset with head := { st := .sleep }, pwr := { pf := .normal, aon := true }, sup := { wdgRun := true } }, by decide⟩⟩

theorem test_witness_FromMainsToTheImage :
    (∃ (s : State), s.head.st = .off ∧ s.pwr.aon = false) ∧
    (∃ (s : State), s.head.st ≠ .off) ∧
    (∃ (s : State) (okA : Bool) (okB : Bool), s.head.fwReady = false ∧ s.head.coreRestart = false ∧ s.sup.dieDown = false ∧ s.sup.coreDown =
      false ∧ s.rru.sysPll = .locked ∧ s.head.st = .boot ∧ s.pwr.pf = .normal ∧ s.fus.sensed = true ∧ (bootOrder s).find? (fun k => (if k =
      0 then okA else okB) && !unitFails s 3) = none) ∧
    (∃ (s : State), (s.head.fwReady = true ∨ s.rru.sysPll ≠ .locked)) ∧
    (∃ (s : State) (okA : Bool) (okB : Bool) (slot : Nat), s.head.fwReady = false ∧ s.head.coreRestart = false ∧ s.sup.dieDown = false ∧
      s.sup.coreDown = false ∧ s.rru.sysPll = .locked ∧ s.head.st = .boot ∧ s.pwr.pf = .normal ∧ s.fus.sensed = true ∧ s.head.cause = .mains
      ∧ (bootOrder s).find? (fun k => (if k = 0 then okA else okB) && !unitFails s 3) = some slot ∧ (bootOrder s).getD 0 slot = slot) ∧
    (∃ (s : State), s.cfg.keyInSlot = false ∧ s.head.fwReady = false) ∧
    (∃ (s : State), s.cfg.keyInSlot = false ∧ s.head.fwReady = true ∧ s.head.coreRestart = false ∧ s.head.st = .running) ∧
    (∃ (s : State), s.cfg.keyInSlot = true ∧ s.head.fwReady = false) ∧
    (∃ (s : State), s.cfg.keyInSlot = true ∧ s.head.fwReady = true ∧ s.head.st = .running ∧ s.cfg.reading = none) ∧
    (∃ (s : State), s.cfg.keyInSlot = false) ∧
    (∃ (s : State) (slot : Nat), s.cfg.reading = some slot ∧ s.head.fwReady = true ∧ s.head.coreRestart = false ∧ s.sup.dieDown = false ∧
      s.pwr.pf = .normal) ∧
    (∃ (s : State) (slot : Nat) (e : DirEntry) (f : ImgFault) (sig : Bool), s.cfg.reading = some slot ∧ s.head.fwReady = true ∧
      s.head.coreRestart = false ∧ s.sup.dieDown = false ∧ s.pwr.pf = .normal ∧ newestOfSlot s 1 slot = some e ∧ checkImage s (slotImage s 1
      slot (max 256 e.length)) e.length sig = .error f) ∧
    (∃ (s : State) (slot : Nat) (e : DirEntry) (l : List Record) (sig : Bool), s.cfg.reading = some slot ∧ s.head.fwReady = true ∧
      s.head.coreRestart = false ∧ s.sup.dieDown = false ∧ s.pwr.pf = .normal ∧ newestOfSlot s 1 slot = some e ∧ checkImage s (slotImage s 1
      slot (max 256 e.length)) e.length sig = .ok l) ∧
    (∃ (s : State), s.cfg.reading = none) :=
  ⟨⟨State.reset, by decide⟩,
    ⟨{ State.reset with head := { st := .running } }, by decide⟩,
    ⟨{ State.reset with head := { fwReady := false, coreRestart := false, st := .boot }, sup := { dieDown := false, coreDown := false }, rru := { sysPll := .locked }, pwr := { pf := .normal }, fus := { sensed := true } },
      false, false, by decide⟩,
    ⟨{ State.reset with head := { fwReady := true } }, by decide⟩,
    ⟨{ State.reset with head := { fwReady := false, coreRestart := false, st := .boot, cause := .mains }, sup := { dieDown := false, coreDown := false }, rru := { sysPll := .locked }, pwr := { pf := .normal }, fus := { sensed := true } },
      true, false, 0, by decide⟩,
    ⟨{ State.reset with cfg := { keyInSlot := false }, head := { fwReady := false } }, by decide⟩,
    ⟨{ State.reset with cfg := { keyInSlot := false }, head := { fwReady := true, coreRestart := false, st := .running } }, by decide⟩,
    ⟨{ State.reset with cfg := { keyInSlot := true }, head := { fwReady := false } }, by decide⟩,
    ⟨{ State.reset with cfg := { keyInSlot := true, reading := none }, head := { fwReady := true, st := .running } }, by decide⟩,
    ⟨{ State.reset with cfg := { keyInSlot := false } }, by decide⟩,
    ⟨{ State.reset with head := { fwReady := true, coreRestart := false }, sup := { dieDown := false }, pwr := { pf := .normal }, cfg := { reading := some 1 } },
      1, by decide⟩,
    ⟨{ State.reset with head := { fwReady := true, coreRestart := false }, sup := { dieDown := false }, pwr := { pf := .normal }, cfg := { reading := some 1, keyMem := dirCells } },
      1, ⟨0, true, 1, 1, 368, 0⟩, headerFault 2 0, false, by decide, by decide, by decide, by decide, by decide, by decide +kernel, error_of_eq (by decide +kernel)⟩,
    ⟨{ State.reset with head := { fwReady := true, coreRestart := false }, sup := { dieDown := false }, pwr := { pf := .normal }, cfg := { reading := some 1, keyMem := dirCells ++ cellsFrom 0x4010000 image }, fus := imageFuses },
      1, ⟨0, true, 1, 1, 368, 0⟩, imageList, true, by decide, by decide, by decide, by decide, by decide, by decide +kernel, ok_of_eq (by decide +kernel)⟩,
    ⟨{ State.reset with cfg := { reading := none } }, by decide⟩⟩

theorem test_witness_LinkPortsAndStreams :
    (∃ (s : State) (p : Fin 5), (s.lnk.ports.getD p {}).up = false) ∧
    (∃ (s : State) (p : Fin 5), (s.lnk.ports.getD p {}).up = true) ∧
    (∃ (s : State) (p : Fin 5), (s.lnk.ports.getD p {}).up = true) ∧
    (∃ (p : Fin 5), p.val < 4) ∧
    (∃ (s : State) (p : Fin 5) (v6 : Bool) (a : Nat), s.head.fwReady = true ∧ s.head.coreRestart = false ∧ portAddr s p v6 = a ∧ a ≠ 0) ∧
    (∃ (s : State), s.head.fwReady = true ∧ s.head.coreRestart = false) ∧
    (∃ (s : State) (p : Fin 5), portOpen s p = false) ∧
    (∃ (s : State) (p : Fin 5) (i : Nat) (d : Nat) (pkt : Packet), portOpen s p = true ∧ leaseOpen s 1 0xB = true ∧ crWaiting s p = none ∧ robin
      s p = some (i, d) ∧ sendable s p i = some (pkt, false)) ∧
    (∃ (s : State) (sid : Nat) (pkt : Packet), (streamCfg s sid).cr = true ∧ (getStream s sid).st = .running ∧ (getStream s sid).crNext ≤ s.now
      ∧ keyOk s (streamCfg s sid) = true ∧ headPacket (getStream s sid) = some (pkt, false)) ∧
    (∃ (s : State) (sid : Nat), s.now < (getStream s sid).crNext) ∧
    (∃ (s : State) (sid : Nat), (getStream s sid).st ≠ .off ∧ (getStream s sid).resolved = false ∧ (getStream s sid).resTb + second ≤ s.now ∧
      s.head.fwReady = true ∧ s.head.coreRestart = false ∧ (getStream s sid).failLogged = true) ∧
    (∃ (present : Bool) (media : Bool) (power : Bool), (present && media && power) = false) ∧
    (∃ (s : State) (p : Fin 5) (t : Nat), (s.lnk.ports.getD p {}).readyTb = some t ∧ t + 250000 ≤ s.now) ∧
    (∃ (s : State) (p : Fin 5), (s.lnk.ports.getD p {}).readyTb = none) :=
  ⟨⟨State.reset, 0, by decide⟩,
    ⟨{ State.reset with lnk := { ports := [{ up := true }] } }, 0, by decide⟩,
    ⟨{ State.reset with lnk := { ports := [{ up := true }] } }, 0, by decide⟩,
    ⟨3, by decide⟩,
    ⟨{ State.reset with head := { fwReady := true, coreRestart := false }, regs := [(A.LNK_MGMT_IP4, 0x0A000001)] }, 4, false, 0x0A000001, by
      decide⟩,
    ⟨{ State.reset with head := { fwReady := true, coreRestart := false } }, by decide⟩,
    ⟨State.reset, 0, by decide⟩,
    ⟨{ State.reset with head := { st := .running }, lnk := { State.reset.lnk with ports := [{}, {}, {}, {}, { up := true }], epochOk := true, streams := [(0, { st := .running, resolved := true, queue := [apacket], bucket := 1000000000 })] }, regs := [(0x000B1000, (R.LNK_STR_CTRL_PORT 0).put 0 4), ((R.LNK_STR_QUOTA_QUOTA 0).addr, 100)] },
      4, 0, _, apacket, by decide, by decide, by decide, rfl, by decide⟩,
    ⟨{ State.reset with lnk := { streams := [(31, { st := .running, queue := [apacket] })] }, regs := [((R.LNK_STR_CTRL_CR 31).addr, (R.LNK_STR_CTRL_CR 31).put 0 1)] },
      31, apacket, by decide⟩,
    ⟨{ State.reset with lnk := { streams := [(0, { crNext := 1 })] } }, 0, by decide⟩,
    ⟨{ State.reset with head := { fwReady := true, coreRestart := false }, lnk := { streams := [(0, { st := .running, failLogged := true })] }, tmb := { tb := 250000000 } },
      0, by decide⟩,
    ⟨false, false, false, by decide⟩,
    ⟨{ State.reset with lnk := { ports := [{ readyTb := some 0 }] }, tmb := { tb := 250000 } }, 0, 0, by decide⟩,
    ⟨State.reset, 0, by decide⟩⟩

theorem test_witness_TenantsAndRequests :
    (∃ (s : State) (who : Initiator) (v : Word), busOpen s who = true ∧ v.getLsbD 31 = true) ∧
    (∃ (s : State) (who : Initiator) (v : Word), busOpen s who = true ∧ v.getLsbD 31 = false) ∧
    (∃ (s : State), busUp s = true) ∧
    (∃ (s : State) (who : Initiator), busOpen s who = true ∧ (who = .core ∨ who = .jtag)) ∧
    (∃ (s : State) (t : Nat) (req : BitVec 64), s.head.st = .running ∧ s.pwr.pf = .normal ∧ tenantsHeard s = true ∧ t < tenantLimit s ∧ (getCtx
      s t).st ≠ .empty ∧ Tbl.get? s.ten.keys t ≠ none ∧ req.extractLsb' 40 24 = s.lnk.epoch ∧ (getCtx s t).lastReq.extractLsb' 0 40 <
      req.extractLsb' 0 40 ∧ 2500000 ≤ bucketOf s (getCtx s t) ∧ (getCtx s t).queue.length < 4) ∧
    (∃ (s : State) (t : Nat), s.head.st = .running ∧ s.pwr.pf = .normal ∧ tenantLimit s ≤ t) ∧
    (∃ (s : State) (t : Nat), s.head.st = .running ∧ s.pwr.pf = .normal ∧ tenantsHeard s = true ∧ t < tenantLimit s ∧ (getCtx s t).st ≠ .empty) ∧
    (∃ (s : State) (t : Nat) (r : TenReq) (l : List TenReq), tenantsServed s = true ∧ nextTenant s = some t ∧ (getCtx s t).queue = r :: l) ∧
    (∃ (s : State), nextTenant s = none) ∧
    (∃ (s : State) (t : Fin 4096), tenantsServed s = true ∧ (getCtx s t).st ≠ .empty ∧ s.head.st ≠ .hold) ∧
    (∃ (s : State) (t : Fin 4096), tenantsServed s = true ∧ (getCtx s t).st ≠ .empty ∧ s.head.st ≠ .hold) ∧
    (∃ (s : State) (t : Fin 4096), tenantsServed s = true ∧ (getCtx s t).st ≠ .empty ∧ s.head.st ≠ .hold) ∧
    (∃ (s : State) (t : Fin 4096), tenantsServed s = true ∧ (getCtx s t).st ≠ .empty ∧ s.head.st ≠ .hold) ∧
    (∃ (s : State) (n : Fin 4), (getSession s n).opened = true ∧ served s 4 = true ∧ (getSession s n).busy = none) :=
  ⟨⟨{ State.reset with head := { st := .running } }, .core, 0x80000000, by decide⟩,
    ⟨{ State.reset with head := { st := .running } }, .core, 0, by decide⟩,
    ⟨{ State.reset with head := { st := .running } }, by decide⟩,
    ⟨{ State.reset with head := { st := .running } }, .core, by decide⟩,
    ⟨{ State.reset with head := { st := .running, applied := true }, pwr := { pf := .normal }, ten := { ctx := [(4095, { st := .active })], keys := [(4095, ⟨0, 0, 1⟩)] } },
      4095, 1, by decide⟩,
    ⟨{ State.reset with head := { st := .running }, pwr := { pf := .normal } }, 4096, by decide⟩,
    ⟨{ State.reset with head := { st := .running, applied := true }, pwr := { pf := .normal }, ten := { ctx := [(0, { st := .active })] } }, 0,
      by decide⟩,
    ⟨{ State.reset with head := { st := .running, fwReady := true }, ten := { ctx := [(3, { queue := [⟨1, .nop⟩] })] } }, 3, ⟨1, .nop⟩, [], by
      decide⟩,
    ⟨State.reset, by decide⟩,
    ⟨{ State.reset with head := { st := .running, fwReady := true }, ten := { ctx := [(0, { st := .active })] } }, 0, by decide⟩,
    ⟨{ State.reset with head := { st := .running, fwReady := true }, ten := { ctx := [(0, { st := .active })] } }, 0, by decide⟩,
    ⟨{ State.reset with head := { st := .running, fwReady := true }, ten := { ctx := [(0, { st := .active })] } }, 0, by decide⟩,
    ⟨{ State.reset with head := { st := .running, fwReady := true }, ten := { ctx := [(0, { st := .active })] } }, 0, by decide⟩,
    ⟨{ State.reset with lcp := { sessions := [{ opened := true }, {}, {}, {}] }, head := { st := .running, fwReady := true } }, 0, by decide⟩⟩

theorem test_witness_MosaicLinksAndView :
    (∃ (s : State), s.mos.record = true) ∧
    (∃ (s : State), s.mos.record = false) ∧
    (∃ (s : State), distributes s = true ∧ s.tmb.todState = .locked) ∧
    (∃ (s : State), distributes s = false) ∧
    (∃ (s : State) (p : Fin 2), s.mos.record = true ∧ s.mos.txOn = true ∧ portUp s p = true) ∧
    (∃ (s : State) (p : Fin 2), s.mos.record = true ∧ s.mos.txOn = true ∧ (getPort s p).link = .measuring ∧ (getPort s p).exch.length < 15) ∧
    (∃ (s : State) (p : Fin 2), s.mos.record = true ∧ (getPort s p).link = .down) ∧
    (∃ (s : State) (p : Fin 2), s.mos.record = true ∧ (getPort s p).link ≠ .down) ∧
    (∃ (s : State), s.now < s.mos.ringTb + 2500000) ∧
    (∃ (s : State), s.mos.ringTb + 2500000 ≤ s.now) ∧
    (∃ (s : State), s.mos.st ≠ .solo ∧ s.mos.viewTb + 1250000 ≤ s.now) ∧
    (∃ (s : State), s.now < s.mos.viewTb + 1250000) :=
  ⟨⟨{ State.reset with mos := { record := true } }, by decide⟩,
    ⟨{ State.reset with mos := { record := false } }, by decide⟩,
    ⟨{ State.reset with tmb := { todState := .locked }, mos := inMosaic .root }, by decide⟩,
    ⟨State.reset, by decide⟩,
    ⟨{ State.reset with mos := inMosaic .member }, 0, by decide⟩,
    ⟨{ State.reset with mos := { inMosaic .member with ports := [{}, { link := .measuring, exch := List.replicate 14 1 }] } }, 1, by decide⟩,
    ⟨{ State.reset with mos := { inMosaic .member with ports := [{}, {}] } }, 0, by decide⟩,
    ⟨{ State.reset with mos := inMosaic .member }, 0, by decide⟩,
    ⟨{ State.reset with mos := inMosaic .member, tmb := { tb := 1250000 } }, by decide⟩,
    ⟨{ State.reset with tmb := { tb := 2500000 } }, by decide⟩,
    ⟨{ State.reset with mos := inMosaic .member, tmb := { tb := 1250000 } }, by decide⟩,
    ⟨{ State.reset with tmb := { tb := 1249999 } }, by decide⟩⟩

theorem test_witness_MosaicCells :
    (∃ (s : State) (c : CellHead), cellHeard s c = true ∧ c.crcOk = true ∧ c.origin ≠ mosaicId s ∧ c.hops < 511) ∧
    (∃ (s : State) (c : CellHead) (f : Nat) (l : Nat) (flags : Nat) (tl : Nat) (src : Nat) (t : State), cellHeard s c = true ∧ c.crcOk = true ∧
      c.origin ≠ mosaicId s ∧ c.hops < 511 ∧ forwardCell .raster c [f, l, flags, tl, src] s = t ∧ t.mos.rootId = some c.origin ∧ distributes
      t = false ∧ (getPort t c.port).link = .up) ∧
    (∃ (s : State) (c : CellHead) (sec : Nat) (ns : Nat) (ts : Nat) (t : State), cellHeard s c = true ∧ c.crcOk = true ∧ c.origin ≠ mosaicId s ∧
      c.hops < 511 ∧ forwardCell .time c [sec, ns, ts] s = t ∧ t.mos.rootId = some c.origin ∧ distributes t = false ∧ (getPort t
      c.port).link = .up ∧ flagF t R.TMB_TOD_CTRL_SERVO_EN = true) ∧
    (∃ (s : State) (c : CellHead) (sec : Nat) (ns : Nat) (ts : Nat) (t : State), cellHeard s c = true ∧ c.crcOk = true ∧ c.origin ≠ mosaicId s ∧
      c.hops < 511 ∧ forwardCell .time c [sec, ns, ts] s = t ∧ t.mos.rootId ≠ some c.origin) ∧
    (∃ (s : State) (c : CellHead) (f : Nat) (q : Nat) (minor : Nat) (heads : Nat) (d : List Byte) (t : State) (u : State), cellHeard s c = true
      ∧ c.crcOk = true ∧ c.origin ≠ mosaicId s ∧ c.hops < 511 ∧ forwardCell .state c ([f, q, minor, heads] ++ d.map BitVec.toNat) s = t ∧
      t.mos.rootId = some c.origin ∧ (t.mos.st = .member ∨ t.mos.st = .partitioned) ∧ followBarriers (t.onMos fun m =>
      { m with rootDigest := d, rootBseq := q, minor := minor }) = u ∧ u.mos.st = .member ∧ (u.mos.joinCheck = true ∨ f % 1024 = 0)) ∧
    (∃ (s : State) (c : CellHead) (f : Nat) (q : Nat) (minor : Nat) (heads : Nat) (d : List Byte) (t : State) (u : State), cellHeard s c = true
      ∧ c.crcOk = true ∧ c.origin ≠ mosaicId s ∧ c.hops < 511 ∧ forwardCell .state c ([f, q, minor, heads] ++ d.map BitVec.toNat) s = t ∧
      t.mos.rootId = some c.origin ∧ (t.mos.st = .member ∨ t.mos.st = .partitioned) ∧ followBarriers (t.onMos fun m =>
      { m with rootDigest := d, rootBseq := q, minor := minor }) = u ∧ u.mos.st ≠ .member) ∧
    (∃ (s : State) (c : CellHead) (q : Nat) (reason : Nat) (st : Nat) (flags : Nat) (ofs : Int) (t : State), cellHeard s c = true ∧ c.crcOk =
      true ∧ c.origin ≠ mosaicId s ∧ c.hops < 511 ∧ forwardCell .report c [q, 0, reason, st, flags, (BitVec.ofInt 32 ofs).toNat] s = t ∧
      t.mos.st = .root ∧ t.mos.armTb ≠ none) ∧
    (∃ (s : State) (c : CellHead) (q : Nat) (reason : Nat) (st : Nat) (flags : Nat) (ofs : Int) (t : State), cellHeard s c = true ∧ c.crcOk =
      true ∧ c.origin ≠ mosaicId s ∧ c.hops < 511 ∧ forwardCell .report c [q, 2, reason, st, flags, (BitVec.ofInt 32 ofs).toNat] s = t ∧
      t.mos.st = .root) ∧
    (∃ (s : State) (c : CellHead), cellHeard s c = true ∧ c.crcOk = false) ∧
    (∃ (s : State) (c : CellHead), cellHeard s c = true ∧ c.crcOk = false) ∧
    (∃ (s : State) (c : CellHead), cellHeard s c = true ∧ c.crcOk = true ∧ c.origin = mosaicId s) ∧
    (∃ (s : State) (c : CellHead), cellHeard s c = true ∧ c.crcOk = true ∧ c.origin = mosaicId s) ∧
    (∃ (s : State) (c : CellHead), cellHeard s c = true ∧ c.crcOk = true ∧ c.origin = mosaicId s) ∧
    (∃ (s : State) (c : CellHead), cellHeard s c = true ∧ c.crcOk = true ∧ 511 ≤ c.hops) ∧
    (∃ (s : State) (c : CellHead), cellHeard s c = true ∧ c.crcOk = true ∧ 511 ≤ c.hops) ∧
    (∃ (s : State) (c : CellHead), cellHeard s c = false) ∧
    (∃ (s : State) (c : CellHead), cellHeard s c = false) :=
  ⟨⟨{ State.reset with mos := inMosaic .member }, cell, by decide⟩,
    ⟨{ State.reset with mos := inMosaic .member }, cell, 0, 0, 0, 0, 0, _, by decide, by decide, by decide, by decide, rfl, by decide, by decide, by decide⟩,
    ⟨{ State.reset with mos := inMosaic .member, regs := [(A.TMB_TOD_CTRL, 0x80B00064)] }, cell, 0, 0, 0, _, by decide, by decide, by decide, by decide, rfl, by decide, by decide, by decide, by decide⟩,
    ⟨{ State.reset with mos := { inMosaic .member with rootId := none } }, cell, 0, 0, 0, _, by decide, by decide, by decide, by decide, rfl, by decide⟩,
    ⟨{ State.reset with mos := inMosaic .member }, cell, 0, 0, 0, 0, [], _, _, by decide, by decide, by decide, by decide, rfl, by decide, by decide, rfl, by decide, by decide⟩,
    ⟨{ State.reset with mos := inMosaic .partitioned }, cell, 0, 0, 0, 0, [], _, _, by decide, by decide, by decide, by decide, rfl, by decide, by decide, rfl, by decide⟩,
    ⟨{ State.reset with mos := { inMosaic .root with armTb := some 0 } }, cell, 0, 0, 0, 0, 0, _, by decide, by decide, by decide, by decide, rfl, by decide, by decide⟩,
    ⟨{ State.reset with mos := inMosaic .root }, cell, 0, 0, 0, 0, 0, _, by decide, by decide, by decide, by decide, rfl, by decide⟩,
    ⟨{ State.reset with mos := inMosaic .member }, { cell with crcOk := false }, by decide⟩,
    ⟨{ State.reset with mos := inMosaic .member }, { cell with crcOk := false }, by decide⟩,
    ⟨{ State.reset with mos := inMosaic .member }, { cell with origin := 0 }, by decide⟩,
    ⟨{ State.reset with mos := inMosaic .member }, { cell with origin := 0 }, by decide⟩,
    ⟨{ State.reset with mos := inMosaic .member }, { cell with origin := 0 }, by decide⟩,
    ⟨{ State.reset with mos := inMosaic .member }, { cell with hops := 511 }, by decide⟩,
    ⟨{ State.reset with mos := inMosaic .member }, { cell with hops := 511 }, by decide⟩,
    ⟨State.reset, cell, by decide⟩,
    ⟨State.reset, cell, by decide⟩⟩

theorem test_witness_MosaicBarriers :
    (∃ (s : State) (who : Initiator) (v : Word), busOpen s who = true ∧ v.toNat / 2 ^ 30 = 1 ∧ v.toNat % 128 ≤ 64 ∧ s.mos.st = .root ∧ s.pwr.pf
      = .normal ∧ barrierPart s = true ∧ s.mos.reqF = none) ∧
    (∃ (s : State) (who : Initiator) (v : Word) (f : Nat), busOpen s who = true ∧ v.toNat / 2 ^ 30 = 2 ∧ v.toNat % 128 ≤ 64 ∧ s.mos.st = .root ∧
      s.pwr.pf = .normal ∧ barrierPart s = true ∧ s.mos.reqF = none ∧ f = (rawReg s A.MOS_BREQ_F_HI).toNat % 256 * 2 ^ 32 + (rawReg s
      A.MOS_BREQ_F_LO).toNat ∧ leadFrame s ≤ f) ∧
    (∃ (s : State) (who : Initiator) (v : Word) (f : Nat), busOpen s who = true ∧ v.toNat / 2 ^ 30 = 3 ∧ v.toNat % 128 ≤ 64 ∧ s.mos.st = .root ∧
      s.pwr.pf = .normal ∧ barrierPart s = true ∧ s.mos.reqF = none ∧ f = (rawReg s A.MOS_BREQ_F_HI).toNat % 256 * 2 ^ 32 + (rawReg s
      A.MOS_BREQ_F_LO).toNat ∧ leadFrame s ≤ f) ∧
    (∃ (s : State) (who : Initiator) (v : Word), busOpen s who = true ∧ v.toNat / 2 ^ 30 ≠ 0 ∧ v.toNat % 128 ≤ 64 ∧ s.mos.st ≠ .root) ∧
    (∃ (s : State) (c : CellHead) (q : Nat) (cmd : Nat) (flags : Nat) (f : Nat) (part : Nat) (n : Nat) (fns : List Nat) (t : State), cellHeard s
      c = true ∧ c.crcOk = true ∧ c.origin ≠ mosaicId s ∧ c.hops < 511 ∧ forwardCell .barrier c ([q, cmd, flags, f, part, n, fns.length] ++
      fns ++ List.replicate (18 - fns.length) 0) s = t ∧ t.mos.st = .member ∧ t.mos.rootId = some c.origin ∧ barrierPart t = true) ∧
    (∃ (s : State) (q : Nat), q ≠ s.mos.received + 1) ∧
    (∃ (s : State) (t : Nat), s.mos.armTb = some t ∧ s.mos.st = .root ∧ s.head.st ≠ .hold ∧ s.mos.startIssued = false ∧ t + getF s
      R.MOS_TIMING_ARM_TIMEOUT * 2500000 ≤ s.now ∧ s.pwr.pf = .normal ∧ s.mos.ready.length < s.mos.expected) ∧
    (∃ (s : State), s.mos.armTb = none) :=
  ⟨⟨{ State.reset with head := { st := .running }, mos := inMosaic .root, pwr := { pf := .normal } }, .core, 0x40000040, by decide⟩,
    ⟨{ State.reset with head := { st := .running }, mos := inMosaic .root, pwr := { pf := .normal }, regs := [(A.MOS_BREQ_F_LO, 0xFFFFFFFF), (A.MOS_BREQ_F_HI, 0xFF)] },
      .core, 0x80000001, 0xFFFFFFFFFF, by decide⟩,
    ⟨{ State.reset with head := { st := .running }, mos := inMosaic .root, pwr := { pf := .normal }, regs := [(A.MOS_BREQ_F_LO, 0xFFFFFFFF), (A.MOS_BREQ_F_HI, 0xFF)] },
      .core, 0xC0000000, 0xFFFFFFFFFF, by decide⟩,
    ⟨{ State.reset with head := { st := .running }, mos := inMosaic .member }, .core, 0x40000000, by decide⟩,
    ⟨{ State.reset with mos := inMosaic .member }, cell, 0, 0, 0, 0, 0, 0, [], _, by decide, by decide, by decide, by decide, rfl, by decide, by decide, by decide⟩,
    ⟨State.reset, 2, by decide⟩,
    ⟨{ State.reset with mos := { inMosaic .root with armTb := some 0, expected := 1 }, head := { st := .running }, pwr := { pf := .normal }, tmb := { tb := 700000000 } },
      0, by decide⟩,
    ⟨{ State.reset with mos := { armTb := none } }, by decide⟩⟩

theorem test_witness_FuseProgramming :
    (∃ (s : State) (w : Nat), busOpen s .jtag = true ∧ s.fus.cmd = none ∧ fusePath s .jtag = true ∧ fuseWordOk s w = true) ∧
    (∃ (s : State) (c : FuseCmd), busOpen s .jtag = true ∧ s.fus.cmd = some c) ∧
    (∃ (s : State), busOpen s .jtag = true ∧ s.fus.cmd = none ∧ fusePath s .jtag = false) ∧
    (∃ (s : State), (s.fus.lc = .deployed ∨ s.fus.lc = .retired ∨ s.fus.wires.rmJtag = true)) ∧
    (∃ (s : State), busOpen s .jtag = true ∧ s.fus.cmd = none ∧ s.fus.lc = .factory ∧ s.fus.wires.rmJtag = false ∧ orderMismatch s = false ∧
      finalWords s [0, 1, 2, 3, 5] ≠ []) ∧
    (∃ (s : State), busOpen s .jtag = true ∧ s.fus.cmd = none ∧ s.fus.lc = .factory ∧ s.fus.wires.rmJtag = false ∧ orderMismatch s = true) ∧
    (∃ (s : State) (init : FuseInit) (w : Nat) (v : Word) (x : Option (Nat × BitVec 64)) (t0 : Option Nat) (lg : Bool) (k : Nat), s.fus.cmd =
      some ⟨init, 1, [], some (w, v), none, false, x, t0, lg⟩ ∧ k ≠ w) ∧
    (∃ (s : State) (n : Fin 4), (getSession s n).opened = true ∧ served s 4 = true ∧ (getSession s n).busy = none ∧ s.head.coreRestart = false ∧
      fuseOpen s = true ∧ s.fus.cmd = none ∧ s.fus.lc = .deployed ∧ s.fus.wires.rmJtag = false) ∧
    (∃ (s : State) (n : Fin 4) (w : Nat) (v : Word), (w ≠ 0 ∨ v ≠ 0) ∧ (getSession s n).opened = true ∧ served s 4 = true ∧ (getSession s
      n).busy = none ∧ s.head.coreRestart = false ∧ fuseOpen s = true) ∧
    (∃ (s : State), busOpen s .jtag = true ∧ s.fus.cmd = none) ∧
    (∃ (s : State) (w : Nat) (v : Word), s.fus.cmd = some ⟨.jtag, 1, [], some (w, v), none, false, none, none, false⟩ ∧ v &&& ~~~fuseWord
      ((endStore .fuse s).onFus (fun f => { f with a := Tbl.put f.a w 0 (Tbl.getD f.a w 0 ||| (v &&& v)) })) w = 0) ∧
    (∃ (s : State) (w : Nat) (v : Word), s.fus.cmd = some ⟨.jtag, 1, [], some (w, v), none, false, none, none, false⟩ ∧ v &&& ~~~fuseWord
      ((endStore .fuse s).onFus (fun f => { f with a := Tbl.put f.a w 0 (Tbl.getD f.a w 0 ||| (0 &&& v)) })) w ≠ 0) :=
  ⟨⟨{ State.reset with head := { st := .running }, fus := { cmd := none } }, 3, by decide⟩,
    ⟨{ State.reset with head := { st := .running }, fus := { cmd := some ⟨.jtag, 1, [], none, none, false, none, none, false⟩ } }, ⟨.jtag, 1,
      [], none, none, false, none, none, false⟩, by decide⟩,
    ⟨{ State.reset with head := { st := .running }, fus := { cmd := none, lc := .deployed, unlocked := true } }, by decide⟩,
    ⟨{ State.reset with fus := { lc := .retired } }, by decide⟩,
    ⟨{ State.reset with head := { st := .running }, fus := { cmd := none, lc := .factory } }, by decide⟩,
    ⟨{ State.reset with head := { st := .running }, fus := { cmd := none, lc := .factory, a := [(2, 1)] } }, by decide⟩,
    ⟨{ State.reset with fus := { cmd := some ⟨.jtag, 1, [], some (3, 1), none, false, none, none, false⟩ } }, .jtag, 3, 1, none, none, false, 4,
      by decide⟩,
    ⟨{ State.reset with lcp := { sessions := oneSession }, head := { st := .running, fwReady := true, coreRestart := false }, fus := { cmd := none, lc := .deployed } },
      0, by decide⟩,
    ⟨{ State.reset with lcp := { sessions := [{ opened := true }, {}, {}, {}] }, head := { st := .running, fwReady := true, coreRestart := false } },
      0, 1, 0, by decide⟩,
    ⟨{ State.reset with head := { st := .running }, fus := { cmd := none } }, by decide⟩,
    ⟨{ State.reset with fus := { cmd := some ⟨.jtag, 1, [], some (3, 1), none, false, none, none, false⟩ } }, 3, 1, by decide⟩,
    ⟨{ State.reset with fus := { cmd := some ⟨.jtag, 1, [], some (3, 1), none, false, none, none, false⟩ } }, 3, 1, by decide⟩⟩

theorem test_witness_DomainsAndWarning :
    (∃ (s : State) (d : Fin 316), 280 ≤ d.val ∧ getDom s d = .ramp) ∧
    (∃ (s : State) (d : Fin 316) (k : Nat), 296 ≤ d.val ∧ d.val < 315 ∧ ((getDom s d = .ramp ∨ getDom s d = .ready)) ∧ k ≠ d.val) ∧
    (∃ (s : State) (who : Initiator), busOpen s who = true) ∧
    (∃ (s : State), getDom s 300 = .fault) ∧
    (∃ (s : State) (v : BitVec 16) (f : BitVec 16), s.head.st ≠ .off ∧ 8500 ≤ v.toNat ∧ v.toNat ≤ 26500 ∧ 47000 ≤ f.toNat ∧ f.toNat ≤ 63000) ∧
    (∃ (s : State) (v : BitVec 16) (f : BitVec 16), s.head.st ≠ .off ∧ (v.toNat < 8500 ∨ 26500 < v.toNat ∨ f.toNat < 47000 ∨ 63000 < f.toNat)) ∧
    (∃ (s : State), s.head.st ≠ .off ∧ asleep s = false ∧ s.pwr.pf = .normal) ∧
    (∃ (s : State), (s.head.st = .off ∨ asleep s = true ∨ s.pwr.pf ≠ .normal)) :=
  ⟨⟨{ State.reset with pwr := { doms := [(280, .ramp)] } }, 280, by decide⟩,
    ⟨{ State.reset with pwr := { doms := [(314, .ready)] } }, 314, 296, by decide⟩,
    ⟨{ State.reset with head := { st := .running } }, .core, by decide⟩,
    ⟨{ State.reset with pwr := { doms := [(300, .fault)] } }, by decide⟩,
    ⟨{ State.reset with head := { st := .running } }, 26500, 47000, by decide⟩,
    ⟨{ State.reset with head := { st := .running } }, 8499, 47000, by decide⟩,
    ⟨{ State.reset with head := { st := .running }, pwr := { pf := .normal } }, by decide⟩,
    ⟨State.reset, by decide⟩⟩

theorem test_witness_ParkAndReturn :
    (∃ (s : State), s.pwr.pf = .emergency ∧ 4 ∉ s.pwr.stepsDone ∧ s.pwr.warnTb + getF s R.PWR_POLICY_LINK_HOLD * milli ≤ s.now) ∧
    (∃ (s : State), s.pwr.pf = .normal ∧ s.pwr.sleeping = true ∧ s.pwr.warnTb + getF s R.PWR_POLICY_LINK_HOLD * milli ≤ s.now) ∧
    (∃ (s : State), s.pwr.pf = .emergency ∧ 4 ∈ s.pwr.stepsDone ∧ 5 ∈ s.pwr.stepsDone) ∧
    (∃ (s : State), s.pwr.pf = .emergency ∧ s.pwr.warnTb + 37500000 ≤ s.now ∧ 4 ∈ s.pwr.stepsDone ∧ 5 ∉ s.pwr.stepsDone) ∧
    (∃ (s : State), s.pwr.pf = .emergency ∧ s.pwr.warnTb + 37500000 ≤ s.now ∧ 4 ∉ s.pwr.stepsDone ∧ 5 ∈ s.pwr.stepsDone) ∧
    (∃ (s : State), s.pwr.parked = true ∧ s.pwr.aon = true ∧ s.sup.hold = false) ∧
    (∃ (s : State), (s.pwr.parked = false ∨ s.pwr.aon = false)) ∧
    (∃ (s : State), s.pwr.aon = true ∧ (s.pwr.parked = true ∨ s.head.st = .sleep)) :=
  ⟨⟨{ State.reset with pwr := { pf := .emergency }, tmb := { tb := 12500000 } }, by decide⟩,
    ⟨{ State.reset with pwr := { pf := .normal, sleeping := true }, tmb := { tb := 12500000 } }, by decide⟩,
    ⟨{ State.reset with pwr := { pf := .emergency, stepsDone := [3, 4, 5] } }, by decide⟩,
    ⟨{ State.reset with pwr := { pf := .emergency, stepsDone := [3, 4] }, tmb := { tb := 37500000 } }, by decide⟩,
    ⟨{ State.reset with pwr := { pf := .emergency, stepsDone := [3, 5] }, tmb := { tb := 37500000 } }, by decide⟩,
    ⟨{ State.reset with pwr := { parked := true, aon := true }, sup := { hold := false } }, by decide⟩,
    ⟨{ State.reset with pwr := { parked := false } }, by decide⟩,
    ⟨{ State.reset with pwr := { aon := true, parked := true } }, by decide⟩⟩

theorem test_witness_WatchdogAndClockMonitor :
    (∃ (s : State) (who : Initiator), busOpen s who = true ∧ (who = .core ∨ who = .jtag) ∧ s.sup.wdgRun = true ∧ wdgOpen s = true) ∧
    (∃ (s : State) (who : Initiator), busOpen s who = true ∧ (who = .core ∨ who = .jtag) ∧ s.sup.wdgRun = true ∧ wdgOpen s = false) ∧
    (∃ (s : State) (who : Initiator) (v : Word), busOpen s who = true ∧ (who = .core ∨ who = .jtag) ∧ s.sup.wdgRun = true ∧ v ≠ 0xC35A) ∧
    (∃ (s : State) (who : Initiator) (v : Word), busOpen s who = true ∧ (who = .core ∨ who = .jtag) ∧ s.sup.wdgRun = false ∧ v ≠ 0xC35A) ∧
    (∃ (s : State), busUp s = true) ∧
    (∃ (s : State) (who : Initiator) (v : Word), busOpen s who = true ∧ lockedBlock s 0x10 = false ∧ s.sup.wdgRun = false ∧ v.getLsbD 31 = true
      ∧ 1 ≤ v.toNat % 2 ^ 14 ∧ v.toNat % 2 ^ 14 ≤ 16000) ∧
    (∃ (s : State), s.sup.wdgRun = true ∧ asleep s = false ∧ s.head.st ≠ .off ∧ s.head.romServes = false ∧ s.sup.fallback = false) ∧
    (∃ (s : State), s.sup.wdgRun = false) ∧
    (∃ (s : State) (n : Nat), s.head.st ≠ .off ∧ asleep s = false ∧ s.tmb.run = true ∧ s.rru.sysPll = .locked ∧ 3000 ≤ n ∧ n ≤ 5000) ∧
    (∃ (s : State) (n : Nat), s.head.st ≠ .off ∧ asleep s = false ∧ s.tmb.run = true ∧ s.rru.sysPll = .locked ∧ s.sup.fallback = false ∧ (n <
      3000 ∨ 5000 < n) ∧ n < 65536) ∧
    (∃ (s : State) (n : Nat), s.head.st ≠ .off ∧ asleep s = false ∧ s.tmb.run = false ∧ 2930 ≤ n ∧ n ≤ 4882) :=
  ⟨⟨{ State.reset with head := { st := .running }, sup := { wdgRun := true, elapsed := 12000000 }, fus := { wires := { State.reset.fus.wires with window := 3 } } },
      .core, by decide⟩,
    ⟨{ State.reset with head := { st := .running }, sup := { wdgRun := true, elapsed := 11999999 }, fus := { wires := { State.reset.fus.wires with window := 3 } } },
      .core, by decide⟩,
    ⟨{ State.reset with head := { st := .running }, sup := { wdgRun := true } }, .core, 0, by decide⟩,
    ⟨{ State.reset with head := { st := .running }, sup := { wdgRun := false } }, .core, 0, by decide⟩,
    ⟨{ State.reset with head := { st := .running } }, by decide⟩,
    ⟨{ State.reset with head := { st := .running }, sup := { wdgRun := false } }, .core, 0x80003E80, by decide⟩,
    ⟨{ State.reset with sup := { wdgRun := true, fallback := false }, head := { st := .running, romServes := false } }, by decide⟩,
    ⟨{ State.reset with sup := { wdgRun := false } }, by decide⟩,
    ⟨{ State.reset with head := { st := .running }, tmb := { run := true }, rru := { sysPll := .locked } }, 5000, by decide⟩,
    ⟨{ State.reset with head := { st := .running }, tmb := { run := true }, rru := { sysPll := .locked }, sup := { fallback := false } }, 2999,
      by decide⟩,
    ⟨{ State.reset with head := { st := .running }, tmb := { run := false } }, 2930, by decide⟩⟩

theorem test_witness_RestartsEnd :
    (∃ (s : State), s.head.coreRestart = true ∧ s.sup.dieDown = false ∧ s.sup.coreDown = false ∧ s.head.st ≠ .off ∧ s.head.fwReady = false) ∧
    (∃ (s : State), s.head.coreRestart = true ∧ s.sup.dieDown = false ∧ s.sup.coreDown = false ∧ s.head.st ≠ .off ∧ s.head.fwReady = true) ∧
    (∃ (s : State), (s.head.coreRestart = false ∨ s.sup.dieDown = true)) ∧
    (∃ (s : State), s.sup.dieDown = true ∧ s.head.st = .boot) ∧
    (∃ (s : State), s.sup.dieDown = true ∧ s.head.st ≠ .off) ∧
    (∃ (s : State), s.sup.dieDown = false) ∧
    (∃ (s : State) (t : Nat) (e : LadderEvent), s.sup.deferred = some (t, e) ∧ s.now < t + 625000000) ∧
    (∃ (s : State) (t : Nat) (e : LadderEvent), s.sup.deferred = some (t, e) ∧ t + 625000000 ≤ s.now) :=
  ⟨⟨{ State.reset with head := { coreRestart := true, st := .running, fwReady := false }, sup := { dieDown := false, coreDown := false } }, by
      decide⟩,
    ⟨{ State.reset with head := { coreRestart := true, st := .running, fwReady := true }, sup := { dieDown := false, coreDown := false } }, by
      decide⟩,
    ⟨{ State.reset with head := { coreRestart := false } }, by decide⟩,
    ⟨{ State.reset with sup := { dieDown := true }, head := { st := .boot } }, by decide⟩,
    ⟨{ State.reset with sup := { dieDown := true }, head := { st := .running } }, by decide⟩,
    ⟨{ State.reset with sup := { dieDown := false } }, by decide⟩,
    ⟨{ State.reset with sup := { deferred := some (1, ⟨0x1001, 0, true, 0⟩) }, tmb := { tb := 625000000 } }, 1, ⟨0x1001, 0, true, 0⟩, by decide⟩,
    ⟨{ State.reset with sup := { deferred := some (1, ⟨0x1001, 0, true, 0⟩) }, tmb := { tb := 625000001 } }, 1, ⟨0x1001, 0, true, 0⟩, by decide⟩⟩

theorem test_witness_AcknowledgementAndLeases :
    (∃ (s : State) (v : Word), busUp s = true ∧ s.flt.lostSince = 0 ∧ (∃ e ∈ s.flt.ring, e.unackCritical = true ∧ e.seq = v)) ∧
    (∃ (s : State), busUp s = true ∧ s.flt.lostSince = 0 ∧ (∃ e ∈ s.flt.ring, e.unackCritical = true)) ∧
    (∃ (s : State) (who : Initiator) (v : Word), busOpen s who = true ∧ ((∀ e ∈ s.flt.ring, e.unackCritical = true → e.seq ≠ v))) ∧
    (∃ (s : State) (who : Initiator) (n : Nat), busOpen s who = true ∧ who ∈ [.core, .jtag, .tenant n]) ∧
    (∃ (s : State), s.flt.pendingLong ≠ [] ∧ storeRuns s .longLog = false ∧ storeAsked s .longLog = false ∧ (getLease s 5).st = .free ∧ s.pwr.pf
      = .normal ∧ s.head.fwReady = true) ∧
    (∃ (s : State), s.flt.pendingLong = []) ∧
    (∃ (s : State) (r : Fin 8), r.val ≠ 7 ∧ (getLease s r).st = .held ∧ (getLease s r).expires ≤ s.now ∧ (∀ u ∈ leaseUsers r, storeRuns s u =
      false)) ∧
    (∃ (s : State) (r : Fin 8), r.val ≠ 7 ∧ (getLease s r).st = .held ∧ (getLease s r).expires ≤ s.now ∧ (∃ u ∈ leaseUsers r, storeRuns s u =
      true)) ∧
    (∃ (s : State) (r : Fin 8) (t : Nat), r.val ≠ 7 ∧ (getLease s r).st = .revoking ∧ (getLease s r).waitFrom = some t ∧ t + 625000000 ≤ s.now) ∧
    (∃ (s : State) (r : Fin 8), r.val ≠ 7 ∧ (getLease s r).st = .held ∧ s.now < (getLease s r).expires) ∧
    (∃ (s : State), (getLease s 7).st = .held ∧ (getLease s 7).expires ≤ s.now ∧ s.chg.st = .stopped ∧ s.chg.mosaic = false) :=
  ⟨⟨{ State.reset with head := { st := .running }, flt := { lostSince := 0, ring := [critical] } }, 5, by decide⟩,
    ⟨{ State.reset with head := { st := .running }, flt := { lostSince := 0, ring := [critical] } }, by decide⟩,
    ⟨{ State.reset with head := { st := .running }, flt := { ring := [critical] } }, .core, 6, by decide⟩,
    ⟨{ State.reset with head := { st := .running } }, .core, 0, by decide⟩,
    ⟨{ State.reset with pwr := { pf := .normal }, head := { fwReady := true }, flt := { pendingLong := [entry] } }, by decide⟩,
    ⟨{ State.reset with flt := { pendingLong := [] } }, by decide⟩,
    ⟨{ State.reset with flt := { leases := [{ st := .held }] } }, 0, by decide⟩,
    ⟨{ State.reset with flt := { leases := [{}, {}, {}, { st := .held }] }, pwr := { running := [⟨.norErase, .norFlash⟩] } }, 3, by decide⟩,
    ⟨{ State.reset with flt := { leases := [{ st := .revoking, waitFrom := some 0 }] }, tmb := { tb := 625000000 } }, 0, 0, by decide⟩,
    ⟨{ State.reset with flt := { leases := [{ st := .held, expires := 1 }] } }, 0, by decide⟩,
    ⟨{ State.reset with chg := { st := .stopped, mosaic := false }, flt := { leases := [{}, {}, {}, {}, {}, {}, {}, { st := .held }] } }, by
      decide⟩⟩

theorem test_witness_LatchedTimebase :
    (∃ (s : State) (who : Initiator) (other : Initiator), busUp s = true ∧ shadowOwner other ≠ shadowOwner who) :=
  ⟨{ State.reset with head := { st := .running } }, .core, .jtag, by decide⟩

theorem test_witness_BusAccesses :
    (∃ (s : State), busUp s = true) ∧
    (∃ (s : State) (who : Initiator) (a : Nat), busOpen s who = true ∧ Tbl.get? s.fresh A.PWR_CNT = none ∧ a ≠ A.PWR_CNT) ∧
    (∃ (s : State) (who : Initiator) (n : Fresh) (a : Nat), busOpen s who = true ∧ Tbl.get? s.fresh A.PWR_CNT = some n ∧ a ≠ A.PWR_CNT) ∧
    (∃ (s : State) (who : Initiator), busOpen s who = true) ∧
    (∃ (s : State), busUp s = true) ∧
    (∃ (s : State) (b : Fin 18), busUp s = true ∧ (b.val = 1 ∨ b.val = 4 ∨ b.val = 11 ∨ b.val = 13 ∨ b.val = 15 ∨ b.val = 16) ∧ s.rru.acqAbandon
      = false ∧ lockedBlock s b = false) ∧
    (∃ (s : State) (b : Fin 18), busUp s = true ∧ (b.val = 1 ∨ b.val = 4 ∨ b.val = 11 ∨ b.val = 13 ∨ b.val = 15 ∨ b.val = 16) ∧ s.rru.acqAbandon
      = false ∧ lockedBlock s b = true) ∧
    (∃ (s : State) (who : Initiator) (a : Nat), busOpen s who = true ∧ lockedBlock s 0x10 = true ∧ 1 ≤ getF s R.SUP_WDG_CTRL_PERIOD ∧ getF s
      R.SUP_WDG_CTRL_PERIOD ≤ 16000 ∧ s.sup.wdgRun = true ∧ a ≠ A.SUP_WDG_CTRL) :=
  ⟨⟨{ State.reset with head := { st := .running } }, by decide⟩,
    ⟨{ State.reset with head := { st := .running } }, .core, 0, by decide⟩,
    ⟨{ State.reset with head := { st := .running }, fresh := [(A.PWR_CNT, ⟨1, 2⟩)] }, .core, ⟨1, 2⟩, 0, by decide⟩,
    ⟨{ State.reset with head := { st := .running } }, .core, by decide⟩,
    ⟨{ State.reset with head := { st := .running } }, by decide⟩,
    ⟨{ State.reset with head := { st := .running }, rru := { acqAbandon := false } }, 16, by decide⟩,
    ⟨{ State.reset with head := { st := .running, locks := [1] }, rru := { acqAbandon := false } }, 1, by decide⟩,
    ⟨{ State.reset with head := { st := .running, locks := [0x10] }, sup := { wdgRun := true }, regs := [(A.SUP_WDG_CTRL, 16000)] }, .core, 0,
      by decide⟩⟩

end Sys2Proof.Tests
end

section
/-! Writes of the raster PLL's registers (R61, R81, R87). -/

namespace Sys2Proof.Machine

/-! ## The abandonment that only an acquisition restart asks for (R291) -/

theorem acqAbandons_of_not_asked {s : State} (h : s.rru.acqAbandon = false) : acqAbandons s = s := by
  unfold acqAbandons
  simp [h]

theorem tryAcquireN_acqAbandon (n : Nat) (s : State) : (tryAcquireN n s).rru.acqAbandon = s.rru.acqAbandon := by
  induction n generalizing s with
  | zero => rfl
  | succ n ih =>
    unfold tryAcquireN
    split
    · rfl
    · cases qualChoice s with
      | none => rfl
      | some c =>
        dsimp only
        split
        · rfl
        · split
          · rfl
          · rw [ih]
            simp [bandFail]

@[simp] theorem enterQual_acqAbandon (s : State) : (enterQual s).rru.acqAbandon = s.rru.acqAbandon :=
  tryAcquireN_acqAbandon 6 _

/-! ## Fields -/

/-- RRU_PLL_CTRL.EN takes bit 0 of the word written. -/
theorem pllEn_plainWrite_ctrl (v : Word) (s : State) : flagF (plainWrite A.RRU_PLL_CTRL v s) R.RRU_PLL_CTRL_EN = v.getLsbD 0 :=
  (flagF_eq_getLsbD rfl).trans (plainWrite_bit (by decide) (by decide))

/-- A write of another register leaves RRU_PLL_CTRL.EN. -/
theorem pllEn_plainWrite_ne {a : Nat} {v : Word} {s : State} (h : A.RRU_PLL_CTRL ≠ a) :
    flagF (plainWrite a v s) R.RRU_PLL_CTRL_EN = flagF s R.RRU_PLL_CTRL_EN := by
  have hw : rawReg (plainWrite a v s) R.RRU_PLL_CTRL_EN.addr = rawReg s R.RRU_PLL_CTRL_EN.addr := rawReg_plainWrite_ne h
  rw [flagF_eq_getLsbD rfl, flagF_eq_getLsbD rfl, hw]

/-- A configuration write gives EN its bit where the register is RRU_PLL_CTRL, and leaves it elsewhere. -/
theorem pllEn_plainWrite_config {reg : Fin 3} {v : Word} {s : State} {b : Bool} (hs : flagF s R.RRU_PLL_CTRL_EN = b)
    (hv : reg.val = 0 → v.getLsbD 0 = b) : flagF (plainWrite (A.RRU_PLL_CTRL + 4 * reg.val) v s) R.RRU_PLL_CTRL_EN = b := by
  by_cases h0 : reg.val = 0
  · rw [h0]
    exact (pllEn_plainWrite_ctrl v s).trans (hv h0)
  · exact (pllEn_plainWrite_ne (by omega)).trans hs

/-- A plain write of a register whose fields all only read leaves every register. -/
theorem rawReg_plainWrite_of_readOnly {a : Nat} {v : Word} {s : State}
    (hrw : ∀ lk now : Bool, maskOf (fun d => !d.sensed && (d.acc == .rw || (d.acc == .rwl && !lk) || (d.acc == .rws && now)))
      (fieldsAt a) = 0)
    (hc : maskOf (fun d => d.acc == .w1c) (fieldsAt a) = 0) (b : Nat) : rawReg (plainWrite a v s) b = rawReg s b := by
  by_cases hb : b = a
  · subst hb
    rw [rawReg_plainWrite, hrw, hc, clearBits]
    refine BitVec.eq_of_getLsbD_eq fun i hi => ?_
    have h0 : (0 : Word).getLsbD i = false := BitVec.getLsbD_zero
    simp only [BitVec.getLsbD_and, BitVec.getLsbD_or, BitVec.getLsbD_not, h0, hi, decide_true, Bool.not_false, Bool.and_true,
      Bool.and_false, Bool.or_false, Bool.false_and]
  · exact rawReg_plainWrite_ne hb

/-! ## The block's answer to a write (R61, R81, R87) -/

section
variable {a : Nat} {v : Word} {s : State}

theorem writePll_outOfRange (hr : rruRangeOk s a v = false) : (writePll a v s).2 = raise 0x0111 [.h (a % 0x10000)] s := by
  simp [writePll, rejectWrite, hr]

/-- EN goes from 0 to 1. -/
theorem writePll_enables (hr : rruRangeOk s a v = true) (hs : flagF s R.RRU_PLL_CTRL_EN = false)
    (hn : flagF (plainWrite a v s) R.RRU_PLL_CTRL_EN = true) :
    (writePll a v s).2 = if pllMayRun s then enablePll (plainWrite a v s) else plainWrite a v s := by
  simp [writePll, pllMayRun, hr, hs, hn]

/-- EN stays 1. -/
theorem writePll_restarts (hr : rruRangeOk s a v = true) (hs : flagF s R.RRU_PLL_CTRL_EN = true)
    (hn : flagF (plainWrite a v s) R.RRU_PLL_CTRL_EN = true) (hp : s.rru.pll ≠ .off) :
    (writePll a v s).2 = acqRestart (a % 0x10000) (plainWrite a v s) := by
  simp [writePll, hr, hs, hn, hp]

/-- EN goes from 1 to 0. -/
theorem writePll_stops (hr : rruRangeOk s a v = true) (hs : flagF s R.RRU_PLL_CTRL_EN = true)
    (hn : flagF (plainWrite a v s) R.RRU_PLL_CTRL_EN = false) :
    (writePll a v s).2 = stopPll (raise 0x0107 [.h (a % 0x10000)] (plainWrite a v s)) := by
  simp [writePll, hr, hs, hn]

/-- EN stays 0. -/
theorem writePll_keepsOff (hr : rruRangeOk s a v = true) (hs : flagF s R.RRU_PLL_CTRL_EN = false)
    (hn : flagF (plainWrite a v s) R.RRU_PLL_CTRL_EN = false) : (writePll a v s).2 = plainWrite a v s := by
  simp [writePll, hr, hs, hn]

end

/-- No value of RRU_PLL_CW and RRU_PLL_RESTART is out of range. -/
theorem rruRangeOk_unranged {a : Nat} (ha : a = A.RRU_PLL_CW ∨ a = A.RRU_PLL_RESTART) (s : State) (v : Word) : rruRangeOk s a v = true := by
  rcases ha with rfl | rfl
  · rfl
  · rfl

/-! ## The bus -/

theorem regWrite_rru {who : Initiator} {a : Nat} {v : Word} {s : State} (ha : a / 0x10000 = 1) :
    (regWrite who a v s).2 = acqAbandons (writeRru a v s).2 := by
  unfold regWrite
  rw [ha]
  rfl

/-- The registers whose writes R61 gives to the loop. -/
def pllRegs : List Nat := [A.RRU_PLL_CTRL, A.RRU_PLL_NDIV, A.RRU_PLL_LOCK, A.RRU_PLL_RESTART]

theorem mem_pllRegs {a : Nat} : a ∈ pllRegs ↔
    a = A.RRU_PLL_CTRL ∨ a = A.RRU_PLL_NDIV ∨ a = A.RRU_PLL_LOCK ∨ a = A.RRU_PLL_RESTART := by
  simp [pllRegs]

theorem writeRru_pll {a : Nat} {v : Word} {s : State} (ha : a ∈ pllRegs) : writeRru a v s = writePll a v s :=
  if_pos (mem_pllRegs.mp ha)

theorem writeRru_pllCw (v : Word) (s : State) : writeRru A.RRU_PLL_CW v s = (.ok, plainWrite A.RRU_PLL_CW v s) := by
  have hp : A.RRU_PLL_CW ∉ pllRegs := by decide
  unfold writeRru
  rw [if_neg (mt mem_pllRegs.mpr hp), rruRangeOk_unranged (.inl rfl)]
  rfl

/-- A write of a register of the loop on the bus is its write in the block, and the abandonment that this asks for. -/
theorem busPut_pll {who : Initiator} {a : Nat} {v : Word} {s : State} (hu : busOpen s who = true) (ha : a ∈ pllRegs) :
    busPut who a v s = acqAbandons (writePll a v s).2 := by
  have hf : wordDefined a = true ∧ a < 0xC0020 ∧ a / 0x10000 = 1 ∧ maskOf (fun d => d.acc == .rwl) (fieldsAt a) = 0 ∧
      maskOf (fun d => d.acc == .w1s && !d.sensed) (fieldsAt a) = 0 := by
    rcases mem_pllRegs.mp ha with rfl | rfl | rfl | rfl
    all_goals decide
  obtain ⟨hd, hlt, hb, hl, hw⟩ := hf
  rw [busPut_register hu hd (tenantBarred_register (.inl hlt)) (by omega) hl hw, regWrite_rru hb, writeRru_pll ha]

/-- The bus write where the block asks for no abandonment. -/
theorem busPut_pll_of_not_asked {who : Initiator} {a : Nat} {v : Word} {s t : State} (hu : busOpen s who = true)
    (ha : a ∈ pllRegs) (ht : (writePll a v s).2 = t) (hk : t.rru.acqAbandon = s.rru.acqAbandon) (hq : s.rru.acqAbandon = false) :
    busPut who a v s = t := by
  rw [busPut_pll hu ha, ht, acqAbandons_of_not_asked (hk.trans hq)]

/-- The three registers of a configuration write are registers of the loop. -/
theorem pllConfig_mem_pllRegs (reg : Fin 3) : A.RRU_PLL_CTRL + 4 * reg.val ∈ pllRegs := by
  revert reg
  decide

theorem pllConfig_offset (reg : Fin 3) : (A.RRU_PLL_CTRL + 4 * reg.val) % 0x10000 = 0x100 + 4 * reg.val := by
  revert reg
  decide

/-- R61: a write of RRU_PLL_CW reaches only fields that the head gives. -/
theorem busPut_pllCw {who : Initiator} {v : Word} {s : State} (hu : busOpen s who = true) (hq : s.rru.acqAbandon = false) :
    busPut who A.RRU_PLL_CW v s = plainWrite A.RRU_PLL_CW v s := by
  rw [busPut_register hu (by decide) (tenantBarred_register (.inl (by decide))) (by decide) (by decide) (by decide),
    regWrite_rru (by decide), writeRru_pllCw]
  exact acqAbandons_of_not_asked (by simpa using hq)

/-! ## The commands -/

/-- Settles O12: the write of the block by the values of EN before and after, with the abandonment that a restart alone asks for. -/
theorem pllRegisterWrites : Obligations.PllRegisterWrites := by
  unfold Obligations.PllRegisterWrites
  have hctrl : A.RRU_PLL_CTRL ∈ pllRegs := by decide
  have hrestart : A.RRU_PLL_RESTART ∈ pllRegs := by decide
  refine ⟨fun s who v hu hr hs hp hv hq => ?_, fun s who v hu hr hs hv hq => ⟨?_, rfl, rfl⟩, fun s who reg v hu hr hs hv hp => ?_,
    fun s who reg v hu hr hs hv hq => ?_, fun s who reg v hu hr hq => ?_, fun s who v hu hs hp => ?_, fun s who v hu hs hq => ?_,
    fun s who v hu hq => ?_⟩
  · have hw := writePll_enables hr hs ((pllEn_plainWrite_ctrl v s).trans hv)
    refine ⟨fun hm => congrArg Host.Outcome.next ?_, fun hm => congrArg Host.Outcome.next ?_⟩
    · exact busPut_pll_of_not_asked hu hctrl (hw.trans (by simp [hm, enablePll, hp])) (by simp) hq
    · exact busPut_pll_of_not_asked hu hctrl (hw.trans (by simp [hm])) (by simp) hq
  · have hw := writePll_stops hr hs ((pllEn_plainWrite_ctrl v s).trans hv)
    exact congrArg Host.Outcome.next (busPut_pll_of_not_asked hu hctrl hw (by simp [stopPll, stopOutputs]) hq)
  · have hw := writePll_restarts hr hs (pllEn_plainWrite_config hs hv) hp
    rw [pllConfig_offset] at hw
    exact congrArg Host.Outcome.next ((busPut_pll hu (pllConfig_mem_pllRegs reg)).trans (congrArg acqAbandons hw))
  · have hw := writePll_keepsOff hr hs (pllEn_plainWrite_config hs hv)
    exact congrArg Host.Outcome.next (busPut_pll_of_not_asked hu (pllConfig_mem_pllRegs reg) hw (by simp) hq)
  · have hw := writePll_outOfRange hr
    rw [pllConfig_offset] at hw
    exact congrArg Host.Outcome.next (busPut_pll_of_not_asked hu (pllConfig_mem_pllRegs reg) hw (by simp) hq)
  · have hw := writePll_restarts (rruRangeOk_unranged (.inr rfl) s v) hs ((pllEn_plainWrite_ne (by decide)).trans hs) hp
    exact congrArg Host.Outcome.next ((busPut_pll hu hrestart).trans (congrArg acqAbandons hw))
  · have hw := writePll_keepsOff (rruRangeOk_unranged (.inr rfl) s v) hs ((pllEn_plainWrite_ne (by decide)).trans hs)
    exact congrArg Host.Outcome.next (busPut_pll_of_not_asked hu hrestart hw (by simp) hq)
  · exact ⟨plainWrite A.RRU_PLL_CW v s, congrArg Host.Outcome.next (busPut_pllCw hu hq), by simp,
      rawReg_plainWrite_of_readOnly (by decide) (by decide)⟩

end Sys2Proof.Machine
end

section
/-! The time of day (R91, R100 to R107) and the latched read of the timebase (R94, R96). -/

namespace Sys2Proof.Machine

/-! ## One tick of the time of day (R100 to R105) -/

/-- The state in which the time of day takes its tick: TB and the watchdog's oscillator have counted. -/
def tickCounted (s : State) : State :=
  rcTick ((endFresh s).onTmb fun t => { t with
    tb := t.tb + 1
    units := t.units.mapIdx fun u x => { x with active := ((List.range 8).map (unitActive (endFresh s))).getD u false } })

theorem tickCounted_tmb (s : State) : ∃ units, (tickCounted s).tmb = { s.tmb with tb := s.tmb.tb + 1, units := units } := ⟨_, rfl⟩
@[simp] theorem tickCounted_regs (s : State) : (tickCounted s).regs = s.regs := rfl
@[simp] theorem tickCounted_mem (s : State) : (tickCounted s).mem = s.mem := rfl

/-- While TB runs, a tick counts and moves the time of day; after that it changes only the head's own part (its seconds in a state). -/
theorem tick_of_run {s : State} (h : s.tmb.run = true) : ∃ g, tick s = (tickTod (tickCounted s)).onHead g := by
  have hr : (!(endFresh s).tmb.run) = false := by simp [endFresh, h]
  unfold tick
  simp only [hr, Bool.false_eq_true, if_false]
  split
  · exact ⟨_, rfl⟩
  · exact ⟨id, rfl⟩

/-- R103: a commit wins over an adjustment, the advance and the roll-over. -/
theorem tickTod_commit {s : State} {sec : BitVec 48} {ns : Nat} (h : s.tmb.commit = some (sec, ns)) :
    (tickTod s).tmb = { s.tmb with todSec := sec, todNs := ns, commit := none, adj := none, todFrac := 0 } := by
  unfold tickTod
  rw [h]
  cases s.tmb.adj with
  | none => rfl
  | some d => exact raise_tmb _ _ _

theorem tick_commit {s : State} {sec : BitVec 48} {ns : Nat} (hr : s.tmb.run = true) (h : s.tmb.commit = some (sec, ns)) :
    ∃ units, (tick s).tmb = { s.tmb with
      tb := s.tmb.tb + 1, units := units, todSec := sec, todNs := ns, commit := none, adj := none, todFrac := 0 } := by
  obtain ⟨g, ht⟩ := tick_of_run hr
  obtain ⟨units, hu⟩ := tickCounted_tmb s
  refine ⟨units, ?_⟩
  rw [ht, onHead_tmb, tickTod_commit (s := tickCounted s) (by rw [hu]; exact h), hu]

/-- R100: at its nominal frequency a tick adds 4 ns. -/
theorem tickNs_nominal {s : State} (hf : rawReg s A.TMB_TOD_FREQ = 0) (hp : s.tmb.todFrac = 0) : tickNs s = (4, 0) := by
  simp [tickNs, hf, hp]

theorem tickTod_advance {s : State} (hc : s.tmb.commit = none) : tickTod s =
    moveTod ((tickNs s).1 + s.tmb.adj.getD 0) (s.onTmb fun t => { t with adj := none, todFrac := (tickNs s).2 }) := by
  unfold tickTod
  rw [hc]

/-- R100: a move past 999,999,999 ns into the next second wraps the nanoseconds and carries 1 into the seconds. -/
theorem moveTod_carry {s : State} {d : Nat} (hlt : s.tmb.todNs + d < 2 * nsPerSecond) (hge : nsPerSecond ≤ s.tmb.todNs + d) :
    moveTod d s = s.onTmb fun t => { t with todSec := t.todSec + 1, todNs := t.todNs + d - nsPerSecond } := by
  unfold nsPerSecond at hlt hge
  have hdiv : ((s.tmb.todSec.toNat * nsPerSecond + s.tmb.todNs : Nat) + (d : Int)) / (nsPerSecond : Int) =
      ((s.tmb.todSec.toNat + 1 : Nat) : Int) := by
    unfold nsPerSecond
    omega
  have hmod : (((s.tmb.todSec.toNat * nsPerSecond + s.tmb.todNs : Nat) + (d : Int)) % (nsPerSecond : Int)).toNat =
      s.tmb.todNs + d - nsPerSecond := by
    unfold nsPerSecond
    omega
  have hsec : BitVec.ofNat 48 (s.tmb.todSec.toNat + 1) = s.tmb.todSec + 1 := by
    rw [BitVec.ofNat_add, BitVec.ofNat_toNat, BitVec.setWidth_eq]
    rfl
  unfold moveTod
  simp only [hdiv, hmod, BitVec.ofInt_natCast, hsec]
  rfl

/-- R100: the nominal tick in which a second ends, with no commit and no adjustment. -/
theorem tickTod_carry {s : State} (hf : rawReg s A.TMB_TOD_FREQ = 0) (hp : s.tmb.todFrac = 0) (hc : s.tmb.commit = none)
    (ha : s.tmb.adj = none) (hlt : s.tmb.todNs < nsPerSecond) (hge : nsPerSecond ≤ s.tmb.todNs + 4) :
    tickTod s = s.onTmb fun t => { t with adj := none, todFrac := 0, todSec := t.todSec + 1, todNs := t.todNs + 4 - nsPerSecond } := by
  rw [tickTod_advance hc, tickNs_nominal hf hp, ha]
  refine moveTod_carry (d := 4) ?_ hge
  unfold nsPerSecond at hlt ⊢
  show s.tmb.todNs + 4 < _
  omega

theorem rolloverDue_nominal {s : State} (hf : rawReg s A.TMB_TOD_FREQ = 0) (hp : s.tmb.todFrac = 0) (ha : s.tmb.adj = none)
    (hge : nsPerSecond ≤ s.tmb.todNs + 4) : rolloverDue s = true := by
  unfold rolloverDue
  rw [tickNs_nominal hf hp, ha]
  simp only [Option.getD_none, decide_eq_true_eq]
  omega

/-- Settles O20: a tick is the count of TB and the tick of the time of day, which takes a commit as it stands or carries past a second. -/
theorem secondRollOver : Obligations.SecondRollOver := by
  unfold Obligations.SecondRollOver
  refine ⟨fun s hd => congrArg Host.Outcome.next (if_pos hd), fun s hr hf hp hc ha hlt hge => ⟨rolloverDue_nominal hf hp ha hge, ?_⟩,
    fun s sec ns hr hc => ?_⟩
  · obtain ⟨g, ht⟩ := tick_of_run hr
    obtain ⟨units, hu⟩ := tickCounted_tmb s
    have hcarry := tickTod_carry (s := tickCounted s) hf (by rw [hu]; exact hp) (by rw [hu]; exact hc) (by rw [hu]; exact ha)
      (by rw [hu]; exact hlt) (by rw [hu]; exact hge)
    rw [ht, hcarry]
    simp [hu, nsPerSecond]
  · obtain ⟨units, ht⟩ := tick_commit hr hc
    simp [ht]

/-! ## Writes of the time of day (R102, R104 to R107) -/

/-- The registers by which the time of day is written. -/
def todRegs : List Nat :=
  [A.TMB_TOD_SET_SEC_LO, A.TMB_TOD_SET_SEC_HI, A.TMB_TOD_SET_NS, A.TMB_TOD_ADJ, A.TMB_TOD_FREQ, A.TMB_TOD_CTRL]

/-- A write of the time of day on the bus is its write in the block. -/
theorem busPut_tod {who : Initiator} {a : Nat} {v : Word} {s : State} (hu : busOpen s who = true) (ha : a ∈ todRegs) :
    busPut who a v s = (writeTmb a v s).2 := by
  have hf : ∀ a ∈ todRegs, wordDefined a = true ∧ a < 0xC0020 ∧ a / 0x10000 = 2 ∧ maskOf (fun d => d.acc == .rwl) (fieldsAt a) = 0 ∧
      maskOf (fun d => d.acc == .w1s && !d.sensed) (fieldsAt a) = 0 := by decide
  obtain ⟨hd, hlt, hb, hl, hw⟩ := hf a ha
  rw [busPut_register hu hd (tenantBarred_register (.inl hlt)) (by omega) hl hw]
  unfold regWrite
  rw [hb]
  rfl

/-- The commands that write the time of day, from the write in the block. -/
theorem next_busPut_tod {who : Initiator} {a : Nat} {v : Word} {s t : State} (hu : busOpen s who = true) (ha : a ∈ todRegs)
    (ht : (writeTmb a v s).2 = t) : (.next (busPut who a v s) : Host.Outcome State Fault Refusal) = .next t :=
  congrArg Host.Outcome.next ((busPut_tod hu ha).trans ht)

section
variable {a : Nat} {v : Word} {s : State}

/-- R106: while the servo runs, it alone writes the registers that it holds. -/
theorem writeTmb_servoHeld (ha : servoHeld a = true) (hs : flagF s R.TMB_TOD_CTRL_SERVO_EN = true) :
    (writeTmb a v s).2 = raise 0x0208 [.h (a % 0x10000)] s := by
  simp [writeTmb, rejectWrite, ha, hs]

theorem writeTmb_outOfRange (hs : flagF s R.TMB_TOD_CTRL_SERVO_EN = false) (hr : tmbRangeOk s a v = false) :
    (writeTmb a v s).2 = raise 0x020B [.h (a % 0x10000)] s := by
  simp [writeTmb, rejectWrite, hs, hr]

/-- R102: the write that commits. -/
theorem writeTmb_setNs (hs : flagF s R.TMB_TOD_CTRL_SERVO_EN = false) (hr : tmbRangeOk s A.TMB_TOD_SET_NS v = true) :
    (writeTmb A.TMB_TOD_SET_NS v s).2 = s.onTmb fun t => { t with
      commit := some (BitVec.ofNat 48 (getF s R.TMB_TOD_SET_SEC_HI * 2 ^ 32 + getF s R.TMB_TOD_SET_SEC_LO), v.toNat % 2 ^ 30) } := by
  simp [writeTmb, hs, hr]

/-- R105: the write that adjusts. -/
theorem writeTmb_adj (hs : flagF s R.TMB_TOD_CTRL_SERVO_EN = false) (hr : tmbRangeOk s A.TMB_TOD_ADJ v = true) :
    (writeTmb A.TMB_TOD_ADJ v s).2 = s.onTmb fun t => { t with adj := some v.toInt } := by
  have hne : A.TMB_TOD_ADJ ≠ A.TMB_TOD_SET_NS := by decide
  simp [writeTmb, hs, hr, hne]

theorem writeTmb_todCtrl (hr : tmbRangeOk s A.TMB_TOD_CTRL v = true) :
    (writeTmb A.TMB_TOD_CTRL v s).2 = writeTodCtrl A.TMB_TOD_CTRL v s := by
  have hh : servoHeld A.TMB_TOD_CTRL = false := by decide
  have hns : A.TMB_TOD_CTRL ≠ A.TMB_TOD_SET_NS := by decide
  have hadj : A.TMB_TOD_CTRL ≠ A.TMB_TOD_ADJ := by decide
  simp [writeTmb, hh, hr, hns, hadj]

/-- R102: the seconds are only staged. -/
theorem writeTmb_setSec (ha : a = A.TMB_TOD_SET_SEC_LO ∨ a = A.TMB_TOD_SET_SEC_HI) : (writeTmb a v s).2 = plainWrite a v s := by
  rcases ha with rfl | rfl
  · rfl
  · rfl

/-- SERVO_EN takes bit 31 of the word written. -/
theorem servoEn_plainWrite (v : Word) (s : State) :
    flagF (plainWrite A.TMB_TOD_CTRL v s) R.TMB_TOD_CTRL_SERVO_EN = v.getLsbD 31 :=
  (flagF_eq_getLsbD rfl).trans (plainWrite_bit (by decide) (by decide))

/-- R107: SERVO_EN goes from 0 to 1. -/
theorem writeTodCtrl_enables (hs : flagF s R.TMB_TOD_CTRL_SERVO_EN = false) (hv : v.getLsbD 31 = true) :
    writeTodCtrl A.TMB_TOD_CTRL v s = acquireTod (plainWrite A.TMB_TOD_CTRL v s) := by
  have hn : flagF (plainWrite A.TMB_TOD_CTRL v s) R.TMB_TOD_CTRL_SERVO_EN = true := (servoEn_plainWrite v s).trans hv
  simp [writeTodCtrl, hs, hn]

/-- R107: SERVO_EN goes from 1 to 0. -/
theorem writeTodCtrl_disables (hs : flagF s R.TMB_TOD_CTRL_SERVO_EN = true) (hv : v.getLsbD 31 = false) :
    writeTodCtrl A.TMB_TOD_CTRL v s = freeTod (plainWrite A.TMB_TOD_CTRL v s) := by
  have hn : flagF (plainWrite A.TMB_TOD_CTRL v s) R.TMB_TOD_CTRL_SERVO_EN = false := (servoEn_plainWrite v s).trans hv
  simp [writeTodCtrl, hs, hn]

end

theorem tmbRangeOk_setNs (s : State) (v : Word) : tmbRangeOk s A.TMB_TOD_SET_NS v = decide (v.toNat % 2 ^ 30 < 1000000000) := rfl

theorem tmbRangeOk_adj (s : State) (v : Word) :
    tmbRangeOk s A.TMB_TOD_ADJ v = (decide (-500000000 ≤ v.toInt) && decide (v.toInt ≤ 500000000)) := rfl

/-- Settles O19: each write is its write in the block, by the register, the range of its value and SERVO_EN. -/
theorem timeOfDayWrites : Obligations.TimeOfDayWrites := by
  unfold Obligations.TimeOfDayWrites
  have hlo : A.TMB_TOD_SET_SEC_LO ∈ todRegs := by decide
  have hhi : A.TMB_TOD_SET_SEC_HI ∈ todRegs := by decide
  have hns : A.TMB_TOD_SET_NS ∈ todRegs := by decide
  have hadj : A.TMB_TOD_ADJ ∈ todRegs := by decide
  have hfreq : A.TMB_TOD_FREQ ∈ todRegs := by decide
  have hctrl : A.TMB_TOD_CTRL ∈ todRegs := by decide
  refine ⟨fun s who v hu => ⟨?_, ?_, plainWrite_tmb _ _ _, plainWrite_tmb _ _ _⟩, fun s who v hu hs hv => ?_, fun s who v hu hs hv => ?_,
    fun s sec ns hr hc => ?_, fun s who v hu hs hl hh => ?_, fun s who v hu hs => ⟨?_, ?_, ?_⟩, fun s who v hu hs hr hv => ?_,
    fun s who v hu hs hr hv => ?_, fun s hs => congrArg Host.Outcome.next (if_pos hs)⟩
  · exact next_busPut_tod hu hlo (writeTmb_setSec (.inl rfl))
  · exact next_busPut_tod hu hhi (writeTmb_setSec (.inr rfl))
  · exact next_busPut_tod hu hns (writeTmb_setNs hs ((tmbRangeOk_setNs s v).trans (decide_eq_true hv)))
  · exact next_busPut_tod hu hns (writeTmb_outOfRange hs ((tmbRangeOk_setNs s v).trans (decide_eq_false (by omega))))
  · obtain ⟨units, ht⟩ := tick_commit hr hc
    simp [ht]
  · exact next_busPut_tod hu hadj (writeTmb_adj hs (by simp [tmbRangeOk_adj, hl, hh]))
  · exact next_busPut_tod hu hns (writeTmb_servoHeld (by decide) hs)
  · exact next_busPut_tod hu hadj (writeTmb_servoHeld (by decide) hs)
  · exact next_busPut_tod hu hfreq (writeTmb_servoHeld (by decide) hs)
  · exact ⟨acquireTod (plainWrite A.TMB_TOD_CTRL v s),
      next_busPut_tod hu hctrl ((writeTmb_todCtrl hr).trans (writeTodCtrl_enables hs hv)), rfl, (servoEn_plainWrite v s).trans hv,
      fun _ ha => rawReg_plainWrite_ne ha, plainWrite_mem _ _ _, by simp [acquireTod]⟩
  · exact ⟨freeTod (plainWrite A.TMB_TOD_CTRL v s),
      next_busPut_tod hu hctrl ((writeTmb_todCtrl hr).trans (writeTodCtrl_disables hs hv)), rfl, (servoEn_plainWrite v s).trans hv,
      fun _ ha => rawReg_plainWrite_ne ha, plainWrite_mem _ _ _, by simp [freeTod]⟩

/-! ## The latched read of TB (R94, R96) -/

/-- A word that the state holds outside the register store, in a register without RC fields, reads as it stands. -/
theorem liveWord_of_sensed {s : State} {a : Nat} {v : Word} (ha : a < 0x130000) (h : sensedWord s a = some v)
    (hrc : maskOf (fun d => d.acc == .rc && !d.sensed) (fieldsAt a) = 0) : liveWord s a = v := by
  have hn : ~~~(0 : Word) = BitVec.allOnes 32 := by decide
  have hm : ∀ b : Word, (v &&& ~~~(0 : Word)) ||| (b &&& 0) = v := fun b => by
    rw [hn, BitVec.and_allOnes]
    exact (congrArg (v ||| ·) BitVec.and_zero).trans BitVec.or_zero
  unfold liveWord regWord
  simp only [ha, if_true, h, hrc, hm]

/-- A read of TMB_TB_LO answers the low half of TB and does nothing but latch. -/
theorem busRead_tbLo (who : Initiator) (s : State) :
    busRead who A.TMB_TB_LO s = (s.tmb.tb.extractLsb' 0 32, latch who A.TMB_TB_LO s) := by
  have hd : wordDefined A.TMB_TB_LO = true := by decide
  have hs : shadowed A.TMB_TB_LO = false := by decide
  have hw : liveWord s A.TMB_TB_LO = s.tmb.tb.extractLsb' 0 32 := liveWord_of_sensed (by decide) rfl (by decide)
  have he : ∀ t, readEffect A.TMB_TB_LO t = t := fun t => by
    have hrc : maskOf (fun d => d.acc == .rc && !d.sensed) (fieldsAt A.TMB_TB_LO) = 0 := by decide
    have hc : clearRead A.TMB_TB_LO t = t := by
      unfold clearRead
      exact if_pos hrc
    unfold readEffect
    rw [hc]
    rfl
  unfold busRead
  rw [hd, hs, hw, he]
  rfl

/-- R94: the shadow of TMB_TB_HI holds the high half of TB. -/
theorem shadowsOf_latch_tbLo (who : Initiator) (s : State) :
    shadowsOf (latch who A.TMB_TB_LO s) who = Tbl.set (shadowsOf s who) A.TMB_TB_HI (s.tmb.tb.extractLsb' 32 32) := by
  have hw : liveWord s A.TMB_TB_HI = s.tmb.tb.extractLsb' 32 32 := liveWord_of_sensed (by decide) rfl (by decide)
  rw [← hw]
  simp [shadowsOf, latch, latchCount, A.TMB_TB_LO, A.TMB_TB_HI]

/-- R96: a read leaves the shadows of the other initiators. -/
theorem shadowsOf_latch_other {who other : Initiator} (h : shadowOwner other ≠ shadowOwner who) (a : Nat) (s : State) :
    shadowsOf (latch who a s) other = shadowsOf s other := by
  have hne : (shadowOwner who == shadowOwner other) = false := beq_false_of_ne (Ne.symm h)
  have hf : ∀ x : Shadow, (x.who != shadowOwner who && x.who == shadowOwner other) = (x.who == shadowOwner other) := fun x => by
    by_cases hx : x.who = shadowOwner other
    · simp [hx, h]
    · simp [hx]
  by_cases hn : latchCount a = 0
  · simp only [latch, hn, if_true]
  · simp only [shadowsOf, latch, hn, if_false, List.find?_cons, hne, List.find?_filter, Bool.decide_and, Bool.decide_eq_true, hf]

/-- A read on an open bus. -/
theorem latchedLowRead_of_open {who : Initiator} {s : State} (hu : busOpen s who = true) (a : Nat) :
    exec (.latchedLowRead who a) s = .next (busRead who a s).2 := congrArg Host.Outcome.next (if_pos hu)

/-- A read by an initiator that does not reach the bus. -/
theorem latchedLowRead_of_closed {who : Initiator} {s : State} (hu : busOpen s who = false) (a : Nat) :
    exec (.latchedLowRead who a) s = .next s := congrArg Host.Outcome.next (if_neg (by simp [hu]))

/-- A read of TMB_TB_HI answers what the shadow holds. -/
theorem busRead_tbHi (who : Initiator) (s : State) : (busRead who A.TMB_TB_HI s).1 = Tbl.getD (shadowsOf s who) A.TMB_TB_HI 0 := by
  have hd : wordDefined A.TMB_TB_HI = true := by decide
  have hs : shadowed A.TMB_TB_HI = true := by decide
  unfold busRead
  rw [hd, hs]
  rfl

/-- R94, R96: what O59 says of the latched read holds for an initiator that reaches the bus (`busOpen` in place of `busUp`). -/
theorem latchedTimebase_of_busOpen :
    (∀ (s : State) (who : Initiator), (busRead who A.TMB_TB_LO s).1 = s.tmb.tb.extractLsb' 0 32) ∧
    (∀ (s : State) (who : Initiator), Tbl.getD (shadowsOf (busRead who A.TMB_TB_LO s).2 who) A.TMB_TB_HI 0 = s.tmb.tb.extractLsb' 32 32) ∧
    (∀ (s : State) (who : Initiator), (busRead who A.TMB_TB_HI s).1 = Tbl.getD (shadowsOf s who) A.TMB_TB_HI 0) ∧
    (∀ (s : State) (who other : Initiator), busOpen s who = true →
      ∃ t, exec (.latchedLowRead who A.TMB_TB_LO) s = .next t ∧ t = (busRead who A.TMB_TB_LO s).2 ∧ t.regs = s.regs ∧ t.mem = s.mem ∧
        t.tmb = s.tmb ∧ (shadowOwner other ≠ shadowOwner who → shadowsOf t other = shadowsOf s other)) := by
  refine ⟨fun s who => by rw [busRead_tbLo], fun s who => ?_, fun s who => busRead_tbHi who s,
    fun s who other hu => ⟨_, latchedLowRead_of_open hu _, rfl, ?_⟩⟩
  · rw [busRead_tbLo, shadowsOf_latch_tbLo, Tbl.getD, Tbl.get?_set_self, Option.getD_some]
  · rw [busRead_tbLo]
    exact ⟨rfl, rfl, rfl, fun h => shadowsOf_latch_other h _ s⟩

/-- Refutes O59: a disabled JTAG port ignores its clock (R939), so while the die is up a read of TMB_TB_LO by it latches nothing. The
head below runs, its fuses have removed JTAG (R791), and TB has 1 in its high half. -/
theorem not_latchedTimebase : ¬ Obligations.LatchedTimebase := by
  unfold Obligations.LatchedTimebase
  rintro ⟨-, hlatch, -, hread⟩
  have hclosed : ∃ s : State, busUp s = true ∧ busOpen s .jtag = false ∧
      Tbl.getD (shadowsOf s .jtag) A.TMB_TB_HI 0 ≠ s.tmb.tb.extractLsb' 32 32 :=
    ⟨{ State.reset with head := { st := .running }, fus := { wires := { rmJtag := true } }, tmb := { tb := 0x100000000 } }, by decide⟩
  obtain ⟨s, hup, hshut, hstale⟩ := hclosed
  obtain ⟨t, ht, hlo, -⟩ := hread s .jtag .core hup
  rw [latchedLowRead_of_closed hshut] at ht
  have hkeep : s = (busRead .jtag A.TMB_TB_LO s).2 := (Host.Outcome.next.inj ht).trans hlo
  exact hstale ((congrArg (fun u => Tbl.getD (shadowsOf u .jtag) A.TMB_TB_HI 0) hkeep).trans (hlatch s .jtag))

end Sys2Proof.Machine
end

section
/-! The fuse wires (R784, R785): what a command or a tick keeps, where only the wires are asked for. -/

namespace Sys2Proof.Machine

/-- Of the parts that a change may leave alone, the fuse wires only: a command may write memory, move TB or F, or reset the die. -/
def What.wiresOnly : What := ⟨true, false, false, false, false⟩

/-- R785: every command but the application of mains completes and keeps the fuse wires. The cases that many commands share are the
writes and reads on the bus, the requests of stewards and tenants, and the commands of the fuse block; then come those that end a fuse
word, restart the core or the die, enter or leave SLEEP, park, or end a tick (which may enter HOLD). Every other command is one
operation of its chapter, with its own lemma in Keeps.lean. -/
theorem exec_keeps_wires {c : Instr} (hc : c ≠ .mainsApplied) (s : State) : ∃ t, exec c s = .next t ∧ Keeps .wiresOnly s t := by
  have hm : What.wiresOnly.mem = false := rfl
  have hf : What.wiresOnly.f = false := rfl
  cases c with
  | mainsApplied => exact absurd rfl hc
  | pllEnable | pllDisable | pllConfigWrite | pllRestartGo | todSetNsWrite | todAdjWrite | todServoEnable | todServoDisable
  | compareEnable | tileForceOff | tileFaultClr | coolerFaultClr | setpointWrite | subbankForceOff | subbankFaultClr
  | geoDescriptorWrite | memoryWindowWrite | filterPosWrite | shutWrite | ctgRetry | refSelWrite | engInjWrite | tgeThrTxfWrite
  | tgeFlagSetWrite | tgeFlagClrWrite | tenCommit | tenKeyInstall | tenKeyErase | barrierReqArm | barrierReqStop | barrierReqStart
  | pwrDomFclrWrite | wdgService | wdgEnable | fltAckWrite | fltAckAll | registerWrite =>
    exact ⟨_, rfl, keeps_busPut keeps_refl rfl⟩
  | ctgMemDataRead | tgeThrRxfRead | registerReadClear | latchedLowRead => exact ⟨_, rfl, keeps_doBusRead keeps_refl⟩
  | imageWriteOpen | imageWriteData | imageWriteClose | imageWriteAbort | read | write | rmw | bulkRead | bulkWrite | headCmdSleep
  | headCmdRelease | nop | close =>
    exact ⟨_, rfl, keeps_sessionOp keeps_refl rfl⟩
  | subscribe | tenantWindowSet | tenantWindowRemove => exact ⟨_, rfl, keeps_tenantDirect keeps_refl rfl⟩
  | fuseProgramWord | fuseAdvance | fuseJtagUnlock => exact ⟨_, rfl, keeps_fuseCommand keeps_refl rfl⟩
  | fuseWordComplete => exact ⟨_, rfl, keeps_doFuseWordComplete keeps_refl⟩
  | coreRestartComplete => exact ⟨_, rfl, keeps_doCoreRestartComplete keeps_refl⟩
  | dieRestartComplete => exact ⟨_, rfl, keeps_doDieRestartComplete keeps_refl rfl rfl⟩
  | deferTimeout => exact ⟨_, rfl, keeps_doDeferTimeout keeps_refl rfl rfl rfl rfl⟩
  | wdgExpiry => exact ⟨_, rfl, keeps_doWdgExpiry keeps_refl⟩
  | sleepEntryComplete => exact ⟨_, rfl, keeps_doSleepEntryComplete keeps_refl⟩
  | systemPllLock => exact ⟨_, rfl, keeps_doSystemPllLock keeps_refl rfl rfl rfl rfl⟩
  | parked => exact ⟨_, rfl, keeps_doParked keeps_refl⟩
  | parkRestart => exact ⟨_, rfl, keeps_doParkRestart keeps_refl rfl rfl rfl rfl⟩
  | alwaysOnPowerLoss => exact ⟨_, rfl, keeps_doAlwaysOnPowerLoss keeps_refl⟩
  | todSecondRollover => exact ⟨_, rfl, keeps_doTodSecondRollover keeps_refl rfl rfl rfl rfl⟩
  | _ => exact ⟨_, rfl, by simp [hm, hf]⟩

/-- R785: a step that does not take MAINS_APPLIED from the queue leaves the fuse wires: a tick as well as every other command. -/
theorem step_wires {s t : State} (ht : step s = .next t) (hm : s.pending.head? ≠ some .mainsApplied) : t.fus.wires = s.fus.wires := by
  unfold step at ht
  split at ht
  next =>
    obtain rfl := Host.Outcome.next.inj ht
    have hk : Keeps .wiresOnly s (idle s) := keeps_idle keeps_refl rfl rfl rfl rfl
    exact hk.wires rfl
  next c rest hq =>
    have hc : c ≠ .mainsApplied := by simpa [hq] using hm
    obtain ⟨u, hu, hk⟩ := exec_keeps_wires hc { s with pending := rest }
    obtain rfl := Host.Outcome.next.inj (hu.symm.trans ht)
    exact hk.wires rfl

/-- Settles O6: each command and the tick keeps the wires by what its operation keeps, and the sense of the fuses, which alone loads
them, runs only where mains is applied. -/
theorem fuseWiresChangeOnlyAtPowerOn : Obligations.FuseWiresChangeOnlyAtPowerOn := by
  unfold Obligations.FuseWiresChangeOnlyAtPowerOn
  refine ⟨fun c s hc => ?_, fun s t ht hm => step_wires ht hm⟩
  obtain ⟨t, ht, hk⟩ := exec_keeps_wires hc s
  exact ⟨t, ht, hk.wires rfl⟩

end Sys2Proof.Machine
end

section
/-! What each command keeps, said once for every command: the queue and the invariant always, and those of the fuse wires, the memory
windows, TB, the LOCK bits and F that no operation of it changes. -/

namespace Sys2Proof.Machine

/-- The parts that a command leaves alone. Mains senses the fuses, and it, the restarts of the die and the end of a tick reset or move
everything else; the end of the die's restart makes TB up; a frame boundary moves F; the commands of the last group may write the
memory windows. -/
def leaves : Instr → What
  | .mainsApplied => ⟨false, false, false, false, false⟩
  | .systemPllLock .. | .deferTimeout | .todSecondRollover | .parkRestart .. => ⟨true, false, false, false, false⟩
  | .dieRestartComplete .. => ⟨true, false, false, true, true⟩
  | .rasterFrameBoundary .. => ⟨true, false, true, true, false⟩
  | .barrierReqArm .. | .barrierReqStart .. | .barrierReqStop .. | .bulkRead .. | .bulkWrite .. | .close .. | .compareEnable ..
  | .coolerFaultClr .. | .counterClearWrite .. | .ctgRetry .. | .engInjWrite .. | .filterPosWrite .. | .fltAckAll .. | .fltAckWrite ..
  | .fuseAdvance .. | .fuseJtagUnlock .. | .fuseProgramWord .. | .geoDescriptorWrite .. | .headCmdRelease .. | .headCmdSleep ..
  | .imageReadComplete .. | .imageWriteAbort .. | .imageWriteClose .. | .imageWriteData .. | .imageWriteOpen .. | .laneFrameClose ..
  | .leaseExpired .. | .lockBitSet .. | .memoryWindowWrite .. | .nop .. | .pfWarning .. | .pllConfigWrite .. | .pllDisable ..
  | .pllEnable .. | .pllRestartGo .. | .pwrDomFclrWrite .. | .read .. | .refSelWrite .. | .registerWrite .. | .retransmit .. | .rmw ..
  | .rowGroupReadComplete .. | .rowPacketReceived .. | .setpointWrite .. | .shutWrite .. | .sliceStuck .. | .stewardReq ..
  | .subbankFaultClr .. | .subbankForceOff .. | .subscribe .. | .tenCommit .. | .tenKeyErase .. | .tenKeyInstall ..
  | .tenantRequestDequeue | .tenantWindowRemove .. | .tenantWindowSet .. | .tgeFlagClrWrite .. | .tgeFlagSetWrite ..
  | .tgeThrTxfWrite .. | .tileFaultClr .. | .tileForceOff .. | .todAdjWrite .. | .todServoDisable .. | .todServoEnable ..
  | .todSetNsWrite .. | .wdgEnable .. | .wdgService .. | .write .. => ⟨true, false, true, true, true⟩
  | _ => .all

/-- Every command completes and keeps what `leaves` says: the commands that may write memory, those that reset or start the die, and
those with a frame boundary by the lemma of their operation, every other command by the `simp` lemma of its own. -/
theorem exec_keeps_leaves (c : Instr) (s : State) : ∃ t, exec c s = .next t ∧ Keeps (leaves c) s t := by
  cases c with
  | pllEnable | pllDisable | pllConfigWrite | pllRestartGo | todSetNsWrite | todAdjWrite | todServoEnable | todServoDisable
  | compareEnable | tileForceOff | tileFaultClr | coolerFaultClr | setpointWrite | subbankForceOff | subbankFaultClr
  | geoDescriptorWrite | memoryWindowWrite | filterPosWrite | shutWrite | ctgRetry | refSelWrite | engInjWrite | tgeThrTxfWrite
  | tgeFlagSetWrite | tgeFlagClrWrite | tenCommit | tenKeyInstall | tenKeyErase | barrierReqArm | barrierReqStop | barrierReqStart
  | pwrDomFclrWrite | wdgService | wdgEnable | fltAckWrite | fltAckAll | registerWrite =>
    exact ⟨_, rfl, keeps_busPut keeps_refl rfl⟩
  | imageWriteOpen | imageWriteData | imageWriteClose | imageWriteAbort | read | write | rmw | bulkRead | bulkWrite | headCmdSleep
  | headCmdRelease | nop | close =>
    exact ⟨_, rfl, keeps_sessionOp keeps_refl rfl⟩
  | subscribe | tenantWindowSet | tenantWindowRemove => exact ⟨_, rfl, keeps_tenantDirect keeps_refl rfl⟩
  | fuseProgramWord | fuseAdvance | fuseJtagUnlock => exact ⟨_, rfl, keeps_fuseCommand keeps_refl rfl⟩
  | lockBitSet => exact ⟨_, rfl, keeps_doLockBitSet keeps_refl rfl⟩
  | counterClearWrite => exact ⟨_, rfl, keeps_doCounterClear keeps_refl rfl⟩
  | stewardReq => exact ⟨_, rfl, keeps_doStewardReq keeps_refl rfl⟩
  | retransmit => exact ⟨_, rfl, keeps_doRetransmit keeps_refl rfl⟩
  | tenantRequestDequeue => exact ⟨_, rfl, keeps_doTenantRequestDequeue keeps_refl rfl⟩
  | imageReadComplete => exact ⟨_, rfl, keeps_doImageReadComplete keeps_refl rfl⟩
  | rowGroupReadComplete => exact ⟨_, rfl, keeps_doRowGroupReadComplete keeps_refl rfl⟩
  | laneFrameClose => exact ⟨_, rfl, keeps_doLaneFrameClose keeps_refl rfl⟩
  | sliceStuck => exact ⟨_, rfl, keeps_doSliceStuck keeps_refl rfl⟩
  | leaseExpired => exact ⟨_, rfl, keeps_doLeaseExpired keeps_refl rfl⟩
  | pfWarning => exact ⟨_, rfl, keeps_doPfWarning keeps_refl rfl⟩
  | rasterFrameBoundary => exact ⟨_, rfl, keeps_doRasterFrameBoundary keeps_refl rfl rfl⟩
  | mainsApplied => exact ⟨_, rfl, keeps_doMainsApplied keeps_refl rfl rfl rfl rfl rfl⟩
  | systemPllLock => exact ⟨_, rfl, keeps_doSystemPllLock keeps_refl rfl rfl rfl rfl⟩
  | parkRestart => exact ⟨_, rfl, keeps_doParkRestart keeps_refl rfl rfl rfl rfl⟩
  | dieRestartComplete => exact ⟨_, rfl, keeps_doDieRestartComplete keeps_refl rfl rfl⟩
  | deferTimeout => exact ⟨_, rfl, keeps_doDeferTimeout keeps_refl rfl rfl rfl rfl⟩
  | todSecondRollover => exact ⟨_, rfl, keeps_doTodSecondRollover keeps_refl rfl rfl rfl rfl⟩
  | _ => exact ⟨_, rfl, by simp⟩

end Sys2Proof.Machine
end

section
/-! The obligations about every command: completion, the invariant and the frames (R92, R959, R971, R35). -/

namespace Sys2Proof.Machine

/-- TB is left by every command but those that start the head, end a tick or make TB up. -/
theorem leaves_tb {c : Instr} (hm : c ≠ .mainsApplied) (hl : ∀ n, c ≠ .systemPllLock n) (ht : c ≠ .todSecondRollover)
    (hr : ∀ n a b d, c ≠ .dieRestartComplete n a b d) (hd : c ≠ .deferTimeout) (hp : ∀ n, c ≠ .parkRestart n) :
    (leaves c).tb = true := by
  cases c with
  | mainsApplied => exact absurd rfl hm
  | systemPllLock => exact absurd rfl (hl _)
  | todSecondRollover => exact absurd rfl ht
  | dieRestartComplete => exact absurd rfl (hr _ _ _ _)
  | deferTimeout => exact absurd rfl hd
  | parkRestart => exact absurd rfl (hp _)
  | _ => rfl

/-- The LOCK bits are left by every command but those that reset the die. -/
theorem leaves_locks {c : Instr} (hm : c ≠ .mainsApplied) (hl : ∀ n, c ≠ .systemPllLock n) (hd : c ≠ .deferTimeout)
    (ht : c ≠ .todSecondRollover) (hp : ∀ n, c ≠ .parkRestart n) : (leaves c).locks = true := by
  cases c with
  | mainsApplied => exact absurd rfl hm
  | systemPllLock => exact absurd rfl (hl _)
  | todSecondRollover => exact absurd rfl ht
  | deferTimeout => exact absurd rfl hd
  | parkRestart => exact absurd rfl (hp _)
  | _ => rfl

/-- F is left by every command but a frame boundary and those that reset the die. -/
theorem leaves_f {c : Instr} (hm : c ≠ .mainsApplied) (hl : ∀ n, c ≠ .systemPllLock n) (hd : c ≠ .deferTimeout)
    (ht : c ≠ .todSecondRollover) (hp : ∀ n, c ≠ .parkRestart n) (hb : ∀ b, c ≠ .rasterFrameBoundary b) : (leaves c).f = true := by
  cases c with
  | mainsApplied => exact absurd rfl hm
  | systemPllLock => exact absurd rfl (hl _)
  | todSecondRollover => exact absurd rfl ht
  | deferTimeout => exact absurd rfl hd
  | parkRestart => exact absurd rfl (hp _)
  | rasterFrameBoundary => exact absurd rfl (hb _)
  | _ => rfl

/-- Settles O5: a command by what it keeps, and a tick by what `settle` and `tick` keep. -/
theorem everyStepKeepsTheInvariant : Obligations.EveryStepKeepsTheInvariant := by
  unfold Obligations.EveryStepKeepsTheInvariant
  intro s t hi ht
  unfold step at ht
  split at ht
  next =>
    obtain rfl := Host.Outcome.next.inj ht
    have hk : Keeps .wiresOnly s (idle s) := keeps_idle keeps_refl rfl rfl rfl rfl
    exact hk.inv hi
  next c rest _ =>
    obtain ⟨u, hu, hk⟩ := exec_keeps_leaves c { s with pending := rest }
    obtain rfl := Host.Outcome.next.inj (hu.symm.trans ht)
    exact hk.inv ⟨hi.mem, hi.flt, hi.lcp, hi.tge⟩

/-- Settles O7. -/
theorem commandsLeaveTheTimebase : Obligations.CommandsLeaveTheTimebase := by
  unfold Obligations.CommandsLeaveTheTimebase
  intro c s hm hl ht hr hd hp
  obtain ⟨t, he, hk⟩ := exec_keeps_leaves c s
  exact ⟨t, he, hk.tb (leaves_tb hm hl ht hr hd hp)⟩

/-- Settles O8. -/
theorem lockBitsStayUntilADieReset : Obligations.LockBitsStayUntilADieReset := by
  unfold Obligations.LockBitsStayUntilADieReset
  intro c s b hm hl hd ht hp hb
  obtain ⟨t, he, hk⟩ := exec_keeps_leaves c s
  exact ⟨t, he, hk.locks (leaves_locks hm hl hd ht hp) b hb⟩

/-- Settles O9. -/
theorem frameNumberChangesOnlyAtBoundaries : Obligations.FrameNumberChangesOnlyAtBoundaries := by
  unfold Obligations.FrameNumberChangesOnlyAtBoundaries
  intro c s hm hl hd ht hp hb
  obtain ⟨t, he, hk⟩ := exec_keeps_leaves c s
  exact ⟨t, he, hk.f (leaves_f hm hl hd ht hp hb)⟩

/-- Settles O2. -/
theorem everyCommandCompletes : Obligations.EveryCommandCompletes := by
  unfold Obligations.EveryCommandCompletes
  intro c s
  obtain ⟨t, he, hk⟩ := exec_keeps_leaves c s
  exact ⟨t, he, hk.queue⟩

/-- A word of a memory window follows from the windows alone. -/
theorem memWord_of_mem {s t : State} (h : t.mem = s.mem) (a : Nat) : memWord t a = memWord s a := by
  unfold memWord
  rw [h]

/-- Settles O11: for each command, the obligation's list and `leaves` give the same answer about memory. -/
theorem commandsLeaveTheMemoryWindows : Obligations.CommandsLeaveTheMemoryWindows := by
  unfold Obligations.CommandsLeaveTheMemoryWindows
  intro c s hc
  have hm : (leaves c).mem = true := by cases c <;> exact hc
  obtain ⟨t, he, hk⟩ := exec_keeps_leaves c s
  exact ⟨t, he, hk.mem hm, memWord_of_mem (hk.mem hm)⟩

/-- Settles O1. -/
theorem stepRunsTheFrontCommand : Obligations.StepRunsTheFrontCommand := by
  unfold Obligations.StepRunsTheFrontCommand
  refine ⟨fun c rest s h => ?_, fun _ _ => rfl, fun s h => ?_⟩
  · unfold step
    rw [h]
  · unfold step
    rw [h]
    rfl

/-- A register that nothing has written reads its reset value. -/
theorem rawReg_reset (a : Nat) : rawReg State.reset a = resetWord a := rfl

/-- Settles O3: each field of the reset state is its default value, and no register has been written. -/
theorem resetState : Obligations.ResetState := by
  unfold Obligations.ResetState
  exact ⟨rfl, rfl, rfl, rfl, rfl, rfl, rfl, rfl, rfl, rawReg_reset, fun f => congrArg f.get (rawReg_reset f.addr), rfl⟩

/-- Settles O4: the lists are empty at reset, and so are the queues and FIFOs in them. -/
theorem invariantAtReset : Obligations.InvariantAtReset := by
  unfold Obligations.InvariantAtReset
  have hs : ∀ x ∈ State.reset.lcp.sessions, x.bounded := by
    intro x hx
    obtain rfl : x = {} := List.eq_of_mem_replicate hx
    exact Nat.zero_le _
  have ht : ∀ x ∈ ({} : Engine).threads, x.bounded := by
    intro x hx
    obtain rfl : x = {} := List.eq_of_mem_replicate hx
    exact ⟨Nat.zero_le _, Nat.zero_le _⟩
  have he : ∀ x ∈ State.reset.tge.engines, x.bounded := by
    intro x hx
    have hr : x ∈ List.replicate 4 ({} : Engine) := hx
    obtain rfl : x = {} := List.eq_of_mem_replicate hr
    exact ht
  exact ⟨rfl, ⟨Nat.zero_le _, fun m hm => absurd hm (Option.some_ne_none m).symm⟩, hs, he⟩

end Sys2Proof.Machine
end

section
/-! The fault log takes an entry (R876, R877, R880). -/

namespace Sys2Proof.Machine

/-! ## Counters -/

/-- R19: what a counter holds after it has counted. -/
theorem getF_addF {f : Fld} {x : Nat} {s : State} (h : f.lo + f.w ≤ 32) : getF (addF f x s) f = satAdd f.w (getF s f) x := by
  have hl : satAdd f.w (getF s f) x < 2 ^ f.w := by
    have hp := Nat.two_pow_pos f.w
    unfold satAdd
    omega
  unfold addF
  rw [getF_setF h, Nat.mod_eq_of_lt hl]

/-! ## What the streams and the sessions take -/

/-- A change of the link alone, made for each element of a list, is a change of the link alone. -/
theorem forEach_onLnk {α : Type} (l : List α) (f : α → State → State) (hf : ∀ x t, ∃ g, f x t = t.onLnk g) (s : State) :
    ∃ g, forEach l f s = s.onLnk g := by
  unfold forEach
  induction l generalizing s with
  | nil => exact ⟨id, rfl⟩
  | cons a l ih =>
    obtain ⟨g, hg⟩ := hf a s
    obtain ⟨k, hk⟩ := ih (f a s)
    exact ⟨fun x => k (g x), by rw [List.foldl_cons, hk, hg]; rfl⟩

theorem pushPacket_onLnk (sid : Nat) (p : Packet) (s : State) : ∃ g, pushPacket sid p s = s.onLnk g := by
  unfold pushPacket
  simp only []
  split
  · exact ⟨fun _ => _, rfl⟩
  · exact ⟨fun _ => _, rfl⟩

/-- R645: an entry reaches the streams in the link alone. -/
theorem pushToStreams_onLnk (e : LogEntry) (s : State) : ∃ g, pushToStreams e s = s.onLnk g := by
  unfold pushToStreams
  simp only []
  obtain ⟨g, hg⟩ := forEach_onLnk (eventStreams s) (pushEvent e) (fun _ t => pushPacket_onLnk _ _ t) s
  split
  · obtain ⟨k, hk⟩ := forEach_onLnk (liveTenants (forEach (eventStreams s) (pushEvent e) s)) (fun t => pushEvent e (0x1000 + t))
      (fun _ t => pushPacket_onLnk _ _ t) (forEach (eventStreams s) (pushEvent e) s)
    exact ⟨fun x => k (g x), by rw [hk, hg]; rfl⟩
  · exact ⟨g, hg⟩

/-! ## The ring -/

/-- The entry with the SEQ that it takes. -/
def numbered (e : LogEntry) (s : State) : LogEntry := { e with seq := s.flt.nextSeq }

/-- R877: an entry that finds no room takes its SEQ and is counted, and that is all. -/
theorem storeEntry_of_full {e : LogEntry} {s : State} (h : ringFull s.flt.ring = true) :
    storeEntry e s = addF R.FLT_CNT_LOST 1 (s.onFlt fun f => { f with nextSeq := f.nextSeq + 1, lostSince := f.lostSince + 1 }) := by
  unfold storeEntry
  exact if_pos h

/-- R876, R880: the log with an entry that finds room. -/
theorem storeEntry_flt_of_room {e : LogEntry} {s : State} (h : ringFull s.flt.ring = false) :
    (storeEntry e s).flt = { s.flt with
      nextSeq := s.flt.nextSeq + 1
      ring := numbered e s :: (if s.flt.ring.length < 256 then s.flt.ring else dropOldest s.flt.ring)
      pendingLong := s.flt.pendingLong ++ [numbered e s] } := by
  unfold storeEntry
  extract_lets e' s1 s2
  have hn : ¬ringFull s1.flt.ring = true := ne_true_of_eq_false h
  obtain ⟨g, hg⟩ := pushToStreams_onLnk e' (pushToSessions e' false s2)
  rw [if_neg hn, hg]
  rfl

theorem ringFull_of_room {ring : List LogEntry} (h : ring.length < 256) : ringFull ring = false := by
  unfold ringFull
  rw [decide_eq_false (by omega), Bool.false_and]

theorem ringFull_of_free {ring : List LogEntry} {o : LogEntry} (ho : o ∈ ring) (h : o.unackCritical = false) : ringFull ring = false := by
  have ha : ring.all LogEntry.unackCritical = false := List.all_eq_false.mpr ⟨o, ho, by simp [h]⟩
  unfold ringFull
  rw [ha, Bool.and_false]

/-- R876: the entry that leaves a full ring is the oldest that is not an unacknowledged CRITICAL one. -/
theorem dropOldest_append {newer older : List LogEntry} {o : LogEntry} (ho : o.unackCritical = false)
    (hold : ∀ x ∈ older, x.unackCritical = true) : dropOldest (newer ++ o :: older) = newer ++ older := by
  have hr : (newer ++ o :: older).reverse = older.reverse ++ o :: newer.reverse := by simp
  have hi : ((older.reverse ++ o :: newer.reverse).findIdx? fun e => !e.unackCritical) = some older.reverse.length := by
    rw [List.findIdx?_append, List.findIdx?_eq_none_iff.mpr (by simpa using hold), List.findIdx?_cons]
    simp [ho]
  unfold dropOldest
  rw [hr, hi]
  dsimp only
  rw [List.eraseIdx_append_of_length_le (Nat.le_refl _), Nat.sub_self]
  simp

/-- An unacknowledged CRITICAL entry is not the one that leaves. -/
theorem mem_dropOldest {x : LogEntry} {ring : List LogEntry} (hx : x ∈ ring) (hc : x.unackCritical = true) : x ∈ dropOldest ring := by
  unfold dropOldest
  split
  · rename_i i hi
    obtain ⟨hlt, hp, -⟩ := List.findIdx?_eq_some_iff_getElem.mp hi
    obtain ⟨j, hj, rfl⟩ := List.mem_iff_getElem.mp (List.mem_reverse.mpr hx)
    have hne : j ≠ i := by
      rintro rfl
      exact absurd hc (by simpa using hp)
    exact List.mem_reverse.mpr (List.mem_eraseIdx_iff_getElem.mpr ⟨j, hj, hne, rfl⟩)
  · exact hx

/-- Settles O10. -/
theorem faultLogTakesAnEntry : Obligations.FaultLogTakesAnEntry := by
  unfold Obligations.FaultLogTakesAnEntry
  refine ⟨fun e s => ?_, fun e s hr => ?_, fun e o s newer older hr hf ho hold => ?_, fun e s hf ha => ?_, fun e x s hx hc => ?_⟩
  · cases h : ringFull s.flt.ring with
    | true => rw [storeEntry_of_full h]; rfl
    | false => rw [storeEntry_flt_of_room h]
  · rw [storeEntry_flt_of_room (ringFull_of_room hr), if_pos hr]
    rfl
  · have hroom : ringFull s.flt.ring = false := ringFull_of_free (by rw [hr]; simp) ho
    rw [storeEntry_flt_of_room hroom, if_neg (by omega), hr, dropOldest_append ho hold]
    rfl
  · have hfull : ringFull s.flt.ring = true := by
      unfold ringFull
      rw [decide_eq_true hf, List.all_eq_true.mpr ha, Bool.and_self]
    rw [storeEntry_of_full hfull]
    exact ⟨rfl, rfl, rfl, getF_addF (by decide)⟩
  · cases h : ringFull s.flt.ring with
    | true => rw [storeEntry_of_full h]; exact hx
    | false =>
      rw [storeEntry_flt_of_room h]
      refine List.mem_cons_of_mem _ ?_
      split
      · exact hx
      · exact mem_dropOldest hx hc

end Sys2Proof.Machine
end

section
/-! The head's edge: what a change of the results, the calibration, the cartridge, the converters, the links or the log leaves alone. -/

namespace Sys2Proof.Machine

/-- What leads from s to t leaves the head state, the raster, the timebase, the exposures, the image, the change set, the fuses, the
supply and the memory windows. -/
structure Aside (s t : State) : Prop where
  head : t.head = s.head
  rru : t.rru = s.rru
  tmb : t.tmb = s.tmb
  exs : t.exs = s.exs
  cfg : t.cfg = s.cfg
  chg : t.chg = s.chg
  fus : t.fus = s.fus
  pwr : t.pwr = s.pwr
  mem : t.mem = s.mem

theorem Aside.refl (s : State) : Aside s s := ⟨rfl, rfl, rfl, rfl, rfl, rfl, rfl, rfl, rfl⟩

theorem Aside.trans {s t u : State} (h : Aside s t) (g : Aside t u) : Aside s u :=
  ⟨g.head.trans h.head, g.rru.trans h.rru, g.tmb.trans h.tmb, g.exs.trans h.exs, g.cfg.trans h.cfg, g.chg.trans h.chg,
    g.fus.trans h.fus, g.pwr.trans h.pwr, g.mem.trans h.mem⟩

theorem LogOnly.aside {s t : State} (h : LogOnly s t) : Aside s t :=
  ⟨h.head, h.rru, h.tmb, h.exs, h.cfg, h.chg, h.fus, h.pwr, h.mem⟩

theorem aside_onSns (f : Sns → Sns) (s : State) : Aside s (s.onSns f) := ⟨rfl, rfl, rfl, rfl, rfl, rfl, rfl, rfl, rfl⟩
theorem aside_onCro (f : Cro → Cro) (s : State) : Aside s (s.onCro f) := ⟨rfl, rfl, rfl, rfl, rfl, rfl, rfl, rfl, rfl⟩
theorem aside_onPat (f : Pat → Pat) (s : State) : Aside s (s.onPat f) := ⟨rfl, rfl, rfl, rfl, rfl, rfl, rfl, rfl, rfl⟩
theorem aside_onCal (f : Cal → Cal) (s : State) : Aside s (s.onCal f) := ⟨rfl, rfl, rfl, rfl, rfl, rfl, rfl, rfl, rfl⟩
theorem aside_onCtg (f : Ctg → Ctg) (s : State) : Aside s (s.onCtg f) := ⟨rfl, rfl, rfl, rfl, rfl, rfl, rfl, rfl, rfl⟩
theorem aside_onTrc (f : Trc → Trc) (s : State) : Aside s (s.onTrc f) := ⟨rfl, rfl, rfl, rfl, rfl, rfl, rfl, rfl, rfl⟩
theorem aside_onTge (f : Tge → Tge) (s : State) : Aside s (s.onTge f) := ⟨rfl, rfl, rfl, rfl, rfl, rfl, rfl, rfl, rfl⟩
theorem aside_onLnk (f : Lnk → Lnk) (s : State) : Aside s (s.onLnk f) := ⟨rfl, rfl, rfl, rfl, rfl, rfl, rfl, rfl, rfl⟩
theorem aside_onTen (f : Ten → Ten) (s : State) : Aside s (s.onTen f) := ⟨rfl, rfl, rfl, rfl, rfl, rfl, rfl, rfl, rfl⟩
theorem aside_onMos (f : Mos → Mos) (s : State) : Aside s (s.onMos f) := ⟨rfl, rfl, rfl, rfl, rfl, rfl, rfl, rfl, rfl⟩

theorem Aside.ite {s a b : State} {c : Prop} [Decidable c] (ha : c → Aside s a) (hb : ¬c → Aside s b) : Aside s (if c then a else b) := by
  split
  · exact ha ‹c›
  · exact hb ‹¬c›

theorem aside_forEach {α : Type} {l : List α} {f : α → State → State} (hf : ∀ x t, Aside t (f x t)) (s : State) :
    Aside s (forEach l f s) := by
  unfold forEach
  induction l generalizing s with
  | nil => exact Aside.refl s
  | cons a l ih => exact (hf a s).trans (ih (f a s))

/-! ## Streams -/

theorem aside_raise (code : Nat) (fs : List DetailField) (s : State) : Aside s (raise code fs s) := (logOnly_raise code fs s).aside
theorem aside_addF (f : Fld) (x : Nat) (s : State) : Aside s (addF f x s) := (logOnly_addF f x s).aside
theorem aside_raiseFor (sid code : Nat) (fs : List DetailField) (s : State) : Aside s (raiseFor sid code fs s) :=
  (logOnly_raiseFor sid code fs s).aside
theorem aside_pushPacket (sid : Nat) (p : Packet) (s : State) : Aside s (pushPacket sid p s) := (logOnly_pushPacket sid p s).aside

theorem aside_modStream (sid : Nat) (f : Stream → Stream) (s : State) : Aside s (modStream sid f s) :=
  ⟨rfl, rfl, rfl, rfl, rfl, rfl, rfl, rfl, rfl⟩

theorem aside_dropUnit (sid : Nat) (t : PktType) (frame set slot : Nat) (s : State) : Aside s (dropUnit sid t frame set slot s) :=
  (Aside.ite (fun _ => aside_onTen _ s) (fun _ => aside_addF _ _ s)).trans (aside_raiseFor _ _ _ _)

theorem aside_noteKeyMissing (sid : Nat) (s : State) : Aside s (noteKeyMissing sid s) :=
  Aside.ite (fun _ => Aside.refl s) fun _ => (aside_onLnk _ s).trans (aside_raiseFor _ _ _ _)

theorem aside_enqueueUnit (sid : Nat) (t : PktType) (frame set slot : Nat) (l : List Packet) (s : State) :
    Aside s (enqueueUnit sid t frame set slot l s) :=
  Aside.ite (fun _ => (Aside.ite (fun _ => aside_noteKeyMissing sid s) fun _ => Aside.refl s).trans (aside_dropUnit _ _ _ _ _ _))
    fun _ => Aside.ite (fun _ => aside_forEach (fun p t => aside_pushPacket sid p t) s) fun _ => aside_dropUnit _ _ _ _ _ s

theorem aside_flushTrack (sid : Nat) (s : State) : Aside s (flushTrack sid s) := by
  unfold flushTrack
  split
  · exact Aside.refl s
  · exact (aside_onLnk _ s).trans (aside_enqueueUnit _ _ _ _ _ _ _)

theorem aside_addTrack (sid kind : Nat) (fields : List Nat) (s : State) : Aside s (addTrack sid kind fields s) := by
  unfold addTrack
  extract_lets size room full s1 b b' s2
  have h1 : Aside s s1 := Aside.ite (fun _ => aside_flushTrack sid s) fun _ => Aside.refl s
  have h2 : Aside s s2 := h1.trans (aside_modStream _ _ s1)
  exact Aside.ite (fun _ => h2.trans (aside_flushTrack sid s2)) fun _ => h2

theorem aside_sendTrack (kind : Nat) (fields : List Nat) (tenants : Bool) (s : State) : Aside s (sendTrack kind fields tenants s) := by
  unfold sendTrack
  extract_lets s1
  have h1 : Aside s s1 := aside_forEach (fun i t => Aside.ite (fun _ => aside_addTrack i kind fields t) fun _ => Aside.refl t) s
  exact Aside.ite (fun _ => h1.trans (aside_forEach (fun i t => aside_addTrack _ kind fields t) s1)) fun _ => h1

/-! ## An aborted calibration run -/

theorem aside_calNeedTiles (tiles : List Nat) (on : Bool) (s : State) : Aside s (calNeedTiles tiles on s) :=
  (aside_forEach (fun _ t => aside_onSns _ t) s).trans (aside_forEach (fun _ t => aside_onCro _ t) _)

theorem aside_lifeEvents (n : Nat) (s : State) : Aside s (lifeEvents n s) := by
  unfold lifeEvents
  extract_lets s1
  have h1 : Aside s s1 := Aside.ite (fun _ => (aside_onCtg _ s).trans (aside_raise _ _ _)) fun _ => Aside.refl s
  exact Aside.ite (fun _ => h1.trans ((aside_onCtg _ s1).trans (aside_raise _ _ _))) fun _ => h1

theorem aside_countLife (n v : Nat) (s : State) : Aside s (countLife n v s) :=
  Aside.ite (fun _ => Aside.refl s) fun _ => (aside_onCtg _ s).trans (aside_lifeEvents n _)

theorem aside_driveShutter (s : State) : Aside s (driveShutter s) := by
  unfold driveShutter
  extract_lets want s1
  have h1 : Aside s s1 := aside_onCtg _ s
  refine Aside.ite (fun _ => Aside.refl s) fun _ => Aside.ite (fun _ => Aside.refl s) fun _ => Aside.ite (fun _ => ?_) fun _ => h1
  exact (h1.trans (aside_onPat _ s1)).trans (aside_countLife 5 1 _)

theorem aside_endAborted (opens : Bool) (s : State) : Aside s (endAborted opens s) := by
  unfold endAborted
  extract_lets s1 s2 s3
  have h3 : Aside s s3 := ((aside_calNeedTiles _ false s).trans (aside_onCal _ s1)).trans (aside_onCtg _ s2)
  exact Aside.ite (fun _ => h3.trans (aside_driveShutter s3)) fun _ => h3

theorem aside_countAbort (s : State) : Aside s (countAbort s) := by
  unfold countAbort
  extract_lets n s1
  have h1 : Aside s s1 := aside_onCal _ s
  exact Aside.ite (fun _ => (h1.trans (aside_onCal _ s1)).trans (aside_raise _ _ _)) fun _ => h1

theorem aside_lightDetected (place excess : Nat) (s : State) : Aside s (lightDetected place excess s) :=
  Aside.ite (fun _ => Aside.refl s) fun _ => ((((aside_addF _ _ s).trans (aside_endAborted true _)).trans (aside_onCal _ _)).trans
    (aside_raise _ _ _)).trans (aside_countAbort _)

/-! ## The windows of accumulators, the pulses and the cells at a line -/

theorem aside_flickerSample (acc : Nat) (system enabled : Bool) (sum : Int) (count : Nat) (s : State) :
    Aside s (flickerSample acc system enabled sum count s) := by
  unfold flickerSample
  extract_lets which flk s1
  have h1 : Aside s s1 := aside_onCal _ s
  refine Aside.ite (fun _ => Aside.refl s) fun _ => ?_
  split
  · exact h1.trans (aside_lightDetected _ _ s1)
  · exact h1

theorem aside_closeAcc (a extra : Nat) (s : State) : Aside s (closeAcc a extra s) := by
  unfold closeAcc
  extract_lets x first flags sum s1 s2 c s3
  have h2 : Aside s s2 := (aside_onTrc _ s).trans (aside_onTrc _ s1)
  have h3 : Aside s s3 := Aside.ite (fun _ => h2.trans (aside_sendTrack _ _ _ s2)) fun _ => h2
  exact Aside.ite (fun _ => Aside.refl s) fun _ => h3.trans (aside_flickerSample _ _ _ _ _ s3)

theorem aside_openAcc (a tb : Nat) (s : State) : Aside s (openAcc a tb s) := ⟨rfl, rfl, rfl, rfl, rfl, rfl, rfl, rfl, rfl⟩

theorem aside_accLine (l : Nat) (s : State) : Aside s (accLine l s) := by
  refine Aside.ite (fun _ => Aside.refl s) fun _ => aside_forEach (fun x t => ?_) s
  have hre : ∀ u : State, Aside u (openAcc x.1 u.now (closeAcc x.1 0 u)) := fun u => (aside_closeAcc x.1 0 u).trans (aside_openAcc _ _ _)
  refine Aside.ite (fun _ => hre t) fun _ => Aside.ite (fun _ => ?_) fun _ => Aside.refl t
  extract_lets t1
  have h1 : Aside t t1 := Aside.ite (fun _ => aside_closeAcc x.1 0 t) fun _ => Aside.refl t
  exact Aside.ite (fun _ => h1.trans (hre t1)) fun _ => h1

theorem aside_pulse (e k : Nat) (s : State) : Aside s (pulse e k s) := Aside.ite (fun _ => aside_onTge _ s) fun _ => Aside.refl s

theorem aside_linePulses (s : State) : Aside s (linePulses s) :=
  aside_forEach (fun _ t => Aside.ite (fun _ => aside_pulse _ _ t) fun _ => Aside.refl t) s

theorem aside_takeFree (s : State) : Aside s (takeFree s).2 := ⟨rfl, rfl, rfl, rfl, rfl, rfl, rfl, rfl, rfl⟩

theorem aside_sendCell (t : CellType) (port delay : Nat) (body : List Nat) (s : State) : Aside s (sendCell t port delay body s) :=
  Aside.ite (fun _ => Aside.refl s) fun _ => aside_onMos _ s

theorem aside_sendRaster (s : State) : Aside s (sendRaster s) :=
  Aside.ite (fun _ => Aside.refl s) fun _ => (aside_takeFree s).trans (aside_sendCell _ _ _ _ _)

theorem aside_rasterOut (s : State) : Aside s (rasterOut s) := Aside.ite (fun _ => aside_sendRaster s) fun _ => Aside.refl s

end Sys2Proof.Machine
end

section
/-! Frame and line boundaries (R10, R35, R75, R755). -/

namespace Sys2Proof.Machine

/-- Of the parts that a change may leave alone, the frame number only. -/
def What.frameOnly : What := ⟨false, false, false, false, true⟩

theorem rasterBoundary_f (f : Nat) (s : State) : (rasterBoundary f s).rru.f = f := by
  unfold rasterBoundary
  extract_lets s1 s2 s3 s4
  have h3 : s3.rru.f = f := (keeps_stagedBoundary (wh := .frameOnly) keeps_refl).f rfl
  have h4 : Keeps .frameOnly s4 (driveOutputs 0 s4) := keeps_driveOutputs keeps_refl
  exact (h4.f rfl).trans h3

/-- R35: the frame that starts has the number that it was given. -/
theorem frameStarts_f (f : Nat) (s : State) : (frameStarts f s).rru.f = f := by
  unfold frameStarts
  extract_lets was s1 s2 s3 s4
  have h3 : s3.rru.f = f := rasterBoundary_f f s2
  have h4 : Keeps .frameOnly s3 s4 := by
    simp only [s4]
    split
    · exact keeps_geometryGap keeps_refl
    · exact keeps_refl
  have h5 : Keeps .frameOnly s4 (captureBoundary (reattribute f <| markFrame (s4.onRru fun r => { r with acqGap := false, acqPlanned := false }))) :=
    keeps_captureBoundary (keeps_reattribute (keeps_markFrame (keeps_onRru keeps_refl rfl)))
  exact (h5.f rfl).trans ((h4.f rfl).trans h3)

theorem frameDrives_f (stalled : Bool) (s : State) : (frameDrives stalled s).rru.f = s.rru.f :=
  (keeps_frameDrives (wh := .frameOnly) keeps_refl rfl).f rfl

/-- A boundary that is due while the die is up, by its case of R755. -/
theorem doRasterFrameBoundary_of_due {s : State} (stalled : Bool) (hb : boundaryReady s = true) (hd : s.sup.dieDown = false) :
    doRasterFrameBoundary stalled s = match reconCase s with
      | .wait => reconWaits s
      | .go f => frameDrives stalled (frameStarts f (reconDone f s))
      | .none => frameDrives stalled (frameStarts (nextF s) s) := by
  unfold doRasterFrameBoundary
  exact if_neg (by simp [hb, hd])

/-- A line that starts no frame, while the die is up. -/
theorem doRasterLineBoundary_of_line {s : State} (hr : rasterRuns s = true) (hb : boundaryReady s = false) (hd : s.sup.dieDown = false) :
    doRasterLineBoundary s = rasterOut (accLine (linePulses (nextLine s)).rru.l (linePulses (nextLine s))) := by
  unfold doRasterLineBoundary
  rw [if_neg (by simp [hr, hb, hd])]

/-- Settles O17: what follows the start of a frame keeps its number, and what follows the start of a line leaves block RRU. -/
theorem boundariesCountFramesAndLines : Obligations.BoundariesCountFramesAndLines := by
  unfold Obligations.BoundariesCountFramesAndLines
  refine ⟨fun s stalled hb hd hn => ⟨_, rfl, ?_⟩, fun s stalled hb hd => ⟨fun f hg => ⟨_, rfl, ?_⟩, fun hw => ⟨?_, rfl⟩⟩,
    fun s hr hb hd => ⟨_, rfl, ?_⟩⟩
  · rw [doRasterFrameBoundary_of_due stalled hb hd, hn]
    exact (frameDrives_f _ _).trans (frameStarts_f _ _)
  · rw [doRasterFrameBoundary_of_due stalled hb hd, hg]
    exact (frameDrives_f _ _).trans (frameStarts_f _ _)
  · exact congrArg Host.Outcome.next ((doRasterFrameBoundary_of_due stalled hb hd).trans (by rw [hw]))
  · rw [doRasterLineBoundary_of_line hr hb hd]
    have ha : Aside (nextLine s) (rasterOut (accLine (linePulses (nextLine s)).rru.l (linePulses (nextLine s)))) :=
      ((aside_linePulses _).trans (aside_accLine _ _)).trans (aside_rasterOut _)
    rw [ha.rru, ha.mem, ha.tmb]
    exact ⟨rfl, rfl, rfl, rfl⟩

end Sys2Proof.Machine
end

section
/-! Writes of plain registers: those whose block alone says what a write does (R15, R668, R970). -/

namespace Sys2Proof.Machine

/-- The register at an address is defined, has no RWL field and no LOCK bit, and is none that R668 bars initiators from. -/
def plainRegister (a : Nat) : Bool :=
  wordDefined a && (decide (a < 0xC0020) || (decide (0xC0060 ≤ a) && decide (a < 0x130000))) &&
    maskOf (fun d => d.acc == .rwl) (fieldsAt a) == 0 && maskOf (fun d => d.acc == .w1s && !d.sensed) (fieldsAt a) == 0

/-- A write of a plain register on the bus is its write in the block. -/
theorem busPut_plain {who : Initiator} {a : Nat} {v : Word} {s : State} (hu : busOpen s who = true) (hp : plainRegister a = true) :
    busPut who a v s = (regWrite who a v s).2 := by
  simp only [plainRegister, Bool.and_eq_true, Bool.or_eq_true, decide_eq_true_eq, beq_iff_eq] at hp
  obtain ⟨⟨⟨hd, ha⟩, hl⟩, hw⟩ := hp
  exact busPut_register hu hd (tenantBarred_register (ha.imp id fun h => ⟨h.1, by omega⟩)) (by omega) hl hw

theorem regWrite_tmb {who : Initiator} {a : Nat} {v : Word} {s : State} (ha : a / 0x10000 = 2) : regWrite who a v s = writeTmb a v s := by
  unfold regWrite
  rw [ha]
  rfl

/-- A bit that a write gives its value: bit i of the register at a is one of an RW field. -/
def rwBit (a i : Nat) : Bool :=
  ((maskOf (fun d => !d.sensed && d.acc == .rw) (fieldsAt a)).getLsbD i) && !(maskOf (fun d => d.acc == .w1c) (fieldsAt a)).getLsbD i

theorem zero_or_word (w : Word) : 0 ||| w = w := BitVec.zero_or

theorem maskOf_append (p : FieldDesc → Bool) (ds : List FieldDesc) (m : Word) :
    ds.foldl (fun m d => if p d then m ||| d.mask else m) m = m ||| maskOf p ds := by
  unfold maskOf
  induction ds generalizing m with
  | nil => exact BitVec.or_zero.symm
  | cons d ds ih =>
    rw [List.foldl_cons, List.foldl_cons, ih, ih (if p d then 0 ||| d.mask else 0)]
    split
    · rw [zero_or_word, BitVec.or_assoc]
    · rw [zero_or_word]

/-- A bit of a mask stays in the mask of a weaker test. -/
theorem maskOf_mono {p q : FieldDesc → Bool} (hpq : ∀ d, p d = true → q d = true) {ds : List FieldDesc} {i : Nat}
    (h : (maskOf p ds).getLsbD i = true) : (maskOf q ds).getLsbD i = true := by
  induction ds with
  | nil => exact h
  | cons d ds ih =>
    have hcons : ∀ r : FieldDesc → Bool, maskOf r (d :: ds) = (if r d then d.mask else 0) ||| maskOf r ds := fun r => by
      rw [← maskOf_append, maskOf, List.foldl_cons]
      split
      · rw [zero_or_word]
      · rfl
    rw [hcons, BitVec.getLsbD_or, Bool.or_eq_true] at h ⊢
    refine h.imp (fun hd => ?_) ih
    by_cases hp : p d = true
    · rwa [if_pos hp, ← if_pos (hpq d hp) (t := d.mask) (e := 0)] at hd
    · rw [if_neg hp] at hd
      exact absurd hd (by simp)

/-- A plain write gives a bit of an RW field its value, in whatever state the block is. -/
theorem plainWrite_rwBit {a i : Nat} {v : Word} {s : State} (h : rwBit a i = true) : (rawReg (plainWrite a v s) a).getLsbD i = v.getLsbD i := by
  simp only [rwBit, Bool.and_eq_true, Bool.not_eq_true'] at h
  exact plainWrite_bit (fun lk now => maskOf_mono (fun d hd => by
    rw [Bool.and_eq_true] at hd ⊢
    exact ⟨hd.1, by simp [hd.2]⟩) h.1) h.2

/-- A flag of one RW bit takes that bit of the word written. -/
theorem flagF_plainWrite {f : Fld} {v : Word} {s : State} (hw : f.w = 1) (h : rwBit f.addr f.lo = true) :
    flagF (plainWrite f.addr v s) f = v.getLsbD f.lo :=
  (flagF_eq_getLsbD hw).trans (plainWrite_rwBit h)

/-- A field of two words that agree on its bits. -/
theorem Fld.get_congr {f : Fld} {v w : Word} (h : ∀ i, f.lo ≤ i → i < f.lo + f.w → v.getLsbD i = w.getLsbD i) : f.get v = f.get w := by
  unfold Fld.get
  refine Nat.eq_of_testBit_eq fun i => ?_
  simp only [Nat.testBit_mod_two_pow, ← Nat.shiftRight_eq_div_pow, Nat.testBit_shiftRight]
  by_cases hi : i < f.w
  · simpa [hi, BitVec.getLsbD] using h (f.lo + i) (by omega) (by omega)
  · simp [hi]

/-- An RW field takes its bits of the word written. -/
theorem getF_plainWrite {f : Fld} {v : Word} {s : State} (h : ∀ i < f.w, rwBit f.addr (f.lo + i) = true) :
    getF (plainWrite f.addr v s) f = f.get v :=
  Fld.get_congr fun i hl hu => by
    have hi := h (i - f.lo) (by omega)
    rw [Nat.add_sub_cancel' hl] at hi
    exact plainWrite_rwBit hi

/-- A field of another register than the one written. -/
theorem getF_plainWrite_ne {a : Nat} {f : Fld} {v : Word} {s : State} (h : f.addr ≠ a) : getF (plainWrite a v s) f = getF s f := by
  unfold getF
  rw [rawReg_plainWrite_ne h]

end Sys2Proof.Machine
end

section
/-! Timer units and compare channels (R111 to R119). -/

namespace Sys2Proof.Machine

/-! ## One unit -/

theorem getUnit_modUnit {u : Nat} {f : TimerUnit → TimerUnit} {s : State} (h : u < s.tmb.units.length) :
    getUnit (modUnit u f s) u = f (getUnit s u) := by
  unfold getUnit modUnit
  simp [List.getD_eq_getElem?_getD, h]

/-- A unit in which CNT was written is one of the head. -/
theorem lt_length_of_cntAt {s : State} {u n : Nat} (h : (getUnit s u).cntAt = some n) : u < s.tmb.units.length := by
  refine Nat.lt_of_not_le fun hu => ?_
  have hd : getUnit s u = {} := by
    unfold getUnit
    rw [List.getD_eq_getElem?_getD, List.getElem?_eq_none hu, Option.getD_none]
  rw [hd] at h
  exact absurd h.symm (Option.some_ne_none n)

@[simp] theorem modUnit_regs (u : Nat) (f : TimerUnit → TimerUnit) (s : State) : (modUnit u f s).regs = s.regs := rfl
@[simp] theorem modUnit_rru (u : Nat) (f : TimerUnit → TimerUnit) (s : State) : (modUnit u f s).rru = s.rru := rfl
@[simp] theorem modUnit_mem (u : Nat) (f : TimerUnit → TimerUnit) (s : State) : (modUnit u f s).mem = s.mem := rfl
@[simp] theorem modUnit_now (u : Nat) (f : TimerUnit → TimerUnit) (s : State) : (modUnit u f s).now = s.now := rfl
@[simp] theorem getF_modUnit (u : Nat) (f : TimerUnit → TimerUnit) (s : State) (g : Fld) : getF (modUnit u f s) g = getF s g := rfl
@[simp] theorem getUnit_setF (f : Fld) (x : Nat) (s : State) (u : Nat) : getUnit (setF f x s) u = getUnit s u := rfl

theorem length_modUnit (u : Nat) (f : TimerUnit → TimerUnit) (s : State) : (modUnit u f s).tmb.units.length = s.tmb.units.length :=
  List.length_modify _ _ _

/-! ## The prescaler and the counter (R111 to R114) -/

/-- A unit without a link whose count source is chosen and that does not hold counts its source's events. -/
theorem doTimerSourceEvent_counts {s : State} {u : Fin 8} (hh : unitHolds s u = false) (hl : getF s (R.TMB_U_CTRL_LINK_ACT u) = 0)
    (hc : getF s (R.TMB_U_CTRL_CNT_SRC u) ≠ 0) : doTimerSourceEvent u false s = prescale u s := by
  have ha : unitActive s u = true := by simp [unitActive, hl, hc]
  unfold doTimerSourceEvent sourceEvent
  simp [hh, hl, ha]

/-- R111: the event with which a prescale count is complete. -/
theorem prescale_complete {s : State} {u : Nat} (hof : (getUnit s u).pscOf = getF s (R.TMB_U_CTRL_PSC_M1 u))
    (hp : (getUnit s u).psc = getF s (R.TMB_U_CTRL_PSC_M1 u)) :
    prescale u s = incrementCounter u (modUnit u (fun x => { x with psc := 0, pscOf := (getUnit s u).pscOf }) s) := by
  unfold prescale
  simp [hof, hp]

/-- R111: an event that only counts. -/
theorem prescale_counts {s : State} {u : Nat} (hof : (getUnit s u).pscOf = getF s (R.TMB_U_CTRL_PSC_M1 u))
    (hp : (getUnit s u).psc < getF s (R.TMB_U_CTRL_PSC_M1 u)) :
    prescale u s = modUnit u (fun x => { x with psc := (getUnit s u).psc + 1, pscOf := (getUnit s u).pscOf }) s := by
  have hn : ¬getF s (R.TMB_U_CTRL_PSC_M1 u) < (getUnit s u).psc + 1 := by omega
  unfold prescale
  simp [hof, hn]

/-- R113: no write of CNT in this tick: it counts on or wraps, and remembers what it has reached. -/
theorem incrementCounter_free {s : State} {u v : Nat} {wraps : Bool} (h : (getUnit s u).cntAt ≠ some s.now)
    (hw : wraps = (getF s (R.TMB_U_CNT u) == getF s (R.TMB_U_TOP u) || getF s (R.TMB_U_CNT u) == 0xFFFFFFFF))
    (hv : v = if wraps then 0 else getF s (R.TMB_U_CNT u) + 1) :
    incrementCounter u s = setF (R.TMB_U_CNT u) v (modUnit u (fun x => { x with reached := x.reached ++ [(v, wraps)] }) s) := by
  subst hv hw
  unfold incrementCounter
  exact if_neg h

/-- What an increment to v leaves of CNT, the unit and the other registers. -/
theorem increment_effect {s : State} {u : Nat} {v of : Nat} {wraps : Bool} (hu : u < s.tmb.units.length) (hv : v < 2 ^ 32) {t : State}
    (ht : t = setF (R.TMB_U_CNT u) v (modUnit u (fun x => { x with reached := x.reached ++ [(v, wraps)] })
      (modUnit u (fun x => { x with psc := 0, pscOf := of }) s))) :
    getF t (R.TMB_U_CNT u) = v ∧ (getUnit t u).reached = (getUnit s u).reached ++ [(v, wraps)] ∧ (getUnit t u).psc = 0 ∧
      (∀ a, a ≠ A.TMB_U_CNT u → rawReg t a = rawReg s a) ∧ t.mem = s.mem ∧ t.rru = s.rru := by
  subst ht
  have hg : getUnit (modUnit u (fun x => { x with reached := x.reached ++ [(v, wraps)] })
      (modUnit u (fun x => { x with psc := 0, pscOf := of }) s)) u =
      { getUnit s u with psc := 0, pscOf := of, reached := (getUnit s u).reached ++ [(v, wraps)] } := by
    rw [getUnit_modUnit (by rwa [length_modUnit]), getUnit_modUnit hu]
  refine ⟨?_, by rw [getUnit_setF, hg], by rw [getUnit_setF, hg], fun a ha => rawReg_setF_ne ha, rfl, rfl⟩
  rw [getF_setF (by simp [R.TMB_U_CNT])]
  exact Nat.mod_eq_of_lt hv

/-! ## Compare channels (R117 to R119) -/

/-- A TB channel at its target. -/
theorem compareMatch_tb {s : State} {u c : Nat} (hd : compareDue s u c = true) (hm : getF s (R.TMB_CH_CTRL_MODE u c) = 0) :
    compareMatch u c s = matchChannel u c (setF (R.TMB_CH_CTRL_EN u c) 0 s) := by
  simp [compareDue, hm] at hd
  unfold compareMatch
  simp [hm, hd]

/-- A periodic TB channel at its target. -/
theorem compareMatch_periodic {s : State} {u c : Nat} (hd : compareDue s u c = true) (hm : getF s (R.TMB_CH_CTRL_MODE u c) = 1) :
    compareMatch u c s = matchChannel u c (modUnit u (fun x => { x with addDue := (x.addDue.filter (· != c)) ++ [c] }) s) := by
  simp [compareDue, hm] at hd
  unfold compareMatch
  simp [hm, hd]

/-- What the register map says of a channel's control register, for every channel. -/
theorem chCtrl_plain (k : Fin 32) : plainRegister (A.TMB_CH_CTRL (k.val / 4) (k.val % 4)) = true ∧
    (∀ i, i < 2 → rwBit (A.TMB_CH_CTRL (k.val / 4) (k.val % 4)) i = true) ∧ rwBit (A.TMB_CH_CTRL (k.val / 4) (k.val % 4)) 31 = true := by
  revert k
  decide

/-- Where the block finds a channel's control register. -/
theorem chCtrl_place (k : Fin 32) : servoHeld (A.TMB_CH_CTRL (k.val / 4) (k.val % 4)) = false ∧
    A.TMB_CH_CTRL (k.val / 4) (k.val % 4) / 0x10000 = 2 ∧
    (A.TMB_CH_CTRL (k.val / 4) (k.val % 4) ≠ A.TMB_TOD_SET_NS ∧ A.TMB_CH_CTRL (k.val / 4) (k.val % 4) ≠ A.TMB_TOD_ADJ ∧
      A.TMB_CH_CTRL (k.val / 4) (k.val % 4) ≠ A.TMB_TOD_FREQ ∧ A.TMB_CH_CTRL (k.val / 4) (k.val % 4) ≠ A.TMB_TOD_CTRL) ∧
    (0x21000 ≤ A.TMB_CH_CTRL (k.val / 4) (k.val % 4) ∧ A.TMB_CH_CTRL (k.val / 4) (k.val % 4) < 0x21800) ∧
    (A.TMB_CH_CTRL (k.val / 4) (k.val % 4) - 0x21000) / 0x100 = k.val / 4 ∧
    (A.TMB_CH_CTRL (k.val / 4) (k.val % 4) - 0x21000) % 0x100 = 0x40 + 0x10 * (k.val % 4) := by
  revert k
  decide

/-- The MODE that a word gives a channel. -/
theorem chMode_get (u c : Nat) (v : Word) : (R.TMB_CH_CTRL_MODE u c).get v = (v.extractLsb' 0 2).toNat := by
  simp [Fld.get, R.TMB_CH_CTRL_MODE, BitVec.extractLsb'_toNat]

section
variable {k : Fin 32} {v : Word} {s : State}

theorem chMode_plainWrite : getF (plainWrite (A.TMB_CH_CTRL (k.val / 4) (k.val % 4)) v s) (R.TMB_CH_CTRL_MODE (k.val / 4) (k.val % 4)) =
    (v.extractLsb' 0 2).toNat := by
  rw [← chMode_get (k.val / 4) (k.val % 4)]
  refine getF_plainWrite (f := R.TMB_CH_CTRL_MODE (k.val / 4) (k.val % 4)) fun i hi => ?_
  have hb := (chCtrl_plain k).2.1 i hi
  simpa [R.TMB_CH_CTRL_MODE, A.TMB_CH_CTRL] using hb

theorem chEn_plainWrite :
    flagF (plainWrite (A.TMB_CH_CTRL (k.val / 4) (k.val % 4)) v s) (R.TMB_CH_CTRL_EN (k.val / 4) (k.val % 4)) = v.getLsbD 31 :=
  flagF_plainWrite (f := R.TMB_CH_CTRL_EN (k.val / 4) (k.val % 4)) rfl (chCtrl_plain k).2.2

/-- A write of a channel's control register leaves its compare value. -/
theorem cmpValue_plainWrite : cmpValue (plainWrite (A.TMB_CH_CTRL (k.val / 4) (k.val % 4)) v s) (k.val / 4) (k.val % 4) =
    cmpValue s (k.val / 4) (k.val % 4) := by
  have hne : (R.TMB_CMP_HI (k.val / 4) (k.val % 4)).addr ≠ A.TMB_CH_CTRL (k.val / 4) (k.val % 4) ∧
      (R.TMB_CMP_LO (k.val / 4) (k.val % 4)).addr ≠ A.TMB_CH_CTRL (k.val / 4) (k.val % 4) := by
    simp only [R.TMB_CMP_HI, R.TMB_CMP_LO, A.TMB_CH_CTRL]
    omega
  unfold cmpValue
  rw [getF_plainWrite_ne hne.1, getF_plainWrite_ne hne.2]

/-- R119: a write that sets EN of a channel in TB mode. -/
theorem busPut_enablesChannel {who : Initiator} (hu : busOpen s who = true)
    (hs : flagF s (R.TMB_CH_CTRL_EN (k.val / 4) (k.val % 4)) = false) (hv : v.getLsbD 31 = true) (hm : v.extractLsb' 0 2 = 0) :
    busPut who (A.TMB_CH_CTRL (k.val / 4) (k.val % 4)) v s =
      enableChannel (k.val / 4) (k.val % 4) (plainWrite (A.TMB_CH_CTRL (k.val / 4) (k.val % 4)) v s) := by
  obtain ⟨hh, hb, ⟨hns, hadj, hfreq, hctrl⟩, hin, hdiv, hmod⟩ := chCtrl_place k
  have hmode : (R.TMB_CH_CTRL_MODE (k.val / 4) (k.val % 4)).get v = 0 := by rw [chMode_get, hm]; rfl
  have hr : tmbRangeOk s (A.TMB_CH_CTRL (k.val / 4) (k.val % 4)) v = true := by
    simp [tmbRangeOk, hns, hadj, hfreq, hctrl, hin, hdiv, hmod, hmode]
  have hw : writeUnit (k.val / 4) (0x40 + 0x10 * (k.val % 4)) (A.TMB_CH_CTRL (k.val / 4) (k.val % 4)) v s =
      enableChannel (k.val / 4) (k.val % 4) (plainWrite (A.TMB_CH_CTRL (k.val / 4) (k.val % 4)) v s) := by
    have h10 : 0x40 + 0x10 * (k.val % 4) ≠ 0x10 := by omega
    simp [writeUnit, h10, hs, chEn_plainWrite, hv]
  rw [busPut_plain hu (chCtrl_plain k).1, regWrite_tmb hb]
  unfold writeTmb
  simp [hh, hr, hns, hadj, hctrl, hin, hdiv, hmod, hw]

/-- R119: EN of a channel in TB mode, by whether its target has passed. -/
theorem enableChannel_tb {u c : Nat} (hm : getF s (R.TMB_CH_CTRL_MODE u c) = 0) : enableChannel u c s =
    if cmpValue s u c < s.now then setLate u c (modUnit u (fun x => { x with spent := x.spent.set c none }) s)
    else modUnit u (fun x => { x with spent := x.spent.set c none }) s := by
  unfold enableChannel
  simp only [getF_modUnit, hm]
  rfl

end

/-- Settles O22: a source event is the prescaler and then the counter, by whether the count is complete; a channel by its mode. -/
theorem timerUnitsAndChannels : Obligations.TimerUnitsAndChannels := by
  unfold Obligations.TimerUnitsAndChannels
  refine ⟨fun s u hh hl hc hof hp ht hm hw hu => ⟨_, rfl, ?_⟩, fun s u hh hl hc hof hp ht hw hu => ⟨_, rfl, ?_⟩,
    fun s u hh hl hc hof hp => congrArg Host.Outcome.next ((doTimerSourceEvent_counts hh hl hc).trans (prescale_counts hof hp)),
    fun s u hc hl => congrArg Host.Outcome.next ?_, fun s u t rest hh hl hr ht => congrArg Host.Outcome.next ?_,
    fun s k hd hm => congrArg Host.Outcome.next ((if_pos hd).trans (by rw [compareMatch_tb hd hm])),
    fun s k hd hm => congrArg Host.Outcome.next ((if_pos hd).trans (by rw [compareMatch_periodic hd hm])),
    fun s who k v hu hs hv hm hn => congrArg Host.Outcome.next ?_, fun s who k v hu hs hv hm hn => congrArg Host.Outcome.next ?_,
    fun s u hh hl hc hof hp hw => congrArg Host.Outcome.next ?_⟩
  · have hlt : getF s (R.TMB_U_CNT u) + 1 < 2 ^ 32 := by
      have := Fld.get_lt (R.TMB_U_CNT u) (rawReg s (R.TMB_U_CNT u).addr)
      unfold getF at hm ⊢
      simp only [R.TMB_U_CNT] at this hm ⊢
      omega
    rw [doTimerSourceEvent_counts hh hl hc, prescale_complete hof hp]
    exact increment_effect hu hlt (incrementCounter_free (by rwa [getUnit_modUnit hu]) (by simp [ht, hm]) rfl)
  · rw [doTimerSourceEvent_counts hh hl hc, prescale_complete hof hp]
    obtain ⟨hcnt, hreached, -, hregs, -⟩ := increment_effect hu (by decide : 0 < 2 ^ 32)
      (incrementCounter_free (v := 0) (wraps := true) (by rwa [getUnit_modUnit hu]) (by simp [ht]) rfl)
    exact ⟨hcnt, hreached, hregs⟩
  · have ha : unitActive s u = false := by simp [unitActive, hc]
    unfold doTimerSourceEvent sourceEvent
    simp [hl, ha]
  · unfold doTimerSourceEvent linkedEvent
    simp [hh, hr, hl, Nat.not_le.mpr ht]
  · rw [busPut_enablesChannel hu hs hv hm, enableChannel_tb (by rw [chMode_plainWrite, hm]; rfl), cmpValue_plainWrite,
      if_neg (by rw [State.now, plainWrite_tmb]; exact Nat.not_lt.mpr hn)]
  · rw [busPut_enablesChannel hu hs hv hm, enableChannel_tb (by rw [chMode_plainWrite, hm]; rfl), cmpValue_plainWrite,
      if_pos (by rw [State.now, plainWrite_tmb]; exact hn)]
  · rw [doTimerSourceEvent_counts hh hl hc, prescale_complete hof hp]
    exact if_pos (by rw [getUnit_modUnit (lt_length_of_cntAt hw)]; exact hw)

end Sys2Proof.Machine
end

section
/-! Acquisition, coasting and the revert of the raster PLL (R49 to R58, R69, R977). -/

namespace Sys2Proof.Machine

/-- R7, R70: in ACQUIRING the head goes to RUNNING. -/
theorem rasterUp_of_acquiring {s : State} (h : s.head.st = .acquiring) : (rasterUp s).head.st = .running := by
  unfold rasterUp setHead
  simp [h]

theorem rasterUp_of_not {s : State} (h : s.head.st ≠ .acquiring) : rasterUp s = s := by
  unfold rasterUp
  simp [h]

/-- Settles O13: each event is taken in its state of the loop, past its count. -/
theorem rasterPllAcquisition : Obligations.RasterPllAcquisition := by
  unfold Obligations.RasterPllAcquisition
  refine ⟨fun s b hp hl hb => congrArg Host.Outcome.next ?_, fun s hp hl => congrArg Host.Outcome.next (if_pos ⟨hp, hl⟩),
    fun s hp hf ht => congrArg Host.Outcome.next (if_pos ⟨hp, hf, ht⟩), fun s hp hl => congrArg Host.Outcome.next (if_pos ⟨hp, hl⟩),
    fun _ h => rasterUp_of_acquiring h, fun _ h => rasterUp_of_not h⟩
  exact (if_pos ⟨hp, hl⟩).trans (if_pos hb)

@[simp] theorem rasterUp_rru (s : State) : (rasterUp s).rru = s.rru := by
  unfold rasterUp
  split
  · exact setHead_rru _ _
  · rfl

@[simp] theorem rasterUp_mem (s : State) : (rasterUp s).mem = s.mem := by
  unfold rasterUp
  split
  · exact setHead_mem _ _
  · rfl

@[simp] theorem rasterUp_regs (s : State) : (rasterUp s).regs = s.regs := by
  unfold rasterUp
  split
  · exact setHead_regs _ _
  · rfl

/-- R50: the choice of a source changes nothing else. -/
theorem chooseInCoast_eq (s : State) : ∃ c t, chooseInCoast s = s.onRru fun r => { r with chosen := c, chosenTb := t } := by
  unfold chooseInCoast
  split
  · exact ⟨_, _, rfl⟩
  · exact ⟨s.rru.chosen, s.rru.chosenTb, rfl⟩

/-- R49: the loop coasts from its source on its control word, in the frame in progress; the registers and the memory stay. -/
theorem beginCoast_effect (s : State) : (∃ c t, (beginCoast s).rru = { s.rru with
      pll := .coast, coastFrom := s.rru.active, coastTb := s.now, chosen := c, chosenTb := t, revertTo := none, frameCoast := true
      lockCount := 0, bigErr := 0, pullAfterCoast := false, freeDue := false }) ∧
    (beginCoast s).mem = s.mem ∧ (beginCoast s).regs = s.regs := by
  unfold beginCoast
  obtain ⟨c, t, h⟩ := chooseInCoast_eq (s.onRru fun r =>
    { r with pll := .coast, coastFrom := r.active, coastTb := s.now, chosen := none, revertTo := none, frameCoast := true, lockCount := 0,
             bigErr := 0, pullAfterCoast := false, freeDue := false })
  rw [h, rasterUp_rru, rasterUp_mem, rasterUp_regs]
  exact ⟨⟨c, t, rfl⟩, rfl, rfl⟩

/-- Settles O14. -/
theorem coastAndRevert : Obligations.CoastAndRevert := by
  unfold Obligations.CoastAndRevert
  refine ⟨fun s hp hm ht hf hc => congrArg Host.Outcome.next (if_pos ⟨hp, hm, ht, hf, hc⟩),
    fun s hp hm ht hf ha hq => congrArg Host.Outcome.next (if_pos ⟨hp, hm, ht, hf, ha, hq⟩), fun s src hp hr hb => ⟨_, rfl, ?_⟩⟩
  have hd : doRevertFreeze s = (beginCoast s).onRru fun r => { r with chosen := some src, revertTo := some src, chosenTb := s.now } := by
    unfold doRevertFreeze revertFreezes
    rw [if_pos hb, hp, hr]
  obtain ⟨⟨c, t, hrru⟩, hmem, hregs⟩ := beginCoast_effect s
  rw [hd]
  simp [hrru, hmem, hregs]

end Sys2Proof.Machine
end

section
/-! Line events, vertical events and frame ends of a source (R25 to R31, R37 to R47). -/

namespace Sys2Proof.Machine

/-! ## The monitors -/

theorem getMon_modMon {src : Nat} {f : SourceMon → SourceMon} {s : State} (h : src < s.rru.mon.length) :
    getMon (modMon src f s) src = f (getMon s src) := by
  unfold getMon modMon
  simp [List.getD_eq_getElem?_getD, h]

theorem getMon_modMon_ne {src c : Nat} {f : SourceMon → SourceMon} {s : State} (h : c ≠ src) : getMon (modMon src f s) c = getMon s c := by
  unfold getMon modMon
  simp [List.getD_eq_getElem?_getD, Ne.symm h]

theorem modMon_frame (src : Nat) (f : SourceMon → SourceMon) (s : State) :
    modMon src f s = { s with rru := { s.rru with mon := (modMon src f s).rru.mon } } := rfl

theorem srcCode_injective {a b : Source} (h : srcCode a = srcCode b) : a = b := by
  revert h
  cases a <;> cases b <;> decide

theorem srcCode_eq_four {src : Source} (h : srcCode src = 4) : src = .optical := srcCode_injective h

/-- R871: an event of a block other than FLT sets its EVT bit. -/
theorem getF_evt_raise {code : Nat} {fs : List DetailField} {s : State} (h : (evtField code).addr ≠ A.FLT_CNT ∧
    (evtField code).addr ≠ (evtField 0x1102).addr ∧ (evtField code).lo < 32 ∧ (evtField code).w = 1) :
    getF (raise code fs s) (evtField code) = 1 := by
  obtain ⟨hf, hx, hl, hw⟩ := h
  exact (getF_raise_evt hf hx (by omega)).trans (congrArg (fun n => 1 % 2 ^ n) hw)

/-! ## Line events -/

/-- R46: an edge, a line or a pulse of a monitored source, by the source; OPTICAL is none while it serves as the cross-check. -/
theorem doSourceLineEvent_of_monitored {src : Source} {t : Nat} {err : Int} {pos neg line : Nat} {s : State}
    (hm : monitored s (srcCode src) = true) (hx : src = .optical → crossCheck s = false) :
    doSourceLineEvent src t err pos neg line s = match src with
      | .free => match freeLine s t with
        | some t => lineEvent 0 t err line s
        | none => s
      | .syncIn =>
        if pulseShape (judgeAmplitude pos neg s) pos neg && (getMon (judgeAmplitude pos neg s) 1).badAmpl < 16 then
          lineEvent 1 t err line (judgeAmplitude pos neg s)
        else judgeAmplitude pos neg s
      | .digital => if activeEdge s (pos != 0) (neg != 0) then lineEvent 2 t err line s else s
      | .ptpSchedule => match scheduleLine s with
        | some (_, t) => if s.tmb.todState = .locked then lineEvent 3 t err line s else s
        | none => s
      | .optical | .mosaic => lineEvent (srcCode src) t err line s := by
  have hc : ¬(crossCheck s = true ∧ srcCode src = 4) := fun ⟨h, h4⟩ => by
    rw [hx (srcCode_eq_four h4)] at h
    exact absurd h (by decide)
  unfold doSourceLineEvent
  rw [if_neg hc, if_neg (by simp [hm])]
  cases src <;> rfl

/-- R27: a pulse of the right amplitude is a line event of SYNC_IN. -/
theorem doSourceLineEvent_syncIn {t : Nat} {err : Int} {pos neg line : Nat} {s : State} (hm : monitored s 1 = true)
    (ha : amplitudeOk s pos neg = true) : doSourceLineEvent .syncIn t err pos neg line s =
      lineEvent 1 t err line (modMon 1 (fun m => { m with badAmpl := 0 }) s) := by
  have hj : judgeAmplitude pos neg s = modMon 1 (fun m => { m with badAmpl := 0 }) s := if_pos ha
  have hshape : pulseShape (modMon 1 (fun m => { m with badAmpl := 0 }) s) pos neg = true := by
    simp only [amplitudeOk, Bool.and_eq_true] at ha
    exact ha.1.1
  have hbad : (getMon (modMon 1 (fun m => { m with badAmpl := 0 }) s) 1).badAmpl = 0 := by
    by_cases hl : 1 < s.rru.mon.length
    · rw [getMon_modMon hl]
    · unfold getMon modMon
      simp [List.getD_eq_getElem?_getD, hl]
  rw [doSourceLineEvent_of_monitored hm (by simp), hj]
  simp [hshape, hbad]

/-- R43, R46: a line event in its window and at a good spacing, of a source that is not active. -/
theorem lineEvent_good {src : Source} {t : Nat} {err : Int} {line last : Nat} {s : State} (ho : src ≠ .optical)
    (hl : (getMon s (srcCode src)).lastEvent = some last) (hk : (getMon s (srcCode src)).skipped = 0)
    (hw : inWindow s (srcCode src) t line = true) (hs : spacingOk s (t - last) 65536 = true) (ha : s.rru.active ≠ src) :
    lineEvent (srcCode src) t err line s = modMon (srcCode src) (fun m => { m with
      lastEvent := some t, skipped := 0, missLines := 0, ended := 0, goodLines := min 64 (m.goodLines + 1)
      lineCount := m.lineCount + 1, lastLine := line, crossings := m.crossings + 1 }) s := by
  have h4 : srcCode src ≠ 4 := fun h => ho (srcCode_eq_four h)
  have hna : srcCode s.rru.active ≠ srcCode src := fun h => ha (srcCode_injective h)
  have hsk : skippedLines (srcCode src) (getMon s (srcCode src)) = 0 := by simp [skippedLines, h4, hk]
  have hmon : lineMonitor (srcCode src) t line s = modMon (srcCode src) (fun m => { m with
      lastEvent := some t, skipped := 0, missLines := 0, ended := 0, goodLines := min 64 (m.goodLines + 1)
      lineCount := m.lineCount + 1, lastLine := line, crossings := m.crossings + 1 }) s := by
    simp only [inWindow, hl, h4, if_false] at hw
    unfold lineMonitor
    simp only [hl, h4, if_false, hsk, hs, and_self, if_true]
    exact if_pos (by simpa [hsk] using hw)
  have hac : (modMon (srcCode src) (fun m => { m with
      lastEvent := some t, skipped := 0, missLines := 0, ended := 0, goodLines := min 64 (m.goodLines + 1)
      lineCount := m.lineCount + 1, lastLine := line, crossings := m.crossings + 1 }) s).rru.active = s.rru.active := rfl
  unfold lineEvent
  simp only [hmon, hac, hna, false_and, if_false]

/-- R46, R47: a line event that does not come, of a source that is neither active nor qualified. -/
theorem lineMissing_idle {src : Source} {s : State} (hf : src ≠ .free) (hl : (getMon s (srcCode src)).lastEvent ≠ none)
    (ha : s.rru.active ≠ src) (hq : (getMon s (srcCode src)).qualified = false) :
    lineMissing (srcCode src) s = modMon (srcCode src) (fun m => { m with
      skipped := m.skipped + 1, lineCount := m.lineCount + 1, goodLines := 0, goodVerts := 0, missLines := m.missLines + 1 }) s := by
  have h0 : srcCode src ≠ 0 := fun h => hf (srcCode_injective (b := .free) h)
  have hna : srcCode s.rru.active ≠ srcCode src := fun h => ha (srcCode_injective h)
  unfold lineMissing
  simp [h0, hl, hna, hq]

/-- R31: a scheduled line, while the time of day is locked. -/
theorem doSourceLineEvent_ptpSchedule {t u : Nat} {err k : Int} {pos neg line : Nat} {s : State} (hm : monitored s 3 = true)
    (hl : scheduleLine s = some (k, u)) (hs : s.tmb.todState = .locked) :
    doSourceLineEvent .ptpSchedule t err pos neg line s = lineEvent 3 u err line s := by
  rw [doSourceLineEvent_of_monitored hm (by simp), hl]
  dsimp only
  rw [if_pos hs]

/-- Settles O15: the event of each source is a line event of its monitor, which alone changes while the source is not active. -/
theorem sourceLineEvents : Obligations.SourceLineEvents := by
  unfold Obligations.SourceLineEvents
  refine ⟨fun s t err pos neg line hm ha => congrArg Host.Outcome.next ?_, fun s t err pos neg line hm => congrArg Host.Outcome.next ?_,
    fun s t err pos neg line hm hx => congrArg Host.Outcome.next ?_, fun s t u err k pos neg line hm hl hs => congrArg Host.Outcome.next ?_,
    fun s t u err pos neg line hm hl => congrArg Host.Outcome.next ?_, fun s t err pos neg line hm ha => congrArg Host.Outcome.next ?_,
    fun s src t err line last ho hl hk hlen hw hs ha => ⟨_, rfl, ?_⟩, fun s src hsrc hm hw hlen ha hq => ⟨_, rfl, ?_⟩,
    fun s => congrArg Host.Outcome.next ?_, fun s => congrArg Host.Outcome.next (if_pos rfl)⟩
  · exact (doSourceLineEvent_of_monitored hm (by simp)).trans (if_pos ha)
  · exact doSourceLineEvent_of_monitored hm (by simp)
  · exact doSourceLineEvent_of_monitored hm fun _ => hx
  · exact doSourceLineEvent_ptpSchedule hm hl hs
  · rw [doSourceLineEvent_of_monitored hm (by simp)]
    simp [hl]
  · exact doSourceLineEvent_syncIn hm ha
  · rw [lineEvent_good ho hl hk hw hs ha, getMon_modMon hlen]
    exact ⟨rfl, rfl, rfl, fun c hc => getMon_modMon_ne hc, modMon_frame _ _ _⟩
  · have hsome : (getMon s (srcCode src)).lastEvent ≠ none := fun hn => by
      rw [windowEnded, hn] at hw
      exact Bool.false_ne_true hw
    have hfree : src ≠ .free ∧ src ≠ .mosaic := by rcases hsrc with rfl | rfl | rfl | rfl <;> decide
    have hd : doLineMissing src s = lineMissing (srcCode src) s := (if_neg hfree.2).trans (if_pos ⟨hm, hw⟩)
    rw [hd, lineMissing_idle hfree.1 hsome ha hq, getMon_modMon hlen]
    exact ⟨rfl, rfl, fun c hc => getMon_modMon_ne hc, modMon_frame _ _ _⟩
  · have h0 : lineMissing 0 s = s := by
      unfold lineMissing
      exact if_pos (Or.inl rfl)
    unfold doLineMissing doLineEventMissing
    simp [srcCode, h0]

/-! ## Vertical events -/

/-- A vertical event of a monitored source while the loop is not OFF; OPTICAL's while it is no cross-check. -/
theorem doSourceVerticalEvent_of_monitored {src : Source} {parity : Bool} {diff : Int} {s : State}
    (hm : monitored s (srcCode src) = true) (hp : s.rru.pll ≠ .off) (ho : src ≠ .optical) :
    doSourceVerticalEvent src parity diff s = match verticalAt s src parity with
      | some (t, p) => verticalEvent (srcCode src) t p s
      | none => s := by
  have h4 : ¬(crossCheck s = true ∧ srcCode src = 4) := fun h => ho (srcCode_eq_four h.2)
  unfold doSourceVerticalEvent
  exact (if_neg h4).trans (if_pos ⟨hm, hp⟩)

/-- R30: the active edge of VSYNC. -/
theorem verticalAt_digital (s : State) :
    verticalAt s .digital (flagF s R.RRU_GEOM_VS_POL) = some (s.now * 262144, halfOfLine s 2 (s.now * 262144)) := if_pos rfl

/-- R45: a source that is not active keeps its own line count. -/
theorem ownCount_of_not_active {s : State} {src : Nat} (h : srcCode s.rru.active ≠ src) : ownCount s src = true := by
  simp [ownCount, Ne.symm h]

/-- R45: the source's own count of lines. -/
theorem sourceCount_lines {s : State} {src vtb : Nat} (h : src ≠ 4) : sourceCount s src vtb = (getMon s src).lineCount := by
  unfold sourceCount
  exact if_pos h

/-- R37, R45: a vertical event at a wrong line count of a source that keeps its own. -/
theorem verticalEvent_ignored {src vtb : Nat} {parity : Bool} {s : State} (h4 : src ≠ 4) (ha : srcCode s.rru.active ≠ src)
    (hv : (getMon s src).vertSeen = true) (hc : countOk s src (getMon s src).parity (getMon s src).lineCount = false) :
    verticalEvent src vtb parity s = raise 0x0109 [.h (getMon s src).lineCount] s := by
  unfold verticalEvent
  simp [ownCount_of_not_active ha, sourceCount_lines h4, hv, hc]

/-- R37, R43, R45: one at a right line count, of a progressive source that is neither active nor qualified. -/
theorem verticalEvent_accepted {src vtb : Nat} {parity : Bool} {s : State} (h4 : src ≠ 4) (ha : srcCode s.rru.active ≠ src)
    (hp : s.rru.pll ≠ .coast) (hi : flagF s R.RRU_GEOM_INTERLACE = false) (hq : (getMon s src).qualified = false)
    (hg : (getMon s src).goodLines < 64) (hlen : src < s.rru.mon.length)
    (hc : countOk s src (getMon s src).parity (getMon s src).lineCount = true) :
    verticalEvent src vtb parity s = endSourceFrame src (getMon s src).lineCount vtb (modMon src (fun m => { m with vertSeen := true }) s) := by
  have hk : takeParity src parity s = s := if_neg (by simp [hi])
  have hm : getMon (endSourceFrame src (getMon s src).lineCount vtb (modMon src (fun m => { m with vertSeen := true }) s)) src =
      { getMon s src with vertSeen := true, lineCount := 0, crossings := 0, lastVert := some vtb
                          ended := (getMon s src).ended + (getMon s src).lineCount } := by
    unfold endSourceFrame
    rw [getMon_modMon (by simpa [modMon] using hlen), getMon_modMon hlen]
  have hcv : countVertical src (endSourceFrame src (getMon s src).lineCount vtb (modMon src (fun m => { m with vertSeen := true }) s)) =
      endSourceFrame src (getMon s src).lineCount vtb (modMon src (fun m => { m with vertSeen := true }) s) := by
    unfold countVertical
    dsimp only
    rw [hm]
    exact (if_neg (by rw [hq]; decide)).trans (if_neg (Nat.not_le.mpr hg))
  have he : endsFrame (endSourceFrame src (getMon s src).lineCount vtb (modMon src (fun m => { m with vertSeen := true }) s)) src = false := by
    simp [endsFrame, endSourceFrame, modMon, ha]
  unfold verticalEvent
  simp [ownCount_of_not_active ha, sourceCount_lines h4, hc, hk, h4, hcv, he, hp]

/-! ## The end of a frame by its line count -/

@[simp] theorem modMon_mem (src : Nat) (f : SourceMon → SourceMon) (s : State) : (modMon src f s).mem = s.mem := rfl
@[simp] theorem modMon_regs (src : Nat) (f : SourceMon → SourceMon) (s : State) : (modMon src f s).regs = s.regs := rfl
@[simp] theorem modMon_f (src : Nat) (f : SourceMon → SourceMon) (s : State) : (modMon src f s).rru.f = s.rru.f := rfl
@[simp] theorem modMon_boundaryDue (src : Nat) (f : SourceMon → SourceMon) (s : State) :
    (modMon src f s).rru.boundaryDue = s.rru.boundaryDue := rfl

/-- R37, R45, R47: the end of FREE's own frame changes its monitor alone. -/
theorem ownFrameEnd_free (c : Nat) (s : State) : ∃ f g h, ownFrameEnd 0 c s = modMon 0 h (modMon 0 g (modMon 0 f s)) := by
  unfold ownFrameEnd vertMissing
  exact ⟨_, _, _, if_neg (by simp)⟩

/-- R37: the frame of FREE ends past its last line with event 0x0109, whether or not FREE keeps a count of its own. -/
theorem activeFrameEnd_free {s : State} (ha : s.rru.active = .free) : ∃ u, activeFrameEnd s = u ∧ u.rru.boundaryDue = true ∧
    u.regs = (raise 0x0109 [.h (activeCount s)] (s.onRru fun r => { r with boundaryDue := true, field := nextParity s r.field })).regs ∧
    u.rru.f = s.rru.f ∧ u.mem = s.mem := by
  refine ⟨_, rfl, ?_⟩
  unfold activeFrameEnd
  simp only [ha, srcCode]
  rw [if_neg (by simp)]
  split
  · simp
  · obtain ⟨f, g, h, he⟩ := ownFrameEnd_free (activeCount s)
      (raise 0x0109 [.h (activeCount s)] (s.onRru fun r => { r with boundaryDue := true, field := nextParity s r.field }))
    rw [he]
    simp

/-- Settles O16: an accepted vertical event restarts the count of its monitor; the end of FREE's frame raises event 0x0109. -/
theorem sourceFrames : Obligations.SourceFrames := by
  unfold Obligations.SourceFrames
  have hact : ∀ s : State, s.rru.active ≠ .digital → srcCode s.rru.active ≠ 2 := fun s ha h => ha (srcCode_injective (b := .digital) h)
  refine ⟨fun s diff hm hp ha hi hlen hq hg hc => ⟨_, rfl, ?_⟩, fun s diff hm hp ha hv hc => congrArg Host.Outcome.next ?_,
    fun s diff => congrArg Host.Outcome.next ?_, fun s src parity diff hsrc hm hp => congrArg Host.Outcome.next ?_,
    fun s ha hp hv hb hi hl => ⟨_, rfl, ?_⟩⟩
  · rw [doSourceVerticalEvent_of_monitored hm (by simp [hp]) (by simp), verticalAt_digital]
    dsimp only
    rw [show srcCode .digital = 2 from rfl, verticalEvent_accepted (by decide) (hact s ha) (by simp [hp]) hi hq hg hlen hc]
    have hlen' : 2 < (modMon 2 (fun m => { m with vertSeen := true }) s).rru.mon.length := by simpa [modMon] using hlen
    unfold endSourceFrame
    rw [getMon_modMon hlen', getMon_modMon hlen]
    refine ⟨rfl, rfl, rfl, fun c hc => ?_, rfl⟩
    rw [getMon_modMon_ne hc, getMon_modMon_ne hc]
  · rw [doSourceVerticalEvent_of_monitored hm (by simp [hp]) (by simp), verticalAt_digital]
    dsimp only
    exact verticalEvent_ignored (by decide) (hact s ha) hv hc
  · have hn : verticalAt s .digital (!flagF s R.RRU_GEOM_VS_POL) = none := if_neg (by simp)
    unfold doSourceVerticalEvent
    simp [hn, srcCode]
  · have ho : src ≠ .optical := by rcases hsrc with rfl | rfl <;> decide
    have hv : verticalAt s src parity = some (s.now * 262144, parity) := by rcases hsrc with rfl | rfl <;> rfl
    rw [doSourceVerticalEvent_of_monitored hm hp ho, hv]
  · have hd : flywheelDue s = true := by simp [flywheelDue, hv, hb, hp, ha, activeCount, hl]
    have he : doFlywheelFrameEnd .free s = activeFrameEnd s := by
      unfold doFlywheelFrameEnd
      simp [ha, hd, srcCode]
    obtain ⟨u, hu, hdue, hregs, hf, hmem⟩ := activeFrameEnd_free ha
    rw [he, hu, getF_of_regs hregs]
    exact ⟨hdue, getF_evt_raise (by decide), hf, hmem⟩

end Sys2Proof.Machine
end

section
/-! The system PLL and its references (R76 to R80, R92). -/

namespace Sys2Proof.Machine

/-- R79: the loss of the external 10 MHz that the loop follows. -/
theorem doSysRefLost_of_ext {s : State} (he : s.rru.sysRefExt = true) (ho : s.rru.sysPll ≠ .off) (hc : s.rru.sysPll ≠ .coast) :
    doSysRefLost s = if flagF s R.RRU_SYS_CTRL_FAILOVER_EN then
        raise 0x010C [] ((raise 0x010B [.h 1] (s.onRru fun r => { r with extPresent := false, sysPll := .coast })).onRru fun r =>
          { r with sysRefExt := false, sysFailedOver := true })
      else raise 0x010B [.h 1] (s.onRru fun r => { r with extPresent := false, sysPll := .coast }) := by
  have hf : flagF (raise 0x010B [.h 1] (s.onRru fun r => { r with extPresent := false, sysPll := .coast })) R.RRU_SYS_CTRL_FAILOVER_EN =
      flagF s R.RRU_SYS_CTRL_FAILOVER_EN := by
    unfold flagF
    rw [getF_raise (by decide) (by decide) (by decide)]
    rfl
  have hon : (s.onRru fun r => { r with extPresent := false }).onRru (fun r => { r with sysPll := .coast }) =
      s.onRru fun r => { r with extPresent := false, sysPll := .coast } := rfl
  unfold doSysRefLost
  simp only [hon, hf]
  exact if_pos ⟨he, ho, hc⟩

/-- R76, R92: a lock of an awake head goes on with what waited for it. -/
theorem doSystemPllLock_awake {slow : Nat} {s : State} (ha : s.rru.sysPll = .search ∨ s.rru.sysPll = .pull) (ho : s.head.st ≠ .off)
    (hd : s.sup.dieDown = false) (hs : s.head.st ≠ .sleep) : doSystemPllLock slow s = resumeApply (sysLocks s) := by
  have hq : sysAcquires s = true := by rcases ha with h | h <;> simp [sysAcquires, h]
  have hw : asleep s = false := by simp [asleep, hs]
  unfold doSystemPllLock
  rw [if_neg (by simp [hq, ho, hd, hw]), if_neg (by simp [hs])]

theorem resumeApply_idle {s : State} (h : s.cfg.applyWait = none) : resumeApply s = s := by
  unfold resumeApply
  rw [h]

/-- Settles O18. -/
theorem systemPll : Obligations.SystemPll := by
  unfold Obligations.SystemPll
  refine ⟨fun s he ho hc hf => congrArg Host.Outcome.next ((doSysRefLost_of_ext he ho hc).trans (if_pos hf)),
    fun s he ho hc hf => congrArg Host.Outcome.next ((doSysRefLost_of_ext he ho hc).trans (if_neg (by simp [hf]))),
    fun s he hc => congrArg Host.Outcome.next (if_pos ⟨hc, Or.inr rfl⟩), fun s err hl => congrArg Host.Outcome.next (if_neg (by simp [hl])),
    fun s slow ha ho hd hs hw => congrArg Host.Outcome.next ((doSystemPllLock_awake ha ho hd hs).trans (resumeApply_idle hw)),
    fun s slow ha ho hd hs => congrArg Host.Outcome.next (doSystemPllLock_awake ha ho hd hs)⟩

end Sys2Proof.Machine
end

section
/-! The PTP clock (R657, R658). -/

namespace Sys2Proof.Machine

section
variable {s : State} {port : Fin 5} {clock : Nat}

/-- A clock that is not the master. -/
theorem doPtp_announce {d : List Nat} (hr : ptpRuns s port = true) (hm : ∀ m, s.lnk.ptp.master = some m → m.getLast? ≠ some clock ∧
    betterClock (d ++ [clock]) m = true) : doPtpMessageReceived port clock (.announce d) s = s.onLnk fun l =>
      { l with ptp := { master := some (d ++ [clock]), reqTb := l.ptp.reqTb } } := by
  unfold doPtpMessageReceived
  cases h : s.lnk.ptp.master with
  | none => simp [hr]
  | some m => simp [hr, hm m h]

/-- A message of the master. -/
theorem doPtp_master {m : List Nat} {arrival : Nat} {o : Option Int} (hr : ptpRuns s port = true) (hm : s.lnk.ptp.master = some m)
    (hc : m.getLast? = some clock) : doPtpMessageReceived port clock (.sync o arrival) s =
      if o.isSome then ptpOffset (s.onLnk fun l => { l with ptp := { l.ptp with t1 := o, t2 := some (todAt s arrival) } })
      else s.onLnk fun l => { l with ptp := { l.ptp with t1 := o, t2 := some (todAt s arrival) } } := by
  unfold doPtpMessageReceived
  simp [hr, hm, hc]

theorem doPtp_followUp {m : List Nat} {origin : Int} (hr : ptpRuns s port = true) (hm : s.lnk.ptp.master = some m)
    (hc : m.getLast? = some clock) (ht : s.lnk.ptp.t2 ≠ none) : doPtpMessageReceived port clock (.followUp origin) s =
      ptpOffset (s.onLnk fun l => { l with ptp := { l.ptp with t1 := some origin } }) := by
  unfold doPtpMessageReceived
  simp [hr, hm, hc, ht]

/-- A Delay_Resp that is not the first. -/
theorem doPtp_delayResp {m : List Nat} {receipt t1 t2 t3 d : Int} (hr : ptpRuns s port = true) (hm : s.lnk.ptp.master = some m)
    (hc : m.getLast? = some clock) (h1 : s.lnk.ptp.t1 = some t1) (h2 : s.lnk.ptp.t2 = some t2) (h3 : s.lnk.ptp.t3 = some t3)
    (hd : s.lnk.ptp.delay = some d) : doPtpMessageReceived port clock (.delayResp receipt) s = s.onLnk fun l =>
      { l with ptp := { l.ptp with t4 := some receipt, delay := some (((t2 - t1) + (receipt - t3)) / 2) } } := by
  unfold doPtpMessageReceived
  simp [hr, hm, hc, h1, h2, h3, hd]

end

/-- Settles O21: a message counts when it comes from the master; the timer acts when its period has passed. -/
theorem ptpClock : Obligations.PtpClock := by
  unfold Obligations.PtpClock
  refine ⟨fun s port clock d hr hm => congrArg Host.Outcome.next (doPtp_announce hr (by simp [hm])),
    fun s port clock d m hr hm hc hb => congrArg Host.Outcome.next (doPtp_announce hr ?_),
    fun s port clock arrival m hr hm hc => congrArg Host.Outcome.next (doPtp_master hr hm hc),
    fun s port clock arrival origin m hr hm hc => congrArg Host.Outcome.next (doPtp_master hr hm hc),
    fun s port clock origin m hr hm hc ht => congrArg Host.Outcome.next (doPtp_followUp hr hm hc ht),
    fun s port clock receipt t1 t2 t3 d m hr hm hc h1 h2 h3 hd =>
      congrArg Host.Outcome.next (doPtp_delayResp hr hm hc h1 h2 h3 hd),
    fun s port clock arrival o m hr hm hc => congrArg Host.Outcome.next ?_, fun s hr hm ht => congrArg Host.Outcome.next ?_⟩
  · intro m' hm'
    obtain rfl := Option.some.inj (hm.symm.trans hm')
    exact ⟨hc, hb⟩
  · unfold doPtpMessageReceived
    simp [hr, hm, hc]
  · unfold doPtpDelayReqTimer
    simp [hr, Option.isSome_iff_ne_none.mpr hm, ht]
    rfl

end Sys2Proof.Machine
end

section
/-! Debug halt, the millisecond tick and the wakes of the always-on domain (R128, R158, R549, R832). -/

namespace Sys2Proof.Machine

/-- R832: a wake source wakes a sleeping head. -/
theorem startWake_of_asleep {src : Nat} {ch : Option Nat} {s : State} (ha : asleep s = true) (hp : s.pwr.pf = .normal) (hn : s.pwr.aon = true) :
    startWake src ch s = bootPeriod
      ((s.onHead fun h => { h with waking := true, wakeSrc := src, wakeCh := ch, cause := .wake, romServes := false }).onRru fun x =>
        { x with sysPll := .search }) := by
  unfold startWake
  rw [if_neg (by simp [ha, hp, hn])]

/-- Settles O23: each command by the guard that its hypotheses decide. -/
theorem haltTickAndWakes : Obligations.HaltTickAndWakes := by
  unfold Obligations.HaltTickAndWakes
  refine ⟨fun s hh hj => congrArg Host.Outcome.next (if_neg (by simp [hh, hj])), fun s hj => congrArg Host.Outcome.next (if_pos (by simp [hj])),
    fun s hh => congrArg Host.Outcome.next (if_pos hh), fun s ht hv hr => congrArg Host.Outcome.next ?_,
    fun s ht => congrArg Host.Outcome.next (if_neg ht), fun s n ha hp hn hw => ⟨_, congrArg Host.Outcome.next
      ((if_pos hw).trans (startWake_of_asleep ha hp hn)), rfl, rfl, rfl, rfl, rfl⟩,
    fun s k slow ha hp hn hm hw he h1 h2 h3 => ⟨_, congrArg Host.Outcome.next
      ((if_pos ⟨hm, hw, he, h1, h2, h3⟩).trans (startWake_of_asleep ha hp hn)), rfl, rfl, rfl, rfl, rfl⟩⟩
  have hp : doPeriodicMsTick s = openSwitches s := if_pos (by simp [hv, hr, milli, ht])
  exact (if_pos ht).trans (congrArg avTick hp)

end Sys2Proof.Machine
end

section
/-! Tiles, sub-banks and the cooler (R158 to R170, R198). -/

namespace Sys2Proof.Machine

/-! ## Tiles -/

theorem getTile_modTile (t : Nat) (f : Tile → Tile) (s : State) : getTile (modTile t f s) t = f (getTile s t) :=
  Tbl.getD_put_self ..

theorem getTile_modTile_ne {t i : Nat} (h : i ≠ t) (f : Tile → Tile) (s : State) : getTile (modTile t f s) i = getTile s i :=
  Tbl.getD_put_ne h

theorem getTile_of_sns {s u : State} (h : u.sns = s.sns) (i : Nat) : getTile u i = getTile s i := by
  unfold getTile
  rw [h]

@[simp] theorem getTile_raise (code : Nat) (p : List DetailField) (s : State) (i : Nat) : getTile (raise code p s) i = getTile s i :=
  getTile_of_sns (raise_sns ..) i

@[simp] theorem getTile_plainWrite (a : Nat) (v : Word) (s : State) (i : Nat) : getTile (plainWrite a v s) i = getTile s i :=
  getTile_of_sns (plainWrite_sns ..) i

set_option maxRecDepth 4000 in
theorem tileCtrl_plain (t : Fin 240) : plainRegister (A.SNS_TILE_CTRL t) = true := by revert t; decide

set_option maxRecDepth 4000 in
theorem tileForceOff_rwBit (t : Fin 240) : rwBit (A.SNS_TILE_CTRL t) 0 = true := by revert t; decide

theorem tileCtrl_addr (t : Fin 240) : A.SNS_TILE_CTRL t = 0x31000 + 4 * t := rfl

theorem tileCtrl_block (t : Fin 240) : A.SNS_TILE_CTRL t / 0x10000 = 3 := by
  rw [tileCtrl_addr]
  omega

theorem snsRangeOk_tileCtrl (t : Fin 240) (v : Word) : snsRangeOk (A.SNS_TILE_CTRL t) v = true := by
  have h : ∀ a < 0x31000, A.SNS_TILE_CTRL t ≠ a := fun a ha => by
    rw [tileCtrl_addr]
    omega
  unfold snsRangeOk
  rw [if_neg (h _ (by decide)), if_neg (h _ (by decide)), if_neg (h _ (by decide)), if_neg (h _ (by decide)), if_neg (h _ (by decide))]

theorem regWrite_sns {who : Initiator} {a : Nat} {v : Word} {s : State} (ha : a / 0x10000 = 3) : regWrite who a v s = writeSns a v s := by
  unfold regWrite
  rw [ha]
  rfl

/-- A write of a tile's control register. -/
theorem busPut_tileCtrl {who : Initiator} (t : Fin 240) (v : Word) {s : State} (hu : busOpen s who = true) :
    busPut who (A.SNS_TILE_CTRL t) v s =
      tileWritten t (flagF s (R.SNS_TILE_CTRL_FORCE_OFF t)) v (plainWrite (A.SNS_TILE_CTRL t) v s) := by
  have ha : ¬A.SNS_TILE_CTRL t = A.SNS_COOL_CTRL ∧ 0x31000 ≤ A.SNS_TILE_CTRL t ∧ A.SNS_TILE_CTRL t < 0x313C0 ∧
      (A.SNS_TILE_CTRL t - 0x31000) / 4 = t := by
    rw [tileCtrl_addr]
    refine ⟨fun h => ?_, by omega, by omega, by omega⟩
    have hc : A.SNS_COOL_CTRL < 0x31000 := by decide
    omega
  have hf : (rawReg s (A.SNS_TILE_CTRL t)).getLsbD 0 = flagF s (R.SNS_TILE_CTRL_FORCE_OFF t) :=
    (flagF_eq_getLsbD (f := R.SNS_TILE_CTRL_FORCE_OFF t) rfl).symm
  obtain ⟨hc, hl, hh, ht⟩ := ha
  rw [busPut_plain hu (tileCtrl_plain t), regWrite_sns (tileCtrl_block t)]
  unfold writeSns
  rw [if_neg (by simp [snsRangeOk_tileCtrl])]
  dsimp only
  rw [if_neg hc, if_pos ⟨hl, hh⟩, ht, hf]

/-- Settles O24. -/
theorem tilePowerDomains : Obligations.TilePowerDomains := by
  unfold Obligations.TilePowerDomains
  refine ⟨fun s t h => ⟨_, congrArg Host.Outcome.next (if_pos h), getTile_modTile .., fun i hi => getTile_modTile_ne hi .., rfl⟩,
    fun s t h => ⟨_, congrArg Host.Outcome.next (if_pos h), getTile_modTile .., fun i hi => getTile_modTile_ne hi .., rfl⟩,
    fun s t c h => ⟨_, congrArg Host.Outcome.next (if_pos h), ?_, fun i hi => ?_, getF_evt_raise (by decide), ?_, ?_, ?_⟩,
    fun s who t v hu hs h1 h0 => ⟨_, congrArg Host.Outcome.next (busPut_tileCtrl t v hu), ?_⟩,
    fun s who t v hu hs hf h0 => ⟨congrArg Host.Outcome.next ?_, ?_⟩⟩
  · rw [getTile_raise, getTile_modTile]
    rfl
  · rw [getTile_raise, getTile_modTile_ne hi]
    rfl
  · rw [raise_mem]
    rfl
  · rw [raise_rru]
    rfl
  · rw [raise_exs]
    rfl
  · unfold tileWritten
    simp only [h1, h0, getTile_plainWrite, hs, and_self, if_true, Bool.false_and, Bool.false_eq_true, if_false]
    refine ⟨?_, fun i hi => ?_, fun a ha => ?_, plainWrite_mem ..⟩
    · rw [getTile_modTile, getTile_plainWrite]
    · rw [getTile_modTile_ne hi, getTile_plainWrite]
    · exact rawReg_plainWrite_ne ha
  · have hn : (getTile s t).st ≠ .fault := fun he => by
      rw [he] at hs
      exact absurd hs (by decide)
    rw [busPut_tileCtrl t v hu]
    unfold tileWritten
    simp [hf, h0, hn]
  · exact (flagF_plainWrite (f := R.SNS_TILE_CTRL_FORCE_OFF t) rfl (tileForceOff_rwBit t)).trans h0

/-! ## Sub-banks -/

theorem getSb_modSb (d : Nat) (f : SubBank → SubBank) (s : State) : getSb (modSb d f s) d = f (getSb s d) :=
  Tbl.getD_put_self ..

theorem getSb_modSb_ne {d i : Nat} (h : i ≠ d) (f : SubBank → SubBank) (s : State) : getSb (modSb d f s) i = getSb s i :=
  Tbl.getD_put_ne h

theorem getSb_of_cro {s u : State} (h : u.cro = s.cro) (i : Nat) : getSb u i = getSb s i := by
  unfold getSb
  rw [h]

@[simp] theorem getSb_raise (code : Nat) (p : List DetailField) (s : State) (i : Nat) : getSb (raise code p s) i = getSb s i :=
  getSb_of_cro (raise_cro ..) i

@[simp] theorem getSb_plainWrite (a : Nat) (v : Word) (s : State) (i : Nat) : getSb (plainWrite a v s) i = getSb s i :=
  getSb_of_cro (plainWrite_cro ..) i

@[simp] theorem getSb_unseedBank (b : Nat) (s : State) (i : Nat) : getSb (unseedBank b s) i = getSb s i := rfl

theorem sbCtrl_plain (d : Fin 40) : plainRegister (A.CRO_SB_CTRL d) = true := by revert d; decide

theorem sbForceOff_rwBit (d : Fin 40) : rwBit (A.CRO_SB_CTRL d) 0 = true := by revert d; decide

theorem croRangeOk_sbCtrl (d : Fin 40) (v : Word) : croRangeOk (A.CRO_SB_CTRL d) v = true := by
  have h : A.CRO_SB_CTRL d ≠ A.CRO_LEVELS ∧ A.CRO_SB_CTRL d ≠ A.CRO_CLAMP := by revert d; decide
  unfold croRangeOk
  rw [if_neg h.1, if_neg h.2]

theorem regWrite_cro {who : Initiator} {a : Nat} {v : Word} {s : State} (ha : a / 0x10000 = 4) : regWrite who a v s = writeCro a v s := by
  unfold regWrite
  rw [ha]
  rfl

/-- A write of a sub-bank's control register. -/
theorem busPut_sbCtrl {who : Initiator} (d : Fin 40) (v : Word) {s : State} (hu : busOpen s who = true) :
    busPut who (A.CRO_SB_CTRL d) v s = sbWritten d (flagF s (R.CRO_SB_CTRL_FORCE_OFF d)) v (plainWrite (A.CRO_SB_CTRL d) v s) := by
  have ha : A.CRO_SB_CTRL d / 0x10000 = 4 ∧ A.CRO_SB_CTRL d ≠ A.CRO_CTRL ∧ (0x40200 ≤ A.CRO_SB_CTRL d ∧ A.CRO_SB_CTRL d < 0x402A0) ∧
      (A.CRO_SB_CTRL d - 0x40200) / 4 = d := by revert d; decide
  have hf : (rawReg s (A.CRO_SB_CTRL d)).getLsbD 0 = flagF s (R.CRO_SB_CTRL_FORCE_OFF d) :=
    (flagF_eq_getLsbD (f := R.CRO_SB_CTRL_FORCE_OFF d) rfl).symm
  obtain ⟨hb, hc, hr, hd⟩ := ha
  rw [busPut_plain hu (sbCtrl_plain d), regWrite_cro hb]
  unfold writeCro
  rw [if_neg hc, if_neg (by simp [croRangeOk_sbCtrl]), if_pos hr]
  dsimp only
  rw [hd, hf]

/-- Settles O26. -/
theorem subBankPowerDomains : Obligations.SubBankPowerDomains := by
  unfold Obligations.SubBankPowerDomains
  refine ⟨fun s d h => ⟨_, congrArg Host.Outcome.next (if_pos h), getSb_modSb .., fun i hi => getSb_modSb_ne hi .., rfl⟩,
    fun s d h => ⟨_, congrArg Host.Outcome.next (if_pos h), ?_⟩,
    fun s d c h => ⟨_, congrArg Host.Outcome.next (if_pos h), ?_, fun i hi => ?_, getF_evt_raise (by decide), ?_, ?_⟩,
    fun s who d v hu hs h1 h0 => ⟨_, congrArg Host.Outcome.next (busPut_sbCtrl d v hu), ?_⟩,
    fun s who d v hu hs hf h0 => ⟨congrArg Host.Outcome.next ?_, ?_⟩⟩
  · dsimp only
    by_cases he : d.val % 20 = 0 ∨ d.val % 20 = 19
    · rw [if_pos he]
      exact ⟨(getSb_unseedBank ..).trans (getSb_modSb ..), fun i hi => (getSb_unseedBank ..).trans (getSb_modSb_ne hi ..), rfl, fun h0 h1 => absurd he (by simp [h0, h1])⟩
    · rw [if_neg he]
      exact ⟨getSb_modSb .., fun i hi => getSb_modSb_ne hi .., rfl, fun _ _ => rfl⟩
  · rw [getSb_raise, getSb_modSb]
  · rw [getSb_raise, getSb_modSb_ne hi]
  · rw [raise_mem]
    rfl
  · rw [raise_exs]
    rfl
  · unfold sbWritten
    simp only [h1, h0, getSb_plainWrite, hs, and_self, if_true, Bool.false_and, Bool.false_eq_true, if_false]
    refine ⟨?_, fun i hi => ?_, fun a ha => ?_, plainWrite_mem ..⟩
    · rw [getSb_modSb, getSb_plainWrite]
    · rw [getSb_modSb_ne hi, getSb_plainWrite]
    · exact rawReg_plainWrite_ne ha
  · have hn : (getSb s d).st ≠ .fault := fun he => by
      rw [he] at hs
      exact absurd hs (by decide)
    rw [busPut_sbCtrl d v hu]
    unfold sbWritten
    simp [hf, h0, hn, hs]
  · exact (flagF_plainWrite (f := R.CRO_SB_CTRL_FORCE_OFF d) rfl (sbForceOff_rwBit d)).trans h0

/-! ## The cooler -/

/-- A write of the cooler's control register. -/
theorem busPut_coolCtrl {who : Initiator} {v : Word} {s : State} (hu : busOpen s who = true) (hl : -1000 ≤ setpoint v) (hh : setpoint v ≤ 2500) :
    busPut who A.SNS_COOL_CTRL v s = coolWritten (rawReg s A.SNS_COOL_CTRL) v (plainWrite A.SNS_COOL_CTRL v s) := by
  have hr : snsRangeOk A.SNS_COOL_CTRL v = true := by simp [snsRangeOk, A.SNS_COOL_CTRL, A.SNS_CTRL, hl, hh]
  rw [busPut_plain hu (by decide), regWrite_sns (by decide)]
  unfold writeSns
  rw [if_neg (by simp [hr])]
  dsimp only
  rw [if_pos rfl]

theorem busPut_coolCtrl_range {who : Initiator} {v : Word} {s : State} (hu : busOpen s who = true) (h : setpoint v < -1000 ∨ 2500 < setpoint v) :
    busPut who A.SNS_COOL_CTRL v s = raise 0x0308 [.h 0x10] s := by
  have hr : snsRangeOk A.SNS_COOL_CTRL v = false := by
    unfold snsRangeOk
    rw [if_neg (by decide), if_pos rfl]
    rcases h with h | h
    · rw [decide_eq_false (by omega), Bool.false_and]
    · rw [decide_eq_false (p := setpoint v ≤ 2500) (by omega), Bool.and_false]
  rw [busPut_plain hu (by decide), regWrite_sns (by decide)]
  unfold writeSns
  rw [if_pos (by simp [hr])]
  rfl

/-- R166: a new setpoint in STABLE settles again, and EN keeps the cooler on. -/
theorem coolWritten_setpoint {old v : Word} {s : State} (ht : s.sns.temp = .stable) (hne : setpoint old ≠ setpoint v)
    (he : v.getLsbD 31 = true) : coolWritten old v s = startCooler (s.onSns fun x => { x with temp := .settling, inBand := 0 }) := by
  have hs : setpoint old ≠ setpoint v ∧ (s.sns.temp = .settling ∨ s.sns.temp = .stable) := ⟨hne, .inr ht⟩
  unfold coolWritten
  dsimp only
  rw [if_pos hs, if_neg (fun h => TempState.noConfusion h.2)]
  exact if_neg (by rw [he]; decide)

/-- FAULT_CLR in FAULT: only a hot side that has cooled down takes the cooler out of it. -/
theorem coolWritten_faultClr {old v : Word} {s : State} (hf : s.sns.temp = .fault) (hv : v.getLsbD 30 = true) :
    coolWritten old v s = if s.sns.hotSide.toInt < 6000 then s.onSns fun x => { x with temp := .off } else s := by
  unfold coolWritten
  simp [hf, hv]

/-- The hundredth good sample in a row. -/
theorem tempStep_stable {ok : Bool} {s : State} (ht : s.sns.temp = .settling) (hn : s.sns.inBand = 99) (hh : s.sns.hotSide.toInt < 7500)
    (hd : (s.sns.sensor.toInt - setpoint (rawReg s A.SNS_COOL_CTRL)).natAbs ≤ 10) : tempStep ok s =
      raise 0x0301 [.h (signed16 s.sns.sensor.toInt)] (s.onSns fun x => { x with temp := .stable, inBand := 0, heldOver := false }) := by
  unfold tempStep
  simp only [ht]
  rw [if_neg (by omega), if_pos (by simp [hd, hn])]

/-- Settles O25. -/
theorem cooler : Obligations.Cooler := by
  unfold Obligations.Cooler
  refine ⟨fun s hot sensor power ok ht hn hh hd => ?_, fun s ht hh hd => ?_, fun s ok ht hh => ?_,
    fun s ho hs => congrArg Host.Outcome.next (if_pos (by simp [ho, hs])), fun s who v hu hl hh h0 h1 hne ht => congrArg Host.Outcome.next ?_,
    fun s who v hu h => congrArg Host.Outcome.next (busPut_coolCtrl_range hu h),
    fun s who v hu hl hh hv ht hc => congrArg Host.Outcome.next ?_, fun s who v hu hl hh hv ht hc => congrArg Host.Outcome.next ?_⟩
  · have hs := tempStep_stable (ok := ok) (s := s.onSns fun x =>
      { x with hotSide := hot, sensor := sensor, coolPwr := power, sampled := true, coolSat := x.coolSat && decide (coolCap s ≤ power.toNat) })
      ht hn hh hd
    refine ⟨calTemperature sensor.toInt (coolerSample hot sensor power ok s), congrArg Host.Outcome.next (if_neg (by simp [ht])), ?_⟩
    unfold coolerSample
    rw [hs]
    simp [calTemperature]
  · unfold tempStep
    simp only [ht]
    rw [if_neg (by omega), if_neg (by simpa using hd)]
    rfl
  · unfold tempStep
    rcases ht with ht | ht <;> simp only [ht] <;> rw [if_pos hh] <;> rfl
  · have hw : coolWritten (rawReg s A.SNS_COOL_CTRL) v (plainWrite A.SNS_COOL_CTRL v s) =
        startCooler ((plainWrite A.SNS_COOL_CTRL v s).onSns fun x => { x with temp := .settling, inBand := 0 }) := by
      exact coolWritten_setpoint (by rw [plainWrite_sns]; exact ht) (Ne.symm hne) h1
    rw [busPut_coolCtrl hu hl hh, hw]
    exact if_neg fun h => absurd h.1 (by simp)
  · rw [busPut_coolCtrl hu hl hh, coolWritten_faultClr (by rw [plainWrite_sns]; exact ht) hv, plainWrite_sns, if_pos hc]
  · rw [busPut_coolCtrl hu hl hh, coolWritten_faultClr (by rw [plainWrite_sns]; exact ht) hv, plainWrite_sns, if_neg (by omega)]

end Sys2Proof.Machine
end

section
/-! The sensor link and the geometry descriptors (R204, R207, R217, R231). -/

namespace Sys2Proof.Machine

/-! ## Row packets -/

section
variable {s : State} {p : RowPacket} {rd : BankRead}

/-- A row packet that a read takes. -/
theorem doRowPacketReceived_of_reading {b : Booking} {e : ExpEntry} (hr : s.cro.reading.getD p.bank none = some rd) (hl : rd.lane ≠ 4)
    (hd : rd.dead = false) (hg : rd.got.contains p.row.val = false) (hb : findBooking s rd.lane rd.exp rd.frame rd.rg = some b)
    (he : (laneProg s rd.lane).exps[rd.exp]? = some e) (hk : p.row.val < rowsPerGroup (geoOf s e.geo).bin) :
    doRowPacketReceived p s = laneRow b e rd p (s.onCro fun x =>
      { x with reading := x.reading.set p.bank (some { rd with got := rd.got ++ [p.row.val] }) }) := by
  unfold doRowPacketReceived
  rw [hr]
  dsimp only
  rw [if_neg (by simp only [hd, hg]; decide), if_neg hl]
  generalize hu : s.onCro (fun x => { x with reading := x.reading.set p.bank (some { rd with got := rd.got ++ [p.row.val] }) }) = u
  have hb' : findBooking u rd.lane rd.exp rd.frame rd.rg = some b := by subst hu; exact hb
  have he' : (laneProg u rd.lane).exps[rd.exp]? = some e := by subst hu; exact he
  have hk' : p.row.val < rowsPerGroup (geoOf u e.geo).bin := by subst hu; exact hk
  simp only [hb', he', if_pos hk']

/-- A row packet that no read takes. -/
theorem doRowPacketReceived_dropped (h : ∀ rd, s.cro.reading.getD p.bank none = some rd → rd.dead = true ∨ rd.got.contains p.row.val = true) :
    doRowPacketReceived p s = s := by
  unfold doRowPacketReceived
  cases hr : s.cro.reading.getD p.bank none with
  | none => rfl
  | some rd => exact if_pos (h rd hr)

end

/-! ## Geometry descriptors -/

/-- The words of the descriptors: CTRL, COLS and the bitmap. -/
theorem geoRegister_cases (n : Fin 16) (reg : Fin 50) : (geoRegister n reg = 0x41000 + 0x40 * n ∨ geoRegister n reg = 0x41004 + 0x40 * n) ∨
    ∃ w < 48, geoRegister n reg = 0x42000 + 0x100 * n + 4 * w := by
  unfold geoRegister
  split
  · exact .inl (.inl rfl)
  · split
    · exact .inl (.inr rfl)
    · exact .inr ⟨reg.val - 2, by omega, rfl⟩

set_option maxRecDepth 8000 in
theorem geoRegister_plain (n : Fin 16) (reg : Fin 50) : plainRegister (geoRegister n reg) = true := by
  revert n reg
  decide

theorem croRangeOk_geo {a : Nat} (ha : 0x41000 ≤ a) (v : Word) : croRangeOk a v = true := by
  have hl : A.CRO_LEVELS < 0x41000 ∧ A.CRO_CLAMP < 0x41000 := by decide
  unfold croRangeOk
  rw [if_neg (by omega), if_neg (by omega)]

/-- A write of a word of a descriptor. -/
theorem writeCro_geo (n : Fin 16) (reg : Fin 50) (v : Word) (s : State) :
    writeCro (geoRegister n reg) v s = writeGeo n (geoRegister n reg) v s := by
  have hc : A.CRO_CTRL < 0x41000 := by decide
  have hg := geoRegister_cases n reg
  generalize geoRegister n reg = a at hg ⊢
  have hl : 0x41000 ≤ a := by rcases hg with (h | h) | ⟨w, hw, h⟩ <;> omega
  unfold writeCro
  rw [if_neg (by omega), if_neg (by simp [croRangeOk_geo hl]), if_neg (by omega)]
  rcases hg with hg | ⟨w, hw, hg⟩
  · have hn : (a - 0x41000) / 0x40 = n := by omega
    rw [if_pos (by omega), hn]
  · have hn : (a - 0x42000) / 0x100 = n := by omega
    rw [if_neg (by omega), if_pos (by omega), hn]

theorem busPut_geo {who : Initiator} {n : Fin 16} {reg : Fin 50} {v : Word} {s : State} (hu : busOpen s who = true) :
    busPut who (geoRegister n reg) v s = (writeGeo n (geoRegister n reg) v s).2 := by
  have hb : geoRegister n reg / 0x10000 = 4 := by
    rcases geoRegister_cases n reg with (h | h) | ⟨w, hw, h⟩ <;> omega
  rw [busPut_plain hu (geoRegister_plain n reg), regWrite_cro hb, writeCro_geo]

/-- R204: a word of a free descriptor that stays in range and not VALID. -/
theorem writeGeo_free {n a : Nat} {v : Word} {s : State} (hu : geoInUse s n = false) (hv : (geoOf (plainWrite a v s) n).valid = false)
    (hb : (geoOf (plainWrite a v s) n).bin ≠ 3) (h0 : (geoOf (plainWrite a v s) n).c0 ≤ 1279)
    (h1 : (geoOf (plainWrite a v s) n).c1 ≤ 1279) : writeGeo n a v s = (.ok, plainWrite a v s) := by
  unfold writeGeo
  rw [if_neg (by simp [hu])]
  dsimp only
  rw [if_neg (by rw [hv]; simp; omega)]

/-- Settles O27. -/
theorem sensorLinkAndGeometry : Obligations.SensorLinkAndGeometry := by
  unfold Obligations.SensorLinkAndGeometry
  refine ⟨fun s l hu hc => congrArg Host.Outcome.next (if_pos ⟨hu, hc⟩), fun s l ht => congrArg Host.Outcome.next (if_pos ht),
    fun s l fails ht hf => ?_, fun s p rd b e hr hl hd hg hb he hk => congrArg Host.Outcome.next (doRowPacketReceived_of_reading hr hl hd hg hb he hk),
    fun s p hr => congrArg Host.Outcome.next (doRowPacketReceived_dropped fun r h => absurd (hr.symm.trans h) (Option.some_ne_none r).symm),
    fun s p rd hr hd => congrArg Host.Outcome.next (doRowPacketReceived_dropped fun r h => Option.some.inj (hr.symm.trans h) ▸ hd),
    fun s who n reg v hu hg => congrArg Host.Outcome.next ?_, fun s who n reg v hu hg hv hb h0 h1 => congrArg Host.Outcome.next ?_⟩
  · have hr : doLaneRetrainDone l false s = retrainFails l s := if_pos ht
    subst hf
    exact ⟨fun h => congrArg Host.Outcome.next (hr.trans (if_neg (by omega))), fun h => congrArg Host.Outcome.next (hr.trans (if_pos h))⟩
  · rw [busPut_geo hu]
    unfold writeGeo
    rw [if_pos hg]
  · rw [busPut_geo hu, writeGeo_free hg hv hb h0 h1]

end Sys2Proof.Machine
end

section
/-! Exposure instances, resets and reads (R191, R245, R259, R279, R283). -/

namespace Sys2Proof.Machine

/-- The program of a lane is the one it has been given. -/
theorem laneProg_modLane {k m : Nat} {f : ExLane → ExLane} (hf : ∀ x, (f x).prog = x.prog) (s : State) :
    laneProg (modLane k f s) m = laneProg s m := by
  have hp : (getLane (modLane k f s) m).prog = (getLane s m).prog := by
    unfold getLane modLane
    simp only [State.onExs, List.getD_eq_getElem?_getD, List.getElem?_modify]
    cases s.exs.lanes[m]? with
    | none => rfl
    | some x =>
      by_cases h : k = m
      · simp [h, hf]
      · simp [h]
  unfold laneProg
  rw [hp]
  rfl

theorem laneExps_modLane {k m : Nat} {f : ExLane → ExLane} (hf : ∀ x, (f x).prog = x.prog) (s : State) :
    laneExps (modLane k f s) m = laneExps s m := by
  unfold laneExps
  rw [laneProg_modLane hf]

/-- R259: T_n of an absolute program. -/
theorem doAbsInstanceDue_of_due {s : State} {m : Fin 4} {t : Nat} (hr : (getLane s m).st = .running) (hn : (getLane s m).nextAbs = some t)
    (ht : t ≤ s.now) (hp : (laneProg s m).period ≠ 0) : doAbsInstanceDue m s = forEach (laneExps s m) (fun x u => issue m x.1 t x.2 u)
      (modLane m (fun x => { x with nextAbs := some (t + (laneProg s m).period) }) s) := by
  unfold doAbsInstanceDue
  simp only [hr, hn]
  rw [if_pos ht, if_neg hp, laneExps_modLane (f := fun x => { x with nextAbs := some (t + (laneProg s m).period) }) fun _ => rfl]

theorem doAbsInstanceDue_of_early {s : State} {m : Fin 4} {t : Nat} (hn : (getLane s m).nextAbs = some t) (ht : s.now < t) :
    doAbsInstanceDue m s = s := by
  unfold doAbsInstanceDue
  simp only [hn]
  split
  · next u _ hu =>
    obtain rfl := Option.some.inj hu
    exact if_neg (by omega)
  · rfl

/-- R245: the reset of a booking whose time has come. -/
theorem laneResetStart_of_due {s : State} {m exp key rg : Nat} {b : Booking} {e : ExpEntry} (hb : findBooking s m exp key rg = some b)
    (he : (laneProg s m).exps[exp]? = some e) (hr : b.resetDone = false) (ht : b.resetTb ≤ s.now) : laneResetStart m exp key rg s =
      modBooking m exp key rg (fun c => { c with resetDone := true, attr := frameAt s c.resetTb, pos := s.ctg.pos,
                                                 dropped := c.dropped ++ deadTiles s (geoOf s e.geo) rg }) s := by
  unfold laneResetStart
  simp only [hb, he]
  exact if_pos ⟨by simp [hr], ht⟩

theorem laneResetStart_of_early {s : State} {m exp key rg : Nat} {b : Booking} (hb : findBooking s m exp key rg = some b)
    (ht : s.now < b.resetTb) : laneResetStart m exp key rg s = s := by
  unfold laneResetStart
  simp only [hb]
  split
  · next c e hc _ =>
    obtain rfl := Option.some.inj hc
    exact if_neg fun h => absurd h.2 (by omega)
  · rfl

/-- The times at which banks become free do not delay a read that comes after them. -/
theorem foldl_max_of_le {l : List Nat} {m : Nat} (h : ∀ x ∈ l, x ≤ m) : l.foldl max m = m := by
  induction l with
  | nil => rfl
  | cons x l ih =>
    rw [List.foldl_cons, Nat.max_eq_left (h x List.mem_cons_self)]
    exact ih fun y hy => h y (List.mem_cons_of_mem x hy)

/-- A booking that is changed keeps its place when the change keeps its identity. -/
theorem findBooking_modBooking {m exp key rg : Nat} {f : Booking → Booking} {b : Booking} {s : State}
    (hf : ∀ c, (f c).is m exp key rg = c.is m exp key rg) (hb : findBooking s m exp key rg = some b) :
    findBooking (modBooking m exp key rg f s) m exp key rg = some (f b) := by
  unfold findBooking at hb ⊢
  show List.find? _ (List.map _ s.exs.bookings) = _
  have hi : ((·.is m exp key rg) : Booking → Bool) ∘ (fun c => if c.is m exp key rg then f c else c) = (·.is m exp key rg) := by
    funext c
    by_cases h : c.is m exp key rg = true <;> simp [h, hf]
  rw [List.find?_map, hi, hb, Option.map_some, if_pos (List.find?_some hb)]

/-- R195: a read that begins when it was booked does not slip. -/
theorem readDelayed_of_le {m exp key rg start : Nat} {s : State} (h : ∀ b, findBooking s m exp key rg = some b → start ≤ b.readTb) :
    readDelayed m exp key rg start s = s := by
  unfold readDelayed
  cases hb : findBooking s m exp key rg with
  | none => rfl
  | some b => exact if_neg (Nat.not_lt.mpr (h b hb))

/-- R191, R195, R225: a read that was booked for a time at which its banks are free and its sub-banks READY. -/
theorem laneReadStart_of_due {s : State} {m exp key rg : Nat} {b : Booking} {e : ExpEntry} (hb : findBooking s m exp key rg = some b)
    (he : (laneProg s m).exps[exp]? = some e) (hr : b.resetDone = true) (hn : b.reading = false) (ht : b.readTb ≤ s.now)
    (hk : (banksOf (geoOf s e.geo).bin rg).all (fun k => (s.cro.reading.getD k none).isNone) = true)
    (hf : ∀ k ∈ banksOf (geoOf s e.geo).bin rg, s.cro.freeAt.getD k 0 ≤ b.readTb)
    (hd : deadSubBanks s (geoOf s e.geo).sbEn (banksOf (geoOf s e.geo).bin rg) = []) :
    ∃ reading, laneReadStart m exp key rg s = (modBooking m exp key rg (fun c => { c with reading := true }) s).onCro fun x => { x with
      reading := reading, gain := x.gain.mapIdx (fun k r => if (banksOf (geoOf s e.geo).bin rg).contains k then e.gain else r),
      freeAt := x.freeAt.mapIdx (fun k r => if (banksOf (geoOf s e.geo).bin rg).contains k then b.readTb + b.slot else r) } := by
  have hstart : ((banksOf (geoOf s e.geo).bin rg).map fun k => s.cro.freeAt.getD k 0).foldl max b.readTb = b.readTb :=
    foldl_max_of_le fun x hx => by
      obtain ⟨k, hk, rfl⟩ := List.mem_map.mp hx
      exact hf k hk
  have hdelay : readDelayed m exp key rg b.readTb (modBooking m exp key rg (fun c => { c with reading := true }) s) =
      modBooking m exp key rg (fun c => { c with reading := true }) s :=
    readDelayed_of_le fun c hc => by
      obtain rfl := Option.some.inj ((findBooking_modBooking (f := fun c => { c with reading := true }) (fun _ => rfl) hb).symm.trans hc)
      exact Nat.le_refl _
  unfold laneReadStart
  simp only [hb, he]
  rw [if_pos ⟨hr, by simp [hn], ht, hk⟩, hstart, hd, if_pos rfl]
  simp only [Nat.or_zero]
  rw [hdelay]
  exact ⟨_, rfl⟩

/-- R191: a calibration read that ends while others of its run are left. -/
theorem calReadDone_of_left {s : State} {rg : Nat} {r : CalRead} (hf : (s.cal.reads.find? fun r => r.rg == rg && r.gain == 2 && r.reading) = some r)
    (hd : r.drift = false) (hn : (s.cal.rgLeft.filter (· != rg)) ≠ []) : calReadDone rg 2 s =
      s.onCal fun c => { c with reads := c.reads.filter (· != r), rgLeft := c.rgLeft.filter (· != rg) } := by
  unfold calReadDone
  simp only [hf, hd, Bool.false_eq_true, if_false]
  exact if_neg fun (h : _ ∧ _) => hn h.2

/-- Settles O28. -/
theorem instancesResetsAndReads : Obligations.InstancesResetsAndReads := by
  unfold Obligations.InstancesResetsAndReads
  refine ⟨fun s m t hr hn ht hp => congrArg Host.Outcome.next (doAbsInstanceDue_of_due hr hn ht hp),
    fun s m t hn ht => congrArg Host.Outcome.next (doAbsInstanceDue_of_early hn ht),
    fun s m exp key rg h => congrArg Host.Outcome.next (if_pos h), fun s m exp key rg h => congrArg Host.Outcome.next (if_neg (by simp [h])),
    fun s t hg => ?_, fun s t hg => ?_,
    fun s l exp key rg b e hl hb he hr ht => congrArg Host.Outcome.next ((if_neg hl).trans (laneResetStart_of_due hb he hr ht)),
    fun s l exp key rg b hl hb ht => congrArg Host.Outcome.next ((if_neg hl).trans (laneResetStart_of_early hb ht)),
    fun s l exp key rg b e hl hb he hr hn ht hk hf hd => ?_, fun s rg stuck r hc hl hf hd hn => congrArg Host.Outcome.next ?_⟩
  · unfold placeTarget
    exact congrArg (drainCheck t.inst.lane) (if_pos hg)
  · unfold placeTarget
    exact congrArg (drainCheck t.inst.lane) (if_neg (by rw [Bool.not_eq_true]; exact hg))
  · obtain ⟨reading, hs⟩ := laneReadStart_of_due hb he hr hn ht hk hf hd
    exact ⟨_, congrArg Host.Outcome.next ((if_neg hl).trans hs), rfl, rfl, rfl, rfl, rfl, rfl⟩
  · have hs : calReadComplete rg 0 s = calReadDone rg 2 (freeBanks [calBank rg] s) := by
      unfold calReadComplete
      rw [if_pos hc]
      dsimp only
      rw [hl]
      rfl
    exact ((if_pos rfl).trans hs).trans (calReadDone_of_left hf hd hn)

end Sys2Proof.Machine
end

section
/-! The end of a lane's read (R191, R262, R324). -/

namespace Sys2Proof.Machine

theorem forEach_of_id {α : Type} {l : List α} {f : α → State → State} {s : State} (h : ∀ x ∈ l, f x s = s) : forEach l f s = s := by
  unfold forEach
  induction l with
  | nil => rfl
  | cons x l ih =>
    rw [List.foldl_cons, h x List.mem_cons_self]
    exact ih fun y hy => h y (List.mem_cons_of_mem x hy)

/-- R233: banks that have lost no row. -/
theorem loseRows_of_none {b : Booking} {e : ExpEntry} {banks : List Nat} {stuck : BitVec 16} {s : State}
    (h : ∀ k ∈ banks, lostRows s k (rowsPerGroup (geoOf s e.geo).bin) = []) : loseRows b e banks stuck s = s :=
  forEach_of_id fun k hk => by
    rw [h k hk]
    split <;> rfl

/-- R191: a read of a lane whose slots have passed. -/
theorem laneReadComplete_of_due {s : State} {m exp key rg : Nat} {stuck : BitVec 16} {b : Booking} {e : ExpEntry}
    (hb : findBooking s m exp key rg = some b) (he : (laneProg s m).exps[exp]? = some e) (hn : banksReading s m exp key rg ≠ [])
    (hf : ∀ k ∈ banksReading s m exp key rg, s.cro.freeAt.getD k 0 ≤ s.now)
    (hl : ∀ k ∈ banksReading s m exp key rg, lostRows s k (rowsPerGroup (geoOf s e.geo).bin) = []) :
    laneReadComplete m exp key rg stuck s = deliverRead b e stuck (closeLong m rg (freeBanks (banksReading s m exp key rg) s)) := by
  unfold laneReadComplete
  simp only [hb, he]
  rw [if_neg (by simp [hn]; exact hf), loseRows_of_none hl]
  generalize hu : closeLong m rg (freeBanks (banksReading s m exp key rg) s) = u
  have hb' : findBooking u m exp key rg = some b := by subst hu; exact hb
  rw [hb']

/-- R324: the read of an exposure that is no longer booked. -/
theorem laneReadComplete_of_abandoned {s : State} {m exp key rg : Nat} {stuck : BitVec 16} (hb : findBooking s m exp key rg = none)
    (hn : banksReading s m exp key rg ≠ []) (hf : ∀ k ∈ banksReading s m exp key rg, s.cro.freeAt.getD k 0 ≤ s.now) :
    laneReadComplete m exp key rg stuck s = freeBanks (banksReading s m exp key rg) s := by
  unfold laneReadComplete
  simp only [hb]
  rw [if_neg (by simp [hn]; exact hf)]

/-- R324: a delivered booking is gone when the sets with nothing outstanding close. -/
theorem deliverRead_eq (s : State) (b : Booking) (e : ExpEntry) (stuck : BitVec 16) :
    ∃ u, deliverRead b e stuck s = drainCheck b.lane (closeFinished stuck u) ∧ findBooking u b.lane b.exp b.frame b.rg = none := by
  refine ⟨_, rfl, ?_⟩
  unfold findBooking
  rw [setF_exs]
  show List.find? _ (List.filter _ _) = none
  rw [List.find?_filter, List.find?_eq_none]
  simp

/-- Settles O29. -/
theorem endOfALaneRead : Obligations.EndOfALaneRead := by
  unfold Obligations.EndOfALaneRead
  refine ⟨fun s l exp key rg stuck b e h4 hb he hn hf hl =>
      congrArg Host.Outcome.next ((if_neg h4).trans (laneReadComplete_of_due hb he hn hf hl)),
    fun s b e stuck => deliverRead_eq s b e stuck, fun s l exp key rg stuck h4 hb hn hf =>
      congrArg Host.Outcome.next ((if_neg h4).trans (laneReadComplete_of_abandoned hb hn hf)),
    fun s l exp key rg stuck h4 h => congrArg Host.Outcome.next ((if_neg h4).trans (if_pos ?_))⟩
  simpa using h

end Sys2Proof.Machine
end

section
/-! Frame close, hand-off, stuck slices and the window memory (R329, R353, R381, R394). -/

namespace Sys2Proof.Machine

/-- The entry of a window of the steward's share. -/
theorem winAddr_entry {w : Nat} (hw : w < poolBase) : winAddr w % 4 = 0 ∧ 0x10000000 ≤ winAddr w ∧ winAddr w < 0x10100000 ∧
    (winAddr w - 0x10000000) / 16 = w ∧ winAddr w % 16 / 4 = 0 := by
  unfold winAddr
  unfold poolBase at hw
  omega

theorem word_of_bytes (v : Word) : v.extractLsb' 24 8 ++ v.extractLsb' 16 8 ++ v.extractLsb' 8 8 ++ v.extractLsb' 0 8 = v := by
  ext i hi
  simp only [BitVec.getElem_append, BitVec.getElem_extractLsb']
  split
  · simp [hi]
  · split
    · simp only [← BitVec.getLsbD_eq_getElem]
      congr 1
      omega
    · split <;> (simp only [← BitVec.getLsbD_eq_getElem]; congr 1; omega)

/-- R961: a word that has been written reads back, in memory windows of canonical form. -/
theorem memWord_setMemWord {a : Nat} {v : Word} {s : State} (h : Memory.wf s.mem = true) : memWord (setMemWord a v s) a = v := by
  have h1 : Mem.wfFrom memDefault 0 (Mem.write memDefault s.mem a (v.extractLsb' 0 8)) = true := Mem.wfFrom_write (Nat.zero_le _) h
  have h2 := Mem.wfFrom_write (n := a + 1) (v := v.extractLsb' 8 8) (Nat.zero_le _) h1
  have h3 := Mem.wfFrom_write (n := a + 2) (v := v.extractLsb' 16 8) (Nat.zero_le _) h2
  unfold memWord setMemWord Mem.readWord wordBytes Mem.writeBytes Mem.writeBytes Mem.writeBytes Mem.writeBytes Mem.writeBytes
  rw [Mem.read_write_self h3, Mem.read_write_ne (by omega), Mem.read_write_self h2, Mem.read_write_ne (by omega),
    Mem.read_write_ne (by omega), Mem.read_write_self h1, Mem.read_write_ne (by omega), Mem.read_write_ne (by omega),
    Mem.read_write_ne (by omega), Mem.read_write_self h, word_of_bytes]

/-- R353: word 0 of the entry of a window that is not ENABLED, between idle sets. -/
theorem writeWindow_idle {w : Nat} {v : Word} {s : State} (hw : w < poolBase) (hm : Memory.wf s.mem = true)
    (ho : (getSet s ((memWord s (winAddr w)).toNat % 256)).st.idle = true) (hn : (getSet s (v.toNat % 256)).st.idle = true)
    (hv : v.getLsbD 31 = false) : writeWindow (winAddr w) v s = (.ok, setMemWord (winAddr w) (v &&& 0xCFFF00FF) s) := by
  obtain ⟨-, -, -, he, hk⟩ := winAddr_entry hw
  have hset : (v &&& 0xCFFF00FF).toNat % 256 = v.toNat % 256 := by
    rw [BitVec.toNat_and]
    refine Nat.eq_of_testBit_eq fun i => ?_
    rw [show (256 : Nat) = 2 ^ 8 from rfl, Nat.testBit_mod_two_pow, Nat.testBit_mod_two_pow, Nat.testBit_and]
    by_cases hi : i < 8
    · have hb : Nat.testBit 0xCFFF00FF i = true := by
        revert i
        decide
      simp [hi, hb]
    · simp [hi]
  have hbit : (v &&& 0xCFFF00FF).toNat.testBit 31 = false := by
    rw [BitVec.toNat_and, Nat.testBit_and]
    simp only [BitVec.getLsbD] at hv
    simp [hv]
  unfold writeWindow
  simp only [he, hk, if_true, hset, ho, hn]
  rw [if_neg (by simp; omega)]
  simp only [memWord_setMemWord hm, hbit, Bool.false_and]
  rfl

/-- A write to a window's entry on the bus is decided by the window memory. -/
theorem busPut_window {who : Initiator} {a : Nat} {v : Word} {s : State} (hu : busOpen s who = true) (ha : a % 4 = 0)
    (hl : 0x10000000 ≤ a) (hh : a < 0x10100000) : busPut who a v s = (writeWindow a v s).2 := by
  have hd : wordDefined a = true := by
    unfold wordDefined
    rw [if_neg (by omega)]
    simp [ha, hl, hh]
  have ht : tenantBarred who a = false := by
    unfold tenantBarred
    cases who <;> simp <;> omega
  unfold busPut busWrite windowWrite
  rw [if_pos hu, if_neg (by simp [hd]), if_neg (by simp [ht]), if_neg (by omega), if_pos (by omega)]

/-- Settles O30. -/
theorem frameCloseAndHandOff : Obligations.FrameCloseAndHandOff := by
  unfold Obligations.FrameCloseAndHandOff
  refine ⟨fun s m hs hf hq => congrArg Host.Outcome.next (if_pos ⟨hs, hf, hq⟩), fun s m h => congrArg Host.Outcome.next (if_neg ?_),
    fun s set h rest hh => congrArg Host.Outcome.next ?_, fun s i pipe h => congrArg Host.Outcome.next (if_pos h),
    fun s who w v hu hw hm ho hn hv => congrArg Host.Outcome.next ?_, fun s who w v hu hw ho => congrArg Host.Outcome.next ?_⟩
  · rintro ⟨_, hf, hq⟩
    rcases h with h | h
    · omega
    · exact absurd (h.symm.trans hq) (by decide)
  · unfold doHandoffComplete
    rw [hh]
  · obtain ⟨h4, hl, hh, -, -⟩ := winAddr_entry hw
    rw [busPut_window hu h4 hl hh, writeWindow_idle hw hm ho hn hv]
  · obtain ⟨h4, hl, hh, he, hk⟩ := winAddr_entry hw
    rw [busPut_window hu h4 hl hh]
    unfold writeWindow
    simp only [he, hk]
    rw [if_pos (by simp [ho])]

end Sys2Proof.Machine
end

section
/-! Fields of one register beside each other, and the EVT bits of several events (R871). -/

namespace Sys2Proof.Machine

/-- Two fields share no bit. -/
def Fld.apart (f g : Fld) : Bool := f.addr != g.addr || decide (f.lo + f.w ≤ g.lo) || decide (g.lo + g.w ≤ f.lo)

theorem Fld.testBit_put {g : Fld} {v : Word} {x j : Nat} (hg : g.lo + g.w ≤ 32) (hj : j < g.lo ∨ g.lo + g.w ≤ j) :
    (g.put v x).toNat.testBit j = v.toNat.testBit j := by
  have hp := Fld.put_toNat g v x hg
  have hl : v.toNat % 2 ^ g.lo < 2 ^ g.lo := Nat.mod_lt _ (Nat.two_pow_pos _)
  have hx : x % 2 ^ g.w < 2 ^ g.w := Nat.mod_lt _ (Nat.two_pow_pos _)
  rcases hj with hj | hj
  · have hm : (g.put v x).toNat % 2 ^ g.lo = v.toNat % 2 ^ g.lo := by
      rw [hp, Nat.pow_add, Nat.mul_left_comm, Nat.mul_comm (x % _), ← Nat.mul_add, Nat.mul_add_mod, Nat.mod_mod]
    have h := congrArg (Nat.testBit · j) hm
    simpa [Nat.testBit_mod_two_pow, hj] using h
  · have hd : (g.put v x).toNat / 2 ^ (g.lo + g.w) = v.toNat / 2 ^ (g.lo + g.w) := by
      have hs : x % 2 ^ g.w * 2 ^ g.lo + v.toNat % 2 ^ g.lo < 2 ^ (g.lo + g.w) := by
        have h3 := Nat.mul_le_mul_right (2 ^ g.lo) hx
        rw [Nat.succ_mul, ← Nat.pow_add, Nat.add_comm g.w] at h3
        omega
      rw [hp, Nat.add_assoc, Nat.mul_comm, Nat.mul_add_div (Nat.two_pow_pos _), Nat.div_eq_of_lt hs, Nat.add_zero]
    have h := congrArg (Nat.testBit · (j - (g.lo + g.w))) hd
    simpa [← Nat.shiftRight_eq_div_pow, Nat.testBit_shiftRight, Nat.add_sub_cancel' hj] using h

/-- A field keeps its value where one apart from it is set. -/
theorem getF_setF_apart {f g : Fld} {x : Nat} {s : State} (h : f.apart g = true) (hg : g.lo + g.w ≤ 32) : getF (setF g x s) f = getF s f := by
  by_cases ha : f.addr = g.addr
  · unfold getF setF
    rw [ha, rawReg_setRaw_self]
    refine Fld.get_congr fun i hl hu => ?_
    simp only [Fld.apart, ha, bne_self_eq_false, Bool.false_or, Bool.or_eq_true, decide_eq_true_eq] at h
    exact Fld.testBit_put hg (by omega)
  · exact getF_setF_addr_ne ha

/-- R871: what an event does to a register other than `FLT_CNT` and the EVT register of FLT is to set its EVT bit. -/
theorem rawReg_raise_evt {code a : Nat} {fs : List DetailField} {s : State} (h : a ≠ A.FLT_CNT) (hx : a ≠ (evtField 0x1102).addr) :
    rawReg (raise code fs s) a = rawReg (setF (evtField code) 1 s) a := by
  unfold raise raiseSev
  extract_lets s1 d
  split
  · split <;> rfl
  · split
    · split
      · exact rawReg_logEntry h
      · exact rawReg_logEntry h
    · exact (rawReg_logEntry h).trans ((rawReg_setF_ne hx).trans (rawReg_logEntry h))

/-- An event leaves the fields apart from its own, those of FLT left out. -/
theorem getF_raise_apart {code : Nat} {fs : List DetailField} {f : Fld} {s : State} (h : f.addr ≠ A.FLT_CNT ∧ f.addr ≠ (evtField 0x1102).addr ∧
    f.apart (evtField code) = true ∧ (evtField code).lo + (evtField code).w ≤ 32) : getF (raise code fs s) f = getF s f := by
  obtain ⟨hf, hx, ha, hw⟩ := h
  have hr : getF (raise code fs s) f = getF (setF (evtField code) 1 s) f := congrArg f.get (rawReg_raise_evt hf hx)
  exact hr.trans (getF_setF_apart ha hw)

end Sys2Proof.Machine
end

section
/-! When a dark calibration is due (R410 to R415, R428). -/

namespace Sys2Proof.Machine

@[simp] theorem raise_now (code : Nat) (fs : List DetailField) (s : State) : (raise code fs s).now = s.now :=
  congrArg (fun t : Tmb => t.tb.toNat) (raise_tmb code fs s)

/-- R410: a request makes a calibration due where none is. -/
theorem makeDue_request {s : State} (h : s.cal.due = none) : makeDue .request s =
    (raise 0x0701 [.h CalReason.request.code] s).onCal fun c => { c with due := some (.request, s.now), requested := true } := by
  unfold makeDue
  rw [if_pos (Or.inl rfl)]
  simp only [State.onCal, raise_cal, raise_now, h, Option.getD_none, beq_self_eq_true, Bool.or_true]

/-- R428: CANCEL aborts the run in progress. -/
theorem abortRun_cancel {s : State} (hp : s.cal.phase ≠ .idle) (ha : s.cal.aborted = false) :
    abortRun .cancel s = raise 0x0704 [.h AbortCause.cancel.code] (addF R.CAL_CNT_ABORTS 1 (endAborted true s)) := by
  unfold abortRun
  rw [if_neg (by simp [hp, ha])]
  exact if_neg (by decide)

theorem abortRun_cancel_idle {s : State} (hp : s.cal.phase = .idle) : abortRun .cancel s = s := if_pos (Or.inl hp)

/-- R410: a condition that begins to hold. -/
theorem conditionDue_begins {r : CalReason} {s : State} (h : s.cal.arisen.contains r = false) :
    conditionDue r true s = makeDue r (s.onCal fun c => { c with arisen := c.arisen ++ [r] }) := by
  unfold conditionDue
  rw [if_pos rfl, if_neg (by rw [h]; decide)]

/-- R410: the mean of a second of temperatures, by whether TEMP is a reason. -/
theorem doCalTempMean_eq {s : State} {b : Bool} (hn : s.cal.secN ≠ 0)
    (hb : (decide (getF s R.CAL_TRIG_TEMP_DELTA < (roundDiv s.cal.secSum s.cal.secN - s.cal.active.tCal).natAbs) && s.cal.src != 0) = b) :
    doCalTempMean s = conditionDue .temp b (s.onCal fun c => { c with meanTemp := roundDiv s.cal.secSum s.cal.secN, secSum := 0, secN := 0 }) := by
  subst hb
  exact if_neg hn

/-- Settles O31. -/
theorem calibrationDue : Obligations.CalibrationDue := by
  unfold Obligations.CalibrationDue
  refine ⟨fun s h => ⟨_, congrArg Host.Outcome.next (makeDue_request h), ?_⟩, fun s h => ⟨_, congrArg Host.Outcome.next (makeDue_request h), ?_⟩,
    fun s hp ha => congrArg Host.Outcome.next (abortRun_cancel hp ha), fun s hp => congrArg Host.Outcome.next (abortRun_cancel_idle hp),
    fun s hn hs ha ht => congrArg Host.Outcome.next ?_, fun s hn ha ht => congrArg Host.Outcome.next ?_,
    fun s hm hs ha ht => congrArg Host.Outcome.next ?_, fun s r t hd hs ht => congrArg Host.Outcome.next ?_,
    fun s hd => congrArg Host.Outcome.next ?_⟩
  · refine ⟨?_, getF_evt_raise (by decide), ?_⟩ <;> simp
  · simp
  · rw [doCalTempMean_eq (b := true) hn (by simp [ht, hs]), conditionDue_begins (by simp [ha])]
    simp [State.onCal, ha]
  · rw [doCalTempMean_eq (b := false) hn (by simp; omega)]
    simp [conditionDue, State.onCal, ha]
  · exact (congrArg (conditionDue .age · s) (by simp [hm, hs, ht])).trans (conditionDue_begins ha)
  · unfold doCalStaleEnter
    rw [hd]
    exact if_pos ⟨by simp [hs], ht⟩
  · unfold doCalStaleEnter
    rw [hd]

end Sys2Proof.Machine
end

section
/-! A calibration run and the stores of the eMMC (R419, R424, R433 to R437). -/

namespace Sys2Proof.Machine

/-- R433, R435: beginning the store of a set leaves the rest of the calibration as it was. -/
theorem startStore_effect (c : CalSet) (s : State) : (startStore c s).cal = { s.cal with
    store := (startStore c s).cal.store, copies := (startStore c s).cal.copies } ∧ (startStore c s).mem = s.mem ∧ (startStore c s).rru = s.rru := by
  unfold startStore
  split
  · simp [dropStore, State.onCal, State.onPwr]
  · simp [State.onCal]

theorem getF_startStore {c : CalSet} {s : State} {f : Fld} (h : f.addr ≠ A.FLT_CNT ∧ f.addr ≠ (evtField 0x1102).addr ∧
    f.apart (evtField 0x0707) = true ∧ (evtField 0x0707).lo + (evtField 0x0707).w ≤ 32) : getF (startStore c s) f = getF s f := by
  unfold startStore
  split
  · exact getF_raise_apart h
  · rfl

/-- R424: a completed run whose shutter has been open for 2 ms. -/
theorem doCalRunComplete_of_done {s : State} (hp : s.cal.phase = .opening) (hs : s.ctg.shutClosed = s.ctg.shutCmd) (ha : s.cal.aborted = false)
    (ht : max s.ctg.shutRepTb s.cal.stepTb + 500000 ≤ s.now) : ∃ u : State, u.cal.phase = .idle ∧ u.cal.next = some (measuredSet s, 3) ∧
      u.cal.due = none ∧ u.cal.suspect = false ∧ u.cal.abortsConsec = 0 ∧ u.mem = s.mem ∧ u.rru = s.rru ∧
      doCalRunComplete s = startStore (measuredSet s)
        (raise 0x0702 [.w (measuredSet s).generation.toNat, .h (signed16 (measuredSet s).tCal)] u) := by
  unfold doCalRunComplete
  rw [if_pos ⟨hp, hs, ht⟩, if_neg (by simp [ha])]
  refine ⟨_, ?_, ?_, ?_, ?_, ?_, ?_, ?_, rfl⟩ <;> rfl

/-- R434: a command of a calibration store has ended well. -/
theorem doEmmcCommandComplete_of_calibration {s : State} {c : CalStore} (hr : storeRuns s .calibration = true) (hs : s.cal.store = some c)
    (ha : c.again = false) : doEmmcCommandComplete true s = if calRecordBytes ≤ c.done + 131072 then
      raise 0x0706 [.h c.copy, .w c.set.generation.toNat] (freeLease 5 ((endStore .calibration s).onCal fun x => { x with
        store := none, copies := x.copies.set c.copy (some c.set),
        src := if x.src = 3 ∧ x.active.generation = c.set.generation then c.copy + 1 else x.src }))
      else takeLease 5 7 ((endStore .calibration s).onCal fun x => { x with store := some { c with done := c.done + 131072 } }) := by
  have hs' : (endStore .calibration s).cal.store = some c := hs
  unfold doEmmcCommandComplete calCommandDone
  simp only [hr, hs', ha, if_true, Bool.not_true, Bool.false_eq_true, if_false]

/-- R436, R437: two copies are kept and both are good. -/
theorem calLoad_of_good {s : State} {k : Nat} {c : CalSet} (hn : newestCopy s = some (k, c)) (ha : s.cal.copies.all Option.isSome = true)
    (hl : s.cal.copies.length = 2) : calLoad true true s = s.onCal fun x => { x with loading := false, next := some (c, k + 1) } := by
  have hm : ((List.range 2).filter fun k => (s.cal.copies.getD k none).isNone) = [] := by
    match hc : s.cal.copies, hl with
    | [a, b], _ =>
      simp only [hc, List.all_cons, List.all_nil, Bool.and_true, Bool.and_eq_true] at ha
      cases a <;> cases b <;> simp_all [List.range_succ]
  unfold calLoad
  dsimp only
  rw [hm]
  simp [forEach, hn]
  rfl

/-- R437: no copy is there once the missing ones have been reported. -/
theorem calLoad_of_newestCopy_none {okA okB : Bool} {s u : State} (hu : forEach ((List.range 2).filter fun k => (s.cal.copies.getD k none).isNone)
    (fun k t => raise 0x0708 [.h k, .h 0] t) s = u) (hn : newestCopy u = none) :
    calLoad okA okB s = makeDue .noSet (raise 0x0709 [] (u.onCal fun x => { x with loading := false })) := by
  unfold calLoad
  simp only [hu, hn]

/-- R410: a reason for a calibration leaves the sets. -/
theorem makeDue_effect (r : CalReason) (s : State) : (makeDue r s).cal.loading = s.cal.loading ∧ (makeDue r s).cal.next = s.cal.next ∧
    (makeDue r s).mem = s.mem := by
  unfold makeDue
  dsimp only
  split <;> simp [State.onCal]

theorem getF_makeDue {r : CalReason} {s : State} {f : Fld} (h : f.addr ≠ A.FLT_CNT ∧ f.addr ≠ (evtField 0x1102).addr ∧
    f.apart (evtField 0x0701) = true ∧ (evtField 0x0701).lo + (evtField 0x0701).w ≤ 32) : getF (makeDue r s) f = getF s f := by
  unfold makeDue
  dsimp only
  split
  · exact getF_raise_apart h
  · exact getF_raise_apart h

/-- Settles O32. -/
theorem calibrationRun : Obligations.CalibrationRun := by
  unfold Obligations.CalibrationRun
  refine ⟨fun s hp hc hk ht => congrArg Host.Outcome.next (if_pos ⟨hp, hc, hk, ht⟩),
    fun s hp ht => congrArg Host.Outcome.next (if_neg fun h => absurd h.2.2.2 (Nat.not_le.mpr ht)),
    fun s hp hs ha ht => congrArg Host.Outcome.next ((if_pos ⟨hp, hs, ht⟩).trans (if_pos ha)), fun s hp hs ha ht => ?_,
    fun s c hr hs ha hd => ⟨_, congrArg Host.Outcome.next ((doEmmcCommandComplete_of_calibration hr hs ha).trans (if_pos hd)), ?_⟩,
    fun s c hr hs ha hd => congrArg Host.Outcome.next ((doEmmcCommandComplete_of_calibration hr hs ha).trans (if_neg (by omega))),
    fun s k c hl hn ha h2 => congrArg Host.Outcome.next ((if_pos hl).trans (calLoad_of_good hn ha h2)), fun s hl hc => ?_⟩
  · obtain ⟨u, hph, hn, hd, hsu, hab, hm, hr, hu⟩ := doCalRunComplete_of_done hp hs ha ht
    refine ⟨_, congrArg Host.Outcome.next hu, ?_⟩
    obtain ⟨hcal, hmem, hrru⟩ := startStore_effect (measuredSet s)
      (raise 0x0702 [.w (measuredSet s).generation.toNat, .h (signed16 (measuredSet s).tCal)] u)
    rw [getF_startStore (by decide), hmem, hrru, hcal]
    simp only [raise_cal, raise_mem, raise_rru]
    exact ⟨hph, hn, hd, hsu, hab, getF_evt_raise (by decide), hm, hr⟩
  · refine ⟨?_, ?_, getF_evt_raise (by decide), ?_⟩
    · rw [raise_cal]
      rfl
    · rw [raise_cal]
      rfl
    · rw [raise_mem]
      rfl
  · have hm : ((List.range 2).filter fun k => (s.cal.copies.getD k none).isNone) = [0, 1] := by
      rw [hc]
      rfl
    refine ⟨_, congrArg Host.Outcome.next ((if_pos hl).trans (calLoad_of_newestCopy_none
      (u := raise 0x0708 [.h 1, .h 0] (raise 0x0708 [.h 0, .h 0] s)) (by rw [hm]; rfl) (by simp [newestCopy, hc]))), ?_⟩
    obtain ⟨hload, hnext, hmem⟩ := makeDue_effect .noSet
      (raise 0x0709 [] ((raise 0x0708 [.h 1, .h 0] (raise 0x0708 [.h 0, .h 0] s)).onCal fun x => { x with loading := false }))
    rw [hload, hnext, hmem, getF_makeDue (by decide)]
    exact ⟨by simp, by simp, getF_evt_raise (by decide), by simp⟩

end Sys2Proof.Machine
end

section
/-! The slider, the shutter and the faults of the cartridge (R447 to R451, R457). -/

namespace Sys2Proof.Machine

theorem regWrite_ctg {who : Initiator} {a : Nat} {v : Word} {s : State} (ha : a / 0x10000 = 8) : regWrite who a v s = writeCtg a v s := by
  unfold regWrite
  rw [ha]
  rfl

/-- A write of POS to a position that the slider has. -/
theorem busPut_filter {who : Initiator} {v : Word} {s : State} (hu : busOpen s who = true) (hv : v.toNat % 8 ≤ 4) :
    busPut who A.CTG_FILTER v s = (plainWrite A.CTG_FILTER v s).onCtg fun c =>
      { c with moveReq := decide (v.toNat % 8 ≠ if s.ctg.moving then s.ctg.target else s.ctg.pos) } := by
  rw [busPut_plain hu (by decide), regWrite_ctg (by decide)]
  unfold writeCtg
  rw [if_neg (by decide), if_pos rfl, if_neg (by omega)]
  simp only [plainWrite_ctg]

theorem busPut_filter_range {who : Initiator} {v : Word} {s : State} (hu : busOpen s who = true) (hv : 4 < v.toNat % 8) :
    busPut who A.CTG_FILTER v s = raise 0x080B [.h 0xC] s := by
  rw [busPut_plain hu (by decide), regWrite_ctg (by decide)]
  unfold writeCtg
  rw [if_neg (by decide), if_pos rfl, if_pos hv]
  rfl

theorem busPut_ctgCtrl {who : Initiator} {v : Word} {s : State} (hu : busOpen s who = true) : busPut who A.CTG_CTRL v s =
    if v.getLsbD 3 then retryCartridge (driveShutter (plainWrite A.CTG_CTRL v s)) else driveShutter (plainWrite A.CTG_CTRL v s) := by
  rw [busPut_plain hu (by decide), regWrite_ctg (by decide)]
  unfold writeCtg
  rw [if_pos rfl]

/-- R457: only a cartridge in HOMING ends its homing. -/
theorem homed_of_ready {s : State} (h : s.ctg.st = .ready) : homed s = s := by
  unfold homed
  rw [if_neg (by simp [h])]

/-- What each change of a list leaves, the changes of the whole list leave. -/
theorem forEach_leaves {α β : Type} {g : State → β} {l : List α} {f : α → State → State} (h : ∀ x t, g (f x t) = g t) (s : State) :
    g (forEach l f s) = g s := by
  unfold forEach
  induction l generalizing s with
  | nil => rfl
  | cons x l ih => exact (ih (f x s)).trans (h x s)

theorem abandonBooking_ctg (b : Booking) (s : State) : (abandonBooking b s).ctg = s.ctg := by
  unfold abandonBooking
  dsimp only
  split <;> rfl

theorem abandonInsts_ctg (which : Inst → Bool) (s : State) : (abandonInsts which s).ctg = s.ctg := by
  unfold abandonInsts
  rw [onExs_ctg]
  refine forEach_leaves (g := State.ctg) (fun i t => ?_) s
  refine forEach_leaves (g := State.ctg) (fun g u => ?_) t
  rfl

/-- R452: the gate closes; the cartridge stays as it was otherwise. -/
theorem closeGate_ctg_st (s : State) : (closeGate s).ctg.st = s.ctg.st := by
  unfold closeGate
  split
  · dsimp only
    rw [forEach_leaves (g := State.ctg) abandonBooking_ctg]
    rw [abandonInsts_ctg]
    rfl
  · rfl

theorem ctgFault_st (s : State) : (ctgFault s).ctg.st = .fault := closeGate_ctg_st _

/-- R457: the slider of a READY cartridge that reports too late. -/
theorem doFilterLate_of_late {s : State} (hr : s.ctg.st = .ready) (hm : s.ctg.moving = true) (ht : s.ctg.moveTb + moveLimit s ≤ s.now) :
    doFilterLate s = abortRun .cartridge (raise 0x080A [.h s.ctg.target] (ctgFault s)) := by
  have hf : doFilterFault s = raise 0x080A [.h s.ctg.target] (ctgFault s) := if_pos ⟨hr, hm, ht⟩
  unfold doFilterLate
  rw [hf]
  exact if_pos ⟨hr, by rw [raise_ctg, ctgFault_st]⟩

/-- Settles O33. -/
theorem sliderAndShutter : Obligations.SliderAndShutter := by
  unfold Obligations.SliderAndShutter
  refine ⟨fun s who v hu hv hm => congrArg Host.Outcome.next ?_, fun s who v hu hv hm => congrArg Host.Outcome.next ?_,
    fun s who v hu hv => congrArg Host.Outcome.next (busPut_filter_range hu hv),
    fun s hm hr => congrArg Host.Outcome.next ((if_pos hm).trans (homed_of_ready hr)),
    fun s hs ht => congrArg Host.Outcome.next (if_pos ⟨hs, ht⟩),
    fun s ht => congrArg Host.Outcome.next (if_neg fun h => absurd h.2 (Nat.not_le.mpr ht)),
    fun s hr hm ht => congrArg Host.Outcome.next (doFilterLate_of_late hr hm ht),
    fun s who v hu hv => congrArg Host.Outcome.next ((busPut_ctgCtrl hu).trans (if_neg (by rw [hv]; decide))),
    fun s hr hc => congrArg Host.Outcome.next ((if_pos (by simp [hr, hc])).trans (homed_of_ready hr)),
    fun s hc => congrArg Host.Outcome.next (if_neg (by simp [hc])), fun s hr hc ht => congrArg Host.Outcome.next (if_pos ?_)⟩
  · rw [busPut_filter hu hv, hm]
    rfl
  · rw [busPut_filter hu hv, hm]
    rfl
  · simp [shutterLate, hr, hc, milli, ht]

end Sys2Proof.Machine
end

section
/-! Insertion, identity and authentication of the cartridge (R455 to R466). -/

namespace Sys2Proof.Machine

/-- R456: a cartridge whose contact has held, while firmware runs. -/
theorem doCtgInserted_of_running {s : State} (hc : s.ctg.contact = false) (hs : s.ctg.st = .absent) (hf : s.head.fwReady = true)
    (hd : s.sup.dieDown = false) (ha : asleep s = false) :
    doCtgInserted s = startReading (raise 0x0801 [] (s.onCtg fun c => { c with contact := true })) :=
  (if_neg (by simp [hc])).trans (if_pos ⟨rfl, hs, hf, by simp [hd], (Bool.not_eq_true' _).mpr ha⟩)

/-- R457, R464, R465: an answer that comes in time, by what it verifies to. -/
theorem doCtgAuthReply_of_inTime {certOk sigOk : Bool} {s : State} (hs : s.ctg.st = .auth) (ht : s.now ≤ s.ctg.stepTb + 25000000) :
    doCtgAuthReply certOk sigOk s = if !certOk then authFail 0 s
      else if (s.tmb.todState == .locked || s.tmb.todState == .holdover) &&
        !(s.ctg.id.validFrom ≤ todDays s && todDays s ≤ s.ctg.id.validTo) then authFail 1 s
      else if !sigOk then authFail 2 s
      else startHoming (s.onCtg fun c => { c with dateUnchecked := !(s.tmb.todState == .locked || s.tmb.todState == .holdover) }) := by
  unfold doCtgAuthReply
  exact (if_neg (by simp [hs])).trans (if_neg (Nat.not_lt.mpr ht))

theorem authFail_effect (cause : Nat) (s : State) : (authFail cause s).ctg.st = .rejected ∧
    getF (authFail cause s) (evtField 0x0804) = 1 ∧ (authFail cause s).mem = s.mem ∧ (authFail cause s).rru = s.rru := by
  unfold authFail
  exact ⟨by simp, getF_evt_raise (by decide), by simp, by simp⟩

/-- R462, R463: t is s after the reads of a good identity memory. -/
def identityTaken (m : List Host.Cell) (s t : State) : Prop :=
  t.ctg.st = .auth ∧ t.ctg.mem = m ∧ t.ctg.id = ctgIdOf m ∧ t.ctg.challenge = Config.freeValue s.freeCount ∧
    t.freeCount = s.freeCount + 1 ∧ t.rru = s.rru ∧ t.mem = s.mem ∧
    (if ctgCrcOk m 0x1000 0xFFC then t.regs = s.regs ∧ t.ctg.specBad = s.ctg.specBad else t.ctg.specBad = true)

theorem doCtgReadComplete_of_good {m : List (Nat × Byte)} {s : State} (hs : s.ctg.st = .reading) (hb : badRegion (Mem.normal erased m) = none) :
    identityTaken (Mem.normal erased m) s (doCtgReadComplete m s) := by
  unfold doCtgReadComplete identityTaken
  rw [if_neg (by simp [hs])]
  dsimp only
  rw [hb]
  by_cases h : ctgCrcOk (Mem.normal erased m) 0x1000 0xFFC = true
  · simp [h, takeFree, State.onCtg]
  · simp [h, takeFree, State.onCtg]

theorem doCtgIdentityRead_of_good {m : List (Nat × Byte)} {s : State} (hs : s.ctg.st = .reading) (hb : badRegion (Mem.normal erased m) = none) :
    identityTaken (Mem.normal erased m) s (doCtgIdentityRead m s) := by
  have h := doCtgReadComplete_of_good hs hb
  unfold doCtgIdentityRead
  dsimp only
  split <;> exact h

/-- Settles O34. -/
theorem cartridgeAuthentication : Obligations.CartridgeAuthentication := by
  unfold Obligations.CartridgeAuthentication
  refine ⟨fun s hc hs hf hd ha => congrArg Host.Outcome.next (doCtgInserted_of_running hc hs hf hd ha),
    fun s hs hd ha => congrArg Host.Outcome.next ((if_neg hs).trans (congrArg (abortRun .cartridge) (if_neg ?_))),
    fun s m hs hb => ⟨_, rfl, doCtgIdentityRead_of_good hs hb⟩,
    fun s ok hs ht => congrArg Host.Outcome.next ((doCtgAuthReply_of_inTime hs ht).trans (if_pos rfl)),
    fun s c ok hs ht => congrArg Host.Outcome.next ((if_neg (by simp [hs])).trans (if_pos ht)),
    fun s ok hs ht hl hv => congrArg Host.Outcome.next ((doCtgAuthReply_of_inTime hs ht).trans ?_),
    fun s hs ht hv => congrArg Host.Outcome.next ((doCtgAuthReply_of_inTime hs ht).trans ?_),
    fun s hs ht hl h1 h2 => congrArg Host.Outcome.next ((doCtgAuthReply_of_inTime hs ht).trans ?_),
    fun s hs ht hl => congrArg Host.Outcome.next ((doCtgAuthReply_of_inTime hs ht).trans ?_),
    fun s hs ht => ⟨_, congrArg Host.Outcome.next (if_pos ⟨hs, ht⟩), authFail_effect 3 s⟩,
    fun s hs ht => congrArg Host.Outcome.next (if_pos ⟨hs, ht⟩),
    fun s who v hu hv => congrArg Host.Outcome.next ((busPut_ctgCtrl hu).trans (if_pos hv)), fun s hc hs => if_pos ⟨hc, hs⟩⟩
  · simp [hs, hd]
    exact ha
  · rw [if_neg (by decide), if_pos]
    simp [hl]
    omega
  · rw [if_neg (by decide), if_neg, if_pos (by decide)]
    rcases hv with hv | ⟨h1, h2⟩
    · simp [hv]
    · simp [h1, h2]
  · rw [if_neg (by decide), if_neg (by simp [h1, h2]), if_neg (by decide), hl]
    rfl
  · rw [if_neg (by decide), if_neg (by simp [hl]), if_neg (by decide), hl]
    rfl

end Sys2Proof.Machine
end

section
/-! Checkpoints and the identity copy (R463, R472 to R474). -/

namespace Sys2Proof.Machine

/-- R474: a refusal whose stored counters exceed none that were sent. -/
theorem doCtgCheckpointReply_refused {s : State} {stored : List Nat} (hr : storeRuns s .checkpoint = true)
    (hl : ∀ n, n < 7 → stored.getD n 0 ≤ s.ctg.ckptSent.getD n 0) : doCtgCheckpointReply false stored s =
      askCheckpoint ((endStore .checkpoint s).onCtg fun c => { c with counters := c.counters.mapIdx fun n v => max v (stored.getD n 0) }) := by
  have hn : ((List.range 7).filter fun n => (endStore .checkpoint s).ctg.ckptSent.getD n 0 < stored.getD n 0) = [] := by
    rw [List.filter_eq_nil_iff]
    intro n hm
    rw [decide_eq_true_eq]
    exact Nat.not_lt.mpr (hl n (List.mem_range.mp hm))
  unfold doCtgCheckpointReply
  rw [if_neg (by simp [hr])]
  dsimp only
  rw [hn, if_neg (by decide)]
  rfl

/-- R463: a read of `CTG_MEM_DATA`. -/
theorem busRead_memData (who : Initiator) (s : State) : (busRead who A.CTG_MEM_DATA s).2 = stepMemAddr s := by
  have hl : latch who A.CTG_MEM_DATA s = s := by
    unfold latch
    exact if_pos (by decide)
  have hc : clearRead A.CTG_MEM_DATA s = s := by
    unfold clearRead
    exact if_pos (by decide)
  unfold busRead
  rw [if_neg (by decide)]
  dsimp only
  rw [hl]
  unfold readEffect
  rw [hc, if_neg (by decide), if_pos rfl]

/-- Settles O35. -/
theorem cartridgeCheckpoints : Obligations.CartridgeCheckpoints := by
  unfold Obligations.CartridgeCheckpoints
  refine ⟨fun s hs hd hp hc hr hl => congrArg Host.Outcome.next ((if_pos ⟨hs, hd, hp, by simp [hc], by simp [hr]⟩).trans ?_),
    fun s hd => congrArg Host.Outcome.next (if_neg (by simp [hd])),
    fun s stored hr => ⟨_, congrArg Host.Outcome.next ((if_neg (by simp [hr])).trans (if_pos rfl)), rfl, rfl, rfl, rfl, rfl, rfl, rfl⟩,
    fun s stored hr hl => congrArg Host.Outcome.next (doCtgCheckpointReply_refused hr hl),
    fun s who hu => congrArg Host.Outcome.next ((if_pos hu).trans (busRead_memData who s))⟩
  exact (if_neg (by simp [hs])).trans (if_neg (by simp [hl]))

end Sys2Proof.Machine
end

section
/-! Engine instructions in a thread's slot (R516, R519, R533 to R538). -/

namespace Sys2Proof.Machine

/-! ## One engine and one thread -/

theorem getEngine_modEngine {e : Nat} {f : Engine → Engine} {s : State} (h : e < s.tge.engines.length) :
    getEngine (modEngine e f s) e = f (getEngine s e) := by
  unfold getEngine modEngine
  simp [List.getD_eq_getElem?_getD, h]

theorem getEngine_modEngine_ne {e k : Nat} {f : Engine → Engine} {s : State} (h : k ≠ e) : getEngine (modEngine e f s) k = getEngine s k := by
  unfold getEngine modEngine
  simp [List.getD_eq_getElem?_getD, h.symm]

theorem getThread_modThread {e t : Nat} {f : Thread → Thread} {s : State} (he : e < s.tge.engines.length)
    (ht : t < (getEngine s e).threads.length) : getThread (modThread e t f s) e t = f (getThread s e t) := by
  unfold getThread modThread
  rw [getEngine_modEngine he]
  simp [List.getD_eq_getElem?_getD, ht]

theorem getThread_modThread_ne {e t i : Nat} {f : Thread → Thread} {s : State} (he : e < s.tge.engines.length) (hi : i ≠ t) :
    getThread (modThread e t f s) e i = getThread s e i := by
  unfold getThread modThread
  rw [getEngine_modEngine he]
  simp [List.getD_eq_getElem?_getD, hi.symm]

/-! ## After an instruction -/

/-- R521: a thread whose PC stays in its group's range goes on. -/
theorem checkRange_of_inRange {e t : Nat} {s : State} (h : inRange s e (threadGroup s e t) (getThread s e t).pc.toNat = true) :
    checkRange e t s = s := by
  unfold checkRange
  exact if_pos h

/-- R519, R533: a thread that goes to a PC inside its group's range. -/
theorem checkRange_modThread {e t : Nat} {f : Thread → Thread} {s : State} (he : e < s.tge.engines.length)
    (ht : t < (getEngine s e).threads.length) (h : inRange s e (threadGroup s e t) (f (getThread s e t)).pc.toNat = true) :
    checkRange e t (modThread e t f s) = modThread e t f s :=
  checkRange_of_inRange (by rw [getThread_modThread he ht]; exact h)

/-! ## A thread's slot -/

/-- R516: outside its slot a thread executes nothing. -/
theorem runInstr_of_closed {kind : Nat → Bool} {e : Fin 4} {t : Fin 16} {s : State} (h : s.now % 8 ≠ t.val / 2) : runInstr kind e t s = s := by
  unfold runInstr
  exact if_neg (by simp [maySlot, slotOpen, h])

section
variable {s : State} {e : Fin 4} {t : Fin 16} {w : Nat}

/-- R516, R533: a running thread executes the legal word at its PC. -/
theorem runInstr_of_slot {kind : Nat → Bool} (hw : threadWord s e t = w) (hm : maySlot s e t .run = true) (hl : legalWord (jumpRich s e) w = true)
    (hk : kind w = true) : runInstr kind e t s = finishSlot e t w (executeWord e t w s).1 (executeWord e t w s).2 := by
  subst hw
  exact if_pos (by simp [hm, hl, hk])

/-- The same, by the result of the execution. -/
theorem runInstr_of_execute {kind : Nat → Bool} {f : Flow} {u : State} (hw : threadWord s e t = w) (hm : maySlot s e t .run = true)
    (hl : legalWord (jumpRich s e) w = true) (hk : kind w = true) (hx : executeWord e t w s = (f, u)) :
    runInstr kind e t s = finishSlot e t w f u := by
  rw [runInstr_of_slot hw hm hl hk, hx]

/-- R536, R538: a thread that waited goes on when its instruction can. -/
theorem resume_of_next {st : ThrState} {op : Nat} {u : State} (hw : threadWord s e t = w) (hm : maySlot s e t st = true) (ho : opOf w = op)
    (hx : executeWord e t w s = (.next, u)) : resume st op e t s = finishSlot e t w .next u := by
  subst hw
  refine (if_pos (by simp [hm, ho])).trans ?_
  rw [hx]

/-- R536, R538: a thread whose instruction still cannot go on stays as it is. -/
theorem resume_of_held {st : ThrState} {op : Nat} {f : Flow} (hw : threadWord s e t = w) (hm : maySlot s e t st = true) (ho : opOf w = op)
    (hx : executeWord e t w s = (f, s)) (hf : f ≠ .next) : resume st op e t s = s := by
  subst hw
  refine (if_pos (by simp [hm, ho])).trans ?_
  rw [hx]
  cases f with
  | next => exact absurd rfl hf
  | jump _ => rfl
  | wait => rfl
  | blocked => rfl

end

/-! ## The effect of a word, by its operation (R533) -/

section
variable {s : State} {e t w : Nat}

theorem executeWord_nop (h : opOf w = 0) : executeWord e t w s = (.next, s) := by
  simp only [executeWord, h]

theorem executeWord_in (h : opOf w = 3) : executeWord e t w s = (.next, modThread e t (fun _ => shiftIn (getThread s e t)
    (operand w 0 5 + 1) (inSource s e t (slotCycle s t) (getThread s e t) (operand w 7 2))) s) := by
  simp only [executeWord, h]

theorem executeWord_out (h : opOf w = 4) : executeWord e t w s = (.next, outOp e t w s) := by
  simp only [executeWord, h]

theorem executeWord_mov (h : opOf w = 7) : executeWord e t w s = (.next, movDest e t (operand w 6 3) (movFn (operand w 0 3)
    (BitVec.ofNat 32 (movSource s e t (slotCycle s t) (getThread s e t) (operand w 3 3)))) s) := by
  simp only [executeWord, h]

theorem executeWord_set (h : opOf w = 8) : executeWord e t w s = (.next, setOp e t w s) := by
  simp only [executeWord, h]

/-- R537: a JMP without a condition. -/
theorem executeWord_jmp_always (h : opOf w = 1) (hc : operand w 6 3 = 0) :
    executeWord e t w s = (.jump (operand w 0 6), modThread e t (fun _ => getThread s e t) s) := by
  simp only [executeWord, jumpTaken, h, hc, if_true]

theorem executeWord_wait (h : opOf w = 2) :
    executeWord e t w s = if waitHolds s e t w (slotCycle s t) then (.next, waitProceeds e w s) else (.wait, s) := by
  simp only [executeWord, h]

theorem executeWord_push (h : opOf w = 5) : executeWord e t w s = pushWord e t w s := by
  simp only [executeWord, h]

theorem executeWord_pull (h : opOf w = 6) : executeWord e t w s = pullWord e t w s := by
  simp only [executeWord, h]

theorem executeWord_flag (h : opOf w = 9) : executeWord e t w s = (.next, threadFlag (operand w 7 2) (operand w 0 7) (slotCycle s t) s) := by
  simp only [executeWord, h]

theorem executeWord_irq (h : opOf w = 10) : executeWord e t w s = (.next, irqOp e t w s) := by
  simp only [executeWord, h]

end

/-- The operation that a kind of word names. -/
theorem isOp_of {op w : Nat} (ho : opOf w = op) : isOp op w = true := beq_iff_eq.mpr ho

/-- Settles O36. -/
theorem threadComputation : Obligations.ThreadComputation := by
  unfold Obligations.ThreadComputation
  refine ⟨fun s e t w hw hm hl => ⟨fun h => ?_, fun h => ?_, fun h => ?_, fun h => ?_, fun h => ?_⟩, fun s e t w hr he ht => ?_,
    fun s e t h => ⟨?_, ?_, ?_, ?_, ?_⟩⟩
  · exact congrArg Host.Outcome.next (runInstr_of_execute hw hm hl (isOp_of h) (executeWord_nop h))
  · exact congrArg Host.Outcome.next (runInstr_of_execute hw hm hl (isOp_of h) (executeWord_in h))
  · exact congrArg Host.Outcome.next (runInstr_of_execute hw hm hl (isOp_of h) (executeWord_out h))
  · exact congrArg Host.Outcome.next (runInstr_of_execute hw hm hl (isOp_of h) (executeWord_mov h))
  · exact congrArg Host.Outcome.next (runInstr_of_execute hw hm hl (isOp_of h) (executeWord_set h))
  · have hf : finishSlot e t w .next s = modThread e t (fun x => { x with st := .run, pc := x.pc + 1, ready := s.now + 8 * (delayOf w + 1) }) s :=
      checkRange_modThread he ht hr
    rw [hf]
    exact ⟨getThread_modThread he ht, fun i hi => getThread_modThread_ne he hi, fun k hk => getEngine_modEngine_ne hk⟩
  all_goals exact congrArg Host.Outcome.next (runInstr_of_closed h)

/-! ## Words that block (R536, R538) -/

section
variable {s : State} {e : Fin 4} {t : Fin 16} {w : Nat}

theorem pushWord_of_room (h : (getThread s e t).rxf.length < 4) : (pushWord e t w s).1 = .next := by
  unfold pushWord
  dsimp only
  rw [if_pos h]

theorem pushWord_of_full (h : 4 ≤ (getThread s e t).rxf.length) (hb : operand w 7 1 = 0) : pushWord e t w s = (.blocked, s) := by
  unfold pushWord
  dsimp only
  rw [if_neg (by omega), if_pos hb]

theorem pullWord_of_cons {v : Word} {l : List Word} (h : (getThread s e t).txf = v :: l) :
    pullWord e t w s = (.next, modThread e t (fun _ => { getThread s e t with sh := v, shCount := 32, txf := l }) s) := by
  unfold pullWord
  dsimp only
  rw [h]

theorem pullWord_of_empty (h : (getThread s e t).txf = []) (hb : operand w 7 1 = 0) : pullWord e t w s = (.blocked, s) := by
  unfold pullWord
  dsimp only
  rw [h]
  exact if_pos hb

end

/-- R536: a PUSH with room appends the shifter. -/
theorem rxf_pushWord {s : State} {e t w : Nat} (h : (getThread s e t).rxf.length < 4) (he : e < s.tge.engines.length)
    (ht : t < (getEngine s e).threads.length) :
    (getThread (pushWord e t w s).2 e t).rxf = (getThread s e t).rxf ++ [(getThread s e t).sh] := by
  unfold pushWord
  dsimp only
  rw [if_pos h, getThread_modThread he ht]

/-- Settles O37. -/
theorem threadFlow : Obligations.ThreadFlow := by
  unfold Obligations.ThreadFlow
  refine ⟨fun s e t w hw hm hl ho hc he ht => ?_, fun s e t w d hr he ht => ?_, fun s e t w hw hm hl ho => ⟨fun h => ?_, fun h => ?_⟩,
    fun s e t w hw hm ho => ⟨fun h => ?_, fun h => ?_⟩, fun s e t w hw hm hl ho => ⟨fun h => ?_, fun h hb => ?_⟩,
    fun s e t w hw hm hl ho => ⟨fun v l h => ?_, fun h hb => ?_⟩,
    fun s e t w hw hm => ⟨fun ho h => ?_, fun ho h hb => ?_, fun ho h => ?_, fun ho h hb => ?_⟩,
    fun s e t w h he ht => rxf_pushWord h he ht⟩
  · exact congrArg Host.Outcome.next (runInstr_of_execute hw hm hl (isOp_of ho) (executeWord_jmp_always ho hc))
  · have hf : finishSlot e t w (.jump d) s =
        modThread e t (fun x => { x with st := .run, pc := displaced (x.pc + 1) d, ready := s.now + 8 * (delayOf w + 1) }) s :=
      checkRange_modThread he ht hr
    rw [hf, getThread_modThread he ht]
  · exact congrArg Host.Outcome.next (runInstr_of_execute hw hm hl (isOp_of ho) ((executeWord_wait ho).trans (if_pos h)))
  · exact congrArg Host.Outcome.next (runInstr_of_execute hw hm hl (isOp_of ho) ((executeWord_wait ho).trans (if_neg (by simp [h]))))
  · exact congrArg Host.Outcome.next (resume_of_next hw hm ho ((executeWord_wait ho).trans (if_pos h)))
  · exact congrArg Host.Outcome.next (resume_of_held hw hm ho ((executeWord_wait ho).trans (if_neg (by simp [h]))) (by decide))
  · exact congrArg Host.Outcome.next (runInstr_of_execute hw hm hl (isOp_of ho)
      ((executeWord_push ho).trans (Prod.ext (pushWord_of_room h) rfl)))
  · exact congrArg Host.Outcome.next (runInstr_of_execute hw hm hl (isOp_of ho) ((executeWord_push ho).trans (pushWord_of_full h hb)))
  · exact congrArg Host.Outcome.next (runInstr_of_execute hw hm hl (isOp_of ho) ((executeWord_pull ho).trans (pullWord_of_cons h)))
  · exact congrArg Host.Outcome.next (runInstr_of_execute hw hm hl (isOp_of ho) ((executeWord_pull ho).trans (pullWord_of_empty h hb)))
  · exact congrArg Host.Outcome.next (resume_of_next hw hm ho ((executeWord_push ho).trans (Prod.ext (pushWord_of_room h) rfl)))
  · exact congrArg Host.Outcome.next (resume_of_held hw hm ho ((executeWord_push ho).trans (pushWord_of_full h hb)) (by decide))
  · obtain ⟨v, l, hv⟩ := List.exists_cons_of_ne_nil h
    have hp : pullWord e t w s = (.next, (pullWord e t w s).2) := by rw [pullWord_of_cons hv]
    exact congrArg Host.Outcome.next (resume_of_next hw hm ho ((executeWord_pull ho).trans hp))
  · exact congrArg Host.Outcome.next (resume_of_held hw hm ho ((executeWord_pull ho).trans (pullWord_of_empty h hb)) (by decide))

end Sys2Proof.Machine
end

section
/-! Flags, local IRQs, injection, stalls and FIFOs of the engines (R526, R530, R541 to R549). -/

namespace Sys2Proof.Machine

theorem regWrite_tge {who : Initiator} {a : Nat} {v : Word} {s : State} (ha : a / 0x10000 = 0xA) : regWrite who a v s = writeTge a v s := by
  unfold regWrite
  rw [ha]
  rfl

/-- R530: the steward's words of shared flags. -/
theorem busPut_flagSet {who : Initiator} (w : Fin 4) (v : Word) {s : State} (hu : busOpen s who = true) :
    busPut who (A.TGE_FLAG_SET w) v s = stewardFlags false (v.setWidth 128 <<< (32 * w.val)) s := by
  have ha : A.TGE_FLAG_SET w = 0xA0210 + 4 * w := rfl
  have ho : A.TGE_FLAG_SET w % 0x10000 = 0x210 + 4 * w := by omega
  have hs : 8 * (0x210 + 4 * w.val - 0x210) = 32 * w := by omega
  rw [busPut_plain hu (by revert w; decide), regWrite_tge (by omega)]
  unfold writeTge
  simp only [ho, hs]
  rw [if_neg (by omega), if_neg (by omega), if_neg (by omega), if_pos (by omega)]

theorem busPut_flagClr {who : Initiator} (w : Fin 4) (v : Word) {s : State} (hu : busOpen s who = true) :
    busPut who (A.TGE_FLAG_CLR w) v s = stewardFlags true (v.setWidth 128 <<< (32 * w.val)) s := by
  have ha : A.TGE_FLAG_CLR w = 0xA0220 + 4 * w := rfl
  have ho : A.TGE_FLAG_CLR w % 0x10000 = 0x220 + 4 * w := by omega
  have hs : 8 * (0x220 + 4 * w.val - 0x220) = 32 * w := by omega
  rw [busPut_plain hu (by revert w; decide), regWrite_tge (by omega)]
  unfold writeTge
  simp only [ho, hs]
  rw [if_neg (by omega), if_neg (by omega), if_neg (by omega), if_neg (by omega), if_pos (by omega)]

/-- The operand that a kind of word names. -/
theorem isOpMode_of {op mode w : Nat} (ho : opOf w = op) (hm : operand w 7 2 = mode) : isOpMode op mode w = true := by
  simp [isOpMode, ho, hm]

section
variable {s : State} {e : Fin 4} {t : Fin 16} {w : Nat}

/-- R533: a FLAG word in a thread's slot. -/
theorem runInstr_flag {act : Nat} (hw : threadWord s e t = w) (hm : maySlot s e t .run = true) (hl : legalWord (jumpRich s e) w = true)
    (ho : opOf w = 9) (h : operand w 7 2 = act) :
    runInstr (isOpMode 9 act) e t s = finishSlot e t w .next (threadFlag act (operand w 0 7) (slotCycle s t) s) :=
  runInstr_of_execute hw hm hl (isOpMode_of ho h) ((executeWord_flag ho).trans (by rw [h]))

/-- R533: an IRQ word in a thread's slot. -/
theorem runInstr_irq {act : Nat} (hw : threadWord s e t = w) (hm : maySlot s e t .run = true) (hl : legalWord (jumpRich s e) w = true)
    (ho : opOf w = 10) (h : operand w 7 2 = act) : runInstr (isOpMode 10 act) e t s = finishSlot e t w .next (irqOp e t w s) :=
  runInstr_of_execute hw hm hl (isOpMode_of ho h) (executeWord_irq ho)

end

/-- Settles O38. -/
theorem flagsAndIrqs : Obligations.FlagsAndIrqs := by
  unfold Obligations.FlagsAndIrqs
  refine ⟨fun s e t w hw hm hl ho => ⟨fun h => ?_, fun h => ?_, fun h => ?_⟩, fun s f c => ⟨rfl, rfl, rfl⟩,
    fun s e t w hw hm hl ho => ⟨fun h => ?_, fun h => ?_, fun h => ?_, fun h => ?_⟩, fun s who w v hu => ⟨?_, ?_⟩, fun s m => ⟨rfl, rfl⟩⟩
  · exact congrArg Host.Outcome.next (runInstr_flag hw hm hl ho h)
  · exact congrArg Host.Outcome.next (runInstr_flag hw hm hl ho h)
  · exact congrArg Host.Outcome.next (runInstr_flag hw hm hl ho h)
  · refine congrArg Host.Outcome.next ((runInstr_irq hw hm hl ho h).trans (congrArg (finishSlot e t w .next) ?_))
    simp only [irqOp, h]
  · refine congrArg Host.Outcome.next ((runInstr_irq hw hm hl ho h).trans (congrArg (finishSlot e t w .next) ?_))
    simp only [irqOp, h]
  · refine congrArg Host.Outcome.next ((runInstr_irq hw hm hl ho h).trans (congrArg (finishSlot e t w .next) ?_))
    have he : Fin.ofNat 4 e.val = e := Fin.ext (Nat.mod_eq_of_lt e.isLt)
    simp only [irqOp, h, he]
  · refine congrArg Host.Outcome.next ((runInstr_irq hw hm hl ho h).trans (congrArg (finishSlot e t w .next) ?_))
    simp only [irqOp, h]
  · exact congrArg Host.Outcome.next (busPut_flagSet w v hu)
  · exact congrArg Host.Outcome.next (busPut_flagClr w v hu)

/-! ## Injection, stalls, FIFOs and pins -/

theorem busPut_engInj {who : Initiator} (e : Fin 4) (v : Word) {s : State} (hu : busOpen s who = true) :
    busPut who (A.TGE_ENG_INJ e) v s = requestInjection e v s := by
  have ha : A.TGE_ENG_INJ e = 0xA100C + 0x1000 * e := rfl
  have ho : A.TGE_ENG_INJ e % 0x10000 = 0x100C + 0x1000 * e := by omega
  have he : (0x100C + 0x1000 * e.val - 0x1000) / 0x1000 = e := by omega
  have hr : (0x100C + 0x1000 * e.val) % 0x1000 = 0xC := by omega
  rw [busPut_plain hu (by revert e; decide), regWrite_tge (by omega)]
  unfold writeTge
  simp only [ho, he, hr]
  rw [if_neg (by omega), if_neg (by omega), if_neg (by omega), if_neg (by omega), if_neg (by omega), if_pos (by omega)]
  unfold writeEngine
  rw [if_neg (by decide), if_pos rfl]
  dsimp only
  split <;> rfl

/-- R519: where a register of a thread lies in its block: its engine, its thread and its place in the thread's registers. -/
theorem threadRegister_parts (e : Fin 4) (t : Fin 16) {r a : Nat} (hr : r < 0x40) (ha : a = 0xA1100 + 0x1000 * e + 0x40 * t + r) :
    a / 0x10000 = 0xA ∧ (a % 0x10000 - 0x1000) / 0x1000 = e ∧ (a % 0x10000) % 0x1000 = 0x100 + 0x40 * t + r ∧
      (0x100 + 0x40 * t.val + r - 0x100) / 0x40 = t ∧ (0x100 + 0x40 * t.val + r - 0x100) % 0x40 = r ∧ 0x1100 ≤ a % 0x10000 ∧
      a % 0x10000 < 0x5000 ∧ (a - 0xA1000) / 0x1000 = e ∧ a % 0x1000 = 0x100 + 0x40 * t + r := by
  subst ha
  refine ⟨by omega, by omega, by omega, by omega, by omega, by omega, by omega, by omega, by omega⟩

set_option maxRecDepth 20000 in
theorem txf_plain (e : Fin 4) (t : Fin 16) : plainRegister (A.TGE_THR_TXF e t) = true := by revert e t; decide

theorem busPut_txf {who : Initiator} (e : Fin 4) (t : Fin 16) (v : Word) {s : State} (hu : busOpen s who = true) :
    busPut who (A.TGE_THR_TXF e t) v s = (writeTxf e t v s).2 := by
  obtain ⟨hb, he, ho, ht, hk, hl, hh, -, -⟩ := threadRegister_parts (a := A.TGE_THR_TXF e t) (r := 0x18) e t (by decide)
    (by unfold A.TGE_THR_TXF; omega)
  rw [busPut_plain hu (txf_plain e t), regWrite_tge hb]
  generalize A.TGE_THR_TXF e t = a at he ho hl hh ⊢
  unfold writeTge
  simp only [he, ho]
  rw [if_neg (by omega), if_neg (by omega), if_neg (by omega), if_neg (by omega), if_neg (by omega), if_pos (by omega)]
  unfold writeEngine
  simp only [ht, hk]
  rw [if_neg (by omega), if_neg (by omega), if_neg (by omega), if_pos (by omega), if_pos trivial]

set_option maxRecDepth 20000 in
theorem rxf_register (e : Fin 4) (t : Fin 16) : wordDefined (A.TGE_THR_RXF e t) = true ∧ latchCount (A.TGE_THR_RXF e t) = 0 ∧
    maskOf (fun d => d.acc == .rc && !d.sensed) (fieldsAt (A.TGE_THR_RXF e t)) = 0 := by
  revert e t
  decide

/-- R547: a read of `TGE_THR_RXF`. -/
theorem busRead_rxf (who : Initiator) (e : Fin 4) (t : Fin 16) (s : State) : (busRead who (A.TGE_THR_RXF e t) s).2 = popRxf e t s := by
  obtain ⟨hb, he, ho, ht, hk, hl, hh, he', hm⟩ := threadRegister_parts (a := A.TGE_THR_RXF e t) (r := 0x1C) e t (by decide)
    (by unfold A.TGE_THR_RXF; omega)
  obtain ⟨hd, hcount, hmask⟩ := rxf_register e t
  generalize A.TGE_THR_RXF e t = a at hb he ho hl hh he' hm hd hcount hmask ⊢
  have hlatch : latch who a s = s := by
    unfold latch
    exact if_pos hcount
  have hclear : clearRead a s = s := by
    unfold clearRead
    exact if_pos hmask
  have hn : ∀ b < 0xA1000, ¬a = b := fun b hb h => by omega
  unfold busRead
  rw [if_neg (by simp [hd])]
  dsimp only
  rw [hlatch]
  unfold readEffect
  rw [hclear, if_neg (hn _ (by decide)), if_neg (hn _ (by decide)), if_neg (by omega), if_pos (by omega), he', hm, ht]

/-- R543: an injection of a legal word into a thread that is on, with none waiting. -/
theorem requestInjection_of_free {s : State} {e : Nat} {v : Word} (hl : legalWord (jumpRich s e) (v.toNat % 65536) = true)
    (ho : (getThread s e (v.toNat / 65536 % 16)).st ≠ .off) (hh : (getThread s e (v.toNat / 65536 % 16)).st ≠ .halted)
    (hi : (getEngine s e).inj = none) : requestInjection e v s =
      modEngine e (fun x => { x with inj := some (v.toNat / 65536 % 16, BitVec.ofNat 16 (v.toNat % 65536)), injResult := 0 }) s := by
  unfold requestInjection
  dsimp only
  rw [if_neg (by simp [hl]), if_neg (by simp [ho, hh]), if_neg (by simp [hi])]

/-- R541: an injected word in its thread's slot. -/
theorem doInjectionExecute_of_slot {s : State} {e : Fin 4} {t : Nat} {w : BitVec 16} (hi : (getEngine s e).inj = some (t, w))
    (ho : slotOpen s t = true) (hw : opOf w.toNat = 0) : doInjectionExecute e s = modThread e t (fun x => { x with ready := max x.ready (s.now + 8) })
      (modEngine e (fun x => { x with inj := none, injResult := 1 }) s) := by
  unfold doInjectionExecute
  rw [hi]
  dsimp only
  rw [if_neg (by simp [ho]), executeWord_nop hw]
  rfl

/-- R545: a stall condition that has held for 1,024 cycles. -/
theorem doStall_of_due {s : State} {e : Fin 4} {t : Nat} (hf : (getEngine s e).stallFrom = some t) (hs : (getEngine s e).stalled = false)
    (ht : t + 512 ≤ s.now) : doStall e s = respondStuck 3 e (stallResponse e (declareStuck 3 e (addF (R.TGE_ENG_CNT_STALLS e) 1
      (raise 0x0A01 [.h e, .h ((List.range 16).filter fun t => (getThread s e t).st == .wait).length]
        (modEngine e (fun x => { x with stalled := true }) s))))) := by
  unfold doStall
  simp only [hf]
  exact if_pos ⟨by simp [hs], ht⟩

/-- Settles O39. -/
theorem injectionStallAndFifos : Obligations.InjectionStallAndFifos := by
  unfold Obligations.InjectionStallAndFifos
  refine ⟨fun s who e v hu hl ho hh hi => congrArg Host.Outcome.next ((busPut_engInj e v hu).trans (requestInjection_of_free hl ho hh hi)),
    fun s who e v hu hl => congrArg Host.Outcome.next ((busPut_engInj e v hu).trans (if_pos (by simp [hl]))),
    fun s e t w hi ho hw => congrArg Host.Outcome.next (doInjectionExecute_of_slot hi ho hw), fun s e hi => congrArg Host.Outcome.next ?_,
    fun s e t w hi ho => congrArg Host.Outcome.next ?_, fun s e t hf hs ht => congrArg Host.Outcome.next (doStall_of_due hf hs ht),
    fun s e t hf ht => congrArg Host.Outcome.next ?_,
    fun s who e t v hu hl => congrArg Host.Outcome.next ((busPut_txf e t v hu).trans (congrArg Prod.snd (if_pos hl))),
    fun s who e t v hu hl => congrArg Host.Outcome.next ((busPut_txf e t v hu).trans (congrArg Prod.snd (if_neg (by omega)))),
    fun s who e t hu => congrArg Host.Outcome.next ((if_pos hu).trans (busRead_rxf who e t s)), fun s pin level => rfl⟩
  · unfold doInjectionExecute
    rw [hi]
  · unfold doInjectionExecute
    rw [hi]
    exact if_pos (by simp [ho])
  · unfold doStall
    simp only [hf]
    exact if_neg fun h => absurd h.2 (Nat.not_le.mpr ht)

end Sys2Proof.Machine
end

section
/-! Tracker converters: steps, slices and the reference (R486 to R494, R499). -/

namespace Sys2Proof.Machine

/-- R486: a step does not end before its 25 TB have passed. -/
theorem doTrackerStepComplete_of_early {p0 p1 p2 p3 : Option (BitVec 16)} {k : Nat} {s : State} (h : s.now < s.trc.stepTb + 25) :
    doTrackerStepComplete p0 p1 p2 p3 k s = s := by
  have hb : bulkSample s p0 = none := if_neg fun hc => absurd hc.2.1 (Nat.not_le.mpr h)
  have ht : trackerStep p0 p1 p2 p3 k s = s := if_pos (Or.inr h)
  unfold doTrackerStepComplete
  simp only [hb, ht]

/-- R819: a regular step takes no sample of V_BULK. -/
theorem doTrackerStepComplete_of_regular {p0 p1 p2 p3 : Option (BitVec 16)} {k : Nat} {s : State} (h : s.trc.injStep = none) :
    doTrackerStepComplete p0 p1 p2 p3 k s = trackerStep p0 p1 p2 p3 k s := by
  have hb : bulkSample s p0 = none := if_neg fun hc => absurd (h.symm.trans hc.2.2.1) (by decide)
  unfold doTrackerStepComplete
  simp only [hb]

/-- R487: of two active slices the one with the older calibration hands its position over. -/
theorem pickHandover_of_older {s : State} {a b sp : Nat} (hr : s.trc.run = true) (hsp : s.trc.spare = some sp)
    (hs : (s.trc.slices.getD sp {}).st = .ready) (hh : s.trc.handover = none) (hp : s.trc.positions = [some a, some b, none, none])
    (hc : (s.trc.slices.getD b {}).calTb < (s.trc.slices.getD a {}).calTb) :
    pickHandover s = s.onTrc fun x => { x with handover := some (1, sp) } := by
  have hheld : (s.trc.positions.mapIdx fun p n => (p, n)).filterMap (fun q => q.2.map fun n => (q.1, n)) = [(0, a), (1, b)] := by
    rw [hp]
    rfl
  unfold pickHandover
  simp only [hsp]
  rw [if_pos ⟨hr, hs, by rw [hh]; rfl⟩, hheld]
  simp only [List.foldl_cons, List.foldl_nil, if_pos hc]

theorem pickHandover_of_noSpare {s : State} (h : s.trc.spare = none) : pickHandover s = s := by
  unfold pickHandover
  simp only [h]

theorem noSpareLeft_refActive (s : State) : (noSpareLeft s).trc.refActive = s.trc.refActive := by
  unfold noSpareLeft
  split
  · rw [raise_trc]
    rfl
  · rfl

section
variable {s : State} {n : Fin 5} {offset gain : Int} {mv : Nat}

/-- A calibration of 2 ms that has ended. -/
theorem sliceCal_ends (hs : (s.trc.slices.getD n {}).st = .calibrating) (hr : s.trc.run = true)
    (ht : (s.trc.slices.getD n {}).startTb + 500000 ≤ s.now) : ¬((s.trc.slices.getD n {}).st ≠ .calibrating ∨ (!s.trc.run) = true ∨
      s.now < (s.trc.slices.getD n {}).startTb + 2 * milli) := by
  rintro (h | h | h)
  · exact h hs
  · simp [hr] at h
  · exact absurd h (Nat.not_lt.mpr ht)

/-- R487, R488: the end of a slice's calibration under the internal reference, by what it found. -/
theorem doSliceCalComplete_of_ends {u : State} (hs : (s.trc.slices.getD n {}).st = .calibrating) (hr : s.trc.run = true)
    (ht : (s.trc.slices.getD n {}).startTb + 500000 ≤ s.now)
    (hu : (if decide (offset.natAbs ≤ 8) && decide (gain.natAbs ≤ 1000) then
        s.onTrc fun t => { t with slices := t.slices.modify n fun y => { y with st := .ready, calTb := s.now } }
      else noSpareLeft (raise 0x0901 [.h n, .h (signed16 offset), .h (signed16 gain)] (s.onTrc fun t => { t with
        slices := t.slices.modify n (fun y => { y with st := .faulty }), spare := none, handover := none }))) = u)
    (hf : u.trc.refActive = 0) : doSliceCalComplete n offset gain mv s = u := by
  unfold doSliceCalComplete
  dsimp only
  rw [if_neg (sliceCal_ends hs hr ht), hu, if_neg (by simp [hf]), if_pos hf]

theorem doSliceCalComplete_good (hs : (s.trc.slices.getD n {}).st = .calibrating) (hr : s.trc.run = true)
    (ht : (s.trc.slices.getD n {}).startTb + 500000 ≤ s.now) (ho : offset.natAbs ≤ 8) (hg : gain.natAbs ≤ 1000) (hf : s.trc.refActive = 0) :
    doSliceCalComplete n offset gain mv s =
      s.onTrc fun t => { t with slices := t.slices.modify n fun y => { y with st := .ready, calTb := s.now } } :=
  doSliceCalComplete_of_ends hs hr ht (if_pos (by simp [ho, hg])) hf

theorem doSliceCalComplete_bad (hs : (s.trc.slices.getD n {}).st = .calibrating) (hr : s.trc.run = true)
    (ht : (s.trc.slices.getD n {}).startTb + 500000 ≤ s.now) (hb : 8 < offset.natAbs ∨ 1000 < gain.natAbs) (hf : s.trc.refActive = 0) :
    doSliceCalComplete n offset gain mv s = noSpareLeft (raise 0x0901 [.h n, .h (signed16 offset), .h (signed16 gain)]
      (s.onTrc fun t => { t with slices := t.slices.modify n (fun y => { y with st := .faulty }), spare := none, handover := none })) := by
  refine doSliceCalComplete_of_ends hs hr ht (if_neg ?_) ?_
  · simp only [Bool.and_eq_true, decide_eq_true_eq]
    omega
  · rw [noSpareLeft_refActive, raise_trc]
    exact hf

end

/-- Settles O40. -/
theorem trackerSlices : Obligations.TrackerSlices := by
  unfold Obligations.TrackerSlices
  refine ⟨fun s p0 p1 p2 p3 k h => congrArg Host.Outcome.next (doTrackerStepComplete_of_early h),
    fun s p0 p1 p2 p3 k h => congrArg Host.Outcome.next (doTrackerStepComplete_of_regular h),
    fun s a b sp hr ht hsp hs hh hp hc => congrArg Host.Outcome.next ((if_pos ⟨hr, ht⟩).trans (pickHandover_of_older hr hsp hs hh hp hc)),
    fun s hr ht hsp => congrArg Host.Outcome.next ((if_pos ⟨hr, ht⟩).trans (pickHandover_of_noSpare hsp)),
    fun s ht => congrArg Host.Outcome.next (if_neg fun h => absurd h.2 (Nat.not_le.mpr ht)),
    fun s n offset gain mv hs hr ht ho hg hf => congrArg Host.Outcome.next (doSliceCalComplete_good hs hr ht ho hg hf),
    fun s n offset gain mv hs hr ht hb hf => congrArg Host.Outcome.next (doSliceCalComplete_bad hs hr ht hb hf),
    fun s t hs ht => ⟨(s.onTrc fun x => { x with settling := none }).onPwr fun p =>
      { p with checking := p.checking.map fun w => { w with last := s.now } }, congrArg Host.Outcome.next ?_, rfl, rfl, rfl, rfl⟩,
    fun s t hs ht => congrArg Host.Outcome.next ?_, fun s hr hs ht => congrArg Host.Outcome.next (if_pos ⟨hr, by simp [hs], ht⟩)⟩
  · unfold doRefSettlingEnd
    simp only [hs]
    exact if_pos ht
  · unfold doRefSettlingEnd
    simp only [hs]
    exact if_neg (Nat.not_le.mpr ht)

end Sys2Proof.Machine
end

section
/-! Injected triggers, windows of accumulators and TRACK packets (R491, R496, R497, R501, R643, R819). -/

namespace Sys2Proof.Machine

theorem doInjectedTrigger_of_open {s : State} {t : InjTrigger} (ho : triggerOpen s t = true) (he : t ≠ .energy) :
    doInjectedTrigger t s = injectTrigger t s := by
  unfold doInjectedTrigger
  rw [if_pos ho, if_neg he]

/-- R497: a trigger while a run is in progress and none is pending. -/
theorem injectTrigger_pends {s : State} {t : InjTrigger} {k : Nat} {x : InjTrigger × Nat} (hr : s.trc.run = true)
    (hk : s.trc.injStep = some k) (hx : s.trc.injTrig = some x) (hn : x.2 ≠ s.now) (hp : s.trc.pending = none) (hl : s.trc.stepTb < s.now)
    (hh : s.now < s.trc.stepTb + 25) : injectTrigger t s = pendTrigger t s := by
  unfold injectTrigger
  simp only [hr, hk, hx, hp]
  rw [if_neg (by decide), if_neg (by simp [hn]; omega), if_neg (by simp [stepTicks, Nat.not_le.mpr hh])]

/-- R497: a trigger in the tick of the run's own trigger merges with it. -/
theorem injectTrigger_merges {s : State} {t : InjTrigger} {k : Nat} {x : InjTrigger × Nat} (hr : s.trc.run = true)
    (hk : s.trc.injStep = some k) (hx : s.trc.injTrig = some x) (hn : x.2 = s.now) : injectTrigger t s = s := by
  unfold injectTrigger
  simp only [hr, hk, hx]
  rw [if_neg (by decide), if_pos (by simp [hn])]

/-- R501: a TIME window of the steward that has lasted. -/
theorem doAccTimeWindowClose_of_due {s : State} {a : Fin 256} (ha : a.val < 244) (ho : (getAcc s a).openW = true)
    (hm : getF s (R.TRC_ACC_CFG_MODE a) = 0) (ht : (getAcc s a).firstTb + (getF s (R.TRC_ACC_LEN a) + 1) * 250 ≤ s.now) :
    doAccTimeWindowClose a s = openAcc a ((getAcc s a).firstTb + (getF s (R.TRC_ACC_LEN a) + 1) * 250) (closeAcc a 0 s) := by
  have hs : accCfg s a = ⟨flagF s (R.TRC_ACC_CFG_EN a), getF s (R.TRC_ACC_CFG_MODE a), getF s (R.TRC_ACC_CFG_SRC a),
      flagF s (R.TRC_ACC_CFG_STREAM a), getF s (R.TRC_ACC_CFG_INPUT a), getF s (R.TRC_ACC_LEN a)⟩ := if_neg (by simp [systemAcc]; omega)
  unfold doAccTimeWindowClose
  simp only [hs]
  exact if_pos ⟨ho, hm, ht⟩

theorem regWrite_trc {who : Initiator} {a : Nat} {v : Word} {s : State} (ha : a / 0x10000 = 9) : regWrite who a v s = writeTrc a v s := by
  unfold regWrite
  rw [ha]
  rfl

theorem busPut_trcCtrl {who : Initiator} {v : Word} {s : State} (hu : busOpen s who = true) (hv : trcRangeOk s A.TRC_CTRL v = true) :
    busPut who A.TRC_CTRL v s = writeTrcCtrl A.TRC_CTRL v s := by
  have hh : trcHeld A.TRC_CTRL = false := by decide
  rw [busPut_plain hu (by decide), regWrite_trc (by decide)]
  unfold writeTrc
  rw [if_neg (by simp [hh]), if_neg (by simp [hv]), if_pos rfl]

/-- Settles O41. -/
theorem triggersAndWindows : Obligations.TriggersAndWindows := by
  unfold Obligations.TriggersAndWindows
  refine ⟨fun s t h => congrArg Host.Outcome.next (if_neg (by simp [h])),
    fun s t k x ho he hr hk hx hn hp hl hh =>
      congrArg Host.Outcome.next ((doInjectedTrigger_of_open ho he).trans (injectTrigger_pends hr hk hx hn hp hl hh)),
    fun s t k x ho he hr hk hx hn => congrArg Host.Outcome.next ((doInjectedTrigger_of_open ho he).trans (injectTrigger_merges hr hk hx hn)),
    fun s t hd ht => congrArg Host.Outcome.next ?_, fun s a ha ho hm ht => congrArg Host.Outcome.next ?_,
    fun s a ho => congrArg Host.Outcome.next ?_, fun s sid b hb ht => congrArg Host.Outcome.next ?_,
    fun s sid hb => congrArg Host.Outcome.next ?_, fun s who v hu hv => congrArg Host.Outcome.next (busPut_trcCtrl hu hv)⟩
  · unfold doEnergyRequestRepeat
    simp only [hd]
    exact if_pos ht
  · rw [← doAccTimeWindowClose_of_due ha ho hm ht]
    exact if_neg fun h => absurd h.2.1 (by omega)
  · have hc : doAccTimeWindowClose a s = s := if_neg (by simp [ho])
    unfold doAccWindowClose
    simp [hc]
  · unfold doTrackFlushTimeout
    simp only [hb]
    exact if_pos ht
  · unfold doTrackFlushTimeout
    simp only [hb]

end Sys2Proof.Machine
end

section
namespace Sys2Proof.Machine

/-! ### O42: the register operations of a session -/

/-- A session that is open, served and owes no answer runs its operation. -/
theorem sessionOp_of_ready {n : Fin 4} {s : State} (op : LcpOp) (ho : (getSession s n).opened = true)
    (hs : served s 4 = true) (hb : (getSession s n).busy = none) : sessionOp n op s = runRequest n op s :=
  if_pos ⟨ho, hs, hb⟩

/-- An operation that answers, other than CLOSE, leaves its state and the answer. -/
theorem runRequest_of_answer {n : Nat} {op : LcpOp} {s u : State} {a : Answer} (h : stewardOp n op s = (some a, u))
    (hc : op ≠ .close) : runRequest n op s = answerSession n (getSession u n).cur a u := by
  unfold runRequest
  rw [h]
  exact if_neg hc

/-- An operation that a restart of the core does not bar answers at once. -/
theorem not_barred {op : LcpOp} {s : State} (h : barredInRestart op = false) :
    ¬(s.head.coreRestart = true ∧ barredInRestart op = true) := fun hb => by
  rw [h] at hb
  exact absurd hb.2 (by decide)

theorem stewardOp_read {n a c : Nat} {s : State} : stewardOp n (.read a c) s =
    now (readOp (.lcp n) 4 ((getSession s n).mtu - (getSession s n).overhead) false a c s) :=
  if_neg (not_barred rfl)

theorem stewardOp_bulkRead {n a c : Nat} {fixed : Bool} {s : State} : stewardOp n (.bulkRead fixed a c) s =
    now (readOp (.lcp n) 1024 ((getSession s n).mtu - (getSession s n).overhead) fixed a c s) :=
  if_neg (not_barred rfl)

theorem stewardOp_write {n a : Nat} {v : Word} {s : State} : stewardOp n (.write a v) s = now (writeOp (.lcp n) a v s) :=
  if_neg (not_barred rfl)

theorem stewardOp_rmw {n a : Nat} {m v : Word} {s : State} :
    stewardOp n (.rmw a m v) s = now (rmwOp (.lcp n) a m v s) :=
  if_neg (not_barred rfl)

theorem stewardOp_bulkWrite {n a : Nat} {fixed : Bool} {l : List Word} {s : State} :
    stewardOp n (.bulkWrite fixed a l) s = now (bulkWriteOp (.lcp n) fixed a l s) :=
  if_neg (not_barred rfl)

theorem stewardOp_nop {n : Nat} {s : State} : stewardOp n .nop s = (some .ok, s) :=
  if_neg (not_barred rfl)

theorem stewardOp_close {n : Nat} {s : State} : stewardOp n .close s = (some .ok, s) :=
  if_neg (not_barred rfl)

/-- R713: an operation answers at once with what its function gives. -/
theorem runRequest_of_now {n : Nat} {op : LcpOp} {s : State} {r : Answer × State} (h : stewardOp n op s = now r)
    (hc : op ≠ .close) : runRequest n op s = answerSession n (getSession r.2 n).cur r.1 r.2 :=
  runRequest_of_answer h hc

/-- R713: a read of a permitted count of defined words that fit the MTU answers them. -/
theorem readOp_of_defined {who : Initiator} {most room a c : Nat} {fixed : Bool} {s : State} (h1 : 1 ≤ c) (h2 : c ≤ most)
    (h3 : 40 + 4 * c ≤ room) (h4 : badAddress (addresses fixed a c) = none) : readOp who most room fixed a c s =
      (⟨0, 0, (readWords who (addresses fixed a c) s).1⟩, (readWords who (addresses fixed a c) s).2) := by
  unfold readOp
  rw [if_neg (by omega), if_neg (by omega), h4]

theorem readOp_of_none {who : Initiator} {most room a : Nat} {fixed : Bool} {s : State} :
    readOp who most room fixed a 0 s = (⟨3, 0, []⟩, s) :=
  if_pos (.inl rfl)

theorem writeOp_of_defined {who : Initiator} {a : Nat} {v : Word} {s : State} (h : wordDefined a = true) :
    writeOp who a v s = writeWord who a v s :=
  if_neg (by rw [h]; decide)

theorem writeOp_of_undefined {who : Initiator} {a : Nat} {v : Word} {s : State} (h : wordDefined a = false) :
    writeOp who a v s = (⟨3, 0, []⟩, s) :=
  if_pos (by rw [h]; decide)

/-- R723: a write of the fuse block is denied. -/
theorem writeWord_fuses {who : Initiator} {a : Nat} {v : Word} {s : State} (h : a / 0x10000 = 0xE) :
    writeWord who a v s = (⟨8, 0, []⟩, s) :=
  if_pos h

/-- R720: a register whose fields refuse writes is locked. -/
theorem writeWord_refused {who : Initiator} {a : Nat} {v : Word} {s : State} (h : a / 0x10000 ≠ 0xE)
    (hr : accessRefused s a = true) : writeWord who a v s = (⟨9, 0, []⟩, s) :=
  (if_neg h).trans (if_pos hr)

theorem writeWord_allowed {who : Initiator} {a : Nat} {v : Word} {s : State} (h : a / 0x10000 ≠ 0xE)
    (hr : accessRefused s a = false) :
    writeWord who a v s = (writeAnswer (busWrite who a v s).1, (busWrite who a v s).2) :=
  (if_neg h).trans (if_neg (by rw [hr]; decide))

/-- R721: an RMW that stands reads, writes the new word and answers both. -/
theorem rmwOp_allowed {who : Initiator} {a : Nat} {m v : Word} {s : State} (hd : wordDefined a = true)
    (hv : v &&& ~~~m = 0) (h : a / 0x10000 ≠ 0xE) (hc : ((fieldsAt a).any fun d => d.acc == .rc) = false)
    (hr : accessRefused s a = false) :
    rmwOp who a m v s =
      (if (writeAnswer (busWrite who a (rmwWord a m v (busRead who a s).1) (busRead who a s).2).1).status = 0
        then ⟨0, 0, [(busRead who a s).1, rmwWord a m v (busRead who a s).1]⟩
        else writeAnswer (busWrite who a (rmwWord a m v (busRead who a s).1) (busRead who a s).2).1,
        (busWrite who a (rmwWord a m v (busRead who a s).1) (busRead who a s).2).2) := by
  unfold rmwOp
  rw [if_neg (by rw [hd, hv]; decide), if_neg h, if_neg (by rw [hc, hr]; decide)]

theorem bulkWriteOp_of_defined {who : Initiator} {a : Nat} {fixed : Bool} {l : List Word} {s : State}
    (h1 : 1 ≤ l.length) (h2 : l.length ≤ 1024) (h3 : badAddress (addresses fixed a l.length) = none) :
    bulkWriteOp who fixed a l s = writeWords who ((addresses fixed a l.length).zip l) 0 s := by
  unfold bulkWriteOp
  dsimp only
  rw [if_neg (by omega), h3]

theorem runRequest_close {n : Nat} {s : State} :
    runRequest n .close s = endSession 0 n (answerSession n (getSession s n).cur .ok s) := by
  unfold runRequest
  rw [stewardOp_close]
  exact if_pos rfl

theorem getSession_of_lcp {s t : State} (h : t.lcp = s.lcp) (n : Nat) : getSession t n = getSession s n := by
  unfold getSession
  rw [h]

/-- A session of the list that is changed reads as changed. -/
theorem getSession_modSession {n : Nat} {s : State} (f : Session → Session) (h : n < s.lcp.sessions.length) :
    getSession (modSession n f s) n = f (getSession s n) := by
  simp [getSession, modSession, State.onLcp, h]

/-- A session that is closed reads as closed, a session outside the list as the closed one. -/
theorem opened_modSession_closed (n : Nat) (s : State) : (getSession (modSession n (fun _ => {}) s) n).opened = false := by
  by_cases h : n < s.lcp.sessions.length
  · exact congrArg Session.opened (getSession_modSession (fun _ => {}) h)
  · simp [getSession, modSession, State.onLcp, h]

/-- R706: a session that has ended is not open. -/
theorem opened_endSession (cause n : Nat) (s : State) : (getSession (endSession cause n s) n).opened = false := by
  by_cases h : (getSession s n).opened = true
  · have hl : (endSession cause n s).lcp = (modSession n (fun _ => {}) (raise 0x1233 [.h n, .h cause] s)).lcp := by
      unfold endSession
      rw [if_neg (by rw [h]; decide)]
      simp only [onCfg_lcp, onFus_lcp, onChg_lcp]
    rw [getSession_of_lcp hl]
    exact opened_modSession_closed n _
  · have he : endSession cause n s = s := if_pos (by rw [Bool.of_not_eq_true h]; decide)
    rw [he]
    exact Bool.of_not_eq_true h

/-- Settles O42: a session that is open, served and free runs its operation at once; each operation's own branch gives the answer. -/
theorem sessionRegisterOperations : Obligations.SessionRegisterOperations := by
  intro s n ho hs hb
  have run {op : LcpOp} {r : Answer × State} (h : stewardOp n op s = now r) (hc : op ≠ .close) :
      sessionOp n op s = answerSession n (getSession r.2 n).cur r.1 r.2 :=
    (sessionOp_of_ready op ho hs hb).trans (runRequest_of_now h hc)
  refine ⟨fun a c h1 h2 h3 h4 => ?_, fun a => ?_, fun fixed a c h1 h2 h3 h4 => ?_, fun a v hd hf hr => ?_, fun a v hd => ?_,
    fun a v hd hf => ?_, fun a v hd hf hr => ?_, fun a m v hd hv hf hc hr => ?_, fun fixed a l h1 h2 h3 => ?_, ?_, ?_⟩
  · exact congrArg Host.Outcome.next (run (stewardOp_read.trans (congrArg now (readOp_of_defined h1 h2 h3 h4))) nofun)
  · exact congrArg Host.Outcome.next (run (stewardOp_read.trans (congrArg now readOp_of_none)) nofun)
  · exact congrArg Host.Outcome.next (run (stewardOp_bulkRead.trans (congrArg now (readOp_of_defined h1 h2 h3 h4))) nofun)
  · exact congrArg Host.Outcome.next
      (run (stewardOp_write.trans (congrArg now ((writeOp_of_defined hd).trans (writeWord_allowed hf hr)))) nofun)
  · exact congrArg Host.Outcome.next (run (stewardOp_write.trans (congrArg now (writeOp_of_undefined hd))) nofun)
  · exact congrArg Host.Outcome.next
      (run (stewardOp_write.trans (congrArg now ((writeOp_of_defined hd).trans (writeWord_fuses hf)))) nofun)
  · exact congrArg Host.Outcome.next
      (run (stewardOp_write.trans (congrArg now ((writeOp_of_defined hd).trans (writeWord_refused hf hr)))) nofun)
  · exact congrArg Host.Outcome.next (run (stewardOp_rmw.trans (congrArg now (rmwOp_allowed hd hv hf hc hr))) nofun)
  · exact congrArg Host.Outcome.next (run (stewardOp_bulkWrite.trans (congrArg now (bulkWriteOp_of_defined h1 h2 h3))) nofun)
  · exact congrArg Host.Outcome.next (run (r := (.ok, s)) stewardOp_nop nofun)
  · exact ⟨_, congrArg Host.Outcome.next ((sessionOp_of_ready .close ho hs hb).trans runRequest_close), rfl, opened_endSession _ _ _⟩

end Sys2Proof.Machine
end

section
namespace Sys2Proof.Machine

/-! ### What an entry does to the sessions: it joins their queues -/

/-- A session but for the entries that it queues. -/
def Session.quiet (x : Session) : Session := { x with evq := [], lost := 0, evqTb := 0 }

/-- The control protocol but for the entries that its sessions queue. -/
def Lcp.quiet (l : Lcp) : Lcp := { l with sessions := l.sessions.map Session.quiet }

theorem quiet_take (now : Nat) (e : LogEntry) (x : Session) : (x.take now e).quiet = x.quiet := by
  unfold Session.take
  split <;> rfl

theorem lcp_quiet_pushToSessions (e : LogEntry) (all : Bool) (s : State) : (pushToSessions e all s).lcp.quiet = s.lcp.quiet := by
  have h : ∀ x : Session, (if x.opened && x.evt && (all || sevCode x.minSev ≤ sevCode e.sev) then x.take s.now e else x).quiet =
      x.quiet := fun x => by
    split
    · exact quiet_take _ _ x
    · rfl
  have hm : (pushToSessions e all s).lcp.sessions.map Session.quiet = s.lcp.sessions.map Session.quiet :=
    List.map_map.trans (List.map_congr_left fun x _ => h x)
  exact (congrArg (fun l => { s.lcp with sessions := l }) hm :)

theorem pushToStreams_lcp (e : LogEntry) (s : State) : (pushToStreams e s).lcp = s.lcp := by
  obtain ⟨g, hg⟩ := pushToStreams_onLnk e s
  rw [hg, onLnk_lcp]

theorem lcp_quiet_storeEntry (e : LogEntry) (s : State) : (storeEntry e s).lcp.quiet = s.lcp.quiet := by
  unfold storeEntry
  extract_lets e s1 s2
  split
  · rfl
  · rw [pushToStreams_lcp]
    exact lcp_quiet_pushToSessions _ _ _

theorem lcp_quiet_logEntry (e : LogEntry) (s : State) : (logEntry e s).lcp.quiet = s.lcp.quiet := by
  unfold logEntry
  extract_lets s1
  have h1 : s1.lcp = s.lcp := by
    simp only [s1]
    split <;> rfl
  rw [← h1]
  split
  · rfl
  · exact lcp_quiet_storeEntry _ _

theorem requestLadder_lcp (e : LadderEvent) (s : State) : (requestLadder e s).lcp = s.lcp := rfl

theorem touchWindows_lcp (s : State) : (touchWindows s).lcp = s.lcp := rfl

theorem raiseF_lcp (f : Fld) (x : Nat) (s : State) : (raiseF f x s).lcp = s.lcp := rfl

/-- R724: an event changes nothing of the control protocol but the queues of its sessions. -/
theorem lcp_quiet_raise (code : Nat) (fs : List DetailField) (s : State) : (raise code fs s).lcp.quiet = s.lcp.quiet := by
  unfold raise raiseSev
  extract_lets s1 d
  have h1 : s1.lcp = s.lcp := rfl
  rw [← h1]
  split
  · split
    · rfl
    · exact lcp_quiet_pushToSessions _ _ _
  · split
    · split
      · exact lcp_quiet_logEntry _ _
      · exact lcp_quiet_logEntry _ _
    · rw [requestLadder_lcp, lcp_quiet_logEntry, raiseF_lcp, touchWindows_lcp, lcp_quiet_logEntry]

theorem getSession_quiet (s : State) (n : Nat) : (getSession s n).quiet = s.lcp.quiet.sessions.getD n {} := by
  simp only [getSession, Lcp.quiet, List.getD_eq_getElem?_getD, List.getElem?_map]
  cases s.lcp.sessions[n]? <;> rfl

/-- A session after an event is the session before it, but for its queue. -/
theorem getSession_raise_quiet (code : Nat) (fs : List DetailField) (s : State) (n : Nat) :
    (getSession (raise code fs s) n).quiet = (getSession s n).quiet := by
  rw [getSession_quiet, getSession_quiet, lcp_quiet_raise]

theorem getSession_raise_opened (code : Nat) (fs : List DetailField) (s : State) (n : Nat) :
    (getSession (raise code fs s) n).opened = (getSession s n).opened :=
  (congrArg Session.opened (getSession_raise_quiet code fs s n) :)

theorem raise_accepts (code : Nat) (fs : List DetailField) (s : State) : (raise code fs s).lcp.accepts = s.lcp.accepts :=
  (congrArg Lcp.accepts (lcp_quiet_raise code fs s) :)

/-! ### O43: sessions open, take requests and end -/

theorem find_free_session_first {s : State} (h : (getSession s 0).opened = false) :
    (List.range 4).find? (fun n => !(getSession s n).opened) = some 0 :=
  List.find?_cons_of_pos (by rw [h]; rfl)

theorem find_free_session_none {s : State} (h : ∀ n, n < 4 → (getSession s n).opened = true) :
    (List.range 4).find? (fun n => !(getSession s n).opened) = none :=
  List.find?_eq_none.mpr fun n hn => by rw [h n (List.mem_range.mp hn)]; decide

/-- R705: an INIT that fails a check only says so. -/
theorem doInit_of_fault {port : Fin 5} {v6 sig : Bool} {key : List Byte} {nonce : BitVec 128} {mtu flags sev c : Nat}
    {serial : BitVec 64} {s : State} (hs : served s port = true) (h : initFault s key sig mtu flags sev serial = some c) :
    doInit port v6 true key sig nonce mtu flags sev serial s = raise 0x1232 [.h c] s := by
  unfold doInit
  rw [if_neg (by rw [hs]; decide), if_neg (by decide), h]

/-- R704: a good INIT finds no free session. -/
theorem doInit_of_full {port : Fin 5} {v6 : Bool} {key : List Byte} {nonce : BitVec 128} {mtu flags sev : Nat}
    {serial : BitVec 64} {s : State} (hs : served s port = true) (h : initFault s key true mtu flags sev serial = none)
    (hf : ∀ n, n < 4 → (getSession s n).opened = true) : doInit port v6 true key true nonce mtu flags sev serial s =
      s.onLcp fun l => { l with accepts := none :: l.accepts } := by
  unfold doInit
  rw [if_neg (by rw [hs]; decide), if_neg (by decide), h]
  dsimp only
  rw [find_free_session_none hf]
  split <;> rfl

/-- R704, R706: a good INIT opens the lowest free session, with seven free values. -/
theorem doInit_opens {port : Fin 5} {v6 : Bool} {key : List Byte} {nonce : BitVec 128} {mtu flags sev : Nat}
    {serial : BitVec 64} {s : State} (hs : served s port = true) (h : initFault s key true mtu flags sev serial = none)
    (hc : s.head.coreRestart = false) (h0 : (getSession s 0).opened = false) :
    ∃ (x : Session) (a : Accept), x.opened = true ∧ x.mtu = mtu ∧ x.port = port ∧ x.lastTb = s.now ∧ a.session = 0 ∧
      doInit port v6 true key true nonce mtu flags sev serial s = raise 0x1231 [.h 0, .h port]
        ((modSession 0 (fun _ => x) { s with freeCount := s.freeCount + 7 }).onLcp fun l =>
          { l with accepts := some a :: l.accepts }) := by
  unfold doInit
  rw [if_neg (by rw [hs]; decide), if_neg (by decide), h]
  dsimp only
  rw [if_neg (by rw [hc]; decide), find_free_session_first h0]
  simp only [takeFree]
  refine ⟨_, _, ?_, ?_, ?_, ?_, ?_, rfl⟩ <;> rfl

/-- R708: a message of an open session with a good tag and a new REQ is kept, and runs when no answer is owed. -/
theorem doStewardReq_new {n : Fin 4} {port : Fin 5} {req : BitVec 64} {op : LcpOp} {s : State} (hs : served s port = true)
    (ho : (getSession s n).opened = true) (hb : (getSession s n).busy = none) (hr : (getSession s n).lastReq < req) :
    doStewardReq n port true true req op s = runRequest n op (touchChange n (modSession n (fun x => { x with
      lastReq := req, lastTb := s.now, cache := ((req, op, none) :: x.cache).take 16
      waitq := if x.busy = none then x.waitq else x.waitq ++ [(req, op)], cur := if x.busy = none then req else x.cur }) s)) := by
  unfold doStewardReq
  dsimp only
  rw [if_neg (by rw [hs]; decide), if_neg (by decide), if_neg (by rw [ho]; decide), if_neg (BitVec.not_le.mpr hr)]
  exact if_pos hb

theorem doStewardReq_bad_tag {n : Fin 4} {port : Fin 5} {req : BitVec 64} {op : LcpOp} {s : State} (hs : served s port = true) :
    doStewardReq n port true false req op s = authFailed n s := by
  unfold doStewardReq
  rw [if_neg (by rw [hs]; decide), if_neg (by decide)]
  exact if_pos (.inr rfl)

theorem doStewardReq_bad_frame {n : Fin 4} {port : Fin 5} {tag : Bool} {req : BitVec 64} {op : LcpOp} {s : State}
    (hs : served s port = true) : doStewardReq n port false tag req op s = dropDatagram s := by
  unfold doStewardReq
  rw [if_neg (by rw [hs]; decide)]
  exact if_pos (by decide)

theorem modSession_lcp_length (n : Nat) (f : Session → Session) (s : State) :
    (modSession n f s).lcp.sessions.length = s.lcp.sessions.length := List.length_modify _ _ _

/-- Settles O43: an INIT opens session 0 with what it asked for, which the event after it leaves but for the queue of entries. -/
theorem sessionsOpenAndEnd : Obligations.SessionsOpenAndEnd := by
  refine ⟨fun s port v6 key nonce mtu flags sev serial hs hf hc h0 hl => ?_, fun s port v6 sig key nonce mtu flags sev c serial hs hf => ?_,
    fun s port v6 key nonce mtu flags sev serial hs hf ha => ?_, fun s n port req op hs ho hb hr => ?_,
    fun s n port req op hs => ⟨?_, ?_⟩, fun s n ho ht => ?_, fun s n ho ht => ?_, fun s n ho hq ht hr => ?_⟩
  · obtain ⟨x, a, hxo, hxm, hxp, hxt, ha, h⟩ := doInit_opens (v6 := v6) (nonce := nonce) hs hf hc h0
    have hq : (getSession (doInit port v6 true key true nonce mtu flags sev serial s) 0).quiet = x.quiet := by
      rw [h, getSession_raise_quiet]
      exact congrArg Session.quiet (getSession_modSession (fun _ => x) (by rw [hl]; decide))
    refine ⟨_, rfl, (congrArg Session.opened hq :).trans hxo, (congrArg Session.mtu hq :).trans hxm,
      (congrArg Session.port hq :).trans hxp, (congrArg Session.lastTb hq :).trans hxt, ⟨a, ha, ?_⟩, ?_, ?_, ?_, ?_⟩
    · rw [h, raise_accepts]; rfl
    · rw [h, raise_freeCount]; rfl
    · rw [h]; exact getF_evt_raise (by decide)
    · rw [h, raise_mem]; rfl
    · rw [h, raise_rru]; rfl
  · exact congrArg Host.Outcome.next (doInit_of_fault hs hf)
  · exact congrArg Host.Outcome.next (doInit_of_full hs hf ha)
  · exact congrArg Host.Outcome.next (doStewardReq_new hs ho hb hr)
  · exact congrArg Host.Outcome.next (doStewardReq_bad_tag hs)
  · exact congrArg Host.Outcome.next (doStewardReq_bad_frame hs)
  · exact congrArg Host.Outcome.next (if_pos ⟨ho, ht⟩)
  · exact congrArg Host.Outcome.next (if_neg fun h => absurd h.2 (Nat.not_le.mpr ht))
  · exact congrArg Host.Outcome.next (if_pos ⟨ho, hq, ht, hr⟩)

end Sys2Proof.Machine
end

section
namespace Sys2Proof.Machine

/-! ### O44: the writing of an image and the flash controllers -/

/-- R727: an operation that a restart of the core would bar runs when none is under way. -/
theorem not_barred_core {op : LcpOp} {s : State} (h : s.head.coreRestart = false) :
    ¬(s.head.coreRestart = true ∧ barredInRestart op = true) := fun hb => by
  rw [h] at hb
  exact absurd hb.1 (by decide)

theorem stewardOp_imageOpen {n total : Nat} {t : WriteTarget} {s : State} (h : s.head.coreRestart = false) :
    stewardOp n (.imageOpen t total) s = now (imageOpen t total s) :=
  if_neg (not_barred_core h)

theorem stewardOp_imageData {n ofs : Nat} {t : WriteTarget} {data : List Byte} {s : State} (h : s.head.coreRestart = false) :
    stewardOp n (.imageData t ofs data) s = imageData n t ofs data s :=
  if_neg (not_barred_core h)

theorem stewardOp_imageClose {n : Nat} {t : WriteTarget} {sig : Bool} {s : State} (h : s.head.coreRestart = false) :
    stewardOp n (.imageClose t sig) s = imageClose n t sig s :=
  if_neg (not_barred_core h)

theorem stewardOp_imageAbort {n : Nat} {t : WriteTarget} {s : State} (h : s.head.coreRestart = false) :
    stewardOp n (.imageAbort t) s = now (imageAbort t s) :=
  if_neg (not_barred_core h)

/-- R711: an operation whose end decides its answer leaves its state. -/
theorem runRequest_of_later {n : Nat} {op : LcpOp} {s u : State} (h : stewardOp n op s = (none, u)) : runRequest n op s = u := by
  unfold runRequest
  rw [h]

theorem getWrite_of_cfg {s t : State} (h : t.cfg.writes = s.cfg.writes) (c : Nat) : getWrite t c = getWrite s c := by
  unfold getWrite
  rw [h]

theorem getWrite_setWrite {c : Nat} {w : ImageWrite} {s : State} :
    getWrite (setWrite c (some w) s) c = if c < s.cfg.writes.length then some w else none := by
  show ((s.cfg.writes.set c (some w))[c]?).bind id = _
  rw [List.getElem?_set, if_pos rfl]
  split <;> rfl

/-- R578: the state in which an IMAGE_WRITE of a firmware image begins counts its slot as empty. -/
theorem imageOpen_effect {t : WriteTarget} {total : Nat} {s : State} (hw : getWrite s (targetCtl t) = none)
    (hr : s.cfg.reading = none) (hk : s.cfg.keyUsable = true) (ht : totalOk t total = true) :
    ∃ (l : List FlashStep) (u : State), u.cfg.writes = s.cfg.writes ∧ imageOpen t total s = (.ok, addSteps (targetCtl t) l
      (setWrite (targetCtl t) (some { target := t, slot := targetSlot s (targetCtl t), total := total }) u)) := by
  unfold imageOpen
  dsimp only
  rw [if_neg (by rw [hw, hr]; simp), if_neg (by rw [hk]; simp), if_neg (by rw [ht]; decide)]
  refine ⟨_, _, ?_, rfl⟩
  split <;> rfl

theorem imageOpen_busy {t : WriteTarget} {total : Nat} {s : State} (hw : getWrite s (targetCtl t) ≠ none) :
    imageOpen t total s = (⟨1, 0, []⟩, s) :=
  if_pos (.inl (Option.isSome_iff_ne_none.mpr hw))

theorem writeOf_idle {t : WriteTarget} {s : State} {w : ImageWrite} (hw : getWrite s (targetCtl t) = some w)
    (ha : w.asker = none) : writeOf t s = .ok w := by
  simp [writeOf, hw, ha]

theorem imageData_fits {n ofs : Nat} {t : WriteTarget} {data : List Byte} {s : State} {w : ImageWrite}
    (hw : getWrite s (targetCtl t) = some w) (ha : w.asker = none) (hf : ofs + data.length ≤ w.total) :
    imageData n t ofs data s = (none, deferAnswer n (setWrite (targetCtl t)
      (some { w with data := some (ofs, data), started := false, asker := some (currentReq s n) }) s)) := by
  unfold imageData
  rw [writeOf_idle hw ha]
  exact if_neg (Nat.not_lt.mpr hf)

theorem imageData_outside {n ofs : Nat} {t : WriteTarget} {data : List Byte} {s : State} {w : ImageWrite}
    (hw : getWrite s (targetCtl t) = some w) (ha : w.asker = none) (hf : w.total < ofs + data.length) :
    imageData n t ofs data s = (some ⟨0xA, 0, []⟩, s) := by
  unfold imageData
  rw [writeOf_idle hw ha]
  exact if_pos hf

theorem imageClose_idle {n : Nat} {t : WriteTarget} {sig : Bool} {s : State} {w : ImageWrite}
    (hw : getWrite s (targetCtl t) = some w) (ha : w.asker = none) :
    imageClose n t sig s = (none, deferAnswer n (setWrite (targetCtl t)
      (some { w with closing := some sig, asker := some (currentReq s n) }) s)) := by
  unfold imageClose
  rw [writeOf_idle hw ha]

theorem imageAbort_idle {t : WriteTarget} {s : State} {w : ImageWrite}
    (hw : getWrite s (targetCtl t) = some w) (ha : w.asker = none) :
    imageAbort t s = (.ok, endSequence (targetCtl t) (setWrite (targetCtl t) none s)) := by
  unfold imageAbort
  dsimp only
  rw [hw]
  exact if_neg (by rw [ha]; decide)

/-- R583: without a running operation of a NOR user the controller 0 has nothing that ends. -/
theorem doFlashOperationComplete_nor_idle {ok : Bool} {held : Option (List Byte)} {s : State}
    (h : ∀ r ∈ s.pwr.running, norUser r.user = false) : doFlashOperationComplete 0 ok held s = s := by
  have hf : s.pwr.running.find? (fun r => norUser r.user) = none :=
    List.find?_eq_none.mpr fun r hr => by rw [h r hr]; decide
  unfold doFlashOperationComplete
  rw [if_neg (by decide), hf]

/-- Settles O44: the steward's messages reach the image writer of their target, which takes or refuses them at once. -/
theorem imageWritesAndFlash : Obligations.ImageWritesAndFlash := by
  refine ⟨fun s n ho hs hb hc => ?_, fun s ok held hr => ?_, fun s ok held hr => ?_, fun s => ?_, fun s h => ?_, fun s h => ?_⟩
  · have run {op : LcpOp} {r : Answer × State} (h : stewardOp n op s = now r) (hx : op ≠ .close) :
        sessionOp n op s = answerSession n (getSession r.2 n).cur r.1 r.2 :=
      (sessionOp_of_ready op ho hs hb).trans (runRequest_of_now h hx)
    have wait {op : LcpOp} {u : State} (h : stewardOp n op s = (none, u)) : sessionOp n op s = u :=
      (sessionOp_of_ready op ho hs hb).trans (runRequest_of_later h)
    refine ⟨fun t total hw hr hk ht => ⟨?_, ?_⟩, fun t total hw => ?_, fun t ofs data w hw ha hf => ?_,
      fun t ofs data w hw ha hf => ?_, fun t sig w hw ha => ?_, fun t w hw ha => ?_⟩
    · obtain ⟨l, u, _, hu⟩ := imageOpen_effect hw hr hk ht
      have hok : (imageOpen t total s).1 = .ok := congrArg Prod.fst hu
      exact congrArg Host.Outcome.next (hok ▸ run (stewardOp_imageOpen hc) nofun)
    · obtain ⟨l, u, hl, hu⟩ := imageOpen_effect hw hr hk ht
      rw [hu, ← hl]
      exact (getWrite_of_cfg rfl _).trans getWrite_setWrite
    · exact congrArg Host.Outcome.next (run ((stewardOp_imageOpen hc).trans (congrArg now (imageOpen_busy hw))) nofun)
    · exact congrArg Host.Outcome.next (wait ((stewardOp_imageData hc).trans (imageData_fits hw ha hf)))
    · exact congrArg Host.Outcome.next (run (r := (⟨0xA, 0, []⟩, s)) ((stewardOp_imageData hc).trans (imageData_outside hw ha hf)) nofun)
    · exact congrArg Host.Outcome.next (wait ((stewardOp_imageClose hc).trans (imageClose_idle hw ha)))
    · exact congrArg Host.Outcome.next (run ((stewardOp_imageAbort hc).trans (congrArg now (imageAbort_idle hw ha))) nofun)
  · exact congrArg Host.Outcome.next ((if_pos rfl).trans (if_pos hr))
  · exact congrArg Host.Outcome.next (doFlashOperationComplete_nor_idle hr)
  · rfl
  · exact congrArg Host.Outcome.next (if_neg (by rw [h]; decide))
  · exact congrArg Host.Outcome.next (if_pos (Option.isSome_iff_ne_none.mpr h))

end Sys2Proof.Machine
end

section
namespace Sys2Proof.Machine

/-! ### O45: the change set -/

theorem takeLease_chg (r owner : Nat) (s : State) : (takeLease r owner s).chg = s.chg := rfl

/-- A message of a session renews at most the lease of the change set. -/
theorem touchChange_chg (n : Nat) (s : State) : (touchChange n s).chg = s.chg := by
  unfold touchChange
  split <;> rfl

/-- Without an open change set a message renews nothing. -/
theorem touchChange_idle {n : Nat} {s : State} (h : s.chg.st = .idle) : touchChange n s = s :=
  if_neg (by rw [h]; exact nofun)

/-- R890: a party that holds no revoked token acts. -/
theorem formerActs_none {r owner : Nat} {s : State} (h : (getLease s r).former = none) : formerActs r owner s = s :=
  if_neg (by rw [h]; exact nofun)

theorem openChange_chg (owner n f : Nat) (ok : Bool) (fns : List Nat) (s : State) : (openChange owner n false ok f fns s).chg =
    { st := .stopping, session := n, mosaic := false, splitOk := ok, fns := fns, stopF := f, reply := s.chg.reply } := rfl

theorem changeStop_barred {n f : Nat} {ok : Bool} {fns : List Nat} {s : State} {a : Answer} (h : changeBarred s = some a) :
    changeStop n ok f fns s = (a, s) := by
  unfold changeStop
  rw [h]

theorem changeStage_barred {n : Nat} {items : List ChgItem} {s : State} {a : Answer} (h : changeBarred s = some a) :
    changeStage n items s = (a, s) := by
  unfold changeStage
  rw [h]

theorem changeRestart_barred {n f : Nat} {d : Bool} {s : State} {a : Answer} (h : changeBarred s = some a) :
    changeRestart n d f s = (some a, s) := by
  unfold changeRestart
  rw [h]

/-- R597, R598: a STOP that passes its checks opens the change set. -/
theorem changeStop_opens {n f : Nat} {ok : Bool} {fns : List Nat} {s : State} (hb : changeBarred s = none)
    (hi : s.chg.st = .idle) (h1 : s.rru.f + 2 ≤ f) (h2 : f ≤ s.rru.f + 65536) (h3 : fns ≠ []) (h4 : fns.length ≤ 64)
    (h5 : fns.contains 0x4000 = false) (h6 : stopFault s fns = none) :
    changeStop n ok f fns s = (.ok, openChange (0x80 + n) n false ok f fns s) := by
  have hf : ¬(f < s.rru.f + 2 ∨ s.rru.f + 65536 < f) := by omega
  have hl : ¬(fns = [] ∨ 64 < fns.length) := not_or.mpr ⟨h3, Nat.not_lt.mpr h4⟩
  unfold changeStop
  rw [hb]
  dsimp only
  rw [if_neg (fun h => h hi), if_neg hf, if_neg hl, if_neg (by rw [h5]; simp), h6]

theorem changeStop_late {n f : Nat} {ok : Bool} {fns : List Nat} {s : State} (hb : changeBarred s = none)
    (hi : s.chg.st = .idle) (h : f < s.rru.f + 2) : changeStop n ok f fns s = (⟨2, 0, []⟩, s) := by
  unfold changeStop
  rw [hb]
  dsimp only
  rw [if_neg (fun h => h hi)]
  exact if_pos (.inl h)

theorem changeStage_idle {n : Nat} {items : List ChgItem} {s : State} (hb : changeBarred s = none)
    (hi : s.chg.st = .idle) (hf : (getLease s 7).former = none) : changeStage n items s = (⟨0xE, 0, []⟩, s) := by
  unfold changeStage
  rw [hb]
  exact (if_pos (.inl hi)).trans (by rw [formerActs_none hf])

/-- R600: items that pass their checks and fit the staging memory join the change set. -/
theorem changeStage_takes {n : Nat} {items : List ChgItem} {s : State} (hb : changeBarred s = none) (hi : s.chg.st = .stopped)
    (hn : s.chg.session = n) (hf : stageFault s items = none)
    (hu : s.chg.used + (items.map itemCost).sum ≤ 4194304) :
    ∃ t, t = noteStaged (modChg (fun c => { c with items := c.items ++ items, used := c.used + (items.map itemCost).sum }) s) ∧
      changeStage n items s = (⟨0, 0, [BitVec.ofNat 32 t.chg.used]⟩, t) := by
  have hl : decide (4194304 < s.chg.used + (items.map itemCost).sum) = false := decide_eq_false (Nat.not_lt.mpr hu)
  refine ⟨_, rfl, ?_⟩
  unfold changeStage
  rw [hb]
  dsimp only
  rw [if_neg (by rw [hi]; decide), if_neg (fun h => h.2 hn), hf]
  dsimp only
  rw [hl, if_neg (fun h => absurd h.1 (by decide))]
  rfl

/-- R604, R607: a RESTART of the session of a change set goes to the set. -/
theorem changeRestart_own {n f : Nat} {d : Bool} {s : State} (hb : changeBarred s = none) (hn : s.chg.session = n)
    (hl : (getLease s 7).former = none) : changeRestart n d f s =
      ((restartChange d f (some (currentReq s n)) s).1,
        if d ∧ (restartChange d f (some (currentReq s n)) s).1.isNone then
          raise 0x1227 [.h 0] (restartChange d f (some (currentReq s n)) s).2
        else (restartChange d f (some (currentReq s n)) s).2) := by
  unfold changeRestart
  rw [hb]
  dsimp only
  rw [if_neg (fun h => h.2.2 hn), formerActs_none hl]

/-- R604: a stopped change set is neither without functions nor armed. -/
theorem stopped_open {s : State} (h : s.chg.st = .stopped) : ¬(s.chg.st = .idle ∨ s.chg.st = .armed) := by rw [h]; decide

theorem restartChange_late {d : Bool} {f : Nat} {r : Option (Nat × BitVec 64)} {s : State} (h : s.chg.st = .stopped)
    (hf : f < s.chg.stopF + 1) : restartChange d f r s = (some ⟨2, 0, []⟩, s) :=
  (if_neg (stopped_open h)).trans (if_pos hf)

theorem restartChange_discard {f : Nat} {r : Option (Nat × BitVec 64)} {s : State} (h : s.chg.st = .stopped)
    (hf : s.chg.stopF + 1 ≤ f) : restartChange true f r s = (none, armChange true false f r
      (s.onChg fun c => { c with items := [], pend := [], kept := [], geoIdx := [], geoRegs := [], refs := [] })) :=
  (if_neg (stopped_open h)).trans ((if_neg (Nat.not_lt.mpr hf)).trans (if_pos rfl))

/-- R604: a change set whose items pass the combined checks and that starts no acquisition is armed as it is. -/
theorem restartChange_arms {f : Nat} {r : Option (Nat × BitVec 64)} {s : State} (h : s.chg.st = .stopped)
    (hf : s.chg.stopF + 1 ≤ f) (ha : inChg s 4 0 = false) (hc : chgCheck s (chgScratch s (chgItems s)) [] = none) :
    restartChange false f r s = (none, armChange false false f r (s.onChg fun c => { c with laneStep := [] })) := by
  unfold restartChange
  dsimp only
  rw [if_neg (stopped_open h), if_neg (Nat.not_lt.mpr hf), if_neg Bool.false_ne_true, ha, Bool.false_and, if_neg Bool.false_ne_true,
    if_neg (fun h => h.1 rfl), hc]
  simp only [List.append_nil]

/-- An operation of an open session on the change set answers with what it gives. -/
theorem doChangeStop_of_open {n : Fin 4} {ok : Bool} {f : Nat} {fns : List Nat} {s u : State} {a : Answer}
    (ho : (getSession s n).opened = true) (h : changeStop n ok f fns (touchChange n s) = (a, u)) :
    doChangeStop n ok f fns s = answerCurrent n a u := by
  unfold doChangeStop
  rw [if_pos ho, h]

theorem doChangeStage_of_open {n : Fin 4} {items : List ChgItem} {s u : State} {a : Answer}
    (ho : (getSession s n).opened = true) (h : changeStage n items (touchChange n s) = (a, u)) :
    doChangeStage n items s = answerCurrent n a u := by
  unfold doChangeStage
  rw [if_pos ho, h]

theorem doChangeRestart_of_answer {n : Fin 4} {d : Bool} {f : Nat} {s u : State} {a : Answer}
    (ho : (getSession s n).opened = true) (h : changeRestart n d f (touchChange n s) = (some a, u)) :
    doChangeRestart n d f s = answerCurrent n a u := by
  unfold doChangeRestart
  rw [if_pos ho, h]

theorem doChangeRestart_of_later {n : Fin 4} {d : Bool} {f : Nat} {s u : State}
    (ho : (getSession s n).opened = true) (h : changeRestart n d f (touchChange n s) = (none, u)) :
    doChangeRestart n d f s = u := by
  unfold doChangeRestart
  rw [if_pos ho, h]

/-- Settles O45: a message of an open session is checked against the head's state first, then against the state of the set. -/
theorem changeSet : Obligations.ChangeSet := by
  refine ⟨fun s n ok f fns ho hb hi h1 h2 h3 h4 h5 h6 => ?_, fun s ok owner n f fns => ⟨?_, ?_, ?_, ?_⟩,
    fun s n ok f fns ho hb hi hf => ?_, fun s n ok d f fns items a ho hb => ⟨?_, ?_, ?_⟩, fun s hc hh => ?_,
    fun s n items ho hb hi hl => ?_, fun s n items ho hb hi hm hn hf hu => ?_, fun s n f ho hb hi hn hl hf => ?_,
    fun s n f ho hb hi hn hl hf => ?_, fun s n f ho hb hi hn hl hf ha hc => ?_, fun s h => ?_, fun s hi hm ht => ?_, fun s hi => ?_⟩
  · exact congrArg Host.Outcome.next (doChangeStop_of_open ho (changeStop_opens hb hi h1 h2 h3 h4 h5 h6))
  iterate 4 · rw [openChange_chg]
  · exact congrArg Host.Outcome.next (doChangeStop_of_open ho (changeStop_late hb hi hf))
  · exact congrArg Host.Outcome.next (doChangeStop_of_open ho (changeStop_barred hb))
  · exact congrArg Host.Outcome.next (doChangeStage_of_open ho (changeStage_barred hb))
  · exact congrArg Host.Outcome.next (doChangeRestart_of_answer ho (changeRestart_barred hb))
  · exact (if_neg (by rw [hc]; decide)).trans (if_pos (by rw [hh]; decide))
  · have ht : touchChange n s = s := touchChange_idle (by rw [← touchChange_chg n s]; exact hi)
    exact congrArg Host.Outcome.next (doChangeStage_of_open ho (changeStage_idle hb hi (by rw [ht]; exact hl)))
  · obtain ⟨t, ht, h⟩ := changeStage_takes hb hi hn hf hu
    exact ⟨t, _, ht, rfl, congrArg Host.Outcome.next (doChangeStage_of_open ho h)⟩
  · have hr := changeRestart_own (d := false) (f := f) hb hn hl
    rw [restartChange_late hi hf, if_neg (fun h => absurd h.1 (by decide))] at hr
    exact congrArg Host.Outcome.next (doChangeRestart_of_answer ho hr)
  · have hr := changeRestart_own (d := true) (f := f) hb hn hl
    rw [restartChange_discard hi hf, if_pos ⟨rfl, rfl⟩] at hr
    exact congrArg Host.Outcome.next (doChangeRestart_of_later ho hr)
  · have hr := changeRestart_own (d := false) (f := f) hb hn hl
    rw [restartChange_arms hi hf ha hc, if_neg (fun h => absurd h.1 (by decide))] at hr
    exact congrArg Host.Outcome.next (doChangeRestart_of_later ho hr)
  · exact congrArg Host.Outcome.next (if_pos h)
  · exact congrArg Host.Outcome.next (if_pos ⟨by rw [hi]; decide, by rw [hi]; decide, by rw [hm]; decide, ht⟩)
  · exact congrArg Host.Outcome.next (if_neg fun h => h.1 hi)

end Sys2Proof.Machine
end

section
namespace Sys2Proof.Machine

/-! ### O46: sleep and wake -/

theorem stewardOp_headCmd {n c : Nat} {s : State} (h : s.head.coreRestart = false) : stewardOp n (.headCmd c) s =
    if c = 1 then now (sleepOp s) else if c = 2 then now (releaseOp s) else (some ⟨3, 0, []⟩, s) :=
  if_neg (not_barred_core h)

theorem served_normal {s : State} {port : Nat} (h : served s port = true) : s.pwr.pf = .normal := by
  simp only [served, Bool.and_eq_true, beq_iff_eq] at h
  exact h.1.2

theorem setHead_waking (st : HeadState) (s : State) : (setHead st s).head.waking = s.head.waking := by
  unfold setHead
  split <;> rfl

theorem setHead_fwReady (st : HeadState) (s : State) : (setHead st s).head.fwReady = s.head.fwReady := by
  unfold setHead
  split <;> rfl

/-- What a command leads to keeps what the command leaves alone. -/
theorem keeps_of_exec {c : Instr} {s t : State} (h : exec c s = .next t) : Keeps (leaves c) s t := by
  obtain ⟨u, hu, hk⟩ := exec_keeps_leaves c s
  have he : t = u := Host.Outcome.next.inj (h.symm.trans hu)
  rw [he]
  exact hk

/-- R830: the entry into SLEEP completes when the head is to sleep and no store is left. -/
theorem doSleepEntryComplete_of_ready {s : State} (hs : s.pwr.sleeping = true) (hd : s.sup.dieDown = false) (hp : s.pwr.pf = .normal)
    (hr : s.pwr.running = []) (hc : s.pwr.checking = []) :
    ∃ u, doSleepEntryComplete s = driveShutter (setHead .sleep u) ∧ u.head.fwReady = false ∧ u.head.waking = false ∧
      u.tmb.run = false ∧ u.rru.sysPll = .off := by
  have ha : ([StoreUser.checkpoint, .journal, .supRecord, .faultMirror].any fun u =>
      storeRuns s u || s.pwr.checking.any fun w => w.user == u) = false := by
    simp [storeRuns, hr, hc]
  unfold doSleepEntryComplete
  dsimp only
  rw [if_neg (by rw [hs, hd, hp, ha]; decide)]
  exact ⟨_, rfl, rfl, rfl, rfl, rfl⟩

/-- Settles O46: the steward's commands and the wake sources act where the head's state permits them. -/
theorem sleepAndWake : Obligations.SleepAndWake := by
  refine ⟨fun s n ho hs hb hc hh hp => ?_, fun s n ho hs hb hc hh => ⟨?_, ?_⟩, fun s hs hd hp hr hc => ?_, fun s hs => ?_,
    fun s ha hp hn => ?_, fun s serial hx => ?_, fun s ha => ⟨?_, ?_⟩, fun s ha hp hn hw => ?_⟩
  · exact congrArg Host.Outcome.next ((sessionOp_of_ready _ ho hs hb).trans (runRequest_of_now ((stewardOp_headCmd hc).trans
      ((if_pos rfl).trans (congrArg now (if_pos ⟨hh, by rw [hp]; rfl, served_normal hs⟩)))) nofun))
  · exact congrArg Host.Outcome.next ((sessionOp_of_ready _ ho hs hb).trans (runRequest_of_now ((stewardOp_headCmd hc).trans
      ((if_neg (by decide)).trans ((if_pos rfl).trans (congrArg now (if_pos hh))))) nofun))
  · exact congrArg Host.Outcome.next ((sessionOp_of_ready _ ho hs hb).trans (runRequest_of_now ((stewardOp_headCmd hc).trans
      ((if_pos rfl).trans (congrArg now (if_neg (by rw [hh]; exact fun h => absurd h.1 (by decide)))))) nofun))
  · obtain ⟨u, hu, hf, hw, ht, hy⟩ := doSleepEntryComplete_of_ready hs hd hp hr hc
    have hk : Keeps _ s (doSleepEntryComplete s) := keeps_of_exec (c := .sleepEntryComplete) rfl
    have hh : (doSleepEntryComplete s).head = (setHead .sleep u).head := by rw [hu, (aside_driveShutter _).head]
    have hst : (doSleepEntryComplete s).head.st = .sleep := by rw [hh, setHead_st]
    have hwk : (doSleepEntryComplete s).head.waking = false := by rw [hh, setHead_waking, hw]
    refine ⟨_, rfl, hst, ?_, hwk, ?_, ?_, hk.tb rfl, hk.wires rfl, ?_⟩
    · rw [hh, setHead_fwReady, hf]
    · rw [hu, (aside_driveShutter _).tmb, setHead_tmb, ht]
    · rw [hu, (aside_driveShutter _).rru, setHead_rru, hy]
    · unfold busUp asleep
      rw [hst, hwk]
      rfl
  · exact congrArg Host.Outcome.next (if_pos (.inl (by rw [hs]; rfl)))
  · exact ⟨_, congrArg Host.Outcome.next ((if_pos rfl).trans (startWake_of_asleep ha hp hn)), rfl, rfl, rfl, rfl, rfl, rfl⟩
  · exact congrArg Host.Outcome.next (if_neg hx)
  · exact congrArg Host.Outcome.next ((if_pos rfl).trans (if_pos (.inl (by rw [ha]; rfl))))
  · exact congrArg Host.Outcome.next (if_neg fun h => absurd (h.2.symm.trans ha) (by decide))
  · have hr : asleep (raise 0x100C [] s) = true := by unfold asleep; rw [raise_head]; exact ha
    refine ⟨_, congrArg Host.Outcome.next ((if_pos ⟨hw, ha⟩).trans (startWake_of_asleep hr ?_ ?_)), rfl, rfl, rfl, ?_⟩
    · rw [raise_pwr]; exact hp
    · rw [raise_pwr]; exact hn
    · exact raise_mem _ _ s

end Sys2Proof.Machine
end

section
namespace Sys2Proof.Machine

/-! ### O47: from mains to the image -/

/-- What leads from s to t leaves the state of the head, the power and the memory windows. -/
structure StartKept (s t : State) : Prop where
  head : t.head = s.head
  pwr : t.pwr = s.pwr
  mem : t.mem = s.mem

theorem StartKept.refl (s : State) : StartKept s s := ⟨rfl, rfl, rfl⟩

theorem StartKept.trans {s t u : State} (h : StartKept s t) (g : StartKept t u) : StartKept s u :=
  ⟨g.head.trans h.head, g.pwr.trans h.pwr, g.mem.trans h.mem⟩

theorem LogOnly.startKept {s t : State} (h : LogOnly s t) : StartKept s t := ⟨h.head, h.pwr, h.mem⟩

theorem startKept_forEach {α : Type} {l : List α} {f : α → State → State} (hf : ∀ x t, StartKept t (f x t)) (s : State) :
    StartKept s (forEach l f s) := by
  unfold forEach
  induction l generalizing s with
  | nil => exact .refl s
  | cons a l ih => exact (hf a s).trans (ih (f a s))

theorem startKept_failUnit (u : Nat) (s : State) : StartKept s (failUnit u s) := by
  unfold failUnit
  split
  · exact .refl s
  · have hf : StartKept s (s.onFus fun f => { f with fail := f.fail ||| BitVec.ofNat 6 (2 ^ u) }) := ⟨rfl, rfl, rfl⟩
    exact hf.trans (logOnly_raise _ _ _).startKept

/-- R784: the fuse sense sets the fuse wires and what they say. -/
theorem startKept_senseFuses (s : State) : StartKept s (senseFuses s) := by
  unfold senseFuses
  extract_lets s1 s2 s3
  have h1 : StartKept s s1 := ⟨rfl, rfl, rfl⟩
  have h2 : StartKept s1 s2 := startKept_forEach startKept_failUnit s1
  have h3 : StartKept s2 s3 := ⟨rfl, rfl, rfl⟩
  exact ((h1.trans h2).trans h3).trans (startKept_forEach
    (fun _ t => ((logOnly_addF _ _ t).trans (logOnly_raise _ _ _)).startKept) s3)

theorem logOnly_restoreRecord (s : State) : LogOnly s (restoreRecord s) := by
  have hr : ∀ t : State, LogOnly t (when s.sup.hold (raise 0x1005 [.h 1]) t) := fun t => by
    unfold when
    split
    · exact logOnly_raise _ _ t
    · exact .refl t
  unfold restoreRecord
  dsimp only
  split
  · exact (logOnly_onSup _ s).trans ((logOnly_onSup _ _).trans (hr _))
  · exact ((logOnly_onSup _ s).trans (logOnly_raise _ _ _)).trans ((logOnly_onSup _ _).trans (hr _))

theorem logOnly_restoreRing (s : State) : LogOnly s (restoreRing s) := by
  have hf : ∀ l, LogOnly s (setFigures l s) := fun l => logOnly_onFlt _ s
  unfold restoreRing
  dsimp only
  split
  · exact (hf _).trans ((logOnly_onFlt _ _).trans (logOnly_raise _ _ _))
  · exact (hf _).trans ((logOnly_onFlt _ _).trans (logOnly_raise _ _ _))

theorem dieOff_mem (k : DieReset) (s : State) : (dieOff k s).mem = [] := by
  unfold dieOff
  dsimp only
  split <;> rfl

/-- R7, R555: mains starts BOOT on a head whose always-on domain is off. -/
theorem doMainsApplied_of_off {s : State} (hs : s.head.st = .off) (ha : s.pwr.aon = false) :
    ∃ u, doMainsApplied s = enterBoot .mains (bootPeriod u) ∧ u.head = {} ∧ u.pwr.aon = true ∧ u.mem = [] := by
  unfold doMainsApplied
  rw [if_neg (by rw [hs, ha]; decide)]
  extract_lets s1 s2 s3 s4 s5 s6
  have h4 : StartKept s4 s5 := (startKept_senseFuses s4).trans
    ((logOnly_restoreRecord _).startKept.trans (logOnly_restoreRing _).startKept)
  exact ⟨s6, rfl, h4.head.trans rfl, congrArg Pwr.aon h4.pwr, h4.mem.trans (dieOff_mem .mains s)⟩

theorem setHead_cause (st : HeadState) (s : State) : (setHead st s).head.cause = s.head.cause := by
  unfold setHead
  split <;> rfl

theorem enterBoot_effect (c : StartCause) (s : State) : (enterBoot c s).head.st = .boot ∧ (enterBoot c s).head.cause = c ∧
    (enterBoot c s).head.fwReady = s.head.fwReady ∧ (enterBoot c s).rru.sysPll = .search ∧ (enterBoot c s).pwr.aon = s.pwr.aon ∧
    (enterBoot c s).mem = s.mem := by
  unfold enterBoot
  extract_lets s1 s2 s3
  refine ⟨setHead_st _ _, ?_, ?_, ?_, ?_, ?_⟩
  · rw [setHead_cause]; rfl
  · rw [setHead_fwReady]; rfl
  · rw [setHead_rru]; rfl
  · rw [setHead_pwr]; rfl
  · rw [setHead_mem]; rfl

theorem logOnly_flushHeld (s : State) : LogOnly s (flushHeld s) :=
  (logOnly_onFlt _ s).trans (logOnly_forEach _ _ (fun e t => logOnly_storeEntry e t) _)

theorem logOnly_loadBias (s : State) : LogOnly s (loadBias s) :=
  ((((logOnly_setF _ _ s).trans (logOnly_setF _ _ _)).trans (logOnly_setF _ _ _)).trans (logOnly_setF _ _ _)).trans (logOnly_setF _ _ _)

theorem startKept_bootChecks (s : State) : StartKept s (bootChecks s) :=
  (startKept_forEach startKept_failUnit s).trans (logOnly_loadBias _).startKept

/-- What the boot ROM and firmware need before firmware can start. -/
theorem boot_permitted {s : State} (hf : s.head.fwReady = false) (hc : s.head.coreRestart = false) (hd : s.sup.dieDown = false)
    (hk : s.sup.coreDown = false) (hl : s.rru.sysPll = .locked) (hb : s.head.st = .boot) (hp : s.pwr.pf = .normal)
    (hn : s.fus.sensed = true) : ¬(s.head.fwReady = true ∨ s.head.coreRestart = true ∨ s.sup.dieDown = true ∨ s.sup.coreDown = true ∨
      s.rru.sysPll ≠ .locked ∨ asleep s = true ∨ s.head.st = .off ∨ s.pwr.pf ≠ .normal ∨ (!s.fus.sensed) = true) := by
  have ha : asleep s = false := by unfold asleep; rw [hb]; rfl
  rw [hf, hc, hd, hk, hl, ha, hb, hp, hn]
  decide

/-- R588: with a good slot firmware starts from it; what it says of the start depends on the cause, and MAINS says nothing. -/
theorem doFirmwareReady_of_slot {s t : State} {okA okB : Bool} {slot : Nat} (hf : s.head.fwReady = false)
    (hc : s.head.coreRestart = false) (hd : s.sup.dieDown = false) (hk : s.sup.coreDown = false) (hl : s.rru.sysPll = .locked)
    (hb : s.head.st = .boot) (hp : s.pwr.pf = .normal) (hn : s.fus.sensed = true) (hm : s.head.cause = .mains)
    (ho : (bootOrder s).find? (fun k => (if k = 0 then okA else okB) && !unitFails s 3) = some slot)
    (h0 : (bootOrder s).getD 0 slot = slot)
    (ht : firmwareStarts (flushHeld (bootChecks ((s.onCfg fun c => { c with
      fwSlot := slot, runVer := slotVersion s slot
      fwVer := [0, 1].map (fun k => if (if k = 0 then okA else okB) && !unitFails s 3 then slotVersion s k else 0), fwFallback := false
      bootMs := s.now / milli, readyTb := s.now }).onHead fun h => { h with fwReady := true }))) = t) :
    (t.head.st = .boot → doFirmwareReady okA okB s = discoverKey t) ∧ (t.head.st = .sleep → doFirmwareReady okA okB s = beginRead t) ∧
      (t.head.st ≠ .boot → t.head.st ≠ .sleep → doFirmwareReady okA okB s = t) := by
  have hne : (slot != slot) = false := bne_self_eq_false slot
  have hcause : ∀ g : Cfg → Cfg,
      (flushHeld (bootChecks ((s.onCfg g).onHead fun h => { h with fwReady := true }))).head.cause = .mains := fun g => by
    rw [(logOnly_flushHeld _).head, (startKept_bootChecks _).head]
    exact hm
  unfold doFirmwareReady
  dsimp only
  rw [if_neg (boot_permitted hf hc hd hk hl hb hp hn), ho]
  dsimp only
  rw [h0, hne, if_neg Bool.false_ne_true, hcause]
  dsimp only
  rw [ht]
  refine ⟨fun h => ?_, fun h => ?_, fun h1 h2 => ?_⟩
  · rw [h]
  · rw [h]
  · split
    · exact absurd ‹_› h1
    · exact absurd ‹_› h2
    · rfl

/-- What the end of an image write leaves: the head, and the image that is read. -/
theorem endSequence_head (c : Nat) (s : State) : (endSequence c s).head = s.head ∧ (endSequence c s).cfg.reading = s.cfg.reading := by
  unfold endSequence
  dsimp only
  split <;> exact ⟨rfl, rfl⟩

theorem answerSession_head (n : Nat) (req : BitVec 64) (a : Answer) (s : State) :
    (answerSession n req a s).head = s.head ∧ (answerSession n req a s).cfg = s.cfg := by
  unfold answerSession
  split <;> exact ⟨rfl, rfl⟩

theorem answerWrite_head (w : ImageWrite) (a : Answer) (s : State) :
    (answerWrite w a s).head = s.head ∧ (answerWrite w a s).cfg = s.cfg := by
  unfold answerWrite
  split
  · exact answerSession_head _ _ _ _
  · exact ⟨rfl, rfl⟩

theorem endWrite_head (c : Nat) (a : Option Answer) (s : State) :
    (endWrite c a s).head = s.head ∧ (endWrite c a s).cfg.reading = s.cfg.reading := by
  unfold endWrite
  split
  · exact endSequence_head c s
  · next w _ =>
    have h := endSequence_head c (setWrite c none s)
    dsimp only
    split
    · obtain ⟨hh, hc⟩ := answerWrite_head w _ (endSequence c (setWrite c none s))
      exact ⟨hh.trans h.1, (congrArg Cfg.reading hc).trans h.2⟩
    · exact h

theorem readKeyTable_head (s : State) : (readKeyTable s).head = s.head := by
  unfold readKeyTable
  split
  · rfl
  · dsimp only
    split
    · exact (logOnly_raise _ _ _).head.trans rfl
    · rfl

theorem takeUpKey_configured {s : State} (h : s.head.st ≠ .unconfigured) : takeUpKey s = readKeyTable (raise 0x1201 [] s) := by
  have hh : (readKeyTable (raise 0x1201 [] s)).head.st ≠ .unconfigured := by
    rw [readKeyTable_head, raise_head]
    exact h
  exact if_neg fun hx => hh hx.1

/-- A running head is neither off nor in BOOT nor asleep. -/
theorem running_awake {s : State} (h : s.head.st = .running) : asleep s = false := by unfold asleep; rw [h]; rfl

/-- R564: the removal of a key from a head that runs and reads no image is logged. -/
theorem doKeyRemoved_of_running {s : State} (hk : s.cfg.keyInSlot = true) (hf : s.head.fwReady = true) (hr : s.head.st = .running)
    (hn : s.cfg.reading = none) : ∃ u, u = endWrite 1 (some ⟨0xF, 16, []⟩)
      (s.onCfg fun c => { c with keyInSlot := false, keyPresent := false, keyUsable := false, keyMem := [] }) ∧
      doKeyRemoved s = raise 0x1202 [.h u.head.st.code] u := by
  obtain ⟨hh, hg⟩ := endWrite_head 1 (some ⟨0xF, 16, []⟩)
    (s.onCfg fun c => { c with keyInSlot := false, keyPresent := false, keyUsable := false, keyMem := [] })
  unfold doKeyRemoved
  rw [if_neg (by rw [hk]; decide)]
  dsimp only
  generalize endWrite 1 (some ⟨0xF, 16, []⟩)
    (s.onCfg fun c => { c with keyInSlot := false, keyPresent := false, keyUsable := false, keyMem := [] }) = u at hh hg ⊢
  have hst : u.head.st = .running := (congrArg Head.st hh).trans hr
  have hfw : u.head.fwReady = true := (congrArg Head.fwReady hh).trans hf
  have hrd : (raise 0x1202 [.h u.head.st.code] u).cfg.reading = none := by rw [raise_cfg]; exact hg.trans hn
  refine ⟨u, rfl, ?_⟩
  have hns : ¬(u.head.st = .sleep ∧ u.cfg.reading.isNone = true) := fun h => absurd (hst.symm.trans h.1) (by decide)
  rw [if_neg (by rw [hst, hfw]; decide), if_neg hns, hrd]
  rfl

/-- R571: an image read by a firmware that runs is judged. -/
theorem imageRead_permitted {s : State} (hf : s.head.fwReady = true) (hc : s.head.coreRestart = false) (hd : s.sup.dieDown = false)
    (hp : s.pwr.pf = .normal) :
    ¬((!s.head.fwReady) = true ∨ s.head.coreRestart = true ∨ s.sup.dieDown = true ∨ s.pwr.pf ≠ .normal) := by
  rw [hf, hc, hd, hp]
  decide

theorem doImageReadComplete_error {s : State} {slot : Nat} {sig : Bool} (hr : s.cfg.reading = some slot) (hf : s.head.fwReady = true)
    (hc : s.head.coreRestart = false) (hd : s.sup.dieDown = false) (hp : s.pwr.pf = .normal) :
    doImageReadComplete sig true s = rejectImage slot (headerFault 16 0) s := by
  unfold doImageReadComplete
  rw [hr]
  exact (if_neg (imageRead_permitted hf hc hd hp)).trans (if_pos rfl)

theorem doImageReadComplete_fault {s : State} {slot : Nat} {sig : Bool} {e : DirEntry} {f : ImgFault} (hr : s.cfg.reading = some slot)
    (hf : s.head.fwReady = true) (hc : s.head.coreRestart = false) (hd : s.sup.dieDown = false) (hp : s.pwr.pf = .normal)
    (hn : newestOfSlot s 1 slot = some e) (hx : checkImage s (slotImage s 1 slot (max 256 e.length)) e.length sig = .error f) :
    doImageReadComplete sig false s = rejectImage slot f
      (noteBreak (slotImage s 1 slot (max 256 e.length)) f (if 9 ≤ f.reason then verified s else s)) := by
  unfold doImageReadComplete
  rw [hr]
  dsimp only
  rw [if_neg (imageRead_permitted hf hc hd hp), if_neg Bool.false_ne_true, hn]
  dsimp only
  rw [hx]

theorem doImageReadComplete_good {s : State} {slot : Nat} {sig : Bool} {e : DirEntry} {l : List Record} (hr : s.cfg.reading = some slot)
    (hf : s.head.fwReady = true) (hc : s.head.coreRestart = false) (hd : s.sup.dieDown = false) (hp : s.pwr.pf = .normal)
    (hn : newestOfSlot s 1 slot = some e) (hx : checkImage s (slotImage s 1 slot (max 256 e.length)) e.length sig = .ok l) :
    doImageReadComplete sig false s = applyImage ((slotImage s 1 slot (max 256 e.length)).take e.length) l (slot + 1) slot s.cfg.readMode
      (skipUnknown l (verified s)) := by
  unfold doImageReadComplete
  rw [hr]
  dsimp only
  rw [if_neg (imageRead_permitted hf hc hd hp), if_neg Bool.false_ne_true, hn]
  dsimp only
  rw [hx]

theorem doImageReadComplete_idle {s : State} {sig err : Bool} (hr : s.cfg.reading = none) : doImageReadComplete sig err s = s := by
  unfold doImageReadComplete
  rw [hr]

/-- Settles O47: mains, firmware, the key and the image each by the conditions that their hypotheses decide. -/
theorem fromMainsToTheImage : Obligations.FromMainsToTheImage := by
  refine ⟨fun s hs ha => ?_, fun s hs => ?_, fun s okA okB hf hc hd hk hl hb hp hn ho => ?_, fun s okA okB h => ?_,
    fun s okA okB slot hf hc hd hk hl hb hp hn hm ho h0 => ?_, fun s p mem hk hf => ?_, fun s p mem hk hf hc hr => ?_,
    fun s hk hf => ?_, fun s hk hf hr hn => ?_, fun s hk => ?_, fun s slot hr hf hc hd hp => ⟨fun sig => ?_, fun e f sig hn hx => ?_,
      fun e l sig hn hx => ?_⟩, fun s sig err hr => ?_⟩
  · obtain ⟨u, hu, hh, hn, hm⟩ := doMainsApplied_of_off hs ha
    obtain ⟨h1, h2, h3, h4, h5, h6⟩ := enterBoot_effect .mains (bootPeriod u)
    have hw : (bootPeriod u).head.fwReady = false := congrArg Head.fwReady hh
    exact ⟨_, congrArg Host.Outcome.next hu, h1, h2, h5.trans hn, h3.trans hw, h4, h6.trans hm⟩
  · exact congrArg Host.Outcome.next (if_pos (.inl hs))
  · refine congrArg Host.Outcome.next ((if_neg (boot_permitted hf hc hd hk hl hb hp hn)).trans ?_)
    dsimp only
    rw [ho]
    rfl
  · refine congrArg Host.Outcome.next (if_pos ?_)
    exact h.elim .inl fun h => .inr (.inr (.inr (.inr (.inl h))))
  · generalize ht : firmwareStarts _ = t
    obtain ⟨h1, h2, h3⟩ := doFirmwareReady_of_slot hf hc hd hk hl hb hp hn hm ho h0 ht
    refine congrArg Host.Outcome.next ?_
    dsimp only
    split
    next h => exact h1 h
    next h => exact h2 h
    next hb hs => exact h3 hb hs
  · refine congrArg Host.Outcome.next ((if_neg (by rw [hk]; decide)).trans (if_pos (.inl ?_)))
    exact congrArg (!·) hf
  · refine congrArg Host.Outcome.next ((if_neg (by rw [hk]; decide)).trans ((if_neg ?_).trans (takeUpKey_configured ?_)))
    · simp [hf, hc, hr, asleep]
    · exact fun h => absurd (hr.symm.trans h) (by decide)
  · obtain ⟨hh, _⟩ := endWrite_head 1 (some ⟨0xF, 16, []⟩)
      { s with cfg := { s.cfg with keyInSlot := false, keyPresent := false, keyUsable := false, keyMem := [] } }
    refine congrArg Host.Outcome.next ((if_neg (by rw [hk]; decide)).trans (if_pos (.inl ?_)))
    exact (congrArg (fun h : Head => !h.fwReady) hh).trans (congrArg (!·) hf)
  · obtain ⟨u, hu, h⟩ := doKeyRemoved_of_running hk hf hr hn
    exact ⟨u, hu, congrArg Host.Outcome.next h⟩
  · exact congrArg Host.Outcome.next (if_pos (by rw [hk]; decide))
  · exact congrArg Host.Outcome.next (doImageReadComplete_error hr hf hc hd hp)
  · exact congrArg Host.Outcome.next (doImageReadComplete_fault hr hf hc hd hp hn hx)
  · exact congrArg Host.Outcome.next (doImageReadComplete_good hr hf hc hd hp hn hx)
  · exact congrArg Host.Outcome.next (doImageReadComplete_idle hr)

end Sys2Proof.Machine
end

section
namespace Sys2Proof.Machine

/-! ### O48: the ports and the streams of the data link -/

theorem doPortUp_down {p : Fin 5} {s : State} (h : (s.lnk.ports.getD p {}).up = false) : doPortUp p s =
    if p.val < 4 then raise 0x0B01 [.h p] (s.onLnk fun l => { l with ports := l.ports.modify p fun q => { q with up := true } })
    else s.onLnk fun l => { l with ports := l.ports.modify p fun q => { q with up := true } } :=
  if_neg (by rw [h]; decide)

/-- R649: a port with no constant-rate packet sends the next packet of its round. -/
theorem doLinkTransmit_robin {p : Fin 5} {i d : Nat} {pkt : Packet} {s : State} (ho : portOpen s p = true)
    (hl : leaseOpen s 1 0xB = true) (hc : crWaiting s p = none) (hr : robin s p = some (i, d)) (hs : sendable s p i = some (pkt, false)) :
    doLinkTransmit p s = (modStream i (fun x => { x with
        queue := x.queue.drop 1
        deficit := if x.retx.isEmpty && (x.queue.drop 1).isEmpty then 0 else d - pkt.size })
      (sendPacket p i pkt false s)).onLnk fun l => { l with ports := l.ports.modify p fun q => { q with rrCur := i } } := by
  unfold doLinkTransmit
  rw [if_neg (by rw [ho]; decide), if_neg (by rw [hl]; decide), hc]
  dsimp only
  rw [hr]
  dsimp only
  rw [hs]
  rfl

/-- R646: a period of a running constant-rate stream takes the packet at its head. -/
theorem doCrSlotDue_head {sid : Nat} {pkt : Packet} {s : State} (hc : (streamCfg s sid).cr = true)
    (hr : (getStream s sid).st = .running) (ht : (getStream s sid).crNext ≤ s.now) (hk : keyOk s (streamCfg s sid) = true)
    (hp : headPacket (getStream s sid) = some (pkt, false)) : doCrSlotDue sid s =
      modStream sid (fun x => { x with queue := x.queue.drop 1, crDue := x.crDue ++ [pkt] })
        (modStream sid (fun x => { x with crNext := x.crNext + max 1 (streamCfg s sid).crPeriod }) s) := by
  have ht' : ¬s.now < (getStream s sid).crNext := Nat.not_lt.mpr ht
  unfold doCrSlotDue
  dsimp only
  rw [if_neg (by simp [hc, hr, ht', hk]), hp]

/-- R625: a next hop that is still unresolved is asked for again; its failure is logged once. -/
theorem doResolveRetry_logged {sid : Nat} {s : State} (ho : (getStream s sid).st ≠ .off) (hr : (getStream s sid).resolved = false)
    (ht : (getStream s sid).resTb + second ≤ s.now) (hf : s.head.fwReady = true) (hc : s.head.coreRestart = false)
    (hl : (getStream s sid).failLogged = true) : doResolveRetry sid s = askNextHop sid s := by
  have ht' : ¬s.now < (getStream s sid).resTb + second := Nat.not_lt.mpr ht
  unfold doResolveRetry
  dsimp only
  rw [if_neg (by simp [ho, hr, ht', hf, hc]), if_pos hl]

theorem doLinkSchedulerStuck_due {p : Fin 5} {t : Nat} {s : State} (hr : (s.lnk.ports.getD p {}).readyTb = some t)
    (ht : t + 250000 ≤ s.now) : ∃ u, u = declareStuck 2 p (s.onLnk fun l =>
        { l with ports := l.ports.modify p fun q => { q with readyTb := some s.now } }) ∧
      doLinkSchedulerStuck p s = respondStuck 2 p (forEach (u.lnk.streams.map Prod.fst) (fun i w =>
        modStream i (fun x => { x with deficit := 0, bucket := bucketDepth w (streamCfg w i), bucketTb := w.now }) w) u) := by
  refine ⟨_, rfl, ?_⟩
  unfold doLinkSchedulerStuck
  rw [hr]
  exact if_pos ht

/-- Settles O48: each command of the link by the guard that its hypotheses decide. -/
theorem linkPortsAndStreams : Obligations.LinkPortsAndStreams := by
  refine ⟨fun s p h => ?_, fun s p h => ?_, fun s p h => ?_, fun s p h => ?_, fun s p => rfl, fun s p v6 a hf hc ha h0 => ?_,
    fun s p v6 a hf hc => ?_, fun s p h => ?_, fun s p i d pkt ho hl hc hr hs => ?_, fun s sid pkt hc hr ht hk hp => ?_,
    fun s sid ht => ?_, fun s sid ho hr ht hf hc hl => ?_, fun s => rfl, fun s a b c h => ?_, fun s p t hr ht => ?_, fun s p hr => ?_⟩
  · exact congrArg Host.Outcome.next (doPortUp_down h)
  · exact congrArg Host.Outcome.next (if_pos h)
  · exact congrArg Host.Outcome.next (if_pos h)
  · exact congrArg Host.Outcome.next (if_pos h)
  · exact congrArg Host.Outcome.next (if_pos (by simp [hf, hc, ha, h0]))
  · exact congrArg Host.Outcome.next (if_pos (by simp [hf, hc]))
  · exact congrArg Host.Outcome.next (if_pos (by rw [h]; decide))
  · exact congrArg Host.Outcome.next (doLinkTransmit_robin ho hl hc hr hs)
  · exact congrArg Host.Outcome.next (doCrSlotDue_head hc hr ht hk hp)
  · exact congrArg Host.Outcome.next (if_pos (.inr (.inr (.inl ht))))
  · exact congrArg Host.Outcome.next (doResolveRetry_logged ho hr ht hf hc hl)
  · refine congrArg Host.Outcome.next ((if_neg (by rw [h]; decide)).trans ?_)
    rw [h]
    rfl
  · obtain ⟨u, hu, h⟩ := doLinkSchedulerStuck_due hr ht
    exact ⟨u, hu, congrArg Host.Outcome.next h⟩
  · refine congrArg Host.Outcome.next ?_
    unfold doLinkSchedulerStuck
    rw [hr]

end Sys2Proof.Machine
end

section
namespace Sys2Proof.Machine

/-! ### O49: tenant contexts, keys and requests -/

theorem regWrite_ten {who : Initiator} {a : Nat} {v : Word} {s : State} (ha : a / 0x10000 = 0xC) : regWrite who a v s = writeTen a v s := by
  unfold regWrite
  rw [ha]
  rfl

theorem writeTen_commit {v : Word} {s : State} :
    writeTen A.TEN_COMMIT v s = if v.getLsbD 31 then commitContext (v.toNat % 4096) s else (.ok, s) := rfl

theorem writeTen_keyInstall {s : State} : writeTen A.TEN_KEY_CMD 1 s = (.ok, installKey s) := rfl

theorem writeTen_keyErase {s : State} : writeTen A.TEN_KEY_CMD 2 s = (.ok, eraseKey s) := rfl

theorem busPut_commit {who : Initiator} {v : Word} {s : State} (hu : busOpen s who = true) :
    busPut who A.TEN_COMMIT v s = (if v.getLsbD 31 then commitContext (v.toNat % 4096) s else (.ok, s)).2 := by
  rw [busPut_plain hu (by decide), regWrite_ten (by decide), writeTen_commit]

/-- R674: the steward writes the key command. -/
theorem busPut_keyCmd_steward {n : Nat} {v : Word} {s : State} (hu : busUp s = true) :
    busPut (.lcp n) A.TEN_KEY_CMD v s = (writeTen A.TEN_KEY_CMD v s).2 := by
  rw [busPut_register (by unfold busOpen; rw [hu]; rfl) (by decide) rfl (by decide) (by decide) (by decide), regWrite_ten (by decide)]

/-- R674: the management core and JTAG reach no key. -/
theorem tenantBarred_keyCmd {who : Initiator} (h : who = .core ∨ who = .jtag) : tenantBarred who A.TEN_KEY_CMD = true := by
  obtain rfl | rfl := h <;> decide

theorem busPut_barred {who : Initiator} {a : Nat} {v : Word} {s : State} (hu : busOpen s who = true) (hd : wordDefined a = true)
    (hb : tenantBarred who a = true) : busPut who a v s = raise 0x0C07 [.h (initiatorCode who), .h 2] s := by
  unfold busPut busWrite
  rw [if_pos hu, if_neg (by rw [hd]; decide), if_pos hb]

/-- R680: a request of a tenant with a context reaches its authentication. -/
theorem tenantReq_heard {t : Nat} {s : State} (hs : s.head.st = .running)
    (hp : s.pwr.pf = .normal) (hh : tenantsHeard s = true) (hl : t < tenantLimit s) (hc : (getCtx s t).st ≠ .empty) :
    ¬(s.head.st = .off ∨ s.head.st = .sleep ∨ s.pwr.pf ≠ .normal) ∧
      ¬((!tenantsHeard s) = true ∨ tenantLimit s ≤ t ∨ (getCtx s t).st = .empty) := by
  refine ⟨by rw [hs, hp]; decide, not_or.mpr ⟨by rw [hh]; decide, not_or.mpr ⟨Nat.not_le.mpr hl, hc⟩⟩⟩

theorem doTenantReq_unknown {t : Nat} {auth : Bool} {req : BitVec 64} {op : LcpOp} {s : State} (hs : s.head.st = .running)
    (hp : s.pwr.pf = .normal) (hl : tenantLimit s ≤ t) : doTenantReq t auth req op s = dropUnknown s :=
  (if_neg (by rw [hs, hp]; decide)).trans (if_pos (.inr (.inl hl)))

theorem doTenantReq_unauthentic {t : Nat} {req : BitVec 64} {op : LcpOp} {s : State} (hs : s.head.st = .running)
    (hp : s.pwr.pf = .normal) (hh : tenantsHeard s = true) (hl : t < tenantLimit s) (hc : (getCtx s t).st ≠ .empty) :
    doTenantReq t false req op s = dropUnauthentic t s := by
  obtain ⟨h1, h2⟩ := tenantReq_heard hs hp hh hl hc
  exact (if_neg h1).trans ((if_neg h2).trans (if_pos (.inl rfl)))

/-- R680, R681: an authentic new request that has room in its bucket and its queue is queued. -/
theorem doTenantReq_queued {t : Nat} {req : BitVec 64} {op : LcpOp} {s : State} (hs : s.head.st = .running)
    (hp : s.pwr.pf = .normal) (hh : tenantsHeard s = true) (hl : t < tenantLimit s) (hc : (getCtx s t).st ≠ .empty)
    (hk : Tbl.get? s.ten.keys t ≠ none) (he : req.extractLsb' 40 24 = s.lnk.epoch)
    (hr : (getCtx s t).lastReq.extractLsb' 0 40 < req.extractLsb' 0 40) (hb : 2500000 ≤ bucketOf s (getCtx s t))
    (hq : (getCtx s t).queue.length < 4) : doTenantReq t true req op s = modCtx t (fun c => { c with
      bucket := bucketOf s (getCtx s t) - 2500000, bucketTb := s.now, lastReq := req, reqOk := satAdd 32 c.reqOk 1
      queue := c.queue ++ [⟨req, op⟩] }) s := by
  obtain ⟨h1, h2⟩ := tenantReq_heard hs hp hh hl hc
  have h3 : ¬((!true) = true ∨ (Tbl.get? s.ten.keys t).isNone = true) :=
    not_or.mpr ⟨by decide, by rw [Option.isNone_iff_eq_none]; exact hk⟩
  have h4 : ¬(req.extractLsb' 40 24 ≠ s.lnk.epoch ∨ req.extractLsb' 0 40 ≤ (getCtx s t).lastReq.extractLsb' 0 40) :=
    not_or.mpr ⟨fun h => h he, BitVec.not_le.mpr hr⟩
  have h5 : ¬(bucketOf s (getCtx s t) < 2500000 ∨ 4 ≤ (getCtx s t).queue.length) :=
    not_or.mpr ⟨Nat.not_lt.mpr hb, Nat.not_le.mpr hq⟩
  exact (if_neg h1).trans ((if_neg h2).trans ((if_neg h3).trans ((if_neg h4).trans (if_neg h5))))

theorem doTenantRequestDequeue_next {t : Nat} {r : TenReq} {l : List TenReq} {s : State} (hs : tenantsServed s = true)
    (hn : nextTenant s = some t) (hq : (getCtx s t).queue = r :: l) : doTenantRequestDequeue s =
      runTenant t r.req r.op (modCtx t (fun c => { c with queue := l }) (s.onTen fun x => { x with rr := (t + 1) % 4096 })) := by
  unfold doTenantRequestDequeue
  rw [if_neg (by rw [hs]; decide), hn]
  dsimp only
  rw [hq]

theorem doTenantRequestDequeue_none {s : State} (hn : nextTenant s = none) : doTenantRequestDequeue s = s := by
  unfold doTenantRequestDequeue
  rw [hn]
  split <;> rfl

/-- R682: an operation of a tenant that is served answers its last request with what the operation gives. -/
theorem tenantDirect_of_served {t : Fin 4096} {op : LcpOp} {s : State} {r : Answer × State} (hs : tenantsServed s = true)
    (hc : (getCtx s t).st ≠ .empty) (h : tenantOp t op s = r) :
    tenantDirect t op s = answerTenant t (getCtx s t).lastReq r.1 r.2 := by
  unfold tenantDirect runTenant
  rw [if_pos ⟨hs, hc⟩, h]

theorem stewardOp_retransmit {n sid count first : Nat} {s : State} :
    stewardOp n (.retransmit sid count first) s = now (askRetransmit none sid count first s) :=
  if_neg (not_barred rfl)

/-- Settles O49: the writes by the initiators that the key store admits, the requests by the checks that they pass. -/
theorem tenantsAndRequests : Obligations.TenantsAndRequests := by
  refine ⟨fun s who v hu hv => ?_, fun s who v hu hv => ?_, fun s n hu => ⟨?_, ?_⟩, fun s who hu hw => ⟨?_, ?_⟩,
    fun s t req op hs hp hh hl hc hk he hr hb hq => ?_, fun s t auth req op hs hp hl => ?_, fun s t req op hs hp hh hl hc => ?_,
    fun s t r l hs hn hq => ?_, fun s hn => ?_, fun s t hs hc hh => ⟨fun a b l => ?_, fun w set x0 x1 y0 y1 => ?_, fun w => ?_,
      fun n sid count first => ?_⟩, fun s n sid count first ho hs hb => ?_⟩
  · exact congrArg Host.Outcome.next ((busPut_commit hu).trans (congrArg Prod.snd (if_pos hv)))
  · exact congrArg Host.Outcome.next ((busPut_commit hu).trans (congrArg Prod.snd (if_neg (by rw [hv]; decide))))
  · exact congrArg Host.Outcome.next ((busPut_keyCmd_steward hu).trans (congrArg Prod.snd writeTen_keyInstall))
  · exact congrArg Host.Outcome.next ((busPut_keyCmd_steward hu).trans (congrArg Prod.snd writeTen_keyErase))
  · exact congrArg Host.Outcome.next (busPut_barred hu (by decide) (tenantBarred_keyCmd hw))
  · exact congrArg Host.Outcome.next (busPut_barred hu (by decide) (tenantBarred_keyCmd hw))
  · exact congrArg Host.Outcome.next (doTenantReq_queued hs hp hh hl hc hk he hr hb hq)
  · exact congrArg Host.Outcome.next (doTenantReq_unknown hs hp hl)
  · exact congrArg Host.Outcome.next (doTenantReq_unauthentic hs hp hh hl hc)
  · exact congrArg Host.Outcome.next (doTenantRequestDequeue_next hs hn hq)
  · exact congrArg Host.Outcome.next (doTenantRequestDequeue_none hn)
  · exact congrArg Host.Outcome.next (tenantDirect_of_served hs hc (if_neg hh))
  · exact congrArg Host.Outcome.next (tenantDirect_of_served hs hc ((if_neg hh).trans (if_neg (by decide))))
  · exact congrArg Host.Outcome.next (tenantDirect_of_served hs hc ((if_neg hh).trans (if_pos rfl)))
  · exact congrArg Host.Outcome.next (tenantDirect_of_served hs hc (if_neg hh))
  · exact congrArg Host.Outcome.next ((sessionOp_of_ready _ ho hs hb).trans (runRequest_of_now stewardOp_retransmit nofun))

end Sys2Proof.Machine
end

section
namespace Sys2Proof.Machine

/-! ### O50: the links, the hop delay and the view of the mosaic -/

theorem doTimeCellTimer_locked {s : State} (hd : distributes s = true) (ht : s.tmb.todState = .locked) :
    doTimeCellTimer s = sendCell .time 2 0 [s.tmb.todSec.toNat, s.tmb.todNs, 2] s := by
  unfold doTimeCellTimer
  rw [if_pos hd, ht]

/-- A port of a mosaic that exchanges cells. -/
theorem port_exchanges {s : State} {p : Fin 2} (hr : s.mos.record = true) (hx : s.mos.txOn = true) (hp : portUp s p = true) :
    ¬(!(s.mos.record && s.mos.txOn && portUp s p)) = true := by
  rw [hr, hx, hp]
  decide

theorem portUp_measuring {s : State} {p : Fin 2} (h : (getPort s p).link = .measuring) : portUp s p = true := by
  unfold portUp
  rw [h]

/-- R740: an exchange before the sixteenth is kept. -/
theorem doDelayResp_keeps {s : State} {p : Fin 2} {t1 t2 t3 t4 : Nat} (hr : s.mos.record = true) (hx : s.mos.txOn = true)
    (hm : (getPort s p).link = .measuring) (hl : (getPort s p).exch.length < 15) : doDelayResp p true t1 t2 t3 t4 s =
      modPort p (fun q => { q with exch := ((((t4 : Int) - t1) - ((t3 : Int) - t2)) :: (getPort s p).exch).take 16 }) s := by
  have hn : (((((t4 : Int) - t1) - ((t3 : Int) - t2)) :: (getPort s p).exch).take 16).length < 16 := by
    rw [List.length_take, List.length_cons]
    omega
  exact (if_neg (port_exchanges hr hx (portUp_measuring hm))).trans ((if_neg (by decide)).trans (if_pos hn))

theorem doMosaicPortLinkChange_up {s : State} {p : Fin 2} (hr : s.mos.record = true) (hl : (getPort s p).link = .down) :
    doMosaicPortLinkChange p true s = raise 0x0D04 [.h p] (modPort p (fun q => { q with link := .measuring, exch := [] }) s) :=
  (if_neg (by rw [hr]; decide)).trans ((if_pos rfl).trans (if_pos hl))

theorem doMosaicPortLinkChange_down {s : State} {p : Fin 2} (hr : s.mos.record = true) (hl : (getPort s p).link ≠ .down) :
    doMosaicPortLinkChange p false s = portGone p (raise 0x0D03 [.h p] (addF (R.MOS_PORT_CNT_LINK_DOWN p) 1
      (modPort p (fun q => { q with link := .down, delay := 0, neighbour := 0 }) s))) :=
  (if_neg (by rw [hr]; decide)).trans ((if_neg Bool.false_ne_true).trans (if_neg hl))

/-- R743: the view loses the heads that have been silent for 10 ms, and the ring with the head's own HELLO cells. -/
theorem doViewHeadTimeout_eq (s : State) : doViewHeadTimeout s = pruneView ((if s.mos.ringTb + 2500000 ≤ s.now then
      s.onMos fun m => { m with ring := false } else s).onMos fun m => { m with
    view := m.view.map fun h => { h with
      east := h.east.filter (fun t => decide (s.now < t + 2500000)), west := h.west.filter (fun t => decide (s.now < t + 2500000)) } }) := by
  unfold doViewHeadTimeout
  have hn : (if s.mos.ringTb + 10 * milli ≤ s.now then s.onMos fun m => { m with ring := false } else s).now = s.now := by
    split <;> rfl
  dsimp only
  rw [hn]
  rfl

/-- Settles O50: each timer and cell of the mosaic by the guard that its hypotheses decide. -/
theorem mosaicLinksAndView : Obligations.MosaicLinksAndView := by
  refine ⟨fun s hr => ⟨?_, ?_⟩, fun s hr => ⟨?_, ?_⟩, fun s hd ht => ?_, fun s hd => ?_, fun s p t1 t2 t3 hr hx hp => ⟨?_, ?_⟩,
    fun s p t1 t2 t3 t4 hr hx hm hl => ?_, fun s p hr hl => ?_, fun s p hr hl => ?_, fun s ht => ?_, fun s ht => ?_,
    fun s hs ht => ?_, fun s ht => ?_⟩
  · exact congrArg Host.Outcome.next (if_neg (by rw [hr]; decide))
  · exact congrArg Host.Outcome.next (if_neg (by rw [hr]; decide))
  · exact congrArg Host.Outcome.next (if_pos (by rw [hr]; decide))
  · exact congrArg Host.Outcome.next (if_pos (by rw [hr]; decide))
  · exact congrArg Host.Outcome.next (doTimeCellTimer_locked hd ht)
  · exact congrArg Host.Outcome.next (if_neg (by rw [hd]; decide))
  · exact congrArg Host.Outcome.next ((if_neg (port_exchanges hr hx hp)).trans (if_neg (by decide)))
  · exact congrArg Host.Outcome.next ((if_neg (port_exchanges hr hx hp)).trans (if_pos rfl))
  · exact congrArg Host.Outcome.next (doDelayResp_keeps hr hx hm hl)
  · exact congrArg Host.Outcome.next (doMosaicPortLinkChange_up hr hl)
  · exact congrArg Host.Outcome.next (doMosaicPortLinkChange_down hr hl)
  · refine congrArg Host.Outcome.next ((doViewHeadTimeout_eq s).trans ?_)
    rw [if_neg (Nat.not_le.mpr ht)]
  · refine congrArg Host.Outcome.next ((doViewHeadTimeout_eq s).trans ?_)
    rw [if_pos ht]
    rfl
  · exact congrArg Host.Outcome.next (if_neg (not_or.mpr ⟨hs, Nat.not_lt.mpr ht⟩))
  · exact congrArg Host.Outcome.next (if_pos (.inr ht))

end Sys2Proof.Machine
end

section
namespace Sys2Proof.Machine

/-! ### O51: the cells of the mosaic -/

/-- R738, R739: a cell that is heard, whose CRC is good, from another head and under the hop limit is forwarded and used. -/
theorem receiveCell_used {t : CellType} {c : CellHead} {body : List Nat} {f : State → State} {s : State} (hh : cellHeard s c = true)
    (hc : c.crcOk = true) (ho : c.origin ≠ mosaicId s) (hp : c.hops < 511) :
    receiveCell t c body f s = f (forwardCell t c body s) :=
  (if_neg (by rw [hh]; decide)).trans ((if_neg (by rw [hc]; decide)).trans (if_neg (not_or.mpr ⟨ho, Nat.not_le.mpr hp⟩)))

theorem receiveCell_badCrc {t : CellType} {c : CellHead} {body : List Nat} {f : State → State} {s : State} (hh : cellHeard s c = true)
    (hc : c.crcOk = false) : receiveCell t c body f s = countCrc c.port s :=
  (if_neg (by rw [hh]; decide)).trans (if_pos (by rw [hc]; decide))

/-- R738: a cell of the head's own, or of 511 hops, comes to nothing. -/
theorem receiveCell_dropped {t : CellType} {c : CellHead} {body : List Nat} {f : State → State} {s : State} (hh : cellHeard s c = true)
    (hc : c.crcOk = true) (hd : c.origin = mosaicId s ∨ 511 ≤ c.hops) : receiveCell t c body f s = s :=
  (if_neg (by rw [hh]; decide)).trans ((if_neg (by rw [hc]; decide)).trans (if_pos hd))

theorem receiveCell_unheard {t : CellType} {c : CellHead} {body : List Nat} {f : State → State} {s : State}
    (hh : cellHeard s c = false) : receiveCell t c body f s = s :=
  if_pos (by rw [hh]; decide)

theorem doHello_used {c : CellHead} {serial : BitVec 64} {flags st r h q : Nat} {s : State} (hh : cellHeard s c = true)
    (hc : c.crcOk = true) (ho : c.origin ≠ mosaicId s) (hp : c.hops < 511) : doHello c serial flags st r h q s =
      takeHello c serial flags st r h q (forwardCell .hello c [serial.toNat, flags, st, r, h, q] s) :=
  (if_neg (by rw [hh]; decide)).trans ((if_neg (by rw [hc]; decide)).trans ((if_neg ho).trans (if_neg (Nat.not_le.mpr hp))))

theorem doHello_own {c : CellHead} {flags st r h q : Nat} {s : State} (hh : cellHeard s c = true)
    (hc : c.crcOk = true) (ho : c.origin = mosaicId s) : doHello c (serialNo s) flags st r h q s = noteRing true s :=
  (if_neg (by rw [hh]; decide)).trans ((if_neg (by rw [hc]; decide)).trans ((if_pos ho).trans (if_pos rfl)))

/-- R764: a STATE cell of the root a head follows gives it the root's digest. -/
theorem doState_used {c : CellHead} {f q minor heads : Nat} {d : List Byte} {s : State} (hh : cellHeard s c = true)
    (hc : c.crcOk = true) (ho : c.origin ≠ mosaicId s) (hp : c.hops < 511)
    (hr : (forwardCell .state c ([f, q, minor, heads] ++ d.map BitVec.toNat) s).mos.rootId = some c.origin)
    (hm : (forwardCell .state c ([f, q, minor, heads] ++ d.map BitVec.toNat) s).mos.st = .member ∨
      (forwardCell .state c ([f, q, minor, heads] ++ d.map BitVec.toNat) s).mos.st = .partitioned) {u : State}
    (hu : followBarriers ((forwardCell .state c ([f, q, minor, heads] ++ d.map BitVec.toNat) s).onMos fun m =>
      { m with rootDigest := d, rootBseq := q, minor := minor }) = u) :
    doState c f q minor heads d s = askReplay (if u.mos.st = .member ∧ (u.mos.joinCheck ∨ f % 1024 = 0) then
      compareDigests (u.onMos fun m => { m with joinCheck := false }) else u) := by
  unfold doState
  rw [receiveCell_used hh hc ho hp, if_pos ⟨hr, hm⟩]
  dsimp only
  rw [hu]

/-- R763: a REPORT that reaches the root. -/
theorem doReport_used {c : CellHead} {q result reason st flags : Nat} {ofs : Int} {s t : State} (hh : cellHeard s c = true)
    (hc : c.crcOk = true) (ho : c.origin ≠ mosaicId s) (hp : c.hops < 511)
    (ht : forwardCell .report c [q, result, reason, st, flags, (BitVec.ofInt 32 ofs).toNat] s = t) (hr : t.mos.st = .root) :
    doReport c q result reason st flags ofs s = if result = 0 then
        armReady (t.onMos fun m => if m.armTb.isSome then { m with ready := (c.origin :: m.ready).eraseDups } else m)
      else if result = 2 then raise 0x0D0E [.h c.origin, .h reason] t
      else if result = 3 then forEach (t.mos.history.filter fun b => b.bseq == q) sendBarrier t
      else t := by
  unfold doReport
  rw [receiveCell_used hh hc ho hp, ht]
  exact if_neg (fun h => h hr)

/-- R758: while the root awaits READY reports it counts those that come. -/
theorem onMos_counts_ready {t : State} {o : Nat} (h : t.mos.armTb ≠ none) :
    (t.onMos fun m => if m.armTb.isSome then { m with ready := (o :: m.ready).eraseDups } else m) =
      t.onMos fun m => { m with ready := (o :: m.ready).eraseDups } :=
  congrArg (fun m => { t with mos := m }) (if_pos (Option.isSome_iff_ne_none.mpr h))

/-- Settles O51: each cell by the checks that receive it, and the one that is used by what its kind needs. -/
theorem mosaicCells : Obligations.MosaicCells := by
  refine ⟨fun s c hh hc ho hp => ⟨fun serial flags st r h q => ?_, fun f l flags tl src err ofs t ht hr hd hl => ?_,
      fun sec ns ts t ht hr hd hl hv => ?_, fun sec ns ts t ht hr => ?_,
      fun f q minor heads d t u ht hr hm hu => ⟨fun hu1 hu2 => ?_, fun hu1 => ?_⟩, fun q reason st flags ofs t ht hr ha => ?_,
      fun q reason st flags ofs t ht hr => ?_⟩,
    fun s c hh hc => ⟨fun sec ns ts => ?_, fun a b d e f g => ?_⟩,
    fun s c hh hc ho => ⟨fun sec ns ts => ?_, fun f q minor heads d => ?_, fun flags st r h q => ?_⟩,
    fun s c hh hc hp => ⟨fun sec ns ts => ?_, fun f q minor heads d => ?_⟩,
    fun s c hh => ⟨fun sec ns ts => ?_, fun a b d e f g => ?_⟩⟩
  · exact congrArg Host.Outcome.next (doHello_used hh hc ho hp)
  · subst ht
    exact congrArg Host.Outcome.next ((receiveCell_used hh hc ho hp).trans (if_pos ⟨hr, by rw [hd]; decide, hl⟩))
  · subst ht
    exact congrArg Host.Outcome.next ((receiveCell_used hh hc ho hp).trans (if_pos ⟨hr, by rw [hd]; decide, hl, hv⟩))
  · subst ht
    exact congrArg Host.Outcome.next ((receiveCell_used hh hc ho hp).trans (if_neg fun h => hr h.1))
  · subst ht
    exact congrArg Host.Outcome.next ((doState_used hh hc ho hp hr hm hu).trans (congrArg askReplay (if_pos ⟨hu1, hu2⟩)))
  · subst ht
    exact congrArg Host.Outcome.next ((doState_used hh hc ho hp hr hm hu).trans (congrArg askReplay (if_neg fun h => hu1 h.1)))
  · exact congrArg Host.Outcome.next ((doReport_used hh hc ho hp ht hr).trans
      ((if_pos rfl).trans (congrArg armReady (onMos_counts_ready ha))))
  · exact congrArg Host.Outcome.next ((doReport_used hh hc ho hp ht hr).trans ((if_neg (by decide)).trans (if_pos rfl)))
  · exact congrArg Host.Outcome.next (receiveCell_badCrc hh hc)
  · exact congrArg Host.Outcome.next ((if_neg (by rw [hh]; decide)).trans (if_pos (by rw [hc]; decide)))
  · exact congrArg Host.Outcome.next (receiveCell_dropped hh hc (.inl ho))
  · exact congrArg Host.Outcome.next (receiveCell_dropped hh hc (.inl ho))
  · exact congrArg Host.Outcome.next (doHello_own hh hc ho)
  · exact congrArg Host.Outcome.next (receiveCell_dropped hh hc (.inr hp))
  · exact congrArg Host.Outcome.next (receiveCell_dropped hh hc (.inr hp))
  · exact congrArg Host.Outcome.next (receiveCell_unheard hh)
  · exact congrArg Host.Outcome.next (if_pos (by rw [hh]; decide))

end Sys2Proof.Machine
end

section
namespace Sys2Proof.Machine

/-! ### O52: the barriers of the mosaic -/

theorem regWrite_mos {who : Initiator} {a : Nat} {v : Word} {s : State} (ha : a / 0x10000 = 0xD) : regWrite who a v s = writeMos a v s := by
  unfold regWrite
  rw [ha]
  rfl

theorem busPut_breq {who : Initiator} {v : Word} {s : State} (hu : busOpen s who = true) :
    busPut who A.MOS_BREQ v s = (requestBarrier v s).2 := by
  rw [busPut_plain hu (by decide), regWrite_mos (by decide)]
  exact congrArg Prod.snd (if_pos rfl)

theorem breqCmd_get (v : Word) : R.MOS_BREQ_CMD.get v = v.toNat / 2 ^ 30 := by
  have h : v.toNat / 2 ^ 30 < 4 := Nat.div_lt_of_lt_mul v.isLt
  exact Nat.mod_eq_of_lt h

theorem breqNfn_get (v : Word) : R.MOS_BREQ_NFN.get v = v.toNat % 128 := by
  show v.toNat / 1 % 128 = _
  rw [Nat.div_one]

/-- A field of one bit is set when its bit is. -/
theorem get_bit_eq_one {f : Fld} (hw : f.w = 1) (v : Word) : (f.get v == 1) = v.getLsbD f.lo := by
  unfold Fld.get
  rw [hw, BitVec.getLsbD, Nat.testBit, Nat.shiftRight_eq_div_pow, Nat.one_and_eq_mod_two, Nat.pow_one]
  obtain h | h := Nat.mod_two_eq_zero_or_one (v.toNat / 2 ^ f.lo) <;> rw [h] <;> rfl

theorem requestBarrier_arm {v : Word} {s : State} (hc : v.toNat / 2 ^ 30 = 1) (hn : v.toNat % 128 ≤ 64) (hr : s.mos.st = .root)
    (hp : s.pwr.pf = .normal) (hb : barrierPart s = true) (hq : s.mos.reqF = none) : requestBarrier v s = (.ok, issueArm s) := by
  unfold requestBarrier
  dsimp only
  rw [breqCmd_get, breqNfn_get, hc, if_neg (not_or.mpr ⟨by decide, Nat.not_lt.mpr hn⟩), if_neg (by rw [hr, hp, hb]; decide),
    if_neg (fun h => h.1 rfl), if_neg (by rw [hq]; decide)]
  exact if_pos rfl

/-- R761: a STOP or a START for a frame that is far enough ahead, with none waiting, is issued. -/
theorem requestBarrier_framed {v : Word} {s : State} {cmd f : Nat} (hc : v.toNat / 2 ^ 30 = cmd) (h2 : 2 ≤ cmd)
    (hn : v.toNat % 128 ≤ 64) (hr : s.mos.st = .root) (hp : s.pwr.pf = .normal) (hb : barrierPart s = true) (hq : s.mos.reqF = none)
    (hf : f = (rawReg s A.MOS_BREQ_F_HI).toNat % 256 * 2 ^ 32 + (rawReg s A.MOS_BREQ_F_LO).toNat) (hl : leadFrame s ≤ f) :
    requestBarrier v s = (.ok, takeBarriers false (issueBarrier cmd (v.getLsbD 29) (v.getLsbD 28) f
      (requestedFns { s with mos := { s.mos with reqF := some f } } (v.toNat % 128)) { s with mos := { s.mos with reqF := some f } })) := by
  have h0 : cmd ≠ 0 := by omega
  have h1 : ¬cmd = barArm := fun h => by
    have h1 : cmd = 1 := h
    omega
  unfold requestBarrier
  dsimp only
  rw [breqCmd_get, breqNfn_get, hc, ← hf, if_neg (not_or.mpr ⟨h0, Nat.not_lt.mpr hn⟩), if_neg (by rw [hr, hp, hb]; decide),
    if_neg (fun h => absurd h.2 (Nat.not_lt.mpr hl)), if_neg (by rw [hq]; decide), if_neg h1, get_bit_eq_one rfl, get_bit_eq_one rfl]
  rfl

theorem requestBarrier_not_root {v : Word} {s : State} (hc : v.toNat / 2 ^ 30 ≠ 0) (hn : v.toNat % 128 ≤ 64) (hr : s.mos.st ≠ .root) :
    (requestBarrier v s).2 = raise 0x0D12 [.h 0x70, .h 0] s := by
  unfold requestBarrier
  dsimp only
  rw [breqCmd_get, breqNfn_get, if_neg (not_or.mpr ⟨hc, Nat.not_lt.mpr hn⟩), if_pos (.inl hr)]
  rfl

/-- R760: ARM_TIMEOUT makes the root start without the heads that have not reported. -/
theorem doArmTimeout_starts {s : State} {t : Nat} (ha : s.mos.armTb = some t) (hr : s.mos.st = .root) (hh : s.head.st ≠ .hold)
    (hi : s.mos.startIssued = false) (ht : t + getF s R.MOS_TIMING_ARM_TIMEOUT * 2500000 ≤ s.now) (hp : s.pwr.pf = .normal)
    (hl : s.mos.ready.length < s.mos.expected) :
    doArmTimeout s = issueStart (raise 0x0D10 [.h s.mos.expected, .h s.mos.ready.length, .h (viewHeads s)] s) := by
  have hm : mayIssue s = true := by
    unfold mayIssue
    rw [hr, hp, Bool.and_eq_true, bne_iff_ne]
    exact ⟨rfl, hh⟩
  have ht' : t + getF s R.MOS_TIMING_ARM_TIMEOUT * 10 * milli ≤ s.now := by
    rw [Nat.mul_assoc]
    exact ht
  unfold doArmTimeout
  rw [ha]
  dsimp only
  rw [if_pos ⟨hm, by rw [hi]; decide, ht'⟩, if_pos hl]

theorem latchPart_out_of_order {s : State} {q cmd flags f part n : Nat} {fns : List Nat} (h : q ≠ s.mos.received + 1) :
    latchPart q cmd flags f part n fns s = s :=
  if_pos h

/-- Settles O52: a request by the command in its word, a cell by its place in the order, the timeout by what the root awaits. -/
theorem mosaicBarriers : Obligations.MosaicBarriers := by
  refine ⟨fun s who v hu hc hn hr hp hb hq => ?_, fun s who v f hu hc hn hr hp hb hq hf hl => ?_,
    fun s who v f hu hc hn hr hp hb hq hf hl => ?_, fun s who v hu hc hn hr => ?_,
    fun s c q cmd flags f part n fns t hh hc ho hp ht hm hr hb => ?_, fun s q cmd flags f part n fns h => latchPart_out_of_order h,
    fun s t ha hr hh hi ht hp hl => ?_, fun s ha => ?_⟩
  · exact congrArg Host.Outcome.next ((busPut_breq hu).trans (congrArg Prod.snd (requestBarrier_arm hc hn hr hp hb hq)))
  · exact congrArg Host.Outcome.next
      ((busPut_breq hu).trans (congrArg Prod.snd (requestBarrier_framed hc (by decide) hn hr hp hb hq hf hl)))
  · exact congrArg Host.Outcome.next
      ((busPut_breq hu).trans (congrArg Prod.snd (requestBarrier_framed hc (by decide) hn hr hp hb hq hf hl)))
  · exact congrArg Host.Outcome.next ((busPut_breq hu).trans (requestBarrier_not_root hc hn hr))
  · subst ht
    exact congrArg Host.Outcome.next ((receiveCell_used hh hc ho hp).trans (if_pos ⟨hm, hr, hb⟩))
  · exact congrArg Host.Outcome.next (doArmTimeout_starts ha hr hh hi ht hp hl)
  · refine congrArg Host.Outcome.next ?_
    unfold doArmTimeout
    rw [ha]

end Sys2Proof.Machine
end

section
namespace Sys2Proof.Machine

/-! ### O53: the programming of fuses -/

/-- R797: a fuse command of an open JTAG port. -/
theorem fuseCommand_jtag {subop w : Nat} {v : Word} {s : State} (hu : busOpen s .jtag = true) : fuseCommand none subop w v s =
    if subop = 1 then programFuse .jtag w v none s else if subop = 2 then advanceFuse .jtag none s else unlockJtag .jtag none s :=
  if_neg (by rw [hu]; decide)

/-- A refused command of JTAG. -/
theorem refuseFuse_jtag (w r d : Nat) (s : State) : refuseFuse .jtag w r d none s =
    raise 0x0E06 [.h 0, .h w, .h r] (s.onFus fun f => { f with result := r, detail := d }) := rfl

/-- R798: a command with words to program begins with them. -/
theorem beginFuse_of_words {c : FuseCmd} {s : State} (h : c.todo ≠ []) :
    beginFuse c s = s.onFus fun f => { f with cmd := some c, result := 0, detail := 0 } :=
  if_pos (by rw [Bool.not_eq_true', List.isEmpty_eq_false_iff]; exact h)

theorem programFuse_begins {w : Nat} {v : Word} {s : State} (hc : s.fus.cmd = none) (hp : fusePath s .jtag = true)
    (hw : fuseWordOk s w = true) : programFuse .jtag w v none s =
      (setF R.FUS_PROG_WORD_WORD w (setF R.FUS_PROG_VALUE_VALUE v.toNat s)).onFus fun f =>
        { f with cmd := some ⟨.jtag, 1, [(w, v)], none, none, false, none, none, false⟩, result := 0, detail := 0 } := by
  have hp' : fusePath (setF R.FUS_PROG_WORD_WORD w (setF R.FUS_PROG_VALUE_VALUE v.toNat s)) .jtag = true := hp
  have hw' : fuseWordOk (setF R.FUS_PROG_WORD_WORD w (setF R.FUS_PROG_VALUE_VALUE v.toNat s)) w = true := hw
  refine (if_neg ?_).trans ((if_neg ?_).trans (beginFuse_of_words (List.cons_ne_nil _ _)))
  · show ¬s.fus.cmd.isSome = true
    rw [hc]
    decide
  · rw [hp', hw']
    decide

theorem programFuse_busy {w : Nat} {v : Word} {c : FuseCmd} {s : State} (hc : s.fus.cmd = some c) : programFuse .jtag w v none s =
    refuseFuse .jtag w 4 0 none (setF R.FUS_PROG_WORD_WORD w (setF R.FUS_PROG_VALUE_VALUE v.toNat s)) :=
  if_pos (by show s.fus.cmd.isSome = true; rw [hc]; rfl)

theorem programFuse_barred {w : Nat} {v : Word} {s : State} (hc : s.fus.cmd = none) (hp : fusePath s .jtag = false) :
    programFuse .jtag w v none s =
      refuseFuse .jtag w 2 0 none (setF R.FUS_PROG_WORD_WORD w (setF R.FUS_PROG_VALUE_VALUE v.toNat s)) := by
  have hp' : fusePath (setF R.FUS_PROG_WORD_WORD w (setF R.FUS_PROG_VALUE_VALUE v.toNat s)) .jtag = false := hp
  refine (if_neg ?_).trans (if_pos ?_)
  · show ¬s.fus.cmd.isSome = true
    rw [hc]
    decide
  · rw [hp']
    rfl

theorem cmd_idle {s : State} (hc : s.fus.cmd = none) : ¬s.fus.cmd.isSome = true := by rw [hc]; decide

theorem advanceFuse_barred {s : State} (hc : s.fus.cmd = none) (hp : fusePath s .jtag = false) :
    advanceFuse .jtag none s = refuseFuse .jtag 3 2 0 none s :=
  (if_neg (cmd_idle hc)).trans (if_pos (by rw [hp]; rfl))

theorem fusePath_factory {s : State} (hl : s.fus.lc = .factory) (hr : s.fus.wires.rmJtag = false) : fusePath s .jtag = true := by
  unfold fusePath
  rw [hl, hr]
  rfl

/-- R791: JTAG programs nothing in DEPLOYED and RETIRED, and nothing once its removal is fused. -/
theorem fusePath_jtag_closed {s : State} (h : s.fus.lc = .deployed ∨ s.fus.lc = .retired ∨ s.fus.wires.rmJtag = true) :
    fusePath s .jtag = false := by
  unfold fusePath
  obtain h | h | h := h
  · rw [h]
  · rw [h]
  · rw [h]
    cases s.fus.lc <;> rfl

theorem advanceFuse_begins {s : State} (hc : s.fus.cmd = none) (hl : s.fus.lc = .factory) (hr : s.fus.wires.rmJtag = false)
    (ho : orderMismatch s = false) (hf : finalWords s [0, 1, 2, 3, 5] ≠ []) : advanceFuse .jtag none s = s.onFus fun f => { f with
      cmd := some ⟨.jtag, 2, finalWords s [0, 1, 2, 3, 5], none, some .provisioned, false, none, none, false⟩
      result := 0, detail := 0 } := by
  unfold advanceFuse
  rw [if_neg (cmd_idle hc), if_neg (by rw [fusePath_factory hl hr]; decide), hl]
  refine (if_neg ?_).trans ((if_neg ?_).trans (beginFuse_of_words hf))
  · rw [ho]
    exact fun h => absurd h.2 (by decide)
  · exact fun h => absurd h.1 (by decide)

theorem advanceFuse_mismatch {s : State} (hc : s.fus.cmd = none) (hl : s.fus.lc = .factory) (hr : s.fus.wires.rmJtag = false)
    (ho : orderMismatch s = true) : advanceFuse .jtag none s =
      refuseFuse .jtag 3 5 2 none (raise 0x0E09 [.h ((fuseWord s 2).toNat % 4), .h ((fuseWord s 8).toNat % 32)] s) := by
  unfold advanceFuse
  rw [if_neg (cmd_idle hc), if_neg (by rw [fusePath_factory hl hr]; decide), hl]
  exact if_pos ⟨rfl, ho⟩

/-- R798: the state in which a word's programming has ended: both copies hold the bits that they read back. -/
def fuseWordRead (c : FuseCmd) (w : Nat) (v a b : Word) (s : State) : State :=
  (endStore .fuse s).onFus fun f => { f with
    a := Tbl.put f.a w 0 (Tbl.getD f.a w 0 ||| (a &&& v)), b := Tbl.put f.b w 0 (Tbl.getD f.b w 0 ||| (b &&& v))
    cmd := some { c with cur := none } }

/-- The bits read back into two words join their OR. -/
theorem or_read_back (x y v a b : Word) : (x ||| (a &&& v)) ||| (y ||| (b &&& v)) = (x ||| y) ||| ((a ||| b) &&& v) := by
  refine BitVec.eq_of_getLsbD_eq fun i _ => ?_
  simp only [BitVec.getLsbD_or, BitVec.getLsbD_and]
  cases v.getLsbD i
  · simp
  · simp [Bool.or_assoc, Bool.or_left_comm]

theorem fuseWordRead_self (c : FuseCmd) (w : Nat) (v a b : Word) (s : State) :
    fuseWord (fuseWordRead c w v a b s) w = fuseWord s w ||| ((a ||| b) &&& v) := by
  show Tbl.getD (Tbl.put s.fus.a w 0 (Tbl.getD s.fus.a w 0 ||| (a &&& v))) w 0 |||
      Tbl.getD (Tbl.put s.fus.b w 0 (Tbl.getD s.fus.b w 0 ||| (b &&& v))) w 0 = _
  rw [Tbl.getD_put_self, Tbl.getD_put_self, or_read_back]
  rfl

theorem fuseWordRead_ne (c : FuseCmd) {w k : Nat} (v a b : Word) (s : State) (h : k ≠ w) :
    fuseWord (fuseWordRead c w v a b s) k = fuseWord s k := by
  show Tbl.getD (Tbl.put s.fus.a w 0 _) k 0 ||| Tbl.getD (Tbl.put s.fus.b w 0 _) k 0 = _
  rw [Tbl.getD_put_ne h, Tbl.getD_put_ne h]
  rfl

/-- R798: the last word of a PROGRAM ends it: with event 0x0E03 when every bit reads back, else as a failure. -/
theorem doFuseWordComplete_last {s : State} {init : FuseInit} {w : Nat} {v a b : Word} {x : Option (Nat × BitVec 64)}
    {t0 : Option Nat} {lg : Bool} {t : State} (hc : s.fus.cmd = some ⟨init, 1, [], some (w, v), none, false, x, t0, lg⟩)
    (ht : t = fuseWordRead ⟨init, 1, [], none, none, false, x, t0, lg⟩ w v a b s) :
    (v &&& ~~~fuseWord t w = 0 → doFuseWordComplete a b s = endFuse 1 0 (raise 0x0E03 [.h w, .w v.toNat] t)) ∧
    (v &&& ~~~fuseWord t w ≠ 0 → doFuseWordComplete a b s =
      endFuse 5 1 (raise 0x0E04 [.h w, .w (v &&& ~~~fuseWord t w).toNat] (addF R.FUS_CNT_PROG_FAIL 1 t))) := by
  have hn : fuseNext (raise 0x0E03 [.h w, .w v.toNat] t) = endFuse 1 0 (raise 0x0E03 [.h w, .w v.toNat] t) := by
    have hf : (raise 0x0E03 [.h w, .w v.toNat] t).fus.cmd = some ⟨init, 1, [], none, none, false, x, t0, lg⟩ := by
      rw [raise_fus, ht]
      rfl
    unfold fuseNext
    rw [hf]
    rfl
  have hd : doFuseWordComplete a b s = if v &&& ~~~fuseWord t w ≠ 0 then
      endFuse 5 1 (raise 0x0E04 [.h w, .w (v &&& ~~~fuseWord t w).toNat] (addF R.FUS_CNT_PROG_FAIL 1 t))
      else fuseNext (raise 0x0E03 [.h w, .w v.toNat] t) := by
    unfold doFuseWordComplete
    rw [hc, ht]
    rfl
  exact ⟨fun h => hd.trans ((if_neg (fun hn => hn h)).trans hn), fun h => hd.trans (if_pos h)⟩

/-- R803, R804: a FUSE_PROGRAM of a session in a state that takes it. -/
theorem stewardOp_fuse {n subop w : Nat} {v : Word} {serial : BitVec 64} {s : State} (h : s.head.coreRestart = false) :
    stewardOp n (.fuseProgram subop w v serial) s = fuseOp n subop w v serial s :=
  if_neg (not_barred_core h)

theorem fuseOp_unlock {n : Nat} {s : State} (ho : fuseOpen s = true) : fuseOp n 3 0 0 (serialNo s) s =
    (none, unlockJtag .core (some (currentReq (deferAnswer n s) n)) (deferAnswer n s)) := by
  unfold fuseOp
  rw [if_neg (by rw [ho]; decide), if_neg (by simp)]
  rfl

theorem fuseOp_unlock_beside {n w : Nat} {v : Word} {s : State} (ho : fuseOpen s = true) (h : w ≠ 0 ∨ v ≠ 0) :
    fuseOp n 3 w v (serialNo s) s = (some ⟨3, 0, []⟩, s) :=
  (if_neg (by rw [ho]; decide)).trans (if_pos (.inr (.inr (.inr (.inr ⟨by decide, h⟩)))))

/-- R799: in DEPLOYED the steward opens the JTAG port. -/
theorem unlockJtag_deployed {n : Nat} {req : BitVec 64} {s u : State} (hc : s.fus.cmd = none) (hl : s.fus.lc = .deployed)
    (hr : s.fus.wires.rmJtag = false) (hu : u = raise 0x0E08 [] (s.onFus fun f => { f with unlocked := true, result := 1, detail := 0 })) :
    unlockJtag .core (some (n, req)) s = answerLate n req (fuseAnswer u 1 0 0) u := by
  rw [hu]
  unfold unlockJtag
  rw [if_neg (cmd_idle hc), if_neg (by rw [hl]; decide), if_neg (by rw [hr]; decide)]
  rfl

theorem unlockJtag_self {s : State} (hc : s.fus.cmd = none) : unlockJtag .jtag none s = refuseFuse .jtag 0 2 0 none s :=
  (if_neg (cmd_idle hc)).trans (if_pos (.inr rfl))

theorem answerLate_fus (n : Nat) (req : BitVec 64) (a : Answer) (s : State) : (answerLate n req a s).fus = s.fus := by
  unfold answerLate answerSession
  split <;> rfl

theorem unlockJtag_fus {n : Nat} {req : BitVec 64} {s : State} (hc : s.fus.cmd = none) (hl : s.fus.lc = .deployed)
    (hr : s.fus.wires.rmJtag = false) :
    (unlockJtag .core (some (n, req)) s).fus = { s.fus with unlocked := true, result := 1, detail := 0 } := by
  rw [unlockJtag_deployed hc hl hr rfl, answerLate_fus, raise_fus]
  rfl

theorem jtagEnabled_of_unlocked {s : State} (hl : s.fus.lc = .deployed) (hr : s.fus.wires.rmJtag = false)
    (hu : s.fus.unlocked = true) : jtagEnabled s = true := by
  unfold jtagEnabled
  rw [hl, hr, hu]
  rfl

theorem fuseWord_of_fus {s t : State} (ha : t.fus.a = s.fus.a) (hb : t.fus.b = s.fus.b) (k : Nat) : fuseWord t k = fuseWord s k := by
  unfold fuseWord
  rw [ha, hb]

/-- Settles O53: a command by the life cycle and the command before it, a word by what reads back. -/
theorem fuseProgramming : Obligations.FuseProgramming := by
  refine ⟨fun s w v hu hc hp hw => ?_, fun s w v c hu hc => ?_, fun s w v hu hc hp => ⟨?_, ?_⟩, fun s h => fusePath_jtag_closed h,
    fun s w v hu hc hl hr ho hf => ?_, fun s w v hu hc hl hr ho => ?_, rfl, fun s init w v a b x t0 lg hc => ?_,
    fun s n ho hs hb hk hf hc hl hr => ?_, fun s n w v h ho hs hb hk hf => ?_, fun s w v hu hc => ?_⟩
  · exact congrArg Host.Outcome.next ((fuseCommand_jtag hu).trans ((if_pos rfl).trans (programFuse_begins hc hp hw)))
  · exact congrArg Host.Outcome.next ((fuseCommand_jtag hu).trans ((if_pos rfl).trans (programFuse_busy hc)))
  · exact congrArg Host.Outcome.next ((fuseCommand_jtag hu).trans ((if_pos rfl).trans (programFuse_barred hc hp)))
  · exact congrArg Host.Outcome.next
      ((fuseCommand_jtag hu).trans ((if_neg (by decide)).trans ((if_pos rfl).trans (advanceFuse_barred hc hp))))
  · exact congrArg Host.Outcome.next
      ((fuseCommand_jtag hu).trans ((if_neg (by decide)).trans ((if_pos rfl).trans (advanceFuse_begins hc hl hr ho hf))))
  · exact congrArg Host.Outcome.next
      ((fuseCommand_jtag hu).trans ((if_neg (by decide)).trans ((if_pos rfl).trans (advanceFuse_mismatch hc hl hr ho))))
  · let c : FuseCmd := ⟨init, 1, [], none, none, false, x, t0, lg⟩
    obtain ⟨h1, h2⟩ := doFuseWordComplete_last (a := a) (b := b) hc rfl
    exact ⟨_, rfl, fun h => congrArg Host.Outcome.next (h1 h), fun h => congrArg Host.Outcome.next (h2 h),
      fuseWordRead_self c w v a b s, fun k hk => fuseWordRead_ne c v a b s hk⟩
  · have hfus := unlockJtag_fus (n := n) (req := (getSession (deferAnswer n s) n).cur) (s := deferAnswer n s) hc hl hr
    refine ⟨_, _, congrArg Host.Outcome.next ((sessionOp_of_ready _ ho hs hb).trans (runRequest_of_later
      ((stewardOp_fuse hk).trans (fuseOp_unlock hf)))), rfl, unlockJtag_deployed hc hl hr rfl, ?_, ?_, fun k => ?_⟩
    all_goals rw [currentReq]
    · rw [hfus]
    · exact jtagEnabled_of_unlocked (by rw [hfus]; exact hl) (by rw [hfus]; exact hr) (by rw [hfus])
    · exact fuseWord_of_fus (by rw [hfus]; rfl) (by rw [hfus]; rfl) k
  · exact congrArg Host.Outcome.next ((sessionOp_of_ready _ ho hs hb).trans
      (runRequest_of_now (r := (⟨3, 0, []⟩, s)) ((stewardOp_fuse hk).trans (fuseOp_unlock_beside hf h)) nofun))
  · exact congrArg Host.Outcome.next
      ((fuseCommand_jtag hu).trans ((if_neg (by decide)).trans ((if_neg (by decide)).trans (unlockJtag_self hc))))

end Sys2Proof.Machine
end

section
namespace Sys2Proof.Machine

/-! ### The power view: the LOCK bits and what a power-fail warning sets, which the end of an acquisition leaves -/

/-- The LOCK bits, the state of the power-fail sequence and the figures of its warning. -/
structure PowerView where
  locks : List Nat
  pf : PfState
  mainsOk : Bool
  warnTb : Nat
  eAvail : Nat
  sleeping : Bool

/-- The power view of a state. -/
def powerView (s : State) : PowerView :=
  ⟨s.head.locks, s.pwr.pf, s.pwr.mainsOk, s.pwr.warnTb, s.pwr.eAvail, s.pwr.sleeping⟩

theorem powerView_of_parts {s t : State} (hh : t.head.locks = s.head.locks) (hp : t.pwr = s.pwr) : powerView t = powerView s := by
  unfold powerView
  rw [hh, hp]

theorem LogOnly.powerView {s t : State} (h : LogOnly s t) : powerView t = powerView s :=
  powerView_of_parts (congrArg Head.locks h.head) h.pwr

theorem Aside.powerView {s t : State} (h : Aside s t) : powerView t = powerView s :=
  powerView_of_parts (congrArg Head.locks h.head) h.pwr

theorem powerView_ite {c : Prop} [Decidable c] {a b s : State} (ha : powerView a = powerView s) (hb : powerView b = powerView s) :
    powerView (if c then a else b) = powerView s := by
  split
  · exact ha
  · exact hb

/-! #### Engines, tiles and sub-banks -/

theorem powerView_threadsOff (e g : Nat) (st : GrpState) (s : State) : powerView (threadsOff e g st s) = powerView s := by
  unfold threadsOff
  extract_lets ts s1
  have h1 : powerView s1 = powerView s := by
    refine forEach_leaves (g := powerView) (fun t u => ?_) s
    rfl
  exact h1

theorem powerView_enginesOff (undriven : Bool) (s : State) : powerView (enginesOff undriven s) = powerView s := by
  unfold enginesOff
  extract_lets s1
  have h1 : powerView s1 = powerView s := by
    refine forEach_leaves (g := powerView) (fun e t => ?_) s
    refine forEach_leaves (g := powerView) (fun g u => ?_) t
    exact powerView_threadsOff e g .off u
  exact h1

theorem powerView_shedSwitches (s : State) : powerView (shedSwitches s) = powerView s := by
  unfold shedSwitches
  extract_lets s1 s2
  have h2 : powerView s2 = powerView s1 := by
    refine forEach_leaves (g := powerView) (fun t x => ?_) s1
    split <;> rfl
  have h3 : powerView s1 = powerView s := rfl
  refine (forEach_leaves (g := powerView) (fun d x => ?_) s2).trans (h2.trans h3)
  split <;> rfl

/-! #### Change set, image writes and sessions -/

theorem powerView_discardChange (cause : Nat) (s : State) : powerView (discardChange cause s) = powerView s := by
  unfold discardChange
  exact powerView_ite (s := s) rfl ((logOnly_raise 0x1227 [.h cause] s).powerView)

theorem powerView_endSequence (c : Nat) (s : State) : powerView (endSequence c s) = powerView s := by
  unfold endSequence
  dsimp only
  split <;> rfl

theorem powerView_answerWrite (w : ImageWrite) (a : Answer) (s : State) : powerView (answerWrite w a s) = powerView s := by
  unfold answerWrite answerLate answerSession
  split
  · exact powerView_ite rfl rfl
  · rfl

theorem powerView_endWrite (c : Nat) (a : Option Answer) (s : State) : powerView (endWrite c a s) = powerView s := by
  unfold endWrite
  split
  · exact powerView_endSequence c s
  · dsimp only
    split
    · exact (powerView_answerWrite _ _ _).trans (powerView_endSequence c _)
    · exact powerView_endSequence c _

theorem powerView_endWrites (a : Option Answer) (s : State) : powerView (endWrites a s) = powerView s :=
  (powerView_endWrite 1 a _).trans (powerView_endWrite 0 a s)

/-! #### Calibration and the stores -/

theorem powerView_dropDrift (s : State) : powerView (dropDrift s) = powerView s :=
  powerView_ite rfl (aside_calNeedTiles _ false _).powerView

theorem powerView_abortRun (cause : AbortCause) (s : State) : powerView (abortRun cause s) = powerView s := by
  unfold abortRun
  split
  · split
    · exact powerView_dropDrift s
    · exact powerView_dropDrift s
    · rfl
  · dsimp only
    have h : ∀ b, powerView (raise 0x0704 [.h cause.code] (addF R.CAL_CNT_ABORTS 1 (endAborted b s))) = powerView s := fun b =>
      (((aside_endAborted b s).trans (aside_addF _ _ _)).trans (aside_raise _ _ _)).powerView
    exact powerView_ite ((aside_countAbort _).powerView.trans (h _)) (h _)

theorem powerView_failKeyStore (cause : Nat) (s : State) : powerView (failKeyStore cause s) = powerView s := by
  unfold failKeyStore
  split
  · exact (aside_raise _ _ _).powerView
  · rfl

theorem powerView_endCalStore (cause : Nat) (s : State) : powerView (endCalStore cause s) = powerView s := by
  unfold endCalStore
  split
  · exact (aside_raise _ _ _).powerView
  · rfl

/-! #### Exposures -/

theorem powerView_abandonBooking (b : Booking) (s : State) : powerView (abandonBooking b s) = powerView s := by
  unfold abandonBooking
  dsimp only
  split <;> rfl

theorem powerView_abandonInsts (which : Inst → Bool) (s : State) : powerView (abandonInsts which s) = powerView s := by
  unfold abandonInsts
  extract_lets s1
  have h1 : powerView s1 = powerView s := by
    refine forEach_leaves (g := powerView) (fun i t => ?_) s
    refine forEach_leaves (g := powerView) (fun g u => ?_) t
    rfl
  exact h1

theorem powerView_abandonLane (m : Nat) (s : State) : powerView (abandonLane m s) = powerView s := by
  unfold abandonLane
  exact (forEach_leaves (g := powerView) powerView_abandonBooking _).trans (powerView_abandonInsts _ s)

theorem powerView_lanesOff (keep : Bool) (s : State) : powerView (lanesOff keep s) = powerView s := by
  unfold lanesOff
  extract_lets s1
  have h1 : powerView s1 = powerView s := forEach_leaves (g := powerView) powerView_abandonLane s
  exact h1

/-! #### Statistics -/

theorem powerView_sendResult (r : ResultUnit) (s : State) : powerView (sendResult r s) = powerView s := by
  unfold sendResult
  extract_lets s1
  have h1 : powerView s1 = powerView s := by
    refine forEach_leaves (g := powerView) (fun i t => ?_) s
    exact powerView_ite (aside_enqueueUnit _ _ _ _ _ _ t).powerView rfl
  refine (forEach_leaves (g := powerView) (fun t x => ?_) s1).trans h1
  exact powerView_ite (aside_enqueueUnit _ _ _ _ _ _ x).powerView rfl

theorem powerView_sendRow (r : RowUnit) (s : State) : powerView (sendRow r s) = powerView s := by
  unfold sendRow
  refine powerView_ite rfl ?_
  extract_lets s1
  have h1 : powerView s1 = powerView s := by
    refine forEach_leaves (g := powerView) (fun i t => ?_) s
    exact powerView_ite (aside_enqueueUnit _ _ _ _ _ _ t).powerView rfl
  refine (forEach_leaves (g := powerView) (fun t x => ?_) s1).trans h1
  refine powerView_ite ?_ rfl
  split
  · exact (aside_enqueueUnit _ _ _ _ _ _ x).powerView
  · rfl

theorem powerView_machineMoves (m i : Nat) (s : State) : powerView (machineMoves m i s) = powerView s := by
  unfold machineMoves
  refine powerView_ite (powerView_ite rfl rfl) rfl

theorem powerView_putWindow (w : Window) (s : State) : powerView (putWindow w s) = powerView s := rfl

theorem powerView_clearWindow (w : Nat) (s : State) : powerView (clearWindow w s) = powerView s := by
  unfold clearWindow
  refine forEach_leaves (g := powerView) (fun o t => ?_) s
  rfl

theorem powerView_applyTenantWindows (set tb : Nat) (s : State) : powerView (applyTenantWindows set tb s) = powerView s := by
  unfold applyTenantWindows
  extract_lets s1
  have h1 : powerView s1 = powerView s := by
    refine forEach_leaves (g := powerView) (fun p t => ?_) s
    split
    · exact powerView_putWindow _ t
    · have hc := powerView_clearWindow p.win t
      exact powerView_ite ((aside_raiseFor _ _ _ _).powerView.trans hc) hc
  exact h1

theorem powerView_applySubs (set f tb : Nat) (s : State) : powerView (applySubs set f tb s) = powerView s := by
  unfold applySubs
  refine forEach_leaves (g := powerView) (fun t x => ?_) s
  split
  · exact powerView_ite rfl rfl
  · rfl

theorem powerView_openInterval (set : Nat) (s : State) : powerView (openInterval set s) = powerView s := by
  unfold openInterval
  exact (powerView_applySubs _ _ _ _).trans (powerView_applyTenantWindows _ _ s)

theorem powerView_earlyClose (set : Nat) (s : State) : powerView (earlyClose set s) = powerView s := by
  unfold earlyClose
  split
  · exact (aside_raise _ _ _).powerView
  · rfl

theorem powerView_ensureInterval (set frame : Nat) (s : State) : powerView (ensureInterval set frame s) = powerView s := by
  unfold ensureInterval
  refine powerView_ite ?_ rfl
  refine forEach_leaves (g := powerView) (fun _ t => ?_) s
  exact powerView_ite ((powerView_openInterval _ _).trans (powerView_earlyClose _ t)) rfl

theorem powerView_noteOverflow (set slot : Nat) (wins : List Nat) (s : State) : powerView (noteOverflow set slot wins s) = powerView s := by
  unfold noteOverflow
  refine forEach_leaves (g := powerView) (fun w t => ?_) s
  exact ((logOnly_addF _ _ t).trans (logOnly_raiseLimited _ _ _ _ _)).powerView

theorem powerView_commitSet (r : StatRow) (slices : List Nat) (set : Nat) (s : State) :
    powerView (commitSet r slices set s) = powerView s := by
  have he := powerView_ensureInterval set r.frame s
  unfold commitSet
  dsimp only
  split
  · exact he
  · exact (powerView_noteOverflow _ _ _ _).trans he

theorem powerView_commitRow (r : StatRow) (slices : List Nat) (s : State) : powerView (commitRow r slices s) = powerView s := by
  unfold commitRow
  exact forEach_leaves (g := powerView) (powerView_commitSet r slices) s

theorem powerView_loseRow (i : Nat) (r : StatRow) (s : State) : powerView (loseRow i r s) = powerView s := by
  unfold loseRow
  refine forEach_leaves (g := powerView) (fun set t => ?_) s
  have he := powerView_ensureInterval set r.frame t
  dsimp only
  split <;> exact he

theorem powerView_releaseHeld (pipe i : Nat) (s : State) : powerView (releaseHeld pipe i s) = powerView s := by
  unfold releaseHeld
  extract_lets held s1
  have h1 : powerView s1 = powerView s := by
    refine forEach_leaves (g := powerView) (fun h t => ?_) s
    exact powerView_commitRow h.row [i] t
  exact powerView_ite rfl ((powerView_machineMoves _ _ _).trans h1)

theorem powerView_feedRow (r : StatRow) (stuck : BitVec 16) (s : State) : powerView (feedRow r stuck s) = powerView s := by
  unfold feedRow
  extract_lets pipe all s1 holds free s2 s3 s4 s5
  have h1 : powerView s1 = powerView s := forEach_leaves (g := powerView) (fun i t => powerView_loseRow i r t) s
  have h2 : powerView s2 = powerView s1 := forEach_leaves (g := powerView) (powerView_releaseHeld pipe) s1
  have h3 : powerView s3 = powerView s2 := by
    refine forEach_leaves (g := powerView) (fun i t => ?_) s2
    rfl
  have h4 : powerView s4 = powerView s3 := powerView_commitRow r free s3
  have h5 : powerView s5 = powerView s4 := by
    refine forEach_leaves (g := powerView) (fun i t => ?_) s4
    rfl
  refine (forEach_leaves (g := powerView) (fun i t => ?_) s5).trans (h5.trans (h4.trans (h3.trans (h2.trans h1))))
  rfl

/-! #### Fusion sets and the end of an acquisition -/

theorem powerView_shutSet (f : FusionSet) (s : State) : powerView (shutSet f s) = powerView s := by
  unfold shutSet
  exact powerView_ite rfl rfl

theorem powerView_deliverFused (f : FusionSet) (extra : Nat) (raw : Bool) (stuck : BitVec 16) (row : Nat) (s : State) :
    powerView (deliverFused f extra raw stuck row s) = powerView s := by
  unfold deliverFused
  dsimp only
  rw [powerView_feedRow]
  split
  · exact powerView_ite (powerView_sendRow _ s) rfl
  · rfl

theorem powerView_closeFusion (f : FusionSet) (extra : Nat) (raw : Bool) (stuck : BitVec 16) (s : State) :
    powerView (closeFusion f extra raw stuck s) = powerView s := by
  unfold closeFusion
  exact (forEach_leaves (g := powerView) (powerView_deliverFused f extra raw stuck) _).trans (powerView_shutSet f s)

theorem powerView_closeAllSets (extra : Nat) (raw : Bool) (s : State) : powerView (closeAllSets extra raw s) = powerView s := by
  unfold closeAllSets
  exact forEach_leaves (g := powerView) (fun f t => powerView_closeFusion f extra raw 0 t) s

theorem powerView_finishHandoffs (s : State) : powerView (finishHandoffs s) = powerView s := by
  unfold finishHandoffs
  refine forEach_leaves (g := powerView) (fun n t => ?_) s
  refine (forEach_leaves (g := powerView) (fun h u => ?_) _).trans rfl
  exact forEach_leaves (g := powerView) powerView_sendResult u

theorem powerView_truncateSets (s : State) : powerView (truncateSets s) = powerView s := by
  unfold truncateSets
  extract_lets s1
  have h1 : powerView s1 = powerView s := by
    refine forEach_leaves (g := powerView) (fun n t => ?_) s
    refine (rfl : _ = powerView _).trans (forEach_leaves (g := powerView) (fun iv u => ?_) t)
    rfl
  exact (powerView_finishHandoffs s1).trans h1

theorem powerView_endAcquisition (raw keep : Bool) (s : State) : powerView (endAcquisition raw keep s) = powerView s := by
  unfold endAcquisition
  extract_lets s1 s2
  have h1 : powerView s1 = powerView s := powerView_closeAllSets _ _ s
  have h2 : powerView s2 = powerView s1 := forEach_leaves (g := powerView) powerView_abandonLane s1
  exact (powerView_lanesOff _ _).trans ((powerView_truncateSets s2).trans (h2.trans h1))

/-! #### Accumulators, streams and the injected sequence -/

theorem powerView_closeSteward (extra : Nat) (s : State) : powerView (closeSteward extra s) = powerView s := by
  unfold closeSteward
  refine forEach_leaves (g := powerView) (fun p t => ?_) s
  exact (aside_closeAcc p.1 extra t).powerView

theorem powerView_finishStreams (reason : Nat) (s : State) : powerView (finishStreams reason s) = powerView s := by
  unfold finishStreams
  refine forEach_leaves (g := powerView) (fun p t => ?_) s
  exact powerView_ite (s := t) ((aside_flushTrack p.1 t).trans (aside_raiseFor _ _ _ _)).powerView rfl

theorem powerView_rememberCartridge (s : State) : powerView (rememberCartridge s) = powerView s := powerView_ite rfl rfl

theorem powerView_onTrc (f : Trc → Trc) (s : State) : powerView (s.onTrc f) = powerView s := rfl

theorem powerView_dropTrigger (t : InjTrigger) (s : State) : powerView (dropTrigger t s) = powerView s := by
  unfold dropTrigger
  extract_lets s1 n old s2 s3
  have h1 : powerView s1 = powerView s := by
    refine forEach_leaves (g := powerView) (fun n t => ?_) s
    exact powerView_ite rfl rfl
  have h2 : powerView s2 = powerView s1 := (logOnly_raiseLimited _ _ _ _ _).powerView
  have h3 : powerView s3 = powerView s2 := powerView_onTrc _ s2
  exact powerView_ite ((powerView_onTrc _ s3).trans (h3.trans (h2.trans h1))) (h3.trans (h2.trans h1))

theorem powerView_addF (f : Fld) (x : Nat) (s : State) : powerView (addF f x s) = powerView s := rfl

theorem powerView_startInjected (t : InjTrigger × Nat) (tb : Nat) (s : State) : powerView (startInjected t tb s) = powerView s :=
  (powerView_addF _ _ _).trans (powerView_onTrc _ s)

theorem powerView_pendTrigger (t : InjTrigger) (s : State) : powerView (pendTrigger t s) = powerView s :=
  (powerView_addF _ _ _).trans (powerView_onTrc _ s)

theorem powerView_thirdTrigger (t : InjTrigger) (p : InjTrigger × Nat) (s : State) : powerView (thirdTrigger t p s) = powerView s := by
  unfold thirdTrigger
  refine powerView_ite (powerView_ite (powerView_onTrc _ s) rfl) (powerView_ite ?_ (powerView_dropTrigger _ s))
  exact (powerView_dropTrigger _ _).trans (powerView_onTrc _ s)

theorem powerView_injectTrigger (t : InjTrigger) (s : State) : powerView (injectTrigger t s) = powerView s := by
  have hs : ∀ tb, powerView (startInjected (t, s.now) tb s) = powerView s := fun tb => powerView_startInjected _ tb s
  have ha : ∀ tb, powerView (addF R.TRC_CNT_ABORTS 1 (startInjected (t, s.now) tb s)) = powerView s := fun tb =>
    (powerView_addF _ _ _).trans (hs tb)
  unfold injectTrigger
  refine powerView_ite rfl ?_
  dsimp only
  split
  · exact powerView_ite (ha _) (powerView_thirdTrigger _ _ s)
  · exact powerView_ite (powerView_pendTrigger t s) (powerView_ite (powerView_onTrc _ s) (powerView_ite (hs _) (ha _)))
  · refine powerView_ite rfl ?_
    split
    · exact powerView_ite rfl (powerView_thirdTrigger _ _ s)
    · exact powerView_ite (powerView_onTrc _ s) (powerView_pendTrigger t s)

end Sys2Proof.Machine
end

section
namespace Sys2Proof.Machine

/-! ### O54: the domains and the power-fail warning -/

theorem getDom_setDom (d : Nat) (x : DomState) (s : State) : getDom (setDom d x s) d = x := Tbl.getD_put_self _ _ _ _

theorem getDom_setDom_ne {d k : Nat} (x : DomState) (s : State) (h : k ≠ d) : getDom (setDom d x s) k = getDom s k := Tbl.getD_put_ne h

theorem getDom_of_pwr {s t : State} (h : t.pwr = s.pwr) (d : Nat) : getDom t d = getDom s d := by
  unfold getDom
  rw [h]

/-- R812, R813: an overcurrent of a domain that serves no slice of statistics. -/
theorem doDomainOvercurrent_switches {d : Fin 316} {s : State} (h1 : 296 ≤ d.val) (h2 : d.val < 315)
    (hd : getDom s d = .ramp ∨ getDom s d = .ready) :
    doDomainOvercurrent d s = openWindow 0 0x0F07 [domBlock d] (raise 0x0F07 [.h d] (setDom d .fault s)) :=
  (if_pos ⟨by omega, h2, hd⟩).trans (if_neg (by omega))

theorem regWrite_pwr {who : Initiator} {a : Nat} {v : Word} {s : State} (ha : a / 0x10000 = 0xF) : regWrite who a v s = writePwr a v s := by
  unfold regWrite
  rw [ha]
  rfl

theorem fclr_register : ∀ w : Fin 10, plainRegister (A.PWR_DOM_FCLR w) = true ∧ A.PWR_DOM_FCLR w / 0x10000 = 0xF ∧
    A.PWR_DOM_FCLR w % 0x10000 = 0x180 + 4 * w.val := by decide

theorem busPut_fclr {who : Initiator} {w : Fin 10} {v : Word} {s : State} (hu : busOpen s who = true) :
    busPut who (A.PWR_DOM_FCLR w) v s = clearDomFaults w v s := by
  obtain ⟨hp, hb, ho⟩ := fclr_register w
  have hw : w.val < 10 := w.isLt
  have hr : pwrRangeOk (A.PWR_DOM_FCLR w) v = true := by
    have hne : A.PWR_DOM_FCLR w ≠ A.PWR_POLICY := fun h => by
      have h' : A.PWR_DOM_FCLR w % 0x10000 = A.PWR_POLICY % 0x10000 := congrArg (· % 0x10000) h
      have hc : A.PWR_POLICY % 0x10000 < 0x180 := by decide
      omega
    exact if_neg hne
  have hi : (0x180 + 4 * w.val - 0x180) / 4 = w.val := by omega
  rw [busPut_plain hu hp, regWrite_pwr hb]
  unfold writePwr
  dsimp only
  rw [ho, if_neg (by omega), hr, if_neg (by decide), if_pos (by omega), hi]

theorem clearDomFaults_one (s : State) (h : getDom s 300 = .fault) :
    clearDomFaults 9 (BitVec.ofNat 32 (2 ^ 12)) s = setDom 300 .off s := by
  have hf : ((List.range 32).filter fun b => (BitVec.ofNat 32 (2 ^ 12)).getLsbD b && decide (280 ≤ 32 * 9 + b) &&
      decide (32 * 9 + b < 315)) = [12] := by decide
  unfold clearDomFaults
  rw [hf]
  exact if_pos h

/-- R806: a mains input whose voltage and frequency are in range. -/
theorem mains_in_range {v f : BitVec 16} : (decide (8500 ≤ v.toNat) && decide (v.toNat ≤ 26500) && decide (47000 ≤ f.toNat) &&
    decide (f.toNat ≤ 63000)) = true ↔ 8500 ≤ v.toNat ∧ v.toNat ≤ 26500 ∧ 47000 ≤ f.toNat ∧ f.toNat ≤ 63000 := by
  simp only [Bool.and_eq_true, decide_eq_true_eq, and_assoc]

/-- The state of the head at a warning, before what the warning stops. -/
def warned (cause : Nat) (bulk : Nat) (s : State) : State :=
  s.onPwr fun p => { p with
    pf := .emergency, mainsOk := p.mainsOk && cause != 0, warnTb := s.now, warnCause := cause, bulk := bulk
    eAvail := availMj s bulk, stepsDone := [], sleeping := false, pfStep := if s.sup.dieDown then 10 else 0 }

theorem powerView_coolerOff (s : State) : powerView (coolerOff s) = powerView s := rfl

theorem powerView_abandonCommit (s : State) : powerView (abandonCommit s) = powerView s := rfl

theorem powerView_discardRings (s : State) : powerView (discardRings s) = powerView s := rfl

theorem powerView_discardRaw (s : State) : powerView (discardRaw s) = powerView s := rfl

theorem powerView_onFlt (f : Flt → Flt) (s : State) : powerView (s.onFlt f) = powerView s := rfl

theorem powerView_dropChecks (s : State) : powerView (s.onPwr fun p => { p with checking := [], waiting := [] }) = powerView s := rfl

theorem powerView_stepsDone (s : State) : powerView (s.onPwr fun p => { p with stepsDone := [3] }) = powerView s := rfl

theorem powerView_dropApply (s : State) : powerView (dropApply s) = powerView s := rfl

theorem powerView_onCfg (f : Cfg → Cfg) (s : State) : powerView (s.onCfg f) = powerView s := rfl

/-- R823 to R825: a warning sets its figures, and what it stops leaves them. -/
theorem doPfWarning_effect {cause : Fin 2} {bulk : BitVec 16} {s : State} (ho : s.head.st ≠ .off) (ha : asleep s = false)
    (hp : s.pwr.pf = .normal) : powerView (doPfWarning cause bulk s) = powerView (warned cause.val bulk.toNat s) ∧
      (doPfWarning cause bulk s).pwr.stepsDone = [3] := by
  unfold doPfWarning
  rw [if_neg (by rw [ha, hp]; exact not_or.mpr ⟨ho, by decide⟩)]
  extract_lets s1 s2 s3 s4 s5 s6 s7 s8 s9 s10 s11 s12 s13
  have h2 : powerView s2 = powerView s1 := (logOnly_raise _ _ s1).powerView
  have h3 : powerView s3 = powerView s2 := powerView_onFlt _ s2
  have h4 : powerView s4 = powerView s3 := powerView_shedSwitches s3
  have h5 : powerView s5 = powerView s4 := by
    rw [show s5 = endWrites none (discardChange 4 (enginesOff false (coolerOff s4))) from rfl, powerView_endWrites, powerView_discardChange,
      powerView_enginesOff, powerView_coolerOff]
  have h6 : powerView s6 = powerView s5 := by
    refine forEach_leaves (g := powerView) (fun n t => ?_) s5
    exact powerView_ite (s := t) (logOnly_raise _ _ t).powerView rfl
  have h7 : powerView s7 = powerView s6 := by
    rw [show s7 = abortRun .power (abandonCommit s6) from rfl, powerView_abortRun, powerView_abandonCommit]
  have h8 : powerView s8 = powerView s7 := by
    rw [show s8 = failKeyStore 1 (endCalStore 1 (dropApply (s7.onCfg fun c => { c with reading := none }))) from rfl,
      powerView_failKeyStore, powerView_endCalStore, powerView_dropApply, powerView_onCfg]
  have h9 : powerView s9 = powerView s8 := powerView_dropChecks s8
  have h10 : powerView s10 = powerView s9 := powerView_endAcquisition false true s9
  have h11 : powerView s11 = powerView s10 := powerView_closeSteward flagTruncated s10
  have h12 : powerView s12 = powerView s11 := by
    rw [show s12 = finishStreams 2 (discardRings (discardRaw s11)) from rfl, powerView_finishStreams, powerView_discardRings,
      powerView_discardRaw]
  have h13 : powerView s13 = powerView s12 := by
    rw [show s13 = rememberCartridge (injectTrigger .powerFail s12) from rfl, powerView_rememberCartridge, powerView_injectTrigger]
  have h1 : s1 = warned cause.val bulk.toNat s := rfl
  refine ⟨?_, rfl⟩
  calc powerView (s13.onPwr fun p => { p with stepsDone := [3] }) = powerView s13 := powerView_stepsDone s13
    _ = powerView s9 := h13.trans (h12.trans (h11.trans h10))
    _ = powerView s6 := h9.trans (h8.trans h7)
    _ = powerView s1 := h6.trans (h5.trans (h4.trans (h3.trans h2)))
    _ = powerView (warned cause.val bulk.toNat s) := congrArg powerView h1

/-- Settles O54: the domains by their table; a warning by its power view and by what every command leaves. -/
theorem domainsAndWarning : Obligations.DomainsAndWarning := by
  refine ⟨fun s d h hr => ?_, fun s d h1 h2 hd => ?_, fun s who w v hu => ?_, fun s h => ?_, fun s v f ho h1 h2 h3 h4 => ?_,
    fun s v f ho h => ?_, fun s cause bulk ho ha hp => ?_, fun s cause bulk h => ?_⟩
  · exact congrArg Host.Outcome.next (if_pos ⟨h, hr⟩)
  · have hpwr : (openWindow 0 0x0F07 [domBlock d] (raise 0x0F07 [.h d] (setDom d .fault s))).pwr = (setDom d .fault s).pwr :=
      raise_pwr _ _ _
    refine ⟨_, congrArg Host.Outcome.next (doDomainOvercurrent_switches h1 h2 hd), rfl, ?_, fun k hk => ?_, ?_, ?_, ?_⟩
    · rw [getDom_of_pwr hpwr, getDom_setDom]
    · rw [getDom_of_pwr hpwr, getDom_setDom_ne _ _ hk]
    · exact raise_mem _ _ _
    · exact raise_rru _ _ _
    · exact raise_tmb _ _ _
  · exact congrArg Host.Outcome.next (busPut_fclr hu)
  · rw [clearDomFaults_one s h, getDom_setDom]
  · exact congrArg Host.Outcome.next ((if_neg ho).trans (if_pos (mains_in_range.mpr ⟨h1, h2, h3, h4⟩)))
  · refine congrArg Host.Outcome.next ((if_neg ho).trans (if_neg fun hr => ?_))
    obtain ⟨h1, h2, h3, h4⟩ := mains_in_range.mp hr
    omega
  · obtain ⟨hv, hd⟩ := doPfWarning_effect (cause := cause) (bulk := bulk) ho ha hp
    have hk : Keeps _ s (doPfWarning cause bulk s) := keeps_of_exec (c := .pfWarning cause bulk) rfl
    exact ⟨_, rfl, congrArg PowerView.pf hv, congrArg PowerView.mainsOk hv, congrArg PowerView.warnTb hv, congrArg PowerView.eAvail hv, hd,
      congrArg PowerView.sleeping hv, hk.tb rfl, hk.f rfl, hk.wires rfl, congrArg PowerView.locks hv⟩
  · exact congrArg Host.Outcome.next (if_pos h)

end Sys2Proof.Machine
end

section
namespace Sys2Proof.Machine

/-! ### O55: parking, the return of mains and the loss of the always-on domain -/

theorem threadsOff_but_tge (e g : Nat) (st : GrpState) (s : State) :
    (threadsOff e g st s).onTge (fun _ => {}) = s.onTge fun _ => {} := by
  unfold threadsOff
  extract_lets ts s1
  have h1 : s1.onTge (fun _ => {}) = s.onTge fun _ => {} := by
    refine forEach_leaves (g := State.onTge fun _ => {}) (fun t u => ?_) s
    rfl
  exact h1

/-- The engines that go off change the engines alone. -/
theorem enginesOff_but_tge (undriven : Bool) (s : State) : (enginesOff undriven s).onTge (fun _ => {}) = s.onTge fun _ => {} := by
  unfold enginesOff
  extract_lets s1
  have h1 : s1.onTge (fun _ => {}) = s.onTge fun _ => {} := by
    refine forEach_leaves (g := State.onTge fun _ => {}) (fun e t => ?_) s
    refine forEach_leaves (g := State.onTge fun _ => {}) (fun g u => ?_) t
    exact threadsOff_but_tge e g .off u
  exact h1

theorem enginesOff_pwr (undriven : Bool) (s : State) : (enginesOff undriven s).pwr = s.pwr :=
  (congrArg State.pwr (enginesOff_but_tge undriven s) :)

theorem enginesOff_rru (undriven : Bool) (s : State) : (enginesOff undriven s).rru = s.rru :=
  (congrArg State.rru (enginesOff_but_tge undriven s) :)

/-- R825: what parking sets. -/
theorem park_effect (s : State) : (park s).pwr.pf = .parking ∧ (park s).pwr.parked = true ∧ (park s).head.st = .off ∧
    (park s).tmb.run = false ∧ (park s).rru.sysPll = .off ∧ (park s).head.fwReady = false := by
  unfold park
  extract_lets s1 s2 s3 s4 s5 s6 s7
  have hp : s4.pwr = s3.pwr := enginesOff_pwr true _
  have hr : s4.rru = (s3.onRru fun x => { x with sysPll := .off }).rru := enginesOff_rru true _
  refine ⟨?_, ?_, setHead_st _ _, ?_, ?_, ?_⟩
  · rw [setHead_pwr]
    exact congrArg Pwr.pf hp
  · rw [setHead_pwr]
    exact congrArg Pwr.parked hp
  · rw [setHead_tmb]
    rfl
  · rw [setHead_rru]
    exact congrArg Rru.sysPll hr
  · rw [setHead_fwReady]
    rfl

theorem doLinkHoldExpired_due {s : State} (h : s.pwr.warnTb + getF s R.PWR_POLICY_LINK_HOLD * milli ≤ s.now)
    (hd : (s.pwr.pf = .emergency ∧ 4 ∉ s.pwr.stepsDone) ∨ s.pwr.sleeping = true) : doLinkHoldExpired s =
      (if s.pwr.pf = .emergency then
        (((s.onLnk fun l => { l with txEn := false }).onMos fun m => { m with txOn := false }).onPwr fun p =>
          { p with stepsDone := p.stepsDone ++ [4] })
      else (s.onLnk fun l => { l with txEn := false }).onMos fun m => { m with txOn := false }) :=
  (if_neg (Nat.not_lt.mpr h)).trans (if_pos (hd.imp_left fun hd => ⟨hd.1, by simp [hd.2]⟩))

theorem doParked_done {s : State} (hp : s.pwr.pf = .emergency) (h4 : 4 ∈ s.pwr.stepsDone) (h5 : 5 ∈ s.pwr.stepsDone) :
    doParked s = park s :=
  if_pos ⟨hp, by simp [h4], by simp [h5]⟩

theorem doParked_not_done {s : State} (h5 : 5 ∉ s.pwr.stepsDone) : doParked s = s :=
  if_neg fun h => h5 (List.contains_iff_mem.mp h.2.2)

theorem doEmergOverrun_done {s : State} (h4 : 4 ∈ s.pwr.stepsDone) (h5 : 5 ∈ s.pwr.stepsDone) : doEmergOverrun s = s :=
  if_neg fun h => by simp [h4, h5] at h

/-- R828: the steps that EMERG_MAX leaves are named in its event. -/
theorem doEmergOverrun_left {s : State} {n : Nat} (hp : s.pwr.pf = .emergency) (ht : s.pwr.warnTb + 37500000 ≤ s.now)
    (hd : ¬(4 ∈ s.pwr.stepsDone ∧ 5 ∈ s.pwr.stepsDone))
    (hn : n = (if 4 ∈ s.pwr.stepsDone then 0 else 16) + (if 5 ∈ s.pwr.stepsDone then 0 else 32)) :
    doEmergOverrun s = park (raise 0x0F0D [.h n] s) := by
  have hl : (List.range 8).foldl (fun n k => if (k = 4 ∨ k = 5) ∧ !s.pwr.stepsDone.contains k then n + 2 ^ k else n) 0 = n := by
    have hr : List.range 8 = [0, 1, 2, 3, 4, 5, 6, 7] := rfl
    rw [hr, hn]
    by_cases h4 : 4 ∈ s.pwr.stepsDone <;> by_cases h5 : 5 ∈ s.pwr.stepsDone <;> simp [h4, h5]
  unfold doEmergOverrun
  rw [if_pos ⟨hp, ht, by rw [Bool.not_eq_true', decide_eq_false_iff_not]; simpa using hd⟩, hl]

theorem enterBoot_leaves (c : StartCause) (s : State) : (enterBoot c s).tmb = s.tmb ∧ (enterBoot c s).fus = s.fus ∧
    (enterBoot c s).sup = s.sup ∧ (enterBoot c s).cfg = s.cfg ∧ (enterBoot c s).flt.ring = s.flt.ring ∧
    (enterBoot c s).flt.windows = s.flt.windows := by
  unfold enterBoot
  extract_lets s1 s2 s3
  refine ⟨?_, ?_, ?_, ?_, ?_, ?_⟩
  · rw [setHead_tmb]; rfl
  · rw [setHead_fus]; rfl
  · rw [setHead_sup]; rfl
  · rw [setHead_cfg]; rfl
  · rw [setHead_flt]; rfl
  · rw [setHead_flt]; rfl

/-- R829: what the return of mains sets in the power block. -/
theorem enterBoot_pwr (c : StartCause) (s : State) : (enterBoot c s).pwr =
    { s.pwr with pf := .normal, mainsOk := true, parked := false, sleeping := false, stepsDone := [], pfStep := 0 } := by
  unfold enterBoot
  extract_lets s1 s2 s3
  rw [setHead_pwr]
  rfl

/-- R898: the milliseconds of a park go into the figures of availability alone. -/
theorem avParked_leaves (ms : Nat) (s : State) : (avParked ms s).tmb = s.tmb ∧ (avParked ms s).fus = s.fus ∧ (avParked ms s).sup = s.sup ∧
    (avParked ms s).cfg = s.cfg ∧ (avParked ms s).flt.ring = s.flt.ring ∧ (avParked ms s).flt.windows = s.flt.windows ∧
    (avParked ms s).pwr = s.pwr ∧ (avParked ms s).mem = s.mem := by
  unfold avParked
  split <;> exact ⟨rfl, rfl, rfl, rfl, rfl, rfl, rfl, rfl⟩

/-- R829: the state in which a head whose mains has returned starts BOOT. -/
def returned (ms : Nat) (s : State) : State :=
  (((dieOff .park s).onSup fun x => { x with
    hold := false, l2Win := [], lastExpiry := none, powerOn := satAdd 32 x.powerOn 1, commitDue := true, held := []
    requests := [], deferred := none, coreDown := false, dieDown := false }).onFlt fun f => { f with windows := [] }).onPwr fun p =>
      { p with parkMs := ms }

theorem returned_effect (ms : Nat) (s : State) : (returned ms s).pwr.parkMs = ms ∧ (returned ms s).tmb = {} ∧
    (returned ms s).flt.ring = s.flt.ring ∧ (returned ms s).flt.windows = [] ∧ (returned ms s).fus = s.fus ∧
    (returned ms s).sup.powerOn = satAdd 32 s.sup.powerOn 1 ∧ (returned ms s).sup.causes = s.sup.causes ∧
    (returned ms s).cfg.nor = s.cfg.nor ∧ (returned ms s).cfg.keyMem = s.cfg.keyMem ∧ (returned ms s).mem = [] :=
  ⟨rfl, rfl, rfl, rfl, rfl, rfl, rfl, rfl, rfl, rfl⟩

/-- R829: mains that returns to a parked head starts BOOT from what the die's reset leaves. -/
theorem doParkRestart_parked {s : State} {ms : Nat} (hp : s.pwr.parked = true) (ha : s.pwr.aon = true) (hh : s.sup.hold = false) :
    doParkRestart ms s = enterBoot .park (bootPeriod (avParked ms (returned ms s))) := by
  have hd : (dieOff .park s).sup.hold = false := hh
  unfold doParkRestart
  rw [if_neg (by rw [hp, ha]; decide)]
  dsimp only
  rw [hd]
  rfl

/-- What the start of BOOT after a park leaves of the state that it begins with. -/
theorem bootAfterPark_leaves (ms : Nat) (u : State) : (enterBoot .park (bootPeriod (avParked ms u))).tmb = u.tmb ∧
    (enterBoot .park (bootPeriod (avParked ms u))).fus = u.fus ∧
    (enterBoot .park (bootPeriod (avParked ms u))).sup = { u.sup with elapsed := 0, elapsedPart := 0, bootPer := true } ∧
    (enterBoot .park (bootPeriod (avParked ms u))).cfg = u.cfg ∧
    (enterBoot .park (bootPeriod (avParked ms u))).flt.ring = u.flt.ring ∧
    (enterBoot .park (bootPeriod (avParked ms u))).flt.windows = u.flt.windows ∧
    (enterBoot .park (bootPeriod (avParked ms u))).pwr =
      { u.pwr with pf := .normal, mainsOk := true, parked := false, sleeping := false, stepsDone := [], pfStep := 0 } ∧
    (enterBoot .park (bootPeriod (avParked ms u))).mem = u.mem := by
  obtain ⟨a1, a2, a3, a4, a5, a6, a7, a8⟩ := avParked_leaves ms u
  obtain ⟨b1, b2, b3, b4, b5, b6⟩ := enterBoot_leaves .park (bootPeriod (avParked ms u))
  obtain ⟨_, _, _, _, _, c6⟩ := enterBoot_effect .park (bootPeriod (avParked ms u))
  have hs : (bootPeriod (avParked ms u)).sup = { u.sup with elapsed := 0, elapsedPart := 0, bootPer := true } := by
    rw [← a3]
    rfl
  have hp : (bootPeriod (avParked ms u)).pwr = u.pwr := a7
  refine ⟨b1.trans a1, b2.trans a2, b3.trans hs, b4.trans a4, b5.trans a5, b6.trans a6, ?_, c6.trans a8⟩
  rw [enterBoot_pwr, hp]

/-- What the loss of the always-on domain does to a parked or sleeping head. -/
theorem doAlwaysOnPowerLoss_effect {s : State} (ha : s.pwr.aon = true) (h : s.pwr.parked = true ∨ s.head.st = .sleep) :
    ∃ u, doAlwaysOnPowerLoss s = setHead .off u ∧ u.pwr.aon = false ∧ u.pwr.parked = false ∧ u.sup.wdgRun = false ∧
      u.tmb.run = false ∧ u.rru.sysPll = .off ∧ u.regs = s.regs ∧ u.mem = s.mem ∧ u.cfg = s.cfg := by
  refine ⟨_, if_pos ⟨ha, ?_⟩, rfl, rfl, rfl, rfl, rfl, rfl, rfl, rfl⟩
  exact h.elim .inl fun h => .inr (.inl h)

/-- Settles O55: the steps of the park by the steps that have ended, the returns by what they set after the die's reset. -/
theorem parkAndReturn : Obligations.ParkAndReturn := by
  refine ⟨fun s hp h4 ht => ?_, fun s hp hs ht => ?_, fun s hp h4 h5 => ⟨?_, ?_⟩, fun s hp ht h4 h5 => ⟨?_, ?_⟩, fun s hp ht h4 h5 => ?_,
    fun s => ?_, fun s ms hp ha hh => ?_, fun s ms h => ?_, fun s ha h => ?_⟩
  · exact congrArg Host.Outcome.next ((doLinkHoldExpired_due ht (.inl ⟨hp, h4⟩)).trans (if_pos hp))
  · refine congrArg Host.Outcome.next ((doLinkHoldExpired_due ht (.inr hs)).trans (if_neg ?_))
    exact fun h => absurd (hp.symm.trans h) (by decide)
  · exact congrArg Host.Outcome.next (doParked_done hp h4 h5)
  · exact congrArg Host.Outcome.next (doEmergOverrun_done h4 h5)
  · refine congrArg Host.Outcome.next (doEmergOverrun_left hp ht (fun h => h5 h.2) ?_)
    rw [if_pos h4, if_neg h5]
  · exact congrArg Host.Outcome.next (doParked_not_done h5)
  · refine congrArg Host.Outcome.next (doEmergOverrun_left hp ht (fun h => h4 h.1) ?_)
    rw [if_neg h4, if_pos h5]
  · have hk : Keeps ⟨true, true, true, true, true⟩ s (park s) := keeps_park keeps_refl
    obtain ⟨h1, h2, h3, h4, h5, h6⟩ := park_effect s
    exact ⟨h1, h2, h3, h4, h5, h6, hk.tb rfl, hk.wires rfl⟩
  · obtain ⟨u1, u2, u3, u4, u5, u6, u7, u8, u9, u10⟩ := returned_effect ms s
    obtain ⟨b1, b2, b3, b4, b5, b6, b7, b8⟩ := bootAfterPark_leaves ms (returned ms s)
    obtain ⟨c1, c2, _, c4, _, _⟩ := enterBoot_effect .park (bootPeriod (avParked ms (returned ms s)))
    refine ⟨_, congrArg Host.Outcome.next (doParkRestart_parked hp ha hh), c1, c2, ?_, ?_, ?_, ?_, ?_, ?_, c4, b5.trans u3, b6.trans u4,
      b2.trans u5, ?_, ?_, ?_, ?_, ?_, b8.trans u10⟩
    · rw [b7]
    · rw [b7]
    · rw [b7]
    · rw [b7]; exact u1
    · rw [b1, u2]
    · rw [b1, u2]
    · rw [b3]; exact u6
    · rw [b3]; exact u7
    · rw [b3]
    · rw [b4, u8]
    · rw [b4, u9]
  · exact congrArg Host.Outcome.next (if_pos (by rcases h with h | h <;> simp [h]))
  · obtain ⟨u, hu, h1, h2, h3, h4, h5, h6, h7, h8⟩ := doAlwaysOnPowerLoss_effect ha h
    exact ⟨_, congrArg Host.Outcome.next hu, setHead_st _ _, by rw [setHead_pwr]; exact h1, by rw [setHead_pwr]; exact h2,
      by rw [setHead_sup]; exact h3, by rw [setHead_tmb]; exact h4, by rw [setHead_rru]; exact h5, by rw [setHead_regs]; exact h6,
      by rw [setHead_mem]; exact h7, by rw [setHead_cfg]; exact h8⟩

end Sys2Proof.Machine
end

section
namespace Sys2Proof.Machine

/-! ### O56: the watchdog and the clock monitor -/

theorem storeEntry_sup (e : LogEntry) (s : State) : (storeEntry e s).sup = s.sup := by
  unfold storeEntry
  extract_lets e1 s1 s2
  split
  · exact setRaw_sup _ _ _
  · obtain ⟨g, h⟩ := pushToStreams_onLnk e1 (pushToSessions e1 false s2)
    rw [h]
    rfl

theorem logEntry_sup (e : LogEntry) (s : State) : (logEntry e s).sup = s.sup := by
  unfold logEntry
  extract_lets s1
  have h : s1.sup = s.sup := by
    simp only [s1]
    split <;> rfl
  rw [← h]
  split
  · rfl
  · exact storeEntry_sup _ _

theorem touchWindows_sup (s : State) : (touchWindows s).sup = s.sup := rfl

theorem raiseF_sup (f : Fld) (x : Nat) (s : State) : (raiseF f x s).sup = s.sup := rfl

/-- The supervision without the requests to the ladder that wait. -/
def Sup.unasked (x : Sup) : Sup := { x with requests := [] }

/-- R848: an event changes nothing of the supervision but the requests to the ladder. -/
theorem unasked_raiseSev (code : Nat) (sev : Severity) (level : Nat) (fs : List DetailField) (s : State) :
    (raiseSev code sev level fs s).sup.unasked = s.sup.unasked := by
  unfold raiseSev
  extract_lets s1 d
  have h1 : s1.sup = s.sup := rfl
  rw [← h1]
  split
  · split <;> rfl
  · split
    · rw [← logEntry_sup (makeEntry s1 code sev level d) s1]
      split <;> rfl
    · extract_lets e s2 s3 s4 s5
      have h5 : s5.sup = s1.sup :=
        (logEntry_sup _ s4).trans ((raiseF_sup _ _ s3).trans ((touchWindows_sup s2).trans (logEntry_sup _ s1)))
      rw [← h5]
      rfl

/-- R871: an event of a block other than FLT sets its EVT bit, whatever its severity and level. -/
theorem getF_evt_raiseSev {code : Nat} {sev : Severity} {level : Nat} {fs : List DetailField} {s : State} (h : (evtField code).addr ≠ A.FLT_CNT ∧
    (evtField code).addr ≠ (evtField 0x1102).addr ∧ (evtField code).lo < 32 ∧ (evtField code).w = 1) :
    getF (raiseSev code sev level fs s) (evtField code) = 1 := by
  obtain ⟨hf, hx, hl, hw⟩ := h
  have h1 : getF (setF (evtField code) 1 s) (evtField code) = 1 := (getF_setF (by omega)).trans (congrArg (fun n => 1 % 2 ^ n) hw)
  have hlog : ∀ (e : LogEntry) (t : State), getF (logEntry e t) (evtField code) = getF t (evtField code) :=
    fun e t => congrArg (evtField code).get (rawReg_logEntry hf)
  unfold raiseSev
  extract_lets s1 d
  rw [← h1]
  split
  · split <;> rfl
  · split
    · split <;> exact hlog _ _
    · exact (hlog _ _).trans ((getF_setF_addr_ne hx).trans (hlog _ _))

theorem regWrite_sup {who : Initiator} {a : Nat} {v : Word} {s : State} (ha : a / 0x10000 = 0x10) :
    regWrite who a v s = writeSup who a v s := by
  unfold regWrite
  rw [ha]
  rfl

theorem busPut_service {who : Initiator} {v : Word} {s : State} (hu : busOpen s who = true) :
    busPut who A.SUP_WDG_SVC v s = serviceWrite who v s := by
  rw [busPut_plain hu (by decide), regWrite_sup (by decide)]
  unfold writeSup
  rw [if_pos rfl]
  cases who <;> rfl

/-- R839, R840: a service of the management core or of JTAG. -/
theorem serviceWrite_host {who : Initiator} {v : Word} {s : State} (hw : who = .core ∨ who = .jtag) :
    serviceWrite who v s = if v != 0xC35A then when s.sup.wdgRun (expire 2) s
      else if s.sup.wdgRun && !wdgOpen s then expire 1 s else acceptService s := by
  obtain rfl | rfl := hw <;> rfl

theorem acceptService_of_run {s : State} (h : s.sup.wdgRun = true) : acceptService s = { s with
      sup := { s.sup with elapsed := 0, elapsedPart := 0, bootPer := false, periodInForce := getF s R.SUP_WDG_CTRL_PERIOD }
      flt := { s.flt with windows := s.flt.windows.filter fun w => w.level != 1 } } := by
  unfold acceptService when
  dsimp only
  rw [if_pos h]
  rfl

theorem period_get (v : Word) : R.SUP_WDG_CTRL_PERIOD.get v = v.toNat % 2 ^ 14 :=
  congrArg (· % 2 ^ 14) (Nat.div_one v.toNat)

/-- The bits of PERIOD are those that a write of an open block can change. -/
theorem period_mask : ∀ (now : Bool) (i : Fin 14),
    (maskOf (fun d => !d.sensed && (d.acc == .rw || (d.acc == .rwl && !false) || (d.acc == .rws && now)))
      (fieldsAt A.SUP_WDG_CTRL)).getLsbD i = true := by decide

theorem wdgCtrl_register : wordDefined A.SUP_WDG_CTRL = true ∧ maskOf (fun d => d.acc == .w1c) (fieldsAt A.SUP_WDG_CTRL) = 0 ∧
    maskOf (fun d => d.acc == .w1s && !d.sensed) (fieldsAt A.SUP_WDG_CTRL) = 0 := by decide

/-- A plain write gives a bit that the block's lock and the raster let it change its value. -/
theorem plainWrite_bit_of_mask {a i : Nat} {v : Word} {s : State}
    (h : (maskOf (fun d => !d.sensed && (d.acc == .rw || (d.acc == .rwl && !lockedBlock s (a / 0x10000)) || (d.acc == .rws && noRaster s)))
      (fieldsAt a)).getLsbD i = true)
    (hc : (maskOf (fun d => d.acc == .w1c) (fieldsAt a)).getLsbD i = false) :
    (rawReg (plainWrite a v s) a).getLsbD i = v.getLsbD i := by
  have hi : i < 32 := BitVec.lt_of_getLsbD h
  rw [rawReg_plainWrite, clearBits]
  simp only [BitVec.getLsbD_and, BitVec.getLsbD_or, BitVec.getLsbD_not, h, hc, hi, decide_true, Bool.not_true, Bool.and_false,
    Bool.false_or, Bool.and_true, Bool.false_and, Bool.not_false]

/-- R841: the PERIOD that a write leaves, while the block is not locked. -/
theorem period_plainWrite {v : Word} {s : State} (hl : lockedBlock s 0x10 = false) :
    getF (plainWrite A.SUP_WDG_CTRL v s) R.SUP_WDG_CTRL_PERIOD = v.toNat % 2 ^ 14 := by
  obtain ⟨-, hc, -⟩ := wdgCtrl_register
  have hl' : lockedBlock s (A.SUP_WDG_CTRL / 0x10000) = false := hl
  rw [← period_get]
  exact Fld.get_congr fun i _ hi => plainWrite_bit_of_mask (by rw [hl']; exact period_mask (noRaster s) ⟨i, hi⟩)
    (by rw [hc]; exact BitVec.getLsbD_zero)

theorem setLock_wdgCtrl (v : Word) (s : State) : setLock A.SUP_WDG_CTRL v s = s := by
  obtain ⟨-, -, hm⟩ := wdgCtrl_register
  unfold setLock
  rw [hm]
  simp

/-- R868: a write of `SUP_WDG_CTRL` with a PERIOD in range is taken; EN = 1 starts the watchdog. -/
theorem writeSup_wdgCtrl {who : Initiator} {v : Word} {s : State} (h1 : 1 ≤ v.toNat % 2 ^ 14) (h2 : v.toNat % 2 ^ 14 ≤ 16000) :
    (writeSup who A.SUP_WDG_CTRL v s).2 = when (v.getLsbD 31) startWatchdog (plainWrite A.SUP_WDG_CTRL v s) := by
  have hr : supRangeOk A.SUP_WDG_CTRL v = true := by
    unfold supRangeOk
    dsimp only
    rw [if_pos rfl, period_get, decide_eq_true h1, decide_eq_true h2]
    rfl
  unfold writeSup
  rw [if_neg (by decide), hr, if_neg (by decide), if_neg (by decide), if_pos rfl, get_bit_eq_one rfl]
  rfl

theorem busPut_wdgCtrl {who : Initiator} {v : Word} {s : State} (hu : busOpen s who = true) (hl : lockedBlock s 0x10 = false) :
    busPut who A.SUP_WDG_CTRL v s = (writeSup who A.SUP_WDG_CTRL v s).2 := by
  obtain ⟨hd, -, -⟩ := wdgCtrl_register
  rw [busPut_unlocked hu hd (tenantBarred_register (.inr (by decide))) (by decide) hl, setLock_wdgCtrl, regWrite_sup (by decide)]

theorem startWatchdog_of_off {s : State} {p : Nat} (h : s.sup.wdgRun = false) (hp : getF s R.SUP_WDG_CTRL_PERIOD = p) :
    startWatchdog s = raise 0x100B [.h p]
      { s with sup := { s.sup with wdgRun := true, elapsed := 0, elapsedPart := 0, periodInForce := p } } := by
  subst hp
  exact if_neg (by rw [h]; decide)

theorem logOnly_expire (cause : Nat) (s : State) : LogOnly s (expire cause s) := by
  unfold expire
  extract_lets s1 s2
  exact (logOnly_onSup _ s).trans ((logOnly_raiseLadder _ _ _ s1).trans (logOnly_onSup _ s2))

/-- R848, R864: an expiry counts and restarts the count; its request to the ladder is the last of those that wait. -/
theorem expire_sup (cause : Nat) (s : State) : (expire cause s).sup.elapsed = 0 ∧ (expire cause s).sup.wdgTotal = satAdd 32 s.sup.wdgTotal 1 ∧
    ∃ e, (expire cause s).sup.requests.getLast? = some e ∧ e.code = 0x1001 ∧ e.expiry = true := by
  refine ⟨rfl, ?_, _, List.getLast?_concat, rfl, rfl⟩
  unfold expire raiseLadder
  extract_lets s1 e
  exact (congrArg Sup.wdgTotal (unasked_raiseSev _ _ _ _ s1) :)

theorem clockTrips_onSup (s : State) (g : Sup → Sup) (n : Nat) : clockTrips (s.onSup g) n = clockTrips s n := rfl

/-- R846: a window whose count is in its range is only kept. -/
theorem clockWindow_steady {n : Nat} {s : State} (ho : s.head.st ≠ .off) (hn : n < 65536) (ht : clockTrips s n = false) :
    clockWindow n s = { s with sup := { s.sup with monCount := n } } := by
  unfold clockWindow
  dsimp only
  rw [if_neg ho, clockTrips_onSup, ht, if_neg (fun h => absurd h.1 (by decide)), Nat.min_eq_right (by omega)]
  rfl

theorem clockWindow_trip {n : Nat} {s : State} (ho : s.head.st ≠ .off) (hn : n < 65536) (ht : clockTrips s n = true)
    (hf : s.sup.fallback = false) :
    clockWindow n s = expire 3 (raise 0x100A [.h n] { s with sup := { s.sup with monCount := n, fallback := true } }) := by
  unfold clockWindow
  dsimp only
  rw [if_neg ho, clockTrips_onSup, ht, if_pos ⟨rfl, (congrArg not hf :)⟩, Nat.min_eq_right (by omega)]
  rfl

theorem clockTrips_fast {n : Nat} {s : State} (hr : s.tmb.run = true) (hp : s.rru.sysPll = .locked) :
    clockTrips s n = (decide (n < 3000) || decide (5000 < n)) := by
  have hw : slowWindow s = false := by
    unfold slowWindow
    rw [hr, hp]
    rfl
  exact if_neg (by rw [hw]; decide)

theorem clockTrips_slow {n : Nat} {s : State} (hr : s.tmb.run = false) : clockTrips s n = (decide (n < 2930) || decide (4882 < n)) := by
  have hw : slowWindow s = true := by
    unfold slowWindow
    rw [hr]
    rfl
  exact if_pos hw

/-- R866: outside SLEEP a window of the clock monitor wakes nothing. -/
theorem doClockMonitorWindow_awake {n : Nat} {s : State} (ha : asleep s = false) : doClockMonitorWindow n s = clockWindow n s := by
  unfold doClockMonitorWindow
  dsimp only
  rw [ha]
  rfl

theorem doWdgExpiry_of_run {s : State} (hr : s.sup.wdgRun = true) (ha : asleep s = false) (ho : s.head.st ≠ .off)
    (hs : s.head.romServes = false) (hf : s.sup.fallback = false) :
    doWdgExpiry s = expire 0 { s with sup := { s.sup with elapsed := wdgCycles s } } := by
  unfold doWdgExpiry
  dsimp only
  refine (if_pos (by rw [hr, ha, hs, bne_iff_ne.mpr ho]; rfl)).trans ?_
  exact congrArg (fun n => expire 0 (s.onSup fun x => { x with elapsed := n })) (if_neg (by rw [hf]; decide))

theorem doWdgExpiry_of_off {s : State} (hr : s.sup.wdgRun = false) : doWdgExpiry s = s := by
  unfold doWdgExpiry
  rw [hr]
  rfl

theorem busOpen_lcp {s : State} {n : Nat} (h : busUp s = true) : busOpen s (.lcp n) = true := by
  unfold busOpen
  rw [h]
  rfl

/-- Settles O56. -/
theorem watchdogAndClockMonitor : Obligations.WatchdogAndClockMonitor := by
  unfold Obligations.WatchdogAndClockMonitor
  refine ⟨fun s who hu hw hr ho => ?_, fun s who hu hw hr ho => ?_, fun s who v hu hw hr hv => ?_, fun s who v hu hw hr hv => ?_,
    fun s n v hu => ?_, fun s who v hu hl hr he h1 h2 => ?_, fun s hr ha ho hs hf => ?_, fun s hr => ?_, fun s n ho ha hr hp h1 h2 => ?_,
    fun s n ho ha hr hp hf hn h3 => ?_, fun s n ho ha hr h1 h2 => ?_, fun s cause => ?_⟩
  · refine congrArg Host.Outcome.next ((busPut_service hu).trans ((serviceWrite_host hw).trans ?_))
    rw [hr, ho]
    exact acceptService_of_run hr
  · refine congrArg Host.Outcome.next ((busPut_service hu).trans ((serviceWrite_host hw).trans ?_))
    rw [hr, ho]
    rfl
  · refine congrArg Host.Outcome.next ((busPut_service hu).trans ((serviceWrite_host hw).trans ?_))
    exact (if_pos (bne_iff_ne.mpr hv)).trans (if_pos hr)
  · refine congrArg Host.Outcome.next ((busPut_service hu).trans ((serviceWrite_host hw).trans ?_))
    exact (if_pos (bne_iff_ne.mpr hv)).trans (if_neg (by rw [hr]; decide))
  · exact congrArg Host.Outcome.next (busPut_service (busOpen_lcp hu))
  · refine ⟨_, _, rfl, rfl, (busPut_wdgCtrl hu hl).trans ((writeSup_wdgCtrl h1 h2).trans ?_)⟩
    refine (if_pos he).trans (startWatchdog_of_off ?_ (period_plainWrite hl))
    rw [plainWrite_sup]
    exact hr
  · exact congrArg Host.Outcome.next (doWdgExpiry_of_run hr ha ho hs hf)
  · exact congrArg Host.Outcome.next (doWdgExpiry_of_off hr)
  · refine congrArg Host.Outcome.next ((doClockMonitorWindow_awake ha).trans (clockWindow_steady ho (by omega) ?_))
    rw [clockTrips_fast hr hp, decide_eq_false (by omega), decide_eq_false (by omega)]
    rfl
  · refine congrArg Host.Outcome.next ((doClockMonitorWindow_awake ha).trans (clockWindow_trip ho h3 ?_ hf))
    rw [clockTrips_fast hr hp]
    obtain h | h := hn
    · rw [decide_eq_true h]
      rfl
    · rw [decide_eq_true h, Bool.or_true]
  · refine congrArg Host.Outcome.next ((doClockMonitorWindow_awake ha).trans (clockWindow_steady ho (by omega) ?_))
    rw [clockTrips_slow hr, decide_eq_false (by omega), decide_eq_false (by omega)]
    rfl
  · obtain ⟨he, ht, hr⟩ := expire_sup cause s
    have hlog := logOnly_expire cause s
    refine ⟨he, ht, hr, ?_, hlog.tmb, hlog.rru, hlog.mem⟩
    exact getF_evt_raiseSev (by decide)

end Sys2Proof.Machine
end

section
namespace Sys2Proof.Machine

/-! ### O57: the ends of restarts and of a deferral -/

/-- What a restart of the management core sets besides its requests: the head, the supervision and the debug halt. -/
structure RestartView where
  head : Head
  sup : Sup
  halted : Bool

/-- The restart view of a state. -/
def restartView (s : State) : RestartView := ⟨s.head, s.sup.unasked, s.tmb.halted⟩

theorem restartView_of_parts {s t : State} (h : LogOnly s t) (hs : t.sup.unasked = s.sup.unasked) : restartView t = restartView s := by
  unfold restartView
  rw [h.head, hs, h.tmb]

theorem restartView_raise (code : Nat) (fs : List DetailField) (s : State) : restartView (raise code fs s) = restartView s :=
  restartView_of_parts (logOnly_raise code fs s) (unasked_raiseSev _ _ _ _ s)

theorem restartView_raiseF (f : Fld) (x : Nat) (s : State) : restartView (raiseF f x s) = restartView s := rfl

theorem restartView_addF (f : Fld) (x : Nat) (s : State) : restartView (addF f x s) = restartView s := rfl

theorem restartView_onFlt (f : Flt → Flt) (s : State) : restartView (s.onFlt f) = restartView s := rfl

theorem restartView_raiseLimited (key period code : Nat) (fs : List DetailField) (s : State) :
    restartView (raiseLimited key period code fs s) = restartView s := by
  unfold raiseLimited
  extract_lets k late
  split
  · exact (restartView_raise _ _ _).trans (restartView_onFlt _ s)
  · exact (restartView_addF _ _ _).trans (restartView_raiseF _ _ s)

theorem restartView_timerEvent (u code number : Nat) (restarted : Bool) (s : State) :
    restartView (timerEvent u code number restarted s) = restartView s := by
  unfold timerEvent
  extract_lets x fresh y s1 e s2
  split
  · exact restartView_raiseF _ _ s
  · split
    · rfl
    · exact (restartView_raiseLimited _ _ _ _ s2).trans rfl

/-- R134: the EVENTs of the flags change nothing of a restart. -/
theorem restartView_sendSetFlags (restarted : Bool) (s : State) : restartView (sendSetFlags restarted s) = restartView s := by
  unfold sendSetFlags
  refine forEach_leaves (g := restartView) (fun u t => ?_) s
  extract_lets bits t1
  have h1 : restartView t1 = restartView t := by
    refine forEach_leaves (g := restartView) (fun c x => ?_) t
    unfold when
    split
    · exact restartView_timerEvent _ _ _ _ x
    · rfl
  rw [← h1]
  unfold when
  split
  · exact restartView_timerEvent _ _ _ _ t1
  · rfl

theorem freeRecovered_head (s : State) : (freeRecovered s).head = s.head := by
  refine forEach_leaves (g := State.head) (fun r t => ?_) s
  split <;> rfl

theorem takeFirmware_head (s : State) : (takeFirmware s).head = s.head := by
  unfold takeFirmware
  split
  · rfl
  · extract_lets v s1
    split
    · exact (logOnly_raise _ _ _).head
    · rfl

theorem sendSetFlags_head (restarted : Bool) (s : State) : (sendSetFlags restarted s).head = s.head :=
  congrArg RestartView.head (restartView_sendSetFlags restarted s)

theorem flushThreadEvents_head (s : State) : (flushThreadEvents s).head = s.head :=
  (logOnly_forEach _ _ (fun _ t => logOnly_onLcp _ t) (s.onTge fun g => { g with heldEvents := [] })).head

theorem freeLease_head (r : Nat) (s : State) : (freeLease r s).head = s.head := rfl

theorem deferCheckpoint_head (cause : Nat) (s : State) : (deferCheckpoint cause s).head = s.head := by
  unfold deferCheckpoint
  extract_lets first s1 s2
  have h1 : s1.head = s.head := (freeLease_head 6 _).trans (logOnly_addF _ _ (dropStore .checkpoint s)).head
  have h2 : s2.head = s1.head := rfl
  rw [← h1, ← h2]
  split
  · exact (logOnly_raise _ _ s2).head
  · rfl

theorem askStore_head (op : StoreOp) (u : StoreUser) (s : State) : (askStore op u s).head = s.head := by
  unfold askStore
  split <;> rfl

theorem doCtgCheckpointDue_head (s : State) : (doCtgCheckpointDue s).head = s.head := by
  unfold doCtgCheckpointDue askCheckpoint
  split
  · split
    · rfl
    · split
      · exact deferCheckpoint_head 1 s
      · exact askStore_head _ _ (takeLease 6 8 s)
  · rfl

theorem setHead_locks (st : HeadState) (s : State) : (setHead st s).head.locks = s.head.locks := by
  unfold setHead
  split <;> rfl

theorem imageFault_locks (s : State) : (imageFault s).head.locks = s.head.locks := by
  unfold imageFault
  exact (setHead_locks _ _).trans (congrArg PowerView.locks (powerView_enginesOff true _) :)

theorem showFault_head (f : ImgFault) (s : State) : (showFault f s).head = s.head := (logOnly_raise _ _ _).head

theorem takeUpKey_locks (s : State) : (takeUpKey s).head.locks = s.head.locks := by
  unfold takeUpKey
  extract_lets s1
  have h1 : s1.head = s.head := (readKeyTable_head _).trans (logOnly_raise _ _ s).head
  rw [← h1]
  split
  · unfold beginRead
    extract_lets s2
    split
    · rfl
    · exact (imageFault_locks _).trans (congrArg Head.locks (showFault_head _ s2))
  · rfl

/-! #### Level 1 -/

theorem restartView_restartCalStore (s : State) : restartView (restartCalStore s) = restartView s := by
  unfold restartCalStore
  split <;> rfl

theorem doDebugHaltEnd_running (s : State) : (doDebugHaltEnd s).head = s.head ∧ (doDebugHaltEnd s).sup.unasked = s.sup.unasked ∧
    (doDebugHaltEnd s).tmb.halted = false := by
  unfold doDebugHaltEnd
  split
  · have h := restartView_sendSetFlags false (s.onTmb fun t => { t with halted := false })
    exact ⟨(congrArg RestartView.head h :), (congrArg RestartView.sup h :), (congrArg RestartView.halted h :)⟩
  · next h => exact ⟨rfl, rfl, Bool.eq_false_iff.mpr h⟩

/-- R439, R844, R850: the management core is in its restart, and no debug halt is left. -/
theorem restartCore_view (s : State) : (restartCore s).head = { s.head with coreRestart := true } ∧
    (restartCore s).sup.unasked = s.sup.unasked ∧ (restartCore s).tmb.halted = false := by
  unfold restartCore
  obtain ⟨hh, hs, hl⟩ := doDebugHaltEnd_running (restartCalStore (s.onHead fun h => { h with coreRestart := true }))
  have hv := restartView_restartCalStore (s.onHead fun h => { h with coreRestart := true })
  exact ⟨hh.trans (congrArg RestartView.head hv), hs.trans (congrArg RestartView.sup hv), hl⟩

theorem level1_effect (e : LadderEvent) (s : State) : (level1 e s).sup.l1 = satAdd 32 s.sup.l1 1 ∧ (level1 e s).head.coreRestart = true ∧
    (level1 e s).sup.bootPer = true ∧ (level1 e s).sup.elapsed = 0 ∧ (level1 e s).tmb.halted = false ∧
    getF (level1 e s) (evtField 0x1002) = 1 := by
  unfold level1
  extract_lets s1
  obtain ⟨hh, hs, hl⟩ := restartCore_view s1
  have hv : restartView (openWindow 1 e.code [] (raise 0x1002 [.h e.code] (bootPeriod (restartCore s1)))) =
      restartView (bootPeriod (restartCore s1)) := (restartView_onFlt _ _).trans (restartView_raise _ _ _)
  refine ⟨?_, ?_, ?_, ?_, ?_, ?_⟩
  · exact (congrArg (fun v => v.sup.l1) hv).trans (congrArg Sup.l1 hs)
  · exact (congrArg (fun v => v.head.coreRestart) hv).trans (congrArg Head.coreRestart hh)
  · exact (congrArg (fun v => v.sup.bootPer) hv :)
  · exact (congrArg (fun v => v.sup.elapsed) hv :)
  · exact (congrArg RestartView.halted hv).trans hl
  · exact getF_evt_raise (by decide)

/-! #### The end of the die's restart -/

theorem moveTod_frame (d : Int) (s : State) : (moveTod d s).tmb.tb = s.tmb.tb ∧ (moveTod d s).tmb.run = s.tmb.run ∧
    (moveTod d s).head = s.head ∧ (moveTod d s).rru = s.rru ∧ (moveTod d s).fus = s.fus ∧ (moveTod d s).sup = s.sup :=
  ⟨rfl, rfl, rfl, rfl, rfl, rfl⟩

theorem unasked_raise (code : Nat) (fs : List DetailField) (s : State) : (raise code fs s).sup.unasked = s.sup.unasked :=
  unasked_raiseSev _ _ _ _ s

/-- TB and the count of a make-up, set to values that are kept opaque: the kernel never computes them. -/
theorem setTb_frame (g : BitVec 64 → BitVec 64) (m : Nat) (s t : State) (h : t = s.onTmb fun x => { x with tb := g x.tb, makeup := m }) :
    t.tmb.tb = g s.tmb.tb ∧ t.tmb.run = s.tmb.run ∧ t.head = s.head ∧ t.rru = s.rru ∧ t.fus = s.fus ∧ t.sup = s.sup := by
  subst h
  exact ⟨rfl, rfl, rfl, rfl, rfl, rfl⟩

theorem makeUp_frame (ticks : Nat) (s : State) : (makeUp ticks s).tmb.tb = BitVec.ofNat 64 (s.tmb.tb.toNat + ticks * 1953125 / 256) ∧
    (makeUp ticks s).tmb.run = s.tmb.run ∧ (makeUp ticks s).head = s.head ∧ (makeUp ticks s).rru = s.rru ∧ (makeUp ticks s).fus = s.fus ∧
    (makeUp ticks s).sup.unasked = s.sup.unasked := by
  unfold makeUp
  extract_lets n s1
  obtain ⟨htb, hrun, hhead, hrru, hfus, hsup⟩ := setTb_frame (fun b => BitVec.ofNat 64 (b.toNat + n)) (min 0xFFFFFFFF ticks) s s1 rfl
  obtain ⟨mtb, mrun, mhead, mrru, mfus, msup⟩ := moveTod_frame (4 * n) s1
  generalize moveTod (4 * n) s1 = s2 at *
  have h := logOnly_raise 0x0201 [.w ticks] s2
  rw [h.tmb, h.head, h.rru, h.fus, unasked_raise, mtb, mrun, mhead, mrru, mfus, msup, htb, hrun, hhead, hrru, hfus, hsup]
  exact ⟨rfl, rfl, rfl, rfl, rfl, rfl⟩

/-- R131, R892: the state in which the recovery after a restart of the die begins: the timebase is made up and counts, and the requests that
were held go to the ladder. -/
def dieBack (slow : Nat) (s : State) : State :=
  let s := s.onSup fun x => { x with dieDown := false, coreDown := false, deferred := none }
  let s := s.onRru fun x => { x with sysPll := .locked }
  let s := makeUp slow (s.onTmb fun t => { t with run := true })
  let s := s.onFlt fun f => { f with windows := f.windows.map fun w => if w.level = 2 then { w with resets := recoveryBlocks } else w }
  let held := s.sup.held
  s.onSup fun x => { x with held := [], requests := x.requests ++ held }

/-- R892: what the firmware that is back does with the copies it finds. -/
def recoverFirmware (calOk tenOk imgOk : Bool) (s : State) : State :=
  let s := s.onHead fun h => { h with fwReady := true, cause := .level2 }
  let s := flushHeld (loadBias (s.onCfg fun c => { c with readyTb := s.now }))
  let s := trainLink (startTracker s)
  let s := loadKeys (calAfterReset calOk (s.onTen fun x => { x with copyOk := x.copyOk && tenOk }))
  let s := if s.ctg.st ≠ .absent ∧ !s.ctg.contact then removeCartridge s else takeUpCartridge s
  let s := startCooler (readKeyTable s)
  imageAfterReset (if imgOk then s else s.onCfg fun c => { c with retained := none })

theorem doDieRestartComplete_of_down {slow : Nat} {c t i : Bool} {s : State} (h : s.sup.dieDown = true) (ho : s.head.st ≠ .off) :
    doDieRestartComplete slow c t i s =
      if (dieBack slow s).head.st = .boot ∨ (dieBack slow s).pwr.pf ≠ .normal then dieBack slow s
      else recoverFirmware c t i (dieBack slow s) := by
  unfold doDieRestartComplete
  rw [if_neg (by rw [h]; exact fun hn => hn.elim (by decide) ho)]
  rfl

theorem dieBack_effect (slow : Nat) (s : State) : (dieBack slow s).sup.dieDown = false ∧ (dieBack slow s).sup.coreDown = false ∧
    (dieBack slow s).sup.deferred = none ∧ (dieBack slow s).sup.held = [] := by
  unfold dieBack
  extract_lets s1 s2 s3 s4 held
  obtain ⟨-, -, -, -, -, hs⟩ := makeUp_frame slow (s2.onTmb fun t => { t with run := true })
  exact ⟨(congrArg Sup.dieDown hs :), (congrArg Sup.coreDown hs :), (congrArg Sup.deferred hs :), rfl⟩

theorem dieBack_leaves (slow : Nat) (s : State) : (dieBack slow s).head = s.head ∧ (dieBack slow s).rru = { s.rru with sysPll := .locked } ∧
    (dieBack slow s).fus = s.fus ∧ (dieBack slow s).tmb.run = true ∧
    (dieBack slow s).tmb.tb = BitVec.ofNat 64 (s.tmb.tb.toNat + slow * 1953125 / 256) := by
  unfold dieBack
  extract_lets s1 s2 s3 s4 held
  obtain ⟨htb, hrun, hh, hr, hf, -⟩ := makeUp_frame slow (s2.onTmb fun t => { t with run := true })
  exact ⟨hh, hr, hf, hrun, htb⟩

/-- The recovery moves neither TB nor F, and clears no LOCK bit. -/
theorem keeps_recoverFirmware (calOk tenOk imgOk : Bool) (s : State) :
    Keeps ⟨true, false, true, true, true⟩ s (recoverFirmware calOk tenOk imgOk s) := by
  simp (maxDischargeDepth := 60) [recoverFirmware]

theorem doDeferTimeout_early {s : State} {t : Nat} {e : LadderEvent} (h : s.sup.deferred = some (t, e)) (ht : s.now < t + 625000000) :
    doDeferTimeout s = s := by
  unfold doDeferTimeout
  rw [h]
  exact if_pos ht

theorem doDeferTimeout_due {s : State} {t : Nat} {e : LadderEvent} (h : s.sup.deferred = some (t, e)) (ht : t + 625000000 ≤ s.now) :
    doDeferTimeout s = dieReset e (closeLevel 2 ((forEach s.pwr.running
      (fun r u => raise 0x100E [.h r.op.code, .w (spoilDevice r u).1] (spoilDevice r u).2)
      (raise 0x1006 [.h s.sup.deferOp, .h ((s.now - t) / 250000)] s)).onPwr fun p => { p with running := [] })) := by
  unfold doDeferTimeout
  rw [h]
  dsimp only
  rw [if_neg (Nat.not_lt.mpr ht), raise_pwr]
  rfl

/-- The core has left its restart; what it does next depends on the firmware. -/
theorem doCoreRestartComplete_of_restart {s x : State} (h : s.head.coreRestart = true) (hd : s.sup.dieDown = false)
    (hc : s.sup.coreDown = false) (ho : s.head.st ≠ .off) (hx : s.onHead (fun h => { h with coreRestart := false }) = x) :
    doCoreRestartComplete s = if !x.head.fwReady then freeRecovered x
      else
        let u := doCtgCheckpointDue (flushThreadEvents (sendSetFlags true (flushHeld (takeFirmware (freeRecovered x)))))
        if u.cfg.keyInSlot && !u.cfg.keyPresent then takeUpKey u else u := by
  unfold doCoreRestartComplete
  rw [if_neg (by rw [h, hd, hc]; simp [ho]), hx]
  dsimp only
  rw [freeRecovered_head]

theorem doCoreRestartComplete_bare {s : State} (h : s.head.coreRestart = true) (hd : s.sup.dieDown = false) (hc : s.sup.coreDown = false)
    (ho : s.head.st ≠ .off) (hf : s.head.fwReady = false) :
    doCoreRestartComplete s = freeRecovered { s with head := { s.head with coreRestart := false } } :=
  (doCoreRestartComplete_of_restart h hd hc ho rfl).trans (if_pos (congrArg not hf))

theorem doCoreRestartComplete_ready {s : State} (h : s.head.coreRestart = true) (hd : s.sup.dieDown = false) (hc : s.sup.coreDown = false)
    (ho : s.head.st ≠ .off) (hf : s.head.fwReady = true) {u : State}
    (hu : u = doCtgCheckpointDue (flushThreadEvents (sendSetFlags true (flushHeld (takeFirmware (freeRecovered
      { s with head := { s.head with coreRestart := false } })))))) :
    doCoreRestartComplete s = if u.cfg.keyInSlot && !u.cfg.keyPresent then takeUpKey u else u := by
  subst hu
  refine (doCoreRestartComplete_of_restart h hd hc ho rfl).trans (if_neg ?_)
  show ¬(!s.head.fwReady) = true
  rw [hf]
  decide

theorem doCoreRestartComplete_none {s : State} (h : s.head.coreRestart = false ∨ s.sup.dieDown = true) : doCoreRestartComplete s = s := by
  unfold doCoreRestartComplete
  exact if_pos (h.elim (fun h => .inl (by rw [h]; rfl)) fun h => .inr (.inl h))

theorem recovered_head (s : State) : (doCtgCheckpointDue (flushThreadEvents (sendSetFlags true (flushHeld (takeFirmware
    (freeRecovered s)))))).head = s.head := by
  rw [doCtgCheckpointDue_head, flushThreadEvents_head, sendSetFlags_head, (logOnly_flushHeld _).head, takeFirmware_head, freeRecovered_head]

/-- Settles O57. -/
theorem restartsEnd : Obligations.RestartsEnd := by
  unfold Obligations.RestartsEnd
  refine ⟨fun s h hd hc ho hf => ?_, fun s h hd hc ho hf => ?_, fun s h => ?_, fun s e => level1_effect e s, fun s slow c t i hd hb => ?_,
    fun s slow c t i hd ho => ?_, fun s slow c t i hd => ?_, fun s t e h ht => ?_, fun s t e h ht => ?_⟩
  · exact congrArg Host.Outcome.next (doCoreRestartComplete_bare h hd hc ho hf)
  · have hk := keeps_of_exec (c := .coreRestartComplete) (s := s) rfl
    refine ⟨_, _, rfl, rfl, doCoreRestartComplete_ready h hd hc ho hf rfl, hk.tb rfl, hk.f rfl, hk.wires rfl, ?_⟩
    rw [doCoreRestartComplete_ready h hd hc ho hf rfl]
    split
    · rw [takeUpKey_locks, recovered_head]
    · rw [recovered_head]
  · exact congrArg Host.Outcome.next (doCoreRestartComplete_none h)
  · obtain ⟨h1, h2, h3, h4⟩ := dieBack_effect slow s
    obtain ⟨hh, hr, -, hrun, htb⟩ := dieBack_leaves slow s
    refine ⟨dieBack slow s, congrArg Host.Outcome.next ?_, h1, h2, h3, by rw [hr], hrun, htb, h4, by rw [hh]; exact hb, by rw [hh]⟩
    rw [doDieRestartComplete_of_down hd (by rw [hb]; decide), if_pos (.inl (by rw [hh]; exact hb))]
  · obtain ⟨hh, hr, hw, -, htb⟩ := dieBack_leaves slow s
    have hk : Keeps ⟨true, false, true, true, true⟩ (dieBack slow s) (doDieRestartComplete slow c t i s) := by
      rw [doDieRestartComplete_of_down hd ho]
      split
      · exact keeps_refl
      · exact keeps_recoverFirmware c t i _
    refine ⟨_, rfl, (hk.tb rfl).trans htb, (hk.f rfl).trans (by rw [hr]), (hk.wires rfl).trans (by rw [hw]), fun b hb => hk.locks rfl b ?_⟩
    rw [hh]
    exact hb
  · exact congrArg Host.Outcome.next (if_pos (.inl (by rw [hd]; rfl)))
  · exact congrArg Host.Outcome.next (doDeferTimeout_early h ht)
  · exact congrArg Host.Outcome.next (doDeferTimeout_due h ht)

end Sys2Proof.Machine
end

section
namespace Sys2Proof.Machine

/-! ### O58: acknowledgement, the long log, handling windows and leases -/

theorem logEntry_lost {e : LogEntry} {s : State} (h : ringFull s.flt.ring = false) : (logEntry e s).flt.lostSince = s.flt.lostSince := by
  unfold logEntry
  extract_lets s1
  have h1 : s1.flt = s.flt := by
    simp only [s1]
    split <;> rfl
  rw [← h1] at h ⊢
  split
  · rfl
  · rw [storeEntry_flt_of_room h]

/-- R875, R886: an event below FAULT that is logged loses no entry where there is room. -/
theorem raise_lost {code : Nat} {fs : List DetailField} {s : State} (he : eventOnlyCodes.contains code = false)
    (hs : sevCode (severityOf code) < 2) (h : ringFull s.flt.ring = false) : (raise code fs s).flt.lostSince = s.flt.lostSince := by
  unfold raise raiseSev
  extract_lets s1 d
  have hn : nestedTarget s1 code (severityOf code) = none := by
    unfold nestedTarget
    rw [decide_eq_true hs]
    rfl
  have h1 : s1.flt = s.flt := rfl
  rw [if_neg (by rw [he]; decide), hn, ← h1] at *
  exact (congrArg (fun t : State => t.flt.lostSince) (if_neg (Nat.not_le.mpr hs))).trans (logEntry_lost h)

/-- R878: the acknowledgement is a steward's alone. -/
def acknowledges : Initiator → Bool
  | .lcp _ => true
  | _ => false

theorem regWrite_flt {who : Initiator} {a : Nat} {v : Word} {s : State} (ha : a / 0x10000 = 0x11) :
    regWrite who a v s = writeFlt (acknowledges who) a v s := by
  unfold regWrite
  rw [ha]
  cases who <;> rfl

theorem busPut_ack {who : Initiator} {v : Word} {s : State} (hu : busOpen s who = true) :
    busPut who A.FLT_ACK v s = when (acknowledges who) (ackSeq v) s := by
  rw [busPut_plain hu (by decide), regWrite_flt (by decide)]
  unfold writeFlt
  rw [if_neg (by decide), if_pos rfl]

theorem busPut_ackAll {who : Initiator} {s : State} (hu : busOpen s who = true) :
    busPut who A.FLT_CTRL 4 s = when (acknowledges who) ackAll s := by
  rw [busPut_plain hu (by decide), regWrite_flt (by decide)]
  unfold writeFlt
  rw [if_pos rfl]
  cases who <;> rfl

/-- R878: an acknowledgement that concerns an entry, with nothing lost, marks the entries and logs itself. -/
theorem acknowledge_of_any {p : LogEntry → Bool} {n : Nat} {s : State} (hl : s.flt.lostSince = 0)
    (h : ∃ e ∈ s.flt.ring, e.unackCritical = true ∧ p e = true) :
    acknowledge p n s = raise 0x1107 [.w n] { s with flt := { s.flt with
      ring := s.flt.ring.map fun e => if e.unackCritical && p e then { e with acked := true } else e } } := by
  obtain ⟨e, he, hc, hp⟩ := h
  have hany : (s.flt.ring.any fun e => e.unackCritical && p e) = true := List.any_eq_true.mpr ⟨e, he, by rw [hc, hp]; rfl⟩
  have hfree : ringFull (s.flt.ring.map fun e => if e.unackCritical && p e then { e with acked := true } else e) = false := by
    refine ringFull_of_free (o := { e with acked := true }) (List.mem_map.mpr ⟨e, he, ?_⟩) (by simp [LogEntry.unackCritical])
    rw [hc, hp]
    rfl
  unfold acknowledge
  rw [if_pos hany]
  extract_lets s1 s2 lost
  have h2 : lost = 0 := (raise_lost (s := s1) (by decide) (by decide) hfree).trans hl
  rw [h2]
  rfl

theorem acknowledge_of_none {p : LogEntry → Bool} {n : Nat} {s : State} (h : ∀ e ∈ s.flt.ring, e.unackCritical = true → p e = false) :
    acknowledge p n s = s := by
  refine if_neg ?_
  rw [List.any_eq_true]
  rintro ⟨e, he, hc⟩
  rw [Bool.and_eq_true] at hc
  rw [h e he hc.1] at hc
  exact absurd hc.2 (by decide)

theorem doLongLogAppend_of_free {s : State} (hp : s.flt.pendingLong ≠ []) (hr : storeRuns s .longLog = false)
    (ha : storeAsked s .longLog = false) (hl : (getLease s 5).st = .free) (hn : s.pwr.pf = .normal) (hf : s.head.fwReady = true) :
    doLongLogAppend s = askStore .emmcWrite .longLog (takeLease 5 longLogOwner s) := by
  have ho : leaseOpen s 5 longLogOwner = true := by
    unfold leaseOpen
    rw [hl]
    rfl
  unfold doLongLogAppend
  exact if_pos ⟨hp, by rw [hr]; rfl, by rw [ha]; rfl, ho, hn, hf⟩

/-- R819: a user that has asked for a store waits for its check. -/
theorem storeAsked_askStore (op : StoreOp) (u : StoreUser) (s : State) (hr : storeRuns s u = false) :
    storeAsked (askStore op u s) u = true := by
  unfold askStore
  split
  · next h => simpa [hr] using h
  · simp [storeAsked, State.onPwr]

theorem leaseExpired_eq {r : Fin 8} {s : State} (h : r.val ≠ 7) : doLeaseExpired r s = match (getLease s r).st with
    | .held => if s.now < (getLease s r).expires then s
      else if (leaseUsers r).any (storeRuns s) then modLease r (fun x => { x with st := .revoking, waitFrom := some s.now }) s
      else revoke r s
    | .revoking => if !(leaseUsers r).any (storeRuns s) || decide (((getLease s r).waitFrom.getD 0) + 625000000 ≤ s.now) then revoke r s else s
    | .free => s := by
  unfold doLeaseExpired
  exact if_neg h

theorem changeLease_expired {s : State} (hh : (getLease s 7).st = .held) (he : (getLease s 7).expires ≤ s.now)
    (hc : s.chg.st = .stopped) (hm : s.chg.mosaic = false) : doLeaseExpired 7 s = changeRevoked (leaseRevoked 7 s) := by
  unfold doLeaseExpired
  have hr : revoke 7 s = changeRevoked (leaseRevoked 7 s) := by
    unfold revoke
    exact if_pos rfl
  refine (if_pos rfl).trans ((if_pos ⟨hh, he, ?_, ?_, ?_⟩).trans hr)
  · rw [hc]
    decide
  · rw [hc]
    decide
  · rw [hm]
    rfl

/-- Settles O58. -/
theorem acknowledgementAndLeases : Obligations.AcknowledgementAndLeases := by
  unfold Obligations.AcknowledgementAndLeases
  refine ⟨fun s n v hu hl h => ?_, fun s n hu hl h => ?_, fun s who v hu h => ?_, fun s who n v hu hw => ?_, fun s hp hr ha hl hn hf => ?_,
    fun s hp => ?_, fun s => rfl, fun s r h7 hh he hn => ?_, fun s r h7 hh he hn => ?_, fun s r t h7 hh ht he => ?_,
    fun s r h7 hh he => ?_, fun s hh he hc hm => ?_⟩
  · obtain ⟨e, he, hc, hv⟩ := h
    refine congrArg Host.Outcome.next ((busPut_ack (busOpen_lcp hu)).trans ?_)
    exact acknowledge_of_any (p := fun e => e.seq == v) hl ⟨e, he, hc, beq_iff_eq.mpr hv⟩
  · obtain ⟨e, he, hc⟩ := h
    refine congrArg Host.Outcome.next ((busPut_ackAll (busOpen_lcp hu)).trans
      ((acknowledge_of_any (p := fun _ => true) hl ⟨e, he, hc, rfl⟩).trans ?_))
    simp only [Bool.and_true]
  · refine congrArg Host.Outcome.next ((busPut_ack hu).trans ?_)
    unfold when
    split
    · exact acknowledge_of_none fun e he hc => beq_eq_false_iff_ne.mpr (h e he hc)
    · rfl
  · have hno : acknowledges who = false := by
      simp only [List.mem_cons, List.not_mem_nil, or_false] at hw
      obtain rfl | rfl | rfl := hw <;> rfl
    refine ⟨congrArg Host.Outcome.next ((busPut_ack hu).trans ?_), congrArg Host.Outcome.next ((busPut_ackAll hu).trans ?_)⟩ <;>
      rw [hno] <;> rfl
  · exact ⟨_, congrArg Host.Outcome.next (doLongLogAppend_of_free hp hr ha hl hn hf), rfl,
      storeAsked_askStore .emmcWrite .longLog (takeLease 5 longLogOwner s) hr⟩
  · exact congrArg Host.Outcome.next (if_neg fun h => h.1 hp)
  · refine congrArg Host.Outcome.next ((leaseExpired_eq h7).trans ?_)
    rw [hh]
    exact (if_neg (Nat.not_lt.mpr he)).trans (if_neg fun h => by
      obtain ⟨u, hu, hr⟩ := List.any_eq_true.mp h
      exact absurd ((hn u hu).symm.trans hr) (by decide))
  · refine congrArg Host.Outcome.next ((leaseExpired_eq h7).trans ?_)
    rw [hh]
    exact (if_neg (Nat.not_lt.mpr he)).trans (if_pos (List.any_eq_true.mpr hn))
  · refine congrArg Host.Outcome.next ((leaseExpired_eq h7).trans ?_)
    rw [hh, ht]
    exact if_pos (by rw [decide_eq_true (show (some t).getD 0 + 625000000 ≤ s.now from he), Bool.or_true])
  · refine congrArg Host.Outcome.next ((leaseExpired_eq h7).trans ?_)
    rw [hh]
    exact if_pos he
  · exact congrArg Host.Outcome.next (changeLease_expired hh he hc hm)

end Sys2Proof.Machine
end

section
namespace Sys2Proof.Machine

/-! ### O60: bus accesses -/

/-! #### Reads that clear -/

/-- A register that the state keeps in its store alone: no field of it is sensed, staged, latched or shows a lock. -/
theorem pwrCnt_register : wordDefined A.PWR_CNT = true ∧ shadowed A.PWR_CNT = false ∧ latchCount A.PWR_CNT = 0 ∧
    maskOf (fun d => d.acc == .rc && !d.sensed) (fieldsAt A.PWR_CNT) = BitVec.allOnes 32 ∧
    maskOf (fun d => d.acc == .rws) (fieldsAt A.PWR_CNT) = 0 ∧ maskOf (fun d => d.acc == .w1s) (fieldsAt A.PWR_CNT) = 0 := by decide

theorem pwrPolicy_register : wordDefined A.PWR_POLICY = true ∧ latchCount A.PWR_POLICY = 0 ∧
    maskOf (fun d => d.acc == .rc && !d.sensed) (fieldsAt A.PWR_POLICY) = 0 := by decide

theorem latch_of_none {who : Initiator} {a : Nat} {s : State} (h : latchCount a = 0) : latch who a s = s := by
  unfold latch
  exact if_pos h

theorem clearRead_of_none {a : Nat} {s : State} (h : maskOf (fun d => d.acc == .rc && !d.sensed) (fieldsAt a) = 0) : clearRead a s = s := by
  unfold clearRead
  exact if_pos h

/-- R19: a read of a register that only counts clears it; what it counted in this tick stays. -/
theorem clearRead_counts {a : Nat} {s : State} (h : maskOf (fun d => d.acc == .rc && !d.sensed) (fieldsAt a) = BitVec.allOnes 32) :
    clearRead a s = match Tbl.get? s.fresh a with
      | some n => setRaw a n.news { s with fresh := Tbl.set s.fresh a { n with base := 0 } }
      | none => setRaw a 0 s := by
  have hn : ~~~(BitVec.allOnes 32) = (0 : Word) := by decide
  unfold clearRead
  rw [h]
  dsimp only
  rw [if_neg (by decide), hn]
  cases Tbl.get? s.fresh a with
  | none => exact congrArg (fun w => setRaw a w s) BitVec.and_zero
  | some n =>
    dsimp only
    have h0 : ∀ w : Word, w &&& 0 = 0 := fun w => BitVec.and_zero
    rw [BitVec.and_allOnes, h0, h0]
    exact congrArg (fun w => setRaw a w { s with fresh := Tbl.set s.fresh a { n with base := 0 } }) BitVec.zero_or

theorem clearRead_pwrCnt (s : State) : clearRead A.PWR_CNT s = match Tbl.get? s.fresh A.PWR_CNT with
      | some n => setRaw A.PWR_CNT n.news { s with fresh := Tbl.set s.fresh A.PWR_CNT { n with base := 0 } }
      | none => setRaw A.PWR_CNT 0 s := by
  obtain ⟨-, -, -, hrc, -, -⟩ := pwrCnt_register
  exact clearRead_counts hrc

/-- R17: a register without sensed, staged or lock bits answers what it held before the tick. -/
theorem liveWord_pwrCnt (s : State) : liveWord s A.PWR_CNT = (freshOf s A.PWR_CNT).base := by
  obtain ⟨-, -, -, -, hs, hl⟩ := pwrCnt_register
  have hn : sensedWord s A.PWR_CNT = none := rfl
  have h0 : ∀ w : Word, w &&& 0 = 0 := fun w => BitVec.and_zero
  have ho : ∀ w : Word, w ||| 0 = w := fun w => BitVec.or_zero
  have hm : ~~~(0 : Word) = BitVec.allOnes 32 := by decide
  unfold liveWord
  rw [if_pos (by decide)]
  unfold regWord
  dsimp only
  rw [hn, hs, hl, ite_self]
  dsimp only
  rw [h0, ho, ho, hm, BitVec.and_allOnes]

theorem busRead_pwrCnt (who : Initiator) (s : State) :
    busRead who A.PWR_CNT s = ((freshOf s A.PWR_CNT).base, clearRead A.PWR_CNT s) := by
  obtain ⟨hd, hs, hl, -, -, -⟩ := pwrCnt_register
  have he : ∀ t, readEffect A.PWR_CNT t = clearRead A.PWR_CNT t := fun t => rfl
  unfold busRead
  rw [hd, hs, latch_of_none hl, he, liveWord_pwrCnt]
  rfl

theorem doBusRead_of_open {who : Initiator} {a : Nat} {s : State} (h : busOpen s who = true) : doBusRead who a s = (busRead who a s).2 := by
  unfold doBusRead
  exact if_pos h

theorem busRead_pwrPolicy (who : Initiator) (s : State) : (busRead who A.PWR_POLICY s).2 = s := by
  obtain ⟨hd, hl, hc⟩ := pwrPolicy_register
  have he : ∀ t, readEffect A.PWR_POLICY t = clearRead A.PWR_POLICY t := fun t => rfl
  unfold busRead
  rw [hd, latch_of_none hl, he, clearRead_of_none hc]
  rfl

/-! #### Counters cleared and LOCK bits -/

theorem keepLocked_of_none {a : Nat} {v : Word} {s : State} (h : maskOf (fun d => d.acc == .rwl) (fieldsAt a) = 0) :
    keepLocked s a v = v := by
  have hn : ~~~(0 : Word) = BitVec.allOnes 32 := by decide
  have h0 : ∀ w : Word, w &&& 0 = 0 := fun w => BitVec.and_zero
  unfold keepLocked
  rw [h]
  split
  · dsimp only
    rw [hn, BitVec.and_allOnes, h0]
    exact BitVec.or_zero
  · rfl

/-- R15, R970: a write of a register on the bus keeps the RWL fields of a locked block, and may set the block's LOCK bit. -/
theorem busPut_locking {who : Initiator} {a : Nat} {v : Word} {s : State} (hu : busOpen s who = true) (hd : wordDefined a = true)
    (hb : tenantBarred who a = false) (ha : a < 0x130000) : busPut who a v s = setLock a v (regWrite who a (keepLocked s a v) s).2 := by
  unfold busPut busWrite
  rw [if_pos hu, hd, hb, if_neg (by decide), if_neg (by decide), if_pos ha]

/-- The control register of a block: its writes set the LOCK bit, clear the counters, and are stored nowhere. -/
def controlRegister (a : Nat) : Bool :=
  wordDefined a && decide (a < 0xC0020 ∨ 0xC0060 ≤ a ∧ a < 0x130000) && maskOf (fun d => d.acc == .rwl) (fieldsAt a) == 0

theorem busOpen_core {s : State} (h : busUp s = true) : busOpen s .core = true := by
  unfold busOpen
  rw [h]
  rfl

theorem busPut_control {a : Nat} {v : Word} {s : State} (hu : busUp s = true) (hc : controlRegister a = true) :
    busPut .core a v s = setLock a v (regWrite .core a v s).2 := by
  simp only [controlRegister, Bool.and_eq_true, decide_eq_true_eq, beq_iff_eq] at hc
  obtain ⟨⟨hd, ha⟩, hl⟩ := hc
  rw [busPut_locking (busOpen_core hu) hd (tenantBarred_register (ha.imp id fun h => ⟨h.1, by omega⟩)) (by omega), keepLocked_of_none hl]

theorem setLock_of_clear {a : Nat} {v : Word} {s : State} (h : v &&& maskOf (fun d => d.acc == .w1s && !d.sensed) (fieldsAt a) = 0) :
    setLock a v s = s := by
  unfold setLock
  rw [h]
  exact if_neg fun h => absurd h.1 (by decide)

/-- CNT_CLR of a block: the write sets no LOCK bit. -/
theorem busPut_clear {a : Nat} {v : Word} {s : State} (hu : busUp s = true)
    (h : controlRegister a = true ∧ v &&& maskOf (fun d => d.acc == .w1s && !d.sensed) (fieldsAt a) = 0) :
    busPut .core a v s = (regWrite .core a v s).2 := by
  rw [busPut_control hu h.1, setLock_of_clear h.2]

theorem counterClear_effect {s : State} (hu : busUp s = true) :
    doCounterClear 0 s = setRaw A.GLB_BUS_ERR 0 s ∧ doCounterClear 4 s = setRaw A.CRO_CNT 0 s ∧
    doCounterClear 6 s = setRaw A.PAT_CNT 0 s ∧ doCounterClear 14 s = setRaw A.FUS_CNT 0 s ∧ doCounterClear 15 s = setRaw A.PWR_CNT 0 s ∧
    doCounterClear 17 s = setRaw A.FLT_CNT 0 (setRaw A.FLT_CNT2 0 s) ∧
    doCounterClear 18 s = setRaw (A.CFG_FLASH_CNT 0) 0 (setRaw (A.CFG_FLASH_CNT 1) 0 s) :=
  ⟨(busPut_clear hu (by decide)).trans rfl, (busPut_clear hu (by decide)).trans rfl, (busPut_clear hu (by decide)).trans rfl,
    (busPut_clear hu (by decide)).trans rfl, (busPut_clear hu (by decide)).trans rfl, (busPut_clear hu (by decide)).trans rfl,
    (busPut_clear hu (by decide)).trans rfl⟩

/-- The control register of a block whose LOCK bit is bit 0. -/
def lockControl (b : Nat) : Nat :=
  match b with
  | 1 => A.RRU_CTRL
  | 4 => A.CRO_CTRL
  | 11 => A.LNK_CTRL
  | 13 => A.MOS_CTRL
  | 15 => A.PWR_CTRL
  | _ => A.SUP_CTRL

theorem lockRegister : ∀ b : Fin 18, b.val = 1 ∨ b.val = 4 ∨ b.val = 11 ∨ b.val = 13 ∨ b.val = 15 ∨ b.val = 16 →
    controlRegister (lockControl b) = true ∧ lockControl b / 0x10000 = b.val ∧
      (1 : Word) &&& maskOf (fun d => d.acc == .w1s && !d.sensed) (fieldsAt (lockControl b)) = 1 := by decide

/-- R970: to set the LOCK bit of a block is to write 1 to its control register. -/
theorem doLockBitSet_eq {b : Fin 18} {s : State} (hb : b.val = 1 ∨ b.val = 4 ∨ b.val = 11 ∨ b.val = 13 ∨ b.val = 15 ∨ b.val = 16) :
    doLockBitSet b s = busPut .core (lockControl b) 1 s := by
  obtain ⟨b, hlt⟩ := b
  dsimp only at hb
  obtain rfl | rfl | rfl | rfl | rfl | rfl := hb <;> rfl

theorem regWrite_rruLock {s : State} (ha : s.rru.acqAbandon = false) : (regWrite .core A.RRU_CTRL 1 s).2 = s := by
  have hw : writeRru A.RRU_CTRL 1 s = (.ok, s) := by
    unfold writeRru
    rw [if_neg (by decide), if_pos rfl]
    rfl
  show (let (r, t) := writeRru A.RRU_CTRL 1 s; (r, acqAbandons t)).2 = s
  rw [hw]
  exact if_neg (by rw [ha]; decide)

/-- The write of a LOCK bit does nothing in its block. -/
theorem regWrite_lockBit {b : Fin 18} {s : State} (hb : b.val = 1 ∨ b.val = 4 ∨ b.val = 11 ∨ b.val = 13 ∨ b.val = 15 ∨ b.val = 16)
    (ha : s.rru.acqAbandon = false) : (regWrite .core (lockControl b) 1 s).2 = s := by
  obtain ⟨b, hlt⟩ := b
  dsimp only at hb
  obtain rfl | rfl | rfl | rfl | rfl | rfl := hb
  · exact regWrite_rruLock ha
  · exact (rfl : (regWrite .core A.CRO_CTRL 1 s).2 = s)
  · exact (rfl : (regWrite .core A.LNK_CTRL 1 s).2 = s)
  · exact (rfl : (regWrite .core A.MOS_CTRL 1 s).2 = s)
  · exact (rfl : (regWrite .core A.PWR_CTRL 1 s).2 = s)
  · exact (rfl : (regWrite .core A.SUP_CTRL 1 s).2 = s)

theorem doLockBitSet_of_open {b : Fin 18} {s : State} (hu : busUp s = true)
    (hb : b.val = 1 ∨ b.val = 4 ∨ b.val = 11 ∨ b.val = 13 ∨ b.val = 15 ∨ b.val = 16) (ha : s.rru.acqAbandon = false) :
    doLockBitSet b s = setLock (lockControl b) 1 s := by
  rw [doLockBitSet_eq hb, busPut_control hu (lockRegister b hb).1, regWrite_lockBit hb ha]

theorem setLock_lockBit {b : Fin 18} {s : State} (hb : b.val = 1 ∨ b.val = 4 ∨ b.val = 11 ∨ b.val = 13 ∨ b.val = 15 ∨ b.val = 16) :
    setLock (lockControl b) 1 s =
      if lockedBlock s b then s else { s with head := { s.head with locks := b.val :: s.head.locks } } := by
  unfold setLock
  obtain ⟨-, hblock, hbit⟩ := lockRegister b hb
  rw [hbit, hblock]
  dsimp only
  cases lockedBlock s b with
  | false => exact if_pos ⟨by decide, rfl⟩
  | true => exact if_neg fun h => absurd h.2 (by decide)

/-! #### RWL fields of a locked block -/

/-- A plain write that gives a bit the value it has leaves it. -/
theorem plainWrite_bit_kept {a i : Nat} {v : Word} {s : State} (h : v.getLsbD i = (rawReg s a).getLsbD i) (hi : i < 32)
    (hc : (maskOf (fun d => d.acc == .w1c) (fieldsAt a)).getLsbD i = false) :
    (rawReg (plainWrite a v s) a).getLsbD i = (rawReg s a).getLsbD i := by
  rw [rawReg_plainWrite, clearBits]
  simp only [BitVec.getLsbD_and, BitVec.getLsbD_or, BitVec.getLsbD_not, h, hc, hi, decide_true, Bool.true_and, Bool.and_false, Bool.false_and,
    Bool.not_false, Bool.and_true]
  rw [← Bool.and_or_distrib_left, Bool.not_or_self, Bool.and_true]

/-- R971: the word that a locked block lets through keeps the bits of its RWL fields. -/
theorem getLsbD_keepLocked {a i : Nat} {v : Word} {s : State} (hl : lockedBlock s (a / 0x10000) = true)
    (hm : (maskOf (fun d => d.acc == .rwl) (fieldsAt a)).getLsbD i = true) : (keepLocked s a v).getLsbD i = (rawReg s a).getLsbD i := by
  unfold keepLocked
  rw [if_pos hl]
  simp only [BitVec.getLsbD_and, BitVec.getLsbD_or, BitVec.getLsbD_not, hm, Bool.not_true, Bool.and_false, Bool.false_or, Bool.and_true]

theorem period_rwl : ∀ i : Fin 14, (maskOf (fun d => d.acc == .rwl) (fieldsAt A.SUP_WDG_CTRL)).getLsbD i = true := by decide

theorem startWatchdog_of_run {s : State} (h : s.sup.wdgRun = true) : startWatchdog s = s := if_pos h

/-- R841, R971: a write of `SUP_WDG_CTRL` in a locked block is a plain write of a word with the PERIOD that stands, and does not start a
watchdog that runs. -/
theorem busPut_wdgCtrl_locked {who : Initiator} {v : Word} {s : State} (hu : busOpen s who = true) (hl : lockedBlock s 0x10 = true)
    (h1 : 1 ≤ getF s R.SUP_WDG_CTRL_PERIOD) (h2 : getF s R.SUP_WDG_CTRL_PERIOD ≤ 16000) (hr : s.sup.wdgRun = true) :
    busPut who A.SUP_WDG_CTRL v s = plainWrite A.SUP_WDG_CTRL (keepLocked s A.SUP_WDG_CTRL v) s := by
  have hp : (keepLocked s A.SUP_WDG_CTRL v).toNat % 2 ^ 14 = getF s R.SUP_WDG_CTRL_PERIOD := by
    rw [← period_get]
    exact Fld.get_congr fun i _ hi => getLsbD_keepLocked hl (period_rwl ⟨i, hi⟩)
  have hs : startWatchdog (plainWrite A.SUP_WDG_CTRL (keepLocked s A.SUP_WDG_CTRL v) s) =
      plainWrite A.SUP_WDG_CTRL (keepLocked s A.SUP_WDG_CTRL v) s :=
    startWatchdog_of_run (by rw [plainWrite_sup]; exact hr)
  obtain ⟨hd, -, -⟩ := wdgCtrl_register
  rw [busPut_locking hu hd (tenantBarred_register (.inr (by decide))) (by decide), setLock_wdgCtrl, regWrite_sup (by decide),
    writeSup_wdgCtrl (by rw [hp]; exact h1) (by rw [hp]; exact h2)]
  unfold when
  rw [hs, ite_self]

theorem period_locked {v : Word} {s : State} (hl : lockedBlock s 0x10 = true) :
    getF (plainWrite A.SUP_WDG_CTRL (keepLocked s A.SUP_WDG_CTRL v) s) R.SUP_WDG_CTRL_PERIOD = getF s R.SUP_WDG_CTRL_PERIOD := by
  obtain ⟨-, hc, -⟩ := wdgCtrl_register
  refine Fld.get_congr fun i _ hi => plainWrite_bit_kept (getLsbD_keepLocked hl (period_rwl ⟨i, hi⟩)) (Nat.lt_trans hi (by decide)) ?_
  rw [hc]
  exact BitVec.getLsbD_zero

/-- Settles O60. -/
theorem busAccesses : Obligations.BusAccesses := by
  unfold Obligations.BusAccesses
  refine ⟨fun s hu => ?_, fun s who hu hf => ?_, fun s who n hu hf => ?_, fun s who hu => ?_, fun s hu => ?_, fun s => ⟨rfl, rfl⟩,
    fun s b hu hb ha hl => ?_, fun s b hu hb ha hl => ?_, fun s who v hu hl h1 h2 hr => ?_⟩
  · have hno : ¬(!busUp s) = true := by
      rw [hu]
      decide
    exact ⟨congrArg Host.Outcome.next ((if_neg hno).trans (if_pos rfl)),
      congrArg Host.Outcome.next ((if_neg hno).trans (if_neg Bool.false_ne_true))⟩
  · have hread := busRead_pwrCnt who s
    have hc : clearRead A.PWR_CNT s = setRaw A.PWR_CNT 0 s := by
      rw [clearRead_pwrCnt, hf]
    have hb : (freshOf s A.PWR_CNT).base = rawReg s A.PWR_CNT := by
      unfold freshOf
      rw [hf]
      rfl
    refine ⟨setRaw A.PWR_CNT 0 s, congrArg Host.Outcome.next ((doBusRead_of_open hu).trans ?_), rawReg_setRaw_self _ _ _,
      fun a ha => rawReg_setRaw_ne ha, rfl, rfl, ?_⟩
    · rw [hread, hc]
    · rw [hread, hb]
  · have hread := busRead_pwrCnt who s
    have hc : clearRead A.PWR_CNT s =
        setRaw A.PWR_CNT n.news { s with fresh := Tbl.set s.fresh A.PWR_CNT { n with base := 0 } } := by
      rw [clearRead_pwrCnt, hf]
    have hb : (freshOf s A.PWR_CNT).base = n.base := by
      unfold freshOf
      rw [hf]
      rfl
    refine ⟨_, congrArg Host.Outcome.next ((doBusRead_of_open hu).trans ((congrArg Prod.snd hread).trans hc)), rawReg_setRaw_self _ _ _,
      by rw [hread, hb], fun a ha => rawReg_setRaw_ne ha⟩
  · exact congrArg Host.Outcome.next ((doBusRead_of_open hu).trans (busRead_pwrPolicy who s))
  · obtain ⟨h0, h4, h6, h14, h15, h17, h18⟩ := counterClear_effect hu
    exact ⟨congrArg Host.Outcome.next h0, congrArg Host.Outcome.next h4, congrArg Host.Outcome.next h6, congrArg Host.Outcome.next h14,
      congrArg Host.Outcome.next h15, congrArg Host.Outcome.next h17, congrArg Host.Outcome.next h18⟩
  · refine congrArg Host.Outcome.next ((doLockBitSet_of_open hu hb ha).trans ((setLock_lockBit hb).trans (if_neg ?_)))
    rw [hl]
    decide
  · exact congrArg Host.Outcome.next ((doLockBitSet_of_open hu hb ha).trans ((setLock_lockBit hb).trans (if_pos hl)))
  · exact ⟨_, congrArg Host.Outcome.next (busPut_wdgCtrl_locked hu hl h1 h2 hr), period_locked hl, plainWrite_sup _ _ _,
      fun a ha => rawReg_plainWrite_ne ha⟩

end Sys2Proof.Machine
end
